-- ==== Sys2Proof/Word.lean ====
section
/-!
DEFINITION. The word types of the FK9600 model: registers are 64 bits wide (R5), tile and
page bytes 8, binary32 values 32. Counts, identifiers and message fields are plain `Nat`.
-/
namespace Sys2Proof

/-- One register word (R5). -/
abbrev W64 := BitVec 64
/-- A binary32 bit pattern (R32). -/
abbrev W32 := BitVec 32
/-- One byte of a tile, a page or a memory. -/
abbrev Byte := BitVec 8

end Sys2Proof
end

