-- ==== Sys2Proof/Tile.lean ====
section
/-!
DEFINITION. Tiles, their 32-byte tags, and the records of a model image that the device
reads at partition load: stream and join descriptors, step plans, skip maps and route
descriptors, each kept as the words the image holds (R56, R57, R64, R68, R72, R95, R100).
-/
namespace Sys2Proof

/-- `TAG_KIND` (R57). -/
inductive TagKind where
  | data | skip | anchors | endMark
  deriving DecidableEq, Repr

/-- The 32-byte tag of a tile in flight (R57). `rsvd` is the OR of its reserved bits. -/
structure TileTag where
  streamId   : Nat
  tileIndex  : Nat
  kind       : TagKind
  fmt        : Nat
  arithFlags : Nat
  rows       : Nat
  cols       : Nat
  redIndex   : Nat
  colIndex   : Nat
  band       : Nat
  parts      : Nat
  resetEpoch : Nat
  planId     : Nat
  layer      : Nat
  stepSeq    : Nat
  rsvd       : Nat
  deriving DecidableEq, Repr

/-- A tile in flight: its tag and its payload bytes. A data tile carries the bytes of its
format, or the coded bytes of its pleats when the stream is pleated; an anchor block
carries 128 u16 values (R59); a skip or end marker carries none. -/
structure Tile where
  tag   : TileTag
  bytes : List Byte
  deriving DecidableEq, Repr

/-- What a refetch brings (R126, R127): the damaged block of a move, by its source and number, or the tile of a stream's sink
whose block it is, with its bytes, and the headers that were read with it. -/
structure Refetched where
  move : Option (Nat × Nat)
  tile : Tile
  hdrs : List W64
  deriving DecidableEq, Repr

/-- A join of the layer template: the two descriptor words and its list of input stream
identifiers (R68). -/
structure JoinImg where
  w0     : W64
  w1     : W64
  inputs : List Nat
  deriving DecidableEq, Repr

/-- One entry of a skip map (R95). -/
structure SkipEntry where
  skip     : Nat
  rsvd     : Nat
  offset64 : Nat
  deriving DecidableEq, Repr

/-- One skip-map directory entry (R95). `mapOffset` is the image offset of the entry array of layer 0. -/
structure SkipMap where
  streamId  : Nat
  planId    : Nat
  rsvd      : Nat
  mapOffset : Nat
  deriving DecidableEq, Repr

/-- A stored tile of the image in a tier: its region, its byte address there, and its stored bytes (R73, R96, R112). -/
structure BlockImg where
  tier   : Nat
  region : Nat
  addr   : Nat
  bytes  : List Byte
  deriving DecidableEq, Repr

/-- The channel anchors of a weight stream of a plan: for each layer, the anchor words of an output column (R36, R59). -/
structure AnchorImg where
  streamId : Nat
  planId   : Nat
  layers   : List (List (Nat × List Nat))
  deriving DecidableEq, Repr

/-- One entry of the routine table: a route descriptor (R100) with its selection biases, a
bag routine of the EM channels (R279), or any other vector routine, which the image's
toolchain defines. -/
inductive Routine where
  | route (words : List W64) (bias : List W32)
  | vector (number : Nat)
  deriving DecidableEq, Repr

/-- A step plan: the eight header words, the 64-byte stream descriptors and the joins of
the layer template, the layer order, and the streams and joins of its head section
(R64, R72). -/
structure PlanImg where
  header      : List W64
  streams     : List (List W64)
  joins       : List JoinImg
  order       : List Nat
  headStreams : List (List W64)
  headJoins   : List JoinImg
  deriving DecidableEq, Repr

end Sys2Proof
end

