-- ==== Sys2Proof/Messages.lean ====
section
/-!
DEFINITION. The operands of the commands: host messages with their transaction header (R370,
R220, R224, R226, R275, R279, R285, R293, R373, R379, R387), fabric packets with their header
(R317, R248, R287, R320, R327, R331, R344, R350), flits (R312), and what the environment
supplies with an event. Every body keeps its reserved fields as one number `rsvd`, the OR of
their bits, so that R6 can be checked.
-/
namespace Sys2Proof

/-- What the transaction header of one packet of a host message says of its payload (R370). -/
structure HlPkt where
  payLen    : Nat
  last      : Bool
  msgOffset : Nat
  totalLen  : Nat
  deriving DecidableEq, Repr

/-- The transaction header of a host message as its packets arrived (R370, R371): `rsvd` the
reserved bits of all of them, `pkts` the packets in order, `rawTag` the body's first 8 bytes. -/
structure HlHdr where
  port    : Nat
  hc      : Nat
  msgType : Nat
  xseq    : Nat
  rsvd    : Nat
  pkts    : List HlPkt
  rawTag  : Nat
  deriving DecidableEq, Repr

/-- One prompt entry (R224): token, `KEY_PAD`, reserved bits 30:24. -/
structure PromptTok where
  tok  : Nat
  pad  : Bool
  rsvd : Nat
  deriving DecidableEq, Repr

/-- HL_MSG_ADMIT (R224). `samp` are the four words of the sampling block (R195). -/
structure AdmitBody where
  hostTag  : Nat
  part     : Nat
  onePass  : Bool
  keep     : Bool
  stopEos  : Bool
  customer : Nat
  adapter  : Nat
  nStop    : Nat
  promptLen : Nat
  maxNew   : Nat
  samp     : List W64
  stop     : List Nat
  prompt   : List PromptTok
  rsvd     : Nat
  deriving DecidableEq, Repr

/-- HL_MSG_RESUME (R226). -/
structure ResumeBody where
  hostTag   : Nat
  requestId : Nat
  nAppend   : Nat
  maxNew    : Nat
  append    : List PromptTok
  rsvd      : Nat
  deriving DecidableEq, Repr

/-- HL_MSG_CANCEL, HL_MSG_PAUSE, HL_MSG_QUERY (R226). -/
structure ReqBody where
  hostTag   : Nat
  requestId : Nat
  deriving DecidableEq, Repr

/-- HL_MSG_ADAPTER_INSTALL (R220). `measurement` is the 32-byte digest as a number. -/
structure AdapterBody where
  hostTag   : Nat
  part      : Nat
  drain     : Bool
  remove    : Bool
  adapter   : Nat
  customer  : Nat
  rank      : Nat
  srcKind   : Nat
  srcDevice : Nat
  srcRegion : Nat
  srcOffset : Nat
  srcLength : Nat
  measurement : Nat
  rsvd      : Nat
  deriving DecidableEq, Repr

/-- One shard map entry (R275). -/
structure ShardEnt where
  device : Nat
  region : Nat
  rsvd   : Nat
  offset : Nat
  deriving DecidableEq, Repr

/-- HL_MSG_EMB_TABLE (R275). -/
structure EmbTableBody where
  hostTag   : Nat
  action    : Nat
  table     : Nat
  partMask  : Nat
  version   : Nat
  rows      : Nat
  width     : Nat
  fmt       : Nat
  log2Shard : Nat
  nShards   : Nat
  map       : List ShardEnt
  rsvd      : Nat
  deriving DecidableEq, Repr

/-- One bag of a gather (R279). -/
structure BagIn where
  pool     : Nat
  weighted : Bool
  outFmt   : Nat
  idx      : List Nat
  weights  : List W32
  rsvd     : Nat
  deriving DecidableEq, Repr

/-- HL_MSG_EMB_GATHER (R279). -/
structure GatherBody where
  hostTag    : Nat
  part       : Nat
  table      : Nat
  deadlineUs : Nat
  bags       : List BagIn
  rsvd       : Nat
  deriving DecidableEq, Repr

/-- HL_MSG_EMB_UPDATE (R285). -/
structure UpdateBody where
  hostTag : Nat
  part    : Nat
  table   : Nat
  rows    : List (Nat × List W32)
  rsvd    : Nat
  deriving DecidableEq, Repr

/-- HL_MSG_EMB_MIGRATE (R293). -/
structure MigrateBody where
  hostTag   : Nat
  action    : Nat
  table     : Nat
  log2Rows  : Nat
  version   : Nat
  firstRow  : Nat
  newDevice : Nat
  newRegion : Nat
  newOffset : Nat
  rsvd      : Nat
  deriving DecidableEq, Repr

/-- HL_MSG_REG_READ (R379). -/
structure RegReadBody where
  hostTag : Nat
  offset  : Nat
  half    : Bool
  count   : Nat
  rsvd    : Nat
  deriving DecidableEq, Repr

/-- HL_MSG_REG_WRITE (R379). -/
structure RegWriteBody where
  hostTag : Nat
  offset  : Nat
  half    : Bool
  values  : List W64
  rsvd    : Nat
  deriving DecidableEq, Repr

/-- HL_MSG_LINK_SYNC (R373). -/
structure SyncBody where
  session : Nat
  expect0 : Nat
  expect1 : Nat
  expect2 : Nat
  rsvd    : Nat
  deriving DecidableEq, Repr

/-- HL_MSG_BULK_DATA (R387). -/
structure BulkDataBody where
  tag    : Nat
  status : Nat
  data   : List Byte
  rsvd   : Nat
  deriving DecidableEq, Repr

/-- HL_MSG_BULK_WRITE_ACK (R387). -/
structure BulkAckBody where
  tag    : Nat
  status : Nat
  rsvd   : Nat
  deriving DecidableEq, Repr

/-- The packet header (R317). `encPart`, `encEpoch` and `nonce` are the fields of the encryption header of an encrypted
packet, and `wire` its ciphertext and tag (R363); beside them the packet's body is the plain payload. -/
structure FabHdr where
  dst       : Nat
  src       : Nat
  mapEpoch  : Nat
  tc        : Nat
  last      : Bool
  pin       : Bool
  enc       : Bool
  combined  : Bool
  hops      : Nat
  rsvd      : Nat
  pktType   : Nat
  payLen    : Nat
  msgId     : Nat
  msgOffset : Nat
  totalLen  : Nat
  tsStamp   : Nat
  tsEcho    : Nat
  wire      : List Byte
  encPart   : Nat
  encEpoch  : Nat
  nonce     : Nat
  deriving DecidableEq, Repr

/-- FAB_PKT_NACK (R320). -/
structure NackBody where
  status      : Nat
  droppedType : Nat
  msgId       : Nat
  msgOffset   : Nat
  rsvd        : Nat
  deriving DecidableEq, Repr

/-- FAB_PKT_SW_WRITE and FAB_PKT_RMA_GRANT (R327, R344): (offset, reserved, value) entries. -/
structure SwWriteBody where
  entries : List (Nat × Nat × W64)
  rsvd    : Nat
  deriving DecidableEq, Repr

/-- FAB_PKT_SW_WRITE_ACK (R327). -/
structure SwAckBody where
  status  : Nat
  applied : Nat
  rsvd    : Nat
  deriving DecidableEq, Repr

/-- The 16 common bytes of the move and phase packets (R248). -/
structure MoveCommon where
  requestId : Nat
  placement : Nat
  moveId    : Nat
  rsvd      : Nat
  deriving DecidableEq, Repr

/-- The collar header as a placement carries it (R212), with its class runs and token log
(R213). A class run is (start, generation class); a log entry is (token, `KEY_PAD`). -/
structure CollarImg where
  requestId   : Nat
  hostTag     : Nat
  part        : Nat
  customer    : Nat
  adapter     : Nat
  adapterVer  : Nat
  lcState     : Nat
  onePass     : Bool
  keep        : Bool
  stopEos     : Bool
  summaryOnly : Bool
  port        : Nat
  nStop       : Nat
  placement   : Nat
  homeDevice  : Nat
  endStatus   : Nat
  committed   : Nat
  lastEmitted : Nat
  maxNew      : Nat
  promptLen   : Nat
  startTime   : Nat
  lastEmitTime : Nat
  samp        : List W64
  stop        : List Nat
  runs        : List (Nat × Bool)
  log         : List (Nat × Bool)
  deriving DecidableEq, Repr

/-- FAB_PKT_PHASE_PLACE, one packet (R248): `data` continues the body of the placement. -/
structure PlaceBody where
  common   : MoveCommon
  pktIndex : Nat
  data     : List Byte
  rsvd     : Nat
  deriving DecidableEq, Repr

/-- FAB_PKT_PHASE_REPORT (R248). Tokens are (token, `EMPTY_ROW`); `values` are the results of
`KIND` 6. -/
structure ReportBody where
  common     : MoveCommon
  kind       : Nat
  status     : Nat
  firstIndex : Nat
  committed  : Nat
  next       : Nat
  tokens     : List (Nat × Bool)
  values     : List W32
  rsvd       : Nat
  deriving DecidableEq, Repr

/-- FAB_PKT_PHASE_CTRL (R248). -/
structure PhaseCtrlBody where
  common : MoveCommon
  action : Nat
  status : Nat
  rsvd   : Nat
  deriving DecidableEq, Repr

/-- FAB_PKT_MOVE_OFFER (R248). -/
structure OfferBody where
  common     : MoveCommon
  kind       : Nat
  commitWait : Nat
  silenceMs  : Nat
  adapter    : Nat
  adapterVer : Nat
  ttlLeftMs  : Nat
  pages      : Nat
  baseMeas   : Nat
  draftMeas  : Nat
  rsvd       : Nat
  deriving DecidableEq, Repr

/-- FAB_PKT_MOVE_REPLY (R248). -/
structure MoveReplyBody where
  common   : MoveCommon
  status   : Nat
  rxRegion : Nat
  rxOffset : Nat
  rsvd     : Nat
  deriving DecidableEq, Repr

/-- FAB_PKT_MOVE_ACK; FAB_PKT_EMB_MIG_ACK with its `PHASE` (R248, R287). -/
structure MoveAckBody where
  common : MoveCommon
  bytes  : Nat
  phase  : Nat
  rsvd   : Nat
  deriving DecidableEq, Repr

/-- FAB_PKT_MOVE_COMMIT, FAB_PKT_MOVE_QUERY (R248). -/
structure MoveBareBody where
  common : MoveCommon
  rsvd   : Nat
  deriving DecidableEq, Repr

/-- FAB_PKT_MOVE_ABORT (R248). -/
structure MoveAbortBody where
  common : MoveCommon
  status : Nat
  rsvd   : Nat
  deriving DecidableEq, Repr

/-- FAB_PKT_MOVE_ANSWER (R248). -/
structure MoveAnswerBody where
  common : MoveCommon
  answer : Nat
  rsvd   : Nat
  deriving DecidableEq, Repr

/-- FAB_PKT_MOVE_PULL (R248). -/
structure MovePullBody where
  common   : MoveCommon
  deadline : Nat
  rsvd     : Nat
  deriving DecidableEq, Repr

/-- FAB_PKT_LOAD (R350). -/
structure LoadBody where
  region : Nat
  offset : Nat
  rsvd   : Nat
  deriving DecidableEq, Repr

/-- FAB_PKT_LOAD_REPLY (R350). -/
structure LoadReplyBody where
  status : Nat
  data   : List Byte
  rsvd   : Nat
  deriving DecidableEq, Repr

/-- FAB_PKT_STORE (R350). -/
structure StoreBody where
  region : Nat
  offset : Nat
  data   : List Byte
  rsvd   : Nat
  deriving DecidableEq, Repr

/-- FAB_PKT_STORE_ACK, FAB_PKT_WRITE_ACK (R350). -/
structure AckBody where
  status : Nat
  rsvd   : Nat
  deriving DecidableEq, Repr

/-- FAB_PKT_READ (R350). -/
structure ReadBody where
  region  : Nat
  readTag : Nat
  offset  : Nat
  length  : Nat
  rsvd    : Nat
  deriving DecidableEq, Repr

/-- FAB_PKT_READ_DATA, one packet (R350). -/
structure ReadDataBody where
  status     : Nat
  pktIndex   : Nat
  readTag    : Nat
  dataOffset : Nat
  data       : List Byte
  rsvd       : Nat
  deriving DecidableEq, Repr

/-- FAB_PKT_WRITE, one packet (R350). -/
structure WriteBody where
  region    : Nat
  trigEn    : Bool
  pktIndex  : Nat
  trigger   : Nat
  dstOffset : Nat
  data      : List Byte
  rsvd      : Nat
  deriving DecidableEq, Repr

/-- FAB_PKT_ATOMIC (R350). -/
structure AtomicBody where
  region   : Nat
  op       : Nat
  try_     : Nat
  seq      : Nat
  offset   : Nat
  tgtEpoch : Nat
  a0       : W64
  a1       : W64
  b0       : W64
  b1       : W64
  rsvd     : Nat
  deriving DecidableEq, Repr

/-- FAB_PKT_ATOMIC_REPLY (R350). -/
structure AtomicReplyBody where
  status   : Nat
  tgtEpoch : Nat
  seq      : Nat
  r0       : W64
  r1       : W64
  rsvd     : Nat
  deriving DecidableEq, Repr

/-- FAB_PKT_ATOMIC_COMBINED (R331): (requester, sequence, addend) entries. -/
structure CombinedBody where
  region  : Nat
  offset  : Nat
  sum     : W64
  entries : List (Nat × Nat × W64)
  rsvd    : Nat
  deriving DecidableEq, Repr

/-- FAB_PKT_ATOMIC_COMBINED_REPLY (R331). -/
structure CombinedReplyBody where
  status  : Nat
  results : List W64
  rsvd    : Nat
  deriving DecidableEq, Repr

/-- FAB_PKT_CANCEL (R350). -/
structure CancelBody where
  cancelId : Nat
  rsvd     : Nat
  deriving DecidableEq, Repr

/-- FAB_PKT_CANCEL_ACK (R350). -/
structure CancelAckBody where
  status   : Nat
  cancelId : Nat
  rsvd     : Nat
  deriving DecidableEq, Repr

/-- FAB_PKT_RMA_REVOKE_DONE (R350). -/
structure RevokeDoneBody where
  target    : Nat
  region    : Nat
  status    : Nat
  unsettled : Nat
  rsvd      : Nat
  deriving DecidableEq, Repr

/-- FAB_PKT_EMB_READ (R287). -/
structure EmbReadBody where
  table    : Nat
  version  : Nat
  deadline : Nat
  rows     : List Nat
  rsvd     : Nat
  deriving DecidableEq, Repr

/-- FAB_PKT_EMB_ROWS (R287). -/
structure EmbRowsBody where
  status  : Nat
  version : Nat
  rows    : List (List Byte)
  rsvd    : Nat
  deriving DecidableEq, Repr

/-- FAB_PKT_EMB_SCATTER, one packet (R287): `head` whether it is the packet at offset 0 of its message, which begins with the
fields before the deltas. -/
structure EmbScatterBody where
  table   : Nat
  version : Nat
  seq     : Nat
  row     : Nat
  head    : Bool
  delta   : List W32
  rsvd    : Nat
  deriving DecidableEq, Repr

/-- FAB_PKT_EMB_SCATTER_ACK (R287). -/
structure EmbScatterAckBody where
  status : Nat
  seq    : Nat
  rsvd   : Nat
  deriving DecidableEq, Repr

/-- FAB_PKT_EMB_REDIRECT (R287). -/
structure EmbRedirectBody where
  status    : Nat
  table     : Nat
  log2Rows  : Nat
  version   : Nat
  firstRow  : Nat
  newDevice : Nat
  newRegion : Nat
  newOffset : Nat
  rsvd      : Nat
  deriving DecidableEq, Repr

/-- FAB_PKT_EMB_MIG_OFFER (R287). -/
structure MigOfferBody where
  table    : Nat
  log2Rows : Nat
  version  : Nat
  firstRow : Nat
  migId    : Nat
  rsvd     : Nat
  deriving DecidableEq, Repr

/-- The body of any fabric packet, by type (R479). An unassigned type carries raw bytes. -/
inductive FabBody where
  | nack (b : NackBody)
  | ccEcho
  | swWrite (b : SwWriteBody)
  | swWriteAck (b : SwAckBody)
  | load (b : LoadBody)
  | loadReply (b : LoadReplyBody)
  | store (b : StoreBody)
  | storeAck (b : AckBody)
  | read (b : ReadBody)
  | readData (b : ReadDataBody)
  | write (b : WriteBody)
  | writeAck (b : AckBody)
  | atomic (b : AtomicBody)
  | atomicReply (b : AtomicReplyBody)
  | atomicCombined (b : CombinedBody)
  | atomicCombinedReply (b : CombinedReplyBody)
  | cancel (b : CancelBody)
  | cancelAck (b : CancelAckBody)
  | rmaGrant (b : SwWriteBody)
  | revokeDone (b : RevokeDoneBody)
  | phasePlace (b : PlaceBody)
  | phaseReport (b : ReportBody)
  | phaseCtrl (b : PhaseCtrlBody)
  | moveOffer (b : OfferBody)
  | moveReply (b : MoveReplyBody)
  | moveAck (b : MoveAckBody)
  | moveCommit (b : MoveBareBody)
  | moveAbort (b : MoveAbortBody)
  | moveQuery (b : MoveBareBody)
  | moveAnswer (b : MoveAnswerBody)
  | movePull (b : MovePullBody)
  | embRead (b : EmbReadBody)
  | embRows (b : EmbRowsBody)
  | embScatter (b : EmbScatterBody)
  | embScatterAck (b : EmbScatterAckBody)
  | embRedirect (b : EmbRedirectBody)
  | migOffer (b : MigOfferBody)
  | migReply (b : MoveReplyBody)
  | migAck (b : MoveAckBody)
  | migCommit (b : MoveBareBody)
  | migAbort (b : MoveAbortBody)
  | raw (bytes : List Byte)
  deriving DecidableEq, Repr

/-- A fabric packet. -/
structure FabPkt where
  hdr  : FabHdr
  body : FabBody
  deriving DecidableEq, Repr

/-- Which link a port belongs to: a fabric port 0 to 15 or a Lateter port 0 to 3. -/
inductive LinkPort where
  | fabric (p : Nat)
  | lateter (p : Nat)
  deriving DecidableEq, Repr

/-- A flit, 256 bytes (R312). -/
structure Flit where
  bytes : List Byte
  deriving DecidableEq, Repr

/-- The partner as training reports it (R304, R366): its device ID, port and kind, the session
of a host adapter, the lanes that passed at the partner, and the lanes that failed the PRBS31
check here. -/
structure TrainInfo where
  partnerDevice : Nat
  partnerPort   : Nat
  hostAdapter   : Bool
  session       : Nat
  partnerLanes  : Nat
  failedLanes   : Nat
  deriving DecidableEq, Repr

/-- Why a training attempt failed (R305, R307). -/
inductive TrainFail where
  | failed | noCommonLanes | selfPartner | wrongKind
  deriving DecidableEq, Repr

/-- What triggers a retrain (R306): uncorrectable codewords, replays of one flit, or a noisy
lane, which the device fences first. -/
inductive RetrainCause where
  | codewords | replays | noisyLane (lane : Nat)
  deriving DecidableEq, Repr

/-- Who accesses the register space (R463). -/
inductive Accessor where
  | port (p : Nat)
  | manager
  | regInit
  deriving DecidableEq, Repr

/-- A source descriptor of a partition section (R399). -/
structure SrcDesc where
  kind   : Nat
  port   : Nat
  device : Nat
  region : Nat
  offset : Nat
  length : Nat
  rsvd   : Nat
  deriving DecidableEq, Repr

/-- A partition section of a configuration image (R399). `share` holds the twelve station
counts in the order of the table; 32-byte values are numbers, little-endian. -/
structure PartDecl where
  part      : Nat
  flags     : Nat
  quadMask  : Nat
  access    : Nat
  prompts   : List Nat
  gens      : List Nat
  caches    : List Nat
  share     : List Nat
  mvCount   : Nat
  emCount   : Nat
  t1Mib     : List Nat
  kvFrames  : List Nat
  t2Mib     : Nat
  salt      : Nat
  baseMeas  : Nat
  draftMeas : Nat
  baseSrc   : SrcDesc
  draftSrc  : SrcDesc
  base2     : SrcDesc
  draft2    : SrcDesc
  rsvd      : Nat
  deriving DecidableEq, Repr

/-- One `REG_INIT` entry (R400). -/
structure RegInit where
  offset : Nat
  rsvd   : Nat
  value  : W64
  deriving DecidableEq, Repr

/-- The composition section (R398). -/
structure Composition where
  deviceId   : Nat
  mgrDevice  : Nat
  role       : Nat
  ownerPort  : Nat
  startMode  : Nat
  smbLevel   : Nat
  jtagOff    : Bool
  collarSlots : Nat
  collarTier : Nat
  listsInternal : Nat
  collarLogMib : Nat
  rsvd       : Nat
  deriving DecidableEq, Repr

/-- One directory entry of a configuration image (R397). -/
structure SectionEnt where
  type     : Nat
  inst     : Nat
  rsvd     : Nat
  offset   : Nat
  length   : Nat
  deriving DecidableEq, Repr

/-- A configuration image (R396 to R400), field by field: `cfgBytes` gives its signed bytes. `publicKey` is `PUBLIC_KEY`,
`firmware` the bytes of the firmware section and `sig` the signature that follows the signed bytes. The k-th partition
section of the directory holds the k-th of `partitions`. A structure's `rsvd` holds its reserved bits in the order of the
bytes (log entry 42). -/
structure CfgImage where
  magic       : Nat
  formatVer   : Nat
  headerLen   : Nat
  partCode    : Nat
  minStepping : Nat
  nSections   : Nat
  keyIndex    : Nat
  commitSvn   : Bool
  revokeLower : Bool
  securityVer : Nat
  totalLen    : Nat
  imageVer    : Nat
  targetSerial : Nat
  publicKey   : List Byte
  hdrRsvd     : Nat
  sections    : List SectionEnt
  composition : Composition
  partitions  : List PartDecl
  regInit     : List RegInit
  firmware    : List Byte
  sig         : List Byte
  deriving DecidableEq, Repr

/-- A parsed model image (chapters 3 to 8) with the SHA-256 digests of its consecutive 4 MiB chunks (R402). `homedBytes` holds, for each
logical group, the bytes that the fit homes in its quadrant: weight blocks, skip maps, pleat headers and anchors (R171).
`skipDir` is the skip-map directory as two-word entries (R95), and `words` the words of the image by image offset, zero
where none is listed: skip maps (R95), pleat headers (R114), the pleat directory (R115) and the code tables (R116).
`blocks` are stored tiles where a load placed them, and `anchors` the channel anchors stored beside the skip maps (R36). -/
structure ModelImage where
  chunkDigests : List Nat
  vocab       : Nat
  ctxLimit    : Nat
  eosToken    : Nat
  homedBytes  : List Nat
  plans       : List PlanImg
  masks       : List (List Bool)
  routines    : List Routine
  kvLayers    : List (List W64)
  ropeTables  : List (List Nat)
  skipDir     : List (W64 × W64)
  words       : List (Nat × W64)
  pleatWords  : List W64
  pleatBad    : Bool
  qbufKib     : Nat
  blocks      : List BlockImg
  anchors     : List AnchorImg
  deriving DecidableEq, Repr

/-- What pulling one image gives (R402): the image, or the status of the failure. -/
inductive PullResult where
  | none
  | image (m : ModelImage)
  | failed (status : Nat)
  deriving DecidableEq, Repr

/-- What reading a configuration image from a slot or a host window gives. -/
inductive ReadImage where
  | image (i : CfgImage)
  | failed (status : Nat)
  deriving DecidableEq, Repr

/-- A DIMM as its SPD hub describes it (R492, R493): whether the SPD can be read, whether it is a registered DDR5 module with ECC,
the width of its DRAM devices, its ranks (of a 3DS stack, those of the stack), its capacity in GiB, the data rates it lists in
MT/s, and its serial number. -/
structure DimmInfo where
  spdRead    : Bool
  registered : Bool
  ecc        : Bool
  width      : Nat
  ranks      : Nat
  capGib     : Nat
  rates      : List Nat
  serial     : Nat
  deriving DecidableEq, Repr

/-- A board memory channel (R493, R496): the DIMMs it holds, and whether its training passes. -/
structure ChannelInfo where
  dimms  : List DimmInfo
  passed : Bool
  deriving DecidableEq, Repr

/-- Which storage or station an event names. -/
inductive StationRef where
  | quad (q i : Nat)
  | mv (c : Nat)
  | em (c : Nat)
  deriving DecidableEq, Repr

end Sys2Proof
end

