-- ==== Sys2Proof/Syntax.lean ====
section
/-!
DEFINITION. The commands of the block, one constructor per row of the table of operations and
events. A command's operands are what the outside supplies with it: a message or packet, the
object of a timer, a register write, or what the environment reports.
-/
namespace Sys2Proof

/-- The commands (one row of the table each; the rule named is the row's). -/
inductive Instr where
  /-- HL_MSG_ADMIT (R225). -/
  | hlMsgAdmit (h : HlHdr) (b : AdmitBody)
  /-- HL_MSG_RESUME (R227). -/
  | hlMsgResume (h : HlHdr) (b : ResumeBody)
  /-- HL_MSG_CANCEL (R231). -/
  | hlMsgCancel (h : HlHdr) (b : ReqBody)
  /-- HL_MSG_PAUSE (R231). -/
  | hlMsgPause (h : HlHdr) (b : ReqBody)
  /-- HL_MSG_QUERY (R231). -/
  | hlMsgQuery (h : HlHdr) (b : ReqBody)
  /-- HL_MSG_ADAPTER_INSTALL (R221). -/
  | hlMsgAdapterInstall (h : HlHdr) (b : AdapterBody)
  /-- HL_MSG_EMB_TABLE (R276). -/
  | hlMsgEmbTable (h : HlHdr) (b : EmbTableBody)
  /-- HL_MSG_EMB_GATHER (R282). -/
  | hlMsgEmbGather (h : HlHdr) (b : GatherBody)
  /-- HL_MSG_EMB_UPDATE (R285). -/
  | hlMsgEmbUpdate (h : HlHdr) (b : UpdateBody)
  /-- HL_MSG_EMB_MIGRATE (R293). -/
  | hlMsgEmbMigrate (h : HlHdr) (b : MigrateBody)
  /-- HL_MSG_REG_READ (R379). -/
  | hlMsgRegRead (h : HlHdr) (b : RegReadBody)
  /-- HL_MSG_REG_WRITE (R379). -/
  | hlMsgRegWrite (h : HlHdr) (b : RegWriteBody)
  /-- HL_MSG_LINK_SYNC (R374). -/
  | hlMsgLinkSync (h : HlHdr) (b : SyncBody)
  /-- HL_MSG_BULK_DATA (R387). -/
  | hlMsgBulkData (h : HlHdr) (b : BulkDataBody)
  /-- HL_MSG_BULK_WRITE_ACK (R387). -/
  | hlMsgBulkWriteAck (h : HlHdr) (b : BulkAckBody)
  /-- HC2_EMIT (R382). -/
  | hc2Emit (port : Nat)
  /-- FAB_PKT_PHASE_PLACE (R248). -/
  | fabPktPhasePlace (h : FabHdr) (b : PlaceBody)
  /-- FAB_PKT_PHASE_REPORT (R21). -/
  | fabPktPhaseReport (h : FabHdr) (b : ReportBody)
  /-- FAB_PKT_PHASE_CTRL (R264). -/
  | fabPktPhaseCtrl (h : FabHdr) (b : PhaseCtrlBody)
  /-- FAB_PKT_MOVE_OFFER (R250). -/
  | fabPktMoveOffer (h : FabHdr) (b : OfferBody)
  /-- FAB_PKT_MOVE_REPLY (R249). -/
  | fabPktMoveReply (h : FabHdr) (b : MoveReplyBody)
  /-- MOVE_DATA_SENT (R249). -/
  | moveDataSent (requestId : Nat)
  /-- FAB_PKT_MOVE_ACK (R249). -/
  | fabPktMoveAck (h : FabHdr) (b : MoveAckBody)
  /-- FAB_PKT_MOVE_COMMIT (R250). -/
  | fabPktMoveCommit (h : FabHdr) (b : MoveBareBody)
  /-- FAB_PKT_MOVE_ABORT (R250). -/
  | fabPktMoveAbort (h : FabHdr) (b : MoveAbortBody)
  /-- FAB_PKT_MOVE_QUERY (R249). -/
  | fabPktMoveQuery (h : FabHdr) (b : MoveBareBody)
  /-- FAB_PKT_MOVE_ANSWER (R250). -/
  | fabPktMoveAnswer (h : FabHdr) (b : MoveAnswerBody)
  /-- FAB_PKT_MOVE_PULL (R268). -/
  | fabPktMovePull (h : FabHdr) (b : MovePullBody)
  /-- LOCAL_MOVE_COMPLETES (R251). -/
  | localMoveCompletes (requestId : Nat)
  /-- MOVE_OFFER_WAIT (R252). -/
  | moveOfferWait (requestId : Nat)
  /-- MOVE_ACK_WAIT (R252). -/
  | moveAckWait (moveId : Nat)
  /-- MOVE_COMMIT_WAIT (R250). -/
  | moveCommitWait (source moveId : Nat)
  /-- MOVE_RECORD_EXPIRES (R249). -/
  | moveRecordExpires (moveId : Nat)
  /-- PHASE_REPORT_INTERVAL (R263). -/
  | phaseReportInterval (requestId : Nat)
  /-- DECODE_SILENCE_LIMIT (R263). -/
  | decodeSilenceLimit (requestId : Nat)
  /-- RESTORE_MS (R268). -/
  | restoreMs (requestId : Nat)
  /-- TTL_FULL (R267). -/
  | ttlFull (requestId : Nat)
  /-- STEP_LAUNCH (R237). -/
  | stepLaunch (part engine : Nat)
  /-- SELF_PAUSE_RETRY (R179). -/
  | selfPauseRetry (requestId : Nat)
  /-- SELF_PAUSE_LIMIT (R181). -/
  | selfPauseLimit (requestId : Nat)
  /-- TILE_ARRIVES (R71). -/
  | tileArrives (part sink : Nat) (tile : Tile) (hdrs : List W64) (tierError : Bool)
  /-- PLEAT_REFETCH_COMPLETES (R127). -/
  | pleatRefetchCompletes (part sink : Nat) (got : Refetched) (tierError : Bool)
  /-- STREAM_COMPLETES (R75). -/
  | streamCompletes (part stepSeq streamId layer creditStall anchorWait expanderStall tierWait : Nat)
  /-- STREAM_DEADLINE (R257). -/
  | streamDeadline (part stepSeq streamId layer : Nat)
  /-- COMMIT_JOIN (R74). -/
  | commitJoin (part stepSeq : Nat)
  /-- STEP_WATCHDOG (R84). -/
  | stepWatchdog (part stepSeq : Nat)
  /-- STATION_STORAGE_ERROR (R81). -/
  | stationStorageError (s : StationRef)
  /-- STATION_FENCE (R63). -/
  | stationFence (port quad station : Nat)
  /-- STATION_UNFENCE (R63). -/
  | stationUnfence (port quad station : Nat)
  /-- REFIT_COMPLETES (R78). -/
  | refitCompletes (part : Nat)
  /-- PART_RELOAD (R218). -/
  | partReload (port part : Nat)
  /-- PARTITION_LOAD_COMPLETES (R402). -/
  | partitionLoadCompletes (part : Nat) (base draft : PullResult)
  /-- ADAPTER_LOAD_COMPLETES (R222). -/
  | adapterLoadCompletes (slot : Nat) (fits : Bool) (digest status : Nat)
  /-- SECOND_SOURCE_READ_COMPLETES (R259). -/
  | secondSourceReadCompletes (part : Nat) (draft : Bool) (stepSeq streamId layer status : Nat)
  /-- TEN_REFILL (R236). -/
  | tenRefill
  /-- TEN_HIST_SNAP (R240). -/
  | tenHistSnap (port customer : Nat) (zero : Bool)
  /-- KV_SHARE_WRITE (R150). -/
  | kvShareWrite (port part : Nat) (value : W64)
  /-- KV_DESC_SEL (R473). -/
  | kvDescSel (port : Nat) (value : W64)
  /-- FLIT_RECEIVED (R313). -/
  | flitReceived (lp : LinkPort) (f : Flit)
  /-- FAB_REPLAY_TIMEOUT (R313). -/
  | fabReplayTimeout (lp : LinkPort)
  /-- SEAM_BUFFER_ECC_ERROR (R315). -/
  | seamBufferEccError (p : FabPkt) (headerIntact : Bool)
  /-- SIGNAL_DETECTED (R307). -/
  | signalDetected (lp : LinkPort)
  /-- LOSS_OF_SIGNAL (R307). -/
  | lossOfSignal (lp : LinkPort)
  /-- TRAINING_ATTEMPT_PASSES (R304). -/
  | trainingAttemptPasses (lp : LinkPort) (info : TrainInfo)
  /-- TRAINING_ATTEMPT_FAILS (R307). -/
  | trainingAttemptFails (lp : LinkPort) (why : TrainFail)
  /-- RETRAIN_TRIGGER (R306). -/
  | retrainTrigger (lp : LinkPort) (cause : RetrainCause)
  /-- RETRAIN_PASSES (R304). -/
  | retrainPasses (lp : LinkPort) (info : TrainInfo)
  /-- RETRAIN_FAILS (R307). -/
  | retrainFails (lp : LinkPort)
  /-- FAB_TRAIN_LIMIT (R308). -/
  | fabTrainLimit (lp : LinkPort)
  /-- FAB_RETRAIN_LIMIT (R308). -/
  | fabRetrainLimit (lp : LinkPort)
  /-- FAB_RETRY_INTERVAL (R308). -/
  | fabRetryInterval (lp : LinkPort)
  /-- FAB_PORT_FENCE (R307). -/
  | fabPortFence (acc : Accessor) (port : Nat)
  /-- FAB_PORT_UNFENCE (R307). -/
  | fabPortUnfence (acc : Accessor) (port : Nat)
  /-- FAB_PORT_DRAIN (R309). -/
  | fabPortDrain (acc : Accessor) (port : Nat) (drain : Bool)
  /-- FAB_PORT_RETRAIN (R309). -/
  | fabPortRetrain (acc : Accessor) (port : Nat)
  /-- FAB_LANE_FENCE (R309). -/
  | fabLaneFence (acc : Accessor) (port lanes : Nat)
  /-- SEAM_FORWARD (R322). -/
  | seamForward (ingress : Nat) (p : FabPkt)
  /-- ROUTE_ENTRY_WRITE (R324). -/
  | routeEntryWrite (acc : Accessor) (shadow : Bool) (dst : Nat) (value : W64) (half : Bool)
  /-- SW_EPOCH_COMMIT (R326). -/
  | swEpochCommit (acc : Accessor) (newEpoch : Nat)
  /-- SW_DRAIN (R326). -/
  | swDrain
  /-- FAB_PKT_SW_WRITE (R327). -/
  | fabPktSwWrite (h : FabHdr) (b : SwWriteBody)
  /-- FAB_PKT_RMA_GRANT (R344). -/
  | fabPktRmaGrant (h : FabHdr) (b : SwWriteBody)
  /-- EGRESS_DEQUEUE (R336). -/
  | egressDequeue (port : Nat)
  /-- SW_COMBINE_WINDOW (R331). -/
  | swCombineWindow (entry : Nat)
  /-- SW_COMBINE_HOLD (R332). -/
  | swCombineHold (entry : Nat)
  /-- HOTSPOT_DETECTED (R339). -/
  | hotspotDetected (port tc : Nat)
  /-- PACED_RELEASE (R335). -/
  | pacedRelease (dst : Nat)
  /-- CC_NO_SAMPLE (R334). -/
  | ccNoSample (dst : Nat)
  /-- FAB_PKT_CC_ECHO (R333). -/
  | fabPktCcEcho (h : FabHdr)
  /-- FAB_PKT_NACK (R320). -/
  | fabPktNack (h : FabHdr) (b : NackBody)
  /-- FAB_PKT_LOAD (R343). -/
  | fabPktLoad (h : FabHdr) (b : LoadBody) (tierError : Bool)
  /-- FAB_PKT_LOAD_REPLY (R347). -/
  | fabPktLoadReply (h : FabHdr) (b : LoadReplyBody)
  /-- FAB_PKT_STORE (R348). -/
  | fabPktStore (h : FabHdr) (b : StoreBody) (tierError : Bool)
  /-- FAB_PKT_STORE_ACK (R347). -/
  | fabPktStoreAck (h : FabHdr) (b : AckBody)
  /-- FAB_PKT_READ (R343). -/
  | fabPktRead (h : FabHdr) (b : ReadBody) (tierError : Bool)
  /-- FAB_PKT_READ_DATA (R358). -/
  | fabPktReadData (h : FabHdr) (b : ReadDataBody)
  /-- FAB_PKT_WRITE (R358). -/
  | fabPktWrite (h : FabHdr) (b : WriteBody) (tierError : Bool)
  /-- FAB_PKT_WRITE_ACK (R347). -/
  | fabPktWriteAck (h : FabHdr) (b : AckBody)
  /-- FAB_PKT_ATOMIC (R354). -/
  | fabPktAtomic (h : FabHdr) (b : AtomicBody) (tierError : Bool)
  /-- FAB_PKT_ATOMIC_REPLY (R353). -/
  | fabPktAtomicReply (h : FabHdr) (b : AtomicReplyBody)
  /-- FAB_PKT_ATOMIC_COMBINED (R332). -/
  | fabPktAtomicCombined (h : FabHdr) (b : CombinedBody) (tierError : Bool)
  /-- FAB_PKT_ATOMIC_COMBINED_REPLY (R332). -/
  | fabPktAtomicCombinedReply (h : FabHdr) (b : CombinedReplyBody)
  /-- FAB_PKT_CANCEL (R352). -/
  | fabPktCancel (h : FabHdr) (b : CancelBody)
  /-- FAB_PKT_CANCEL_ACK (R352). -/
  | fabPktCancelAck (h : FabHdr) (b : CancelAckBody)
  /-- FAB_PKT_RMA_REVOKE_DONE (R356). -/
  | fabPktRmaRevokeDone (h : FabHdr) (b : RevokeDoneBody)
  /-- GRANT_ACTIVATE (R344). -/
  | grantActivate (acc : Accessor) (g : Nat) (value : W64)
  /-- GRANT_REVOKE (R356). -/
  | grantRevoke (acc : Accessor) (g : Nat)
  /-- GRANT_INVALIDATE (R344). -/
  | grantInvalidate (acc : Accessor) (g : Nat)
  /-- RMA_ATOMIC_TIMEOUT (R353). -/
  | rmaAtomicTimeout (msgId : Nat)
  /-- RMA_STORE_TIMEOUT (R352). -/
  | rmaStoreTimeout (msgId : Nat)
  /-- RMA_WRITE_TIMEOUT (R351). -/
  | rmaWriteTimeout (msgId : Nat)
  /-- RMA_BUSY_BACKOFF (R351). -/
  | rmaBusyBackoff (msgId : Nat)
  /-- RMA_REPLAY_HOLD (R354). -/
  | rmaReplayHold (requester seq : Nat)
  /-- REPLAY_FLOOR_DISCARD (R354). -/
  | replayFloorDiscard (requester : Nat)
  /-- RMA_REASSEMBLY_LIMIT (R358). -/
  | rmaReassemblyLimit (source msgId : Nat)
  /-- RMA_CANCEL_HOLD (R352). -/
  | rmaCancelHold (source msgId : Nat)
  /-- WL_ARM (R359). -/
  | wlArm (port list : Nat) (value : W64)
  /-- WL_STOP (R359). -/
  | wlStop (port list : Nat) (value : W64)
  /-- RMA_WL_ADVANCE (R361). -/
  | rmaWlAdvance (port : Nat) (value : W64)
  /-- KEY_INSTALL (R362). -/
  | keyInstall (port : Nat) (value : W64)
  /-- KEY_ERASE (R362). -/
  | keyErase (port : Nat) (value : W64)
  /-- FAB_PKT_EMB_READ (R289). -/
  | fabPktEmbRead (h : FabHdr) (b : EmbReadBody) (tierError : Bool)
  /-- FAB_PKT_EMB_ROWS (R282). -/
  | fabPktEmbRows (h : FabHdr) (b : EmbRowsBody)
  /-- FAB_PKT_EMB_SCATTER (R286). -/
  | fabPktEmbScatter (h : FabHdr) (b : EmbScatterBody) (tierError : Bool)
  /-- FAB_PKT_EMB_SCATTER_ACK (R285). -/
  | fabPktEmbScatterAck (h : FabHdr) (b : EmbScatterAckBody)
  /-- FAB_PKT_EMB_REDIRECT (R296). -/
  | fabPktEmbRedirect (h : FabHdr) (b : EmbRedirectBody)
  /-- FAB_PKT_EMB_MIG_OFFER (R293). -/
  | fabPktEmbMigOffer (h : FabHdr) (b : MigOfferBody)
  /-- FAB_PKT_EMB_MIG_REPLY (R294). -/
  | fabPktEmbMigReply (h : FabHdr) (b : MoveReplyBody)
  /-- FAB_PKT_EMB_MIG_ACK (R294). -/
  | fabPktEmbMigAck (h : FabHdr) (b : MoveAckBody)
  /-- FAB_PKT_EMB_MIG_COMMIT (R295). -/
  | fabPktEmbMigCommit (h : FabHdr) (b : MoveBareBody)
  /-- FAB_PKT_EMB_MIG_ABORT (R294). -/
  | fabPktEmbMigAbort (h : FabHdr) (b : MoveAbortBody)
  /-- BAG_POOLED (R283). -/
  | bagPooled (gather : Nat)
  /-- GATHER_DEADLINE (R288). -/
  | gatherDeadline (gather stallCycles : Nat)
  /-- REPLICA_REFRESH (R291). -/
  | replicaRefresh (table version row : Nat)
  /-- REPLICA_EXPIRY (R291). -/
  | replicaExpiry (table version row : Nat)
  /-- EMB_EPOCH (R290). -/
  | embEpoch
  /-- MIGRATION_FORWARDING_TIMER (R294). -/
  | migrationForwardingTimer (migId : Nat)
  /-- REPLICA_STORE_WRITE (R298). -/
  | replicaStoreWrite (port part : Nat) (value : W64)
  /-- HL_SYNC_WAIT (R368). -/
  | hlSyncWait (port : Nat)
  /-- HL_CREDIT_STALL (R385). -/
  | hlCreditStall (port : Nat)
  /-- HL_DOWN_HOLD (R385). -/
  | hlDownHold (port : Nat)
  /-- HL_BULK_TIMEOUT (R387). -/
  | hlBulkTimeout (tag : Nat)
  /-- HL_PORT_FENCE (R389). -/
  | hlPortFence (acc : Accessor) (port : Nat)
  /-- HL_PORT_UNFENCE (R389). -/
  | hlPortUnfence (acc : Accessor) (port : Nat)
  /-- HL_PORT_RETRAIN (R389). -/
  | hlPortRetrain (acc : Accessor) (port : Nat)
  /-- HL_LANE_FENCE (R389). -/
  | hlLaneFence (acc : Accessor) (port lanes : Nat)
  /-- HOST_WINDOW_WRITE (R386). -/
  | hostWindowWrite (acc : Accessor) (port window word : Nat) (value : W64)
  /-- ENTER_SERVICE (R392). -/
  | enterService (port : Nat)
  /-- ENTER_TEST (R392). -/
  | enterTest (port : Nat)
  /-- ENTER_RECOVERY (R392). -/
  | enterRecovery (port : Nat)
  /-- APPLY_IMAGE (R410). -/
  | applyImage (port : Nat) (srcHost : Bool) (slot srcPort window : Nat) (img : ReadImage)
  /-- WRITE_SLOT (R413). -/
  | writeSlot (port slot srcPort window : Nat) (img : ReadImage)
  /-- CAL_SAVE (R415). -/
  | calSave (port kinds : Nat)
  /-- CAL_RESTORE_FACTORY (R415). -/
  | calRestoreFactory (port : Nat)
  /-- SVN_COMMIT (R404). -/
  | svnCommit (port : Nat)
  /-- QUOTE (R408). -/
  | quote (port : Nat) (cmd : W64)
  /-- SERVICE_REPORT (R408). -/
  | serviceReport (port : Nat) (cmd : W64)
  /-- ENDORSEMENT_RECORD (R408). -/
  | endorsementRecord (port : Nat) (cmd : W64)
  /-- PROTECTION_WRITE (R409). -/
  | protectionWrite (port offset : Nat) (value : W64)
  /-- POWER_DOWN (R427). -/
  | powerDown (port domain : Nat) (cascade : Bool)
  /-- POWER_UP (R427). -/
  | powerUp (port domain : Nat) (cascade : Bool)
  /-- RESET (R427). -/
  | reset (port domain : Nat) (cascade : Bool)
  /-- UPDATE (R427). -/
  | update (port domain : Nat) (cascade : Bool)
  /-- PWR_MODULE_RESET (R436). -/
  | pwrModuleReset (port : Nat) (value : W64)
  /-- RESET_N_ASSERTED (R484). -/
  | resetNAsserted (lowNs : Nat)
  /-- POWER_GOOD (R393). -/
  | powerGood (straps : Nat)
  /-- REFERENCE_PRESENT (R393). -/
  | referencePresent
  /-- ROOT_PLL_LOCKED (R393). -/
  | rootPllLocked
  /-- IMAGE_SLOT_VERIFIED (R401). -/
  | imageSlotVerified (read0 read1 : Bool)
  /-- DOMAINS_TRAINED (R393). -/
  | domainsTrained (failedStations : List StationRef) (stackOk : List Bool) (channels : List ChannelInfo)
  /-- SMBUS_SET_OFFSET (R394). -/
  | smbusSetOffset (cmd : Nat) (data : List Byte) (pecOk : Bool)
  /-- SMBUS_READ (R394). -/
  | smbusRead (cmd : Nat) (pecOk : Bool)
  /-- V_IN_SAMPLE (R420). -/
  | vInSample (mv microsSince : Nat)
  /-- INPUT_RECOVERED (R421). -/
  | inputRecovered
  /-- REFERENCE_LOSS (R423). -/
  | referenceLoss (absentNs : Nat) (lockLost : Bool)
  /-- DOMAIN_RAMP_COMPLETES (R427). -/
  | domainRampCompletes (domain : Nat) (ok : Bool) (failedStations : List StationRef) (channels : List ChannelInfo)
  /-- RAIL_FAULT (R427). -/
  | railFault (domain : Nat)
  /-- DOWN_SEQUENCE_ENDS (R430). -/
  | downSequenceEnds (domain : Nat)
  /-- HUB_WATCHDOG (R434). -/
  | hubWatchdog
  /-- POWER_SAMPLE (R437). -/
  | powerSample (mv ma : Nat)
  /-- THERMAL_SAMPLE (R440). -/
  | thermalSample (temps : List Int)
  /-- THERMAL_LEVEL_RISE (R440). -/
  | thermalLevelRise (sensor : Nat)
  /-- THERMAL_LEVEL_FALL (R440). -/
  | thermalLevelFall (sensor : Nat)
  /-- EVT_READ_SEL (R449). -/
  | evtReadSel (port : Nat) (value : W64)
  /-- EVT_RATE_WRITE (R450). -/
  | evtRateWrite (port : Nat) (value : W64)
  /-- EVT_MIRROR_SEL (R452). -/
  | evtMirrorSel (port : Nat) (value : W64)
  /-- MIRROR_RECORD_WRITE (R451). -/
  | mirrorRecordWrite
  /-- MIRROR_SECTOR_ERASE (R451). -/
  | mirrorSectorErase
  /-- CNT_CLEAR (R455). -/
  | cntClear (port : Nat) (value : W64)
  /-- RL_LOW_HALF_READ (R454). -/
  | rlLowHalfRead (port offset : Nat)
  /-- REGISTER_WRITE (R460). -/
  | registerWrite (acc : Accessor) (offset : Nat) (value : W64) (half : Bool)
  /-- PATROL_SCRUB (R495). -/
  | patrolScrub (addr : Nat) (corrected : Bool) (uncorrectable : Bool)
  /-- DIMM_THERMAL_READ (R497). -/
  | dimmThermalRead (temps : List (List Int))
  /-- CHANNEL_TRAINING_TIMEOUT (R496). -/
  | channelTrainingTimeout (channel : Nat)
  /-- FLASH_UNIT_COMPLETES (R412). -/
  | flashUnitCompletes (readBackOk : Bool)
  /-- DOCUMENT_SIGNED (R408). -/
  | documentSigned
  /-- FAB_PKT_SW_WRITE_ACK (R327). -/
  | fabPktSwWriteAck (h : FabHdr) (b : SwAckBody)
  deriving DecidableEq, Repr

end Sys2Proof
end

