-- ==== Sys2Proof/Decode.lean ====
section
/-!
DEFINITION. The commands have no word encoding: no row of the table of operations and events gives bits.
-/
namespace Sys2Proof

/-- The command that a word spells: none, for no row gives bits. -/
def decodeTableWord (nbits w : Nat) : Option Instr :=
  match nbits, w with
  | _, _ => none

end Sys2Proof
end

