-- ==== Sys2Proof/Machine/Bits.lean ====
section
/-!
DEFINITION. Bit-field, byte-order and serial-arithmetic helpers (R4, R457), and small list
helpers used by every unit.
-/
namespace Sys2Proof.Machine

/-- Bits `hi:lo` of a register word, as a number (R4: bit 0 is the least significant). -/
def fieldOf (w : W64) (hi lo : Nat) : Nat := (w.toNat >>> lo) % 2 ^ (hi + 1 - lo)

/-- `w` with bits `hi:lo` replaced by the low bits of `v`. -/
def putField (w : W64) (hi lo v : Nat) : W64 :=
  let m := 2 ^ (hi + 1 - lo)
  BitVec.ofNat 64 (w.toNat - (fieldOf w hi lo) * 2 ^ lo + (v % m) * 2 ^ lo)

/-- One bit of a register word. -/
def bitOf (w : W64) (i : Nat) : Bool := w.toNat.testBit i

/-- `w` with bit `i` set or cleared. -/
def putBit (w : W64) (i : Nat) (b : Bool) : W64 := putField w i i (if b then 1 else 0)

/-- A Boolean as a bit. -/
def bitN (b : Bool) : Nat := if b then 1 else 0

/-- Byte `i` (from the least significant) of a number. -/
def byteOfNat (n i : Nat) : Byte := BitVec.ofNat 8 (n >>> (8 * i))

/-- `k` little-endian bytes of a number (R4). -/
def leBytes (n : Nat) : Nat → List Byte
  | 0 => []
  | k + 1 => BitVec.ofNat 8 n :: leBytes (n / 256) k

/-- The number that a list of bytes spells, little-endian (R4). -/
def natOfLe : List Byte → Nat
  | [] => 0
  | b :: bs => b.toNat + 256 * natOfLe bs

/-- The number that a list of bytes spells, big-endian. -/
def natOfBe (bs : List Byte) : Nat := bs.foldl (fun a b => a * 256 + b.toNat) 0

/-- `k` big-endian bytes of a number. -/
def beBytes (n k : Nat) : List Byte := (leBytes n k).reverse

/-- The distance from `a` to `b` as a signed number of `n` bits (R457). -/
def serialDiff (n a b : Nat) : Int :=
  let d := (b + 2 ^ n - a % 2 ^ n) % 2 ^ n
  if d < 2 ^ (n - 1) then (d : Int) else (d : Int) - (2 ^ n : Nat)

/-- R457: `a` precedes `b` among `n`-bit sequence-type values. -/
def precedes (n a b : Nat) : Bool := decide (0 < serialDiff n a b)

/-- R457: `a` is at or before `b`. -/
def atOrBefore (n a b : Nat) : Bool := decide (0 ≤ serialDiff n a b)

/-- The next value of an `n`-bit counter that wraps. -/
def wrapSucc (n a : Nat) : Nat := (a + 1) % 2 ^ n

/-- The next value of an `n`-bit counter that wraps and skips 0 (R457). -/
def wrapSuccSkip0 (n a : Nat) : Nat :=
  let b := (a + 1) % 2 ^ n
  if b = 0 then 1 else b

/-- `v` clamped to `lo … hi` (R7). -/
def clampN (lo hi v : Nat) : Nat := if v < lo then lo else if hi < v then hi else v

/-- Whether `v` lies outside `lo … hi` (R7). -/
def outside (lo hi v : Nat) : Bool := v < lo || hi < v

/-- Ceiling division. -/
def cdiv (a b : Nat) : Nat := (a + b - 1) / b

/-- `a` rounded up to a multiple of `b`. -/
def roundUp (a b : Nat) : Nat := cdiv a b * b

/-- Floor division of integers. -/
def floorDiv (a : Int) (b : Nat) : Int := Int.fdiv a b

/-- Ceiling of `a / b`. -/
def ceilDiv (a : Int) (b : Nat) : Int := - Int.fdiv (-a) b

/-- An integer kept in a 64-bit two's-complement word. -/
def wordOfInt (i : Int) : W64 := BitVec.ofInt 64 i

/-- The list `0 … n-1`. -/
def upTo (n : Nat) : List Nat := List.range n

/-- The first element that passes a test, with its index. -/
def findIdx1 {α : Type} (p : α → Bool) (l : List α) (i : Nat := 0) : Option (Nat × α) :=
  match l with
  | [] => none
  | a :: as => if p a then some (i, a) else findIdx1 p as (i + 1)

/-- The list with the element at `i` replaced (unchanged when there is none). -/
def setAt {α : Type} (l : List α) (i : Nat) (a : α) : List α := l.set i a

/-- Update every element that passes a test. -/
def updWhere {α : Type} (p : α → Bool) (f : α → α) (l : List α) : List α :=
  l.map (fun a => if p a then f a else a)

/-- Remove every element that passes a test. -/
def dropWhere {α : Type} (p : α → Bool) (l : List α) : List α := l.filter (fun a => !p a)

/-- The sum of a list of numbers. -/
def sumN (l : List Nat) : Nat := l.foldl (· + ·) 0

/-- Lists cut into pieces of `k` elements (`fuel` bounds the pieces). -/
def chunksOf {α : Type} (k : Nat) : Nat → List α → List (List α)
  | 0, _ => []
  | fuel + 1, l => if l.isEmpty then [] else l.take k :: chunksOf k fuel (l.drop k)

/-- Run `f` over the list, left to right, on a state. -/
def foldS {σ α : Type} (l : List α) (f : σ → α → σ) (s : σ) : σ := l.foldl f s

/-- The least number below `n` that is not in the list; it is at most the list's length. -/
def leastFree (n : Nat) (used : List Nat) : Option Nat :=
  (upTo (min n (used.length + 1))).find? (fun i => !used.contains i)

end Sys2Proof.Machine
end

