-- ==== Sys2Proof/Machine/Mem.lean ====
section
/-!
DEFINITION. Sparse stores in canonical form: byte memories (list of address and byte pairs) and
the register file (list of offset and word pairs), each with addresses strictly rising; a byte
memory lists no entry equal to what an unlisted address reads as.
-/
namespace Sys2Proof.Machine

/-- A byte memory: pairs of address and byte, addresses strictly rising, no entry 0. -/
abbrev Mem := List Host.Cell

/-- What an unlisted address of a byte memory reads as (R140 for KV frames; DESIGN CHOICE, log
entry 3, for T1 and T2, whose power-on contents the spec leaves open). -/
def memDefault : Byte := 0#8

/-- Lookup in a rising association list. -/
def assocGet {α : Type} (l : List (Nat × α)) (k : Nat) : Option α :=
  match l with
  | [] => none
  | (a, v) :: t => if a = k then some v else if k < a then none else assocGet t k

/-- Insert or replace in a rising association list. -/
def assocPut {α : Type} (l : List (Nat × α)) (k : Nat) (v : α) : List (Nat × α) :=
  match l with
  | [] => [(k, v)]
  | (a, w) :: t =>
    if k < a then (k, v) :: (a, w) :: t
    else if k = a then (k, v) :: t
    else (a, w) :: assocPut t k v

/-- Remove from a rising association list. -/
def assocDel {α : Type} (l : List (Nat × α)) (k : Nat) : List (Nat × α) :=
  match l with
  | [] => []
  | (a, w) :: t => if a = k then t else if k < a then (a, w) :: t else (a, w) :: assocDel t k

/-- Keys strictly rising. -/
def assocRising {α : Type} : List (Nat × α) → Bool
  | [] => true
  | [_] => true
  | (a, _) :: (b, w) :: t => decide (a < b) && assocRising ((b, w) :: t)

/-- One byte of a memory. -/
def memRead (m : Mem) (a : Nat) : Byte := (assocGet m a).getD memDefault

/-- One byte written; writing the default removes the entry. -/
def memWrite (m : Mem) (a : Nat) (b : Byte) : Mem :=
  if b = memDefault then assocDel m a else assocPut m a b

/-- The canonical form of a byte memory. -/
def memWf (m : Mem) : Bool := assocRising m && m.all (fun c => c.2 != memDefault)

/-- `n` bytes from address `a`, lowest address first. -/
def memReadBytes (m : Mem) (a : Nat) : Nat → List Byte
  | 0 => []
  | n + 1 => memRead m a :: memReadBytes m (a + 1) n

/-- A list of bytes written from address `a` upward. -/
def memWriteBytes (m : Mem) (a : Nat) : List Byte → Mem
  | [] => m
  | b :: bs => memWriteBytes (memWrite m a b) (a + 1) bs

/-- `n` bytes from address `a` set to 0. -/
def memZero (m : Mem) (a n : Nat) : Mem := m.filter (fun c => !(a ≤ c.1 && c.1 < a + n))

/-- A little-endian number of `n` bytes (R4). -/
def memReadNat (m : Mem) (a n : Nat) : Nat := natOfLe (memReadBytes m a n)

/-- The register file: pairs of offset and word, offsets strictly rising; a register that is
not listed holds its reset value. -/
abbrev RegFile := List (Nat × W64)

/-- A register read: what is listed, else the reset value given. -/
def rfGet (reset : Nat → W64) (r : RegFile) (off : Nat) : W64 := (assocGet r off).getD (reset off)

/-- A register written. -/
def rfSet (r : RegFile) (off : Nat) (v : W64) : RegFile := assocPut r off v

/-- The canonical form of a register file: one entry per offset, offsets rising. -/
def rfWf (r : RegFile) : Bool := assocRising r

end Sys2Proof.Machine
end

