-- ==== Sys2Proof/Machine/LinkRecords.lean ====
section
/-!
DEFINITION. The records of the links: the Lateter host link (R366 to R387), the Mbamon fabric
ports and the seam (R302 to R339), and the remote memory engine (R341 to R364).
-/
namespace Sys2Proof.Machine

/-- The messages the device sends to a host (R228, R281, R373, R379, R387). -/
inductive HostMsg where
  | ack (tag req status value : Nat)
  | state (tag req lc : Nat) (summary : Bool) (endStatus placement home committed lastEmitted : Nat)
  | tokens (req tag first : Nat) (toks : List (Nat × Bool)) (final afterResume : Bool)
  | result (req tag : Nat) (values : List W32)
  | ended (req tag status emitted : Nat)
  | embResult (tag version : Nat) (bags : List (Nat × Nat × List Byte))
  | regData (tag status : Nat) (values : List W64)
  | linkSync (session e0 e1 e2 : Nat)
  | bulkRead (tag length addr : Nat)
  | bulkWrite (tag addr : Nat) (data : List Byte)
  deriving DecidableEq, Repr

/-- A DATA flit in a replay buffer (R312, R313): its number, its class, `FIRST_PKT`, its payload, and the messages or packets
whose last byte it carries. -/
structure SentFlit (α : Type) where
  seq     : Nat
  tc      : Nat
  first   : Nat
  payload : List Byte
  items   : List α
  deriving DecidableEq, Repr

/-- A message on its way out of a port: its class, itself, whether a flit of it has left, the packets of it that have not
left whole, and whether a part of the first of them has left. -/
structure OutMsg (α : Type) where
  tc    : Nat
  item  : α
  begun : Bool
  pkts  : List (List Byte)
  mid   : Bool
  deriving DecidableEq, Repr

/-- The link layer of a port (R304 to R316). The link state, width, fenced lanes and causes are
in the port's status register. `laneDev` the lanes the device fenced; `lanes` the lanes in use;
`ownerFence` and `devFence` who fenced the port; `retry` whether FAB_RETRY_INTERVAL runs;
`tx` the next number to send, `rx` the next expected; `nacked` a replay is awaited;
`replays` successive replays of the oldest flit; `credits` per class; `out` what waits to leave. -/
structure Link (α : Type) where
  signal     : Bool
  attempt    : Nat
  retry      : Bool
  ownerFence : Bool
  devFence   : Bool
  laneDev    : Nat
  lanes      : Nat
  tx         : Nat
  rx         : Nat
  nacked     : Bool
  replay     : List (SentFlit α)
  replays    : Nat
  credits    : List Nat
  out        : List (OutMsg α)
  deriving DecidableEq, Repr

/-- An entry of a port's emission ring (R381): the collar, and what it owes: ACKs with their tag and
status, tokens up to the log's end (tracked by the collar), a result, an ending. -/
structure RingEnt where
  requestId : Nat
  ack       : List (Nat × Nat)
  result    : Bool
  ended     : Bool
  deriving DecidableEq, Repr

/-- Who issued a bulk transfer (R387). -/
inductive BulkOwner where
  | swapOut (requestId : Nat)
  | swapIn (requestId : Nat)
  | document
  deriving DecidableEq, Repr

/-- A pending bulk transfer (R387). -/
structure Bulk where
  tag    : Nat
  port   : Nat
  window : Nat
  write  : Bool
  offset : Nat
  length : Nat
  data   : List Byte
  sends  : Nat
  owner  : BulkOwner
  item   : Nat
  deriving DecidableEq, Repr

/-- A Lateter port (R366 to R385). `expect` the next `XSEQ` expected in HC0 and HC1, `gap`
whether a gap is open in each; `next0`, `next2` the next `XSEQ` to send; `log0`, `log2` the
resend logs; `unsent` the class and number of every message that is numbered and not sent (R374); `seen` the host session last seen; `stalled` the classes without credit beyond HL_CREDIT_STALL. -/
structure HlPort where
  link    : Link (Nat × HostMsg)
  expect0 : Nat
  expect1 : Nat
  gap0    : Bool
  gap1    : Bool
  next0   : Nat
  next2   : Nat
  log0    : List (Nat × HostMsg)
  log2    : List (Nat × HostMsg)
  unsent  : List (Nat × Nat)
  ring    : List RingEnt
  seen    : Nat
  stalled : List Nat
  deriving DecidableEq, Repr

/-- The host link: its ports, the pending bulk transfers and the `BULK_TAG` counter. -/
structure HostLink where
  ports   : List HlPort
  bulks   : List Bulk
  bulkTag : Nat
  deriving DecidableEq, Repr

/-! The fabric. -/

/-- The member of a class a packet is queued under (R336): transit, a partition, or the device. -/
inductive Member where
  | transit | part (p : Nat) | device
  deriving DecidableEq, Repr

/-- A packet in an egress queue. -/
structure EgItem where
  member : Member
  pkt    : FabPkt
  deriving DecidableEq, Repr

/-- An egress deficit of (class, member). -/
structure Deficit where
  tc     : Nat
  member : Member
  value  : Int
  deriving DecidableEq, Repr

/-- A fabric port: its link, its egress queue (in arrival order over all classes and members),
its scheduler (R336) and the hot-spot latch of each class (R339). -/
structure FabPort where
  link    : Link EgItem
  queue   : List EgItem
  tc0     : Int
  tc0Last : Nat
  classDef : List Int
  classNext : Nat
  members : List Deficit
  memNext : List Nat
  hot     : List Bool
  deriving DecidableEq, Repr

/-- A constituent of a combining entry (R329). -/
structure Constituent where
  src    : Nat
  msgId  : Nat
  stamp  : Nat
  seq    : Nat
  addend : W64
  pkt    : FabPkt
  deriving DecidableEq, Repr

/-- A combining entry (R330, R331). `sent` the message number of the combined packet once it has
left; `joinOpen` whether it still takes constituents. -/
structure Combine where
  id       : Nat
  add      : Bool
  joinOpen : Bool
  sent     : Option Nat
  parts    : List Constituent
  deriving DecidableEq, Repr

/-- A rate cache entry (R334, R335); `queue` holds the paced packets with their members. -/
structure RateEnt where
  dst      : Nat
  r        : Nat
  lastInc  : Nat
  lastDec  : Nat
  bucket   : Int
  lastFill : Nat
  unechoed : Nat
  sent     : Nat
  lastHalf : Nat
  used     : Nat
  queue    : List EgItem
  deriving DecidableEq, Repr

/-- The seam and the fabric ports. `local_` the packets delivered to this device and not yet
taken by a unit; `localHot` the classes of that queue that are over the hot-spot threshold (R339);
`wait` packets that wait for a rate cache entry; `prev` the previous route
table; `rotate` the rotating pointer of each class (R325); `rxBytes` the bytes received per
source (R333); `shaper` the shaper credits of the partitions (R336); `useCtr` orders the uses of
rate entries; `msgId` the last message number used. -/
structure Fab where
  ports    : List FabPort
  local_   : List FabPkt
  localHot : List Bool
  wait     : List EgItem
  prev     : RegFile
  rotate   : List Nat
  combines : List Combine
  combId   : Nat
  rates    : List RateEnt
  useCtr   : Nat
  rxBytes  : List (Nat × Nat)
  msgId    : Nat
  shaper   : List Int
  shapLast : Nat
  deriving DecidableEq, Repr

/-! The remote memory engine. -/

/-- Who issued a remote operation: a list's entry, a move, a read of a second source (R259), a bag of a gather (gather x 256 + bag), a
row of an update (update x 256 + row), a replica, a migration. -/
inductive OpOwner where
  | list (l e : Nat)
  | move (moveId : Nat)
  | second
  | gather (gather : Nat)
  | update (update : Nat)
  | refresh (table version row : Nat)
  | migrate (migId : Nat)
  | none
  deriving DecidableEq, Repr

/-- The kind of a pending operation (R347, R282, R285, R352). -/
inductive OpKind where
  | load | store | read | write | atomic | scatter | cancel | embRead
  deriving DecidableEq, Repr

/-- A pending operation at its sender (R351 to R355). `part` the partition the issuing unit acts
for; `grant` the index of the grant it was issued under; `hold` whether it waits for
RMA_BUSY_BACKOFF; `enc` the partition and key epoch of an encrypted one; `body` the request of a
single-packet operation, `parts` the (region offset, bytes) pieces of a write and `trigger` its
list; `locReg` and `locOff` where a read places its data; `issued` the local time of
its issue (R291). -/
structure PendOp where
  kind    : OpKind
  target  : Nat
  region  : Nat
  offset  : Nat
  length  : Nat
  part    : Nat
  grant   : Nat
  msgId   : Nat
  seq     : Nat
  try_    : Nat
  sends   : Nat
  busy    : Nat
  hold    : Bool
  enc     : Option (Nat × Nat)
  body    : FabBody
  parts   : List (Nat × List Byte)
  trigger : Option Nat
  readTag : Nat
  locReg  : Nat
  locOff  : Nat
  issued  : Nat
  owner   : OpOwner
  deriving DecidableEq, Repr

/-- A replay table entry (R354): status and result of an applied atomic or scatter-add; `row` the table, version and row of a
scatter-add (R294). -/
structure ReplayEnt where
  req    : Nat
  seq    : Nat
  status : Nat
  r0     : W64
  r1     : W64
  row    : Option (Nat × Nat × Nat)
  deriving DecidableEq, Repr

/-- A reassembly context (R358). `kind` the packet type; `bits` the packets seen, `first` the first failing status, `low` the
lowest data offset seen and `bytes` the data bytes; `buf` the payloads of a phase placement or scatter-add by their
`MSG_OFFSET`. -/
structure RmaCtx where
  src   : Nat
  msgId : Nat
  kind  : Nat
  region : Nat
  buf   : List (Nat × List Byte)
  bits  : Nat
  count : Nat
  first : Nat
  low   : Nat
  bytes : Nat
  deriving DecidableEq, Repr

/-- A key slot (R362); `order` tells which slot of the partition is older. -/
structure KeySlot where
  part  : Nat
  epoch : Nat
  key   : List W64
  order : Nat
  deriving DecidableEq, Repr

/-- Nonce counters of a (partition, epoch) (R363, R364). -/
structure NonceCtr where
  part  : Nat
  epoch : Nat
  fab   : Nat
  rest  : Nat
  deriving DecidableEq, Repr

/-- The remote memory engine. `lists` the entries of the work request lists, keyed
list x 256 + entry x 4 + word; `halts`: `unsettled` the unsettled operations per grant;
`done` the completed entries per armed list; `tgtEpoch` the cached epochs; `floors`
(requester, floor, time of its last change); `emptyAt` when the replay table last started
empty; `cancels` the cancel table: (source, message). -/
structure Rma where
  ops      : List PendOp
  seq      : Nat
  readTag  : Nat
  tgtEpoch : List (Nat × Nat)
  replay   : List ReplayEnt
  floors   : List (Nat × Nat × Nat)
  emptyAt  : Nat
  cancels  : List (Nat × Nat)
  ctxs     : List RmaCtx
  keys     : List KeySlot
  keyOrder : Nat
  keyData  : List W64
  nonces   : List NonceCtr
  lists    : RegFile
  unsettled : List (Nat × Nat)
  deriving DecidableEq, Repr

end Sys2Proof.Machine
end

