-- ==== Sys2Proof/Machine/CfgBytes.lean ====
section
/-!
DEFINITION. The bytes of a configuration image: its header, its directory and its sections (R396 to R400). All integers are
little-endian. A byte that no field and no section covers is zero (log entry 42).
-/
namespace Sys2Proof.Machine

/-- R398: the 64 bytes of the composition section. Reserved bits in order: `ROLE` 7:3, `PROTECT` 7:3, byte 13, bytes 20 to 63. -/
def compositionBytes (m : Composition) : List Byte :=
  leBytes m.deviceId 2 ++ leBytes m.mgrDevice 2 ++ leBytes (m.role + m.rsvd % 32 * 8) 1 ++ leBytes m.ownerPort 1 ++
    leBytes m.startMode 1 ++ leBytes (m.smbLevel + bitN m.jtagOff * 4 + m.rsvd / 32 % 32 * 8) 1 ++ leBytes m.collarSlots 4 ++
    leBytes m.collarTier 1 ++ leBytes (m.rsvd / 2 ^ 10) 1 ++ leBytes m.listsInternal 2 ++ leBytes m.collarLogMib 4 ++
    leBytes (m.rsvd / 2 ^ 18) 44

/-- R399: the 24 bytes of a source descriptor. -/
def srcBytes (d : SrcDesc) : List Byte :=
  leBytes d.kind 1 ++ leBytes d.port 1 ++ leBytes d.device 2 ++ leBytes d.region 2 ++ leBytes d.rsvd 2 ++ leBytes d.offset 8 ++
    leBytes d.length 8

/-- R399: one list of the pool map: 64 device IDs, zero beyond the list. -/
def poolBytes (l : List Nat) : List Byte := (upTo 64).flatMap (fun k => leBytes (l.getD k 0) 2)

/-- R399: the 640 bytes of a partition section. Reserved bits in order: byte 3, bytes 22 and 23, bytes 60 to 63. -/
def declBytes (d : PartDecl) : List Byte :=
  leBytes d.part 1 ++ leBytes d.flags 1 ++ leBytes d.quadMask 1 ++ leBytes d.rsvd 1 ++ leBytes d.access 1 ++
    leBytes d.prompts.length 1 ++ leBytes d.gens.length 1 ++ leBytes d.caches.length 1 ++
    (d.share.flatMap fun n => leBytes n 1) ++ leBytes d.mvCount 1 ++ leBytes d.emCount 1 ++ leBytes (d.rsvd / 2 ^ 8) 2 ++
    (d.t1Mib.flatMap fun n => leBytes n 4) ++ (d.kvFrames.flatMap fun n => leBytes n 4) ++ leBytes d.t2Mib 4 ++
    leBytes (d.rsvd / 2 ^ 24) 4 ++ leBytes d.salt 32 ++ leBytes d.baseMeas 32 ++ leBytes d.draftMeas 32 ++
    srcBytes d.baseSrc ++ srcBytes d.draftSrc ++ srcBytes d.base2 ++ srcBytes d.draft2 ++
    poolBytes d.prompts ++ poolBytes d.gens ++ poolBytes d.caches

/-- R400: the 16 bytes of a `REG_INIT` entry. -/
def regInitBytes (e : RegInit) : List Byte := leBytes e.offset 4 ++ leBytes e.rsvd 4 ++ leBytes e.value.toNat 8

/-- R397: the 16 bytes of a directory entry. -/
def sectionBytes (s : SectionEnt) : List Byte :=
  leBytes s.type 2 ++ leBytes s.inst 2 ++ leBytes s.rsvd 4 ++ leBytes s.offset 4 ++ leBytes s.length 4

/-- R396: the 128 bytes of the header. Reserved bits in order: `FLAGS` 7:2, bytes 18 and 19, bytes 72 to 127. -/
def cfgHeader (i : CfgImage) : List Byte :=
  leBytes i.magic 4 ++ leBytes i.formatVer 2 ++ leBytes i.headerLen 2 ++ leBytes i.partCode 2 ++ leBytes i.minStepping 2 ++
    leBytes i.nSections 2 ++ leBytes i.keyIndex 1 ++
    leBytes (bitN i.commitSvn + bitN i.revokeLower * 2 + i.hdrRsvd % 64 * 4) 1 ++ leBytes i.securityVer 2 ++
    leBytes (i.hdrRsvd / 2 ^ 6) 2 ++ leBytes i.totalLen 4 ++ leBytes i.imageVer 8 ++ leBytes i.targetSerial 8 ++
    i.publicKey ++ leBytes (i.hdrRsvd / 2 ^ 22) 56

/-- The bytes laid over others at an offset. -/
def layAt (off : Nat) (p base : List Byte) : List Byte := base.take off ++ p ++ base.drop (off + p.length)

/-- R397: the sections from a directory entry on laid over the image; the partitions follow in the order of their sections. -/
def laySections (i : CfgImage) : List SectionEnt → List PartDecl → List Byte → List Byte
  | [], _, base => base
  | s :: t, ds, base =>
    let body := if s.type = 1 then compositionBytes i.composition
      else if s.type = 2 then ((ds.head?).map declBytes).getD []
      else if s.type = 3 then i.regInit.flatMap regInitBytes
      else if s.type = 4 then i.firmware
      else []
    laySections i t (if s.type = 2 then ds.tail else ds) (layAt s.offset (body.take s.length) base)

/-- The signed bytes of an image: header, directory and sections (R396 to R400), zero between them. -/
def cfgBytes (i : CfgImage) : List Byte :=
  let head := cfgHeader i ++ i.sections.flatMap sectionBytes
  (laySections i i.sections i.partitions (head ++ List.replicate (i.totalLen - head.length) 0#8)).take i.totalLen

end Sys2Proof.Machine
end

