-- ==== Sys2Proof/Config.lean ====
section
/-!
DEFINITION. What the specification leaves open, as constants with no body: nothing can be proved of
their values (log entry 2). A free value is taken with a counter of the state, or is a function of
what it depends on.
-/
namespace Sys2Proof

/-- Fresh random or unspecified words, indexed by the free-value counter. -/
opaque Config.freeWord : Nat → W64

/-- What a vector routine other than a route descriptor computes (R50, R51, R68): the image's toolchain
defines its program. From the image (its measurement), the plan, the join, the layer, the output tile's
index in its band and its rows, and the input tiles of the band (input position, index in the band,
payload), to the result at a row and column of the output tile: a binary32 value in its low half, which the
station converts into the output's format (R45, R46, R48), or the word of a partial sum (R42, R56). -/
opaque Config.vectorRoutine (image plan join layer index rows : Nat) (inputs : List (Nat × Nat × List Byte)) (row col : Nat) : W64

/-- The embedding table whose rows a bag routine of an EM channel pools (R279): a bag record names none. From the image (its
measurement), the plan and the join. -/
opaque Config.bagTable : Nat → Nat → Nat → Nat

/-- The terms a handed-off sequence runs under at its destination, which no packet of a handoff
carries (R203, R248, log entry 15), and the rank of its adapter's version. -/
structure HandoffTerms where
  customer : Nat
  keep     : Bool
  stopEos  : Bool
  stop     : List Nat
  maxNew   : Nat
  nextIndex : Nat
  rank     : Nat
  deriving DecidableEq, Repr, Inhabited

/-- The terms of a request handed off to this device. -/
opaque Config.handoffTerms : Nat → HandoffTerms

/-- The replay entries (requester, `SEQ`, status) that the final transfer of a row migration brings
(R294, R295): no packet's layout carries them (log entry 22). From the free-value counter. -/
opaque Config.migratedReplays : Nat → List (Nat × Nat × Nat)

/-- The digest of the ROM and the fuses that boot step 1 extends into slot 0 (R405): the spec gives neither the ROM nor
how the fuses are laid out in what is hashed. From `SVN_FUSED`, `KEY_PROGRAMMED` and `KEY_REVOKED`. -/
opaque Config.fuseDigest : Nat → Nat → Nat → Nat

/-- The manufacturer's signature over the data of the endorsement record (R406). -/
opaque Config.endorsement : List Byte → List Byte

/-- The fuses of one fuse word (R404, R411): the spec programs fuses by the word and does not give its width. -/
opaque Config.fuseWordBits : Nat

/-- Whether a RESET_N pulse of 1 to 10 µs, given in ns, resets the device: the outcome depends on the part (R484). -/
opaque Config.resetPulse : Nat → Bool

/-- The lists that the state mover binds to streams at a step's launch (R361): no rule says which. From the partition and
the step's number, to pairs of a stream and a list (log entry 108). -/
opaque Config.boundLists : Nat → Nat → List (Nat × Nat)

end Sys2Proof
end

