-- ==== Sys2Proof/Machine/EmbRecords.lean ====
section
/-!
DEFINITION. The records of the embedding station (R273 to R296): table versions with their redirects and moved
ranges, gathers and updates in progress, replicas, the hot-row sketch, and migrations.
-/
namespace Sys2Proof.Machine

/-- A redirect entry (R278, R296). -/
structure Redirect where
  first  : Nat
  m      : Nat
  device : Nat
  region : Nat
  offset : Nat
  deriving DecidableEq, Repr

/-- A range of rows whose home moved to or from this device (R294, R295): where it lies here, if it does. -/
structure Moved where
  first : Nat
  m     : Nat
  place : Option (Nat × Nat)
  deriving DecidableEq, Repr

/-- A version's state (R276). -/
inductive VerState where
  | pending | current | retiring | retired
  deriving DecidableEq, Repr

/-- An installed version of a table (R273, R275). -/
structure TableVer where
  table     : Nat
  partMask  : Nat
  version   : Nat
  rows      : Nat
  width     : Nat
  fmt       : Nat
  log2Shard : Nat
  map       : List ShardEnt
  state     : VerState
  redirects : List Redirect
  moved     : List Moved
  deriving DecidableEq, Repr

/-- The join of a step whose band a gather pools (R279). -/
structure BagJoin where
  part  : Nat
  seq   : Nat
  join  : Nat
  layer : Nat
  band  : Nat
  deriving DecidableEq, Repr

/-- A gather in progress (R279 to R282), of a host's message or of a band of a step's join: its bags not yet answered, the number answered before them, whether it has a channel,
whether the rows of its current bag have been asked for, and of that bag the rows present, a failure, whether a replica served late, and whether the deadline
passed. `done` holds status, flags and vector of each bag answered. -/
structure Gather where
  id       : Nat
  port     : Nat
  hostTag  : Nat
  part     : Nat
  table    : Nat
  version  : Nat
  deadline : Nat
  bags     : List BagIn
  started  : Bool
  asked    : Bool
  rows     : List (Nat × List Byte)
  fail     : Option Nat
  stale    : Bool
  late     : Bool
  done     : List (Nat × Nat × List Byte)
  join     : Option BagJoin
  deriving DecidableEq, Repr

/-- An update in progress (R285): the status of each row that has ended. -/
structure Update where
  id       : Nat
  port     : Nat
  hostTag  : Nat
  table    : Nat
  version  : Nat
  statuses : List (Option Nat)
  deriving DecidableEq, Repr

/-- A replica (R291): its tag, its home, its value, when the read that filled it was issued, when the read
under way was, when it was last read, and whether it was read since its last refresh. -/
structure Replica where
  table   : Nat
  version : Nat
  row     : Nat
  part    : Nat
  device  : Nat
  region  : Nat
  bytes   : Option (List Byte)
  issued  : Nat
  asking  : Option Nat
  last    : Nat
  used    : Bool
  deriving DecidableEq, Repr

/-- A scatter-add that waits at the old home (R294): a packet, or this device's own (update x 256 + row). -/
inductive Queued where
  | pkt (p : FabPkt)
  | own (upd part row : Nat) (delta : List W32)
  deriving DecidableEq, Repr

/-- A migration record at the old home (R294): `state` 1 COPYING, 2 FINAL, 3 FORWARDING, 4 STALE; `written` whether the rows
have been sent, `copied` whether the bulk copy is done; `final` the bytes of the final transfer, and `replays` the replay
entries that go with it. -/
structure MigOut where
  id        : Nat
  table     : Nat
  version   : Nat
  first     : Nat
  m         : Nat
  newDevice : Nat
  newRegion : Nat
  newOffset : Nat
  state     : Nat
  port      : Nat
  hostTag   : Nat
  written   : Bool
  copied    : Bool
  dirty     : List Nat
  final     : Nat
  replays   : List ReplayEnt
  queue     : List Queued
  deriving DecidableEq, Repr

/-- A migration at the new home (R295): `state` 1 bulk copy, 2 final transfer awaited, 3 COMMIT awaited; where the
rows lie, once the first write came, and the bytes received. -/
structure MigIn where
  source  : Nat
  id      : Nat
  table   : Nat
  version : Nat
  first   : Nat
  m       : Nat
  state   : Nat
  place   : Option (Nat × Nat)
  bytes   : Nat
  queries : Nat
  deriving DecidableEq, Repr

/-- The embedding station. `prevs` holds, per table, the version that last left CURRENT and its `PREV_STATE`
(R299); `sketch` the counters that are not 0, by row of the sketch x 16,384 + index (R290); `epochMs` EMB_EPOCH as
taken at the last tick (R297). -/
structure Emb where
  vers     : List TableVer
  prevs    : List (Nat × Nat × Nat)
  sketch   : List (Nat × Nat)
  epochMs  : Nat
  gathers  : List Gather
  gatherId : Nat
  updates  : List Update
  updateId : Nat
  replicas : List Replica
  out      : List MigOut
  ins      : List MigIn
  lastMig  : Nat
  deriving DecidableEq, Repr

/-- No table installed; EMB_EPOCH at its reset value (R297). -/
def Emb.init : Emb :=
  { vers := [], prevs := [], sketch := [], epochMs := 10, gathers := [], gatherId := 0, updates := [], updateId := 0,
    replicas := [], out := [], ins := [], lastMig := 0 }

end Sys2Proof.Machine
end

