-- ==== Sys2Proof/Machine/Wire.lean ====
section
/-!
DEFINITION. The bytes of packets and host messages as a link carries them: the packet header (R317), the packet bodies (R212,
R213, R248, R287, R320, R327, R331, R350), and the packets of a message to a host (R228, R281, R370, R373, R379, R387).
Reserved fields are zero (R6).
-/
namespace Sys2Proof.Machine

/-- A little-endian 64-bit word of fields, each given by its lowest bit and its value. -/
def wordBytes (fs : List (Nat × Nat)) : List Byte := leBytes (sumN (fs.map (fun f => f.2 * 2 ^ f.1))) 8

/-- Bytes padded with zero to a multiple of `k`. -/
def padTo (k : Nat) (bs : List Byte) : List Byte := bs ++ List.replicate (roundUp bs.length k - bs.length) 0#8

/-- The 32-bit words of bytes, little-endian. -/
def u32sOf (bs : List Byte) : List Nat := (chunksOf 4 (bs.length + 1) bs).map natOfLe

/-! Packets. -/

/-- R317: the packet header, with a given `HOPS`. -/
def hdrBytes (h : FabHdr) (hops : Nat) : List Byte :=
  wordBytes [(48, h.dst), (32, h.src), (16, h.mapEpoch), (14, h.tc), (13, bitN h.last), (12, bitN h.pin), (11, bitN h.enc),
    (10, bitN h.combined), (6, hops)] ++
  wordBytes [(56, h.pktType), (43, h.payLen), (0, h.msgId)] ++
  wordBytes [(40, h.msgOffset), (15, h.totalLen)] ++
  wordBytes [(32, h.tsStamp), (0, h.tsEcho)]

/-- R248: the 16 common bytes of the move and phase packets. -/
def commonBytes (m : MoveCommon) : List Byte :=
  leBytes m.requestId 8 ++ leBytes m.placement 2 ++ leBytes 0 2 ++ leBytes m.moveId 4

/-- R327, R344: the entries of a seam write or of a grant write. -/
def entryBytes (b : SwWriteBody) : List Byte :=
  leBytes b.entries.length 2 ++ leBytes 0 6 ++
    (b.entries.map (fun e => leBytes e.1 4 ++ leBytes e.2.1 4 ++ leBytes e.2.2.toNat 8)).flatten

/-- R228: a token entry: its ID in bits 23:0, its mark in bit 31. -/
def markedBytes (t : Nat × Bool) : List Byte := leBytes (t.1 + bitN t.2 * 2 ^ 31) 4

/-- R287: the payload of a scatter-add, cut where the packet begins: the head of 24 bytes stands in the first packet. -/
def scatterBytes (b : EmbScatterBody) : List Byte :=
  (if b.head then leBytes b.table 1 ++ leBytes 0 3 ++ leBytes b.version 4 ++ leBytes b.seq 4 ++ leBytes 0 4 ++ leBytes b.row 8
   else []) ++ (b.delta.map (fun d => leBytes d.toNat 4)).flatten

/-- The payload bytes of a packet (R248, R287, R320, R327, R331, R350). -/
def bodyBytes : FabBody → List Byte
  | .nack b => leBytes b.status 2 ++ leBytes b.droppedType 1 ++ leBytes 0 1 ++ leBytes b.msgId 4 ++ leBytes b.msgOffset 4 ++ leBytes 0 4
  | .ccEcho => []
  | .swWrite b => entryBytes b
  | .swWriteAck b => leBytes b.status 2 ++ leBytes b.applied 2 ++ leBytes 0 4
  | .load b => leBytes b.region 2 ++ leBytes 0 6 ++ leBytes b.offset 8
  | .loadReply b => leBytes b.status 2 ++ leBytes 0 6 ++ b.data
  | .store b =>
    leBytes b.region 2 ++ leBytes b.data.length 1 ++ leBytes 0 5 ++ leBytes b.offset 8 ++ padTo 8 b.data
  | .storeAck b => leBytes b.status 2 ++ leBytes 0 6
  | .writeAck b => leBytes b.status 2 ++ leBytes 0 6
  | .read b => leBytes b.region 2 ++ leBytes 0 2 ++ leBytes b.readTag 4 ++ leBytes b.offset 8 ++ leBytes b.length 4 ++ leBytes 0 4
  | .readData b => leBytes b.status 2 ++ leBytes b.pktIndex 2 ++ leBytes b.readTag 4 ++ leBytes b.dataOffset 8 ++ b.data
  | .write b =>
    leBytes b.region 2 ++ leBytes (bitN b.trigEn) 1 ++ leBytes 0 1 ++ leBytes b.pktIndex 2 ++ leBytes b.trigger 2 ++
      leBytes b.dstOffset 8 ++ b.data
  | .atomic b =>
    leBytes b.region 2 ++ leBytes b.op 1 ++ leBytes b.try_ 1 ++ leBytes b.seq 4 ++ leBytes b.offset 8 ++ leBytes b.tgtEpoch 2 ++
      leBytes 0 6 ++ leBytes b.a0.toNat 8 ++ leBytes b.a1.toNat 8 ++ leBytes b.b0.toNat 8 ++ leBytes b.b1.toNat 8
  | .atomicReply b =>
    leBytes b.status 2 ++ leBytes b.tgtEpoch 2 ++ leBytes b.seq 4 ++ leBytes b.r0.toNat 8 ++ leBytes b.r1.toNat 8
  | .atomicCombined b =>
    leBytes b.region 2 ++ leBytes b.entries.length 1 ++ leBytes 0 5 ++ leBytes b.offset 8 ++ leBytes b.sum.toNat 8 ++
      (b.entries.map (fun e => leBytes e.1 2 ++ leBytes 0 2 ++ leBytes e.2.1 4 ++ leBytes e.2.2.toNat 8)).flatten
  | .atomicCombinedReply b =>
    leBytes b.status 2 ++ leBytes b.results.length 1 ++ leBytes 0 5 ++ (b.results.map (fun v => leBytes v.toNat 8)).flatten
  | .cancel b => leBytes b.cancelId 4 ++ leBytes 0 4
  | .cancelAck b => leBytes b.status 2 ++ leBytes 0 2 ++ leBytes b.cancelId 4
  | .rmaGrant b => entryBytes b
  | .revokeDone b =>
    leBytes b.target 2 ++ leBytes b.region 2 ++ leBytes b.status 2 ++ leBytes 0 2 ++ leBytes b.unsettled 4 ++ leBytes 0 4
  | .phasePlace b => commonBytes b.common ++ leBytes b.pktIndex 2 ++ leBytes 0 6 ++ b.data
  | .phaseReport b =>
    commonBytes b.common ++ leBytes b.kind 1 ++ leBytes b.tokens.length 1 ++ leBytes b.status 2 ++ leBytes b.firstIndex 4 ++
      leBytes b.committed 4 ++ leBytes b.next 1 ++ leBytes 0 3 ++ (b.tokens.map markedBytes).flatten ++
      (if b.kind = 6 then leBytes b.values.length 4 ++ (b.values.map (fun v => leBytes v.toNat 4)).flatten else [])
  | .phaseCtrl b => commonBytes b.common ++ leBytes b.action 1 ++ leBytes 0 1 ++ leBytes b.status 2
  | .moveOffer b =>
    commonBytes b.common ++ leBytes b.kind 1 ++ leBytes 0 1 ++ leBytes b.commitWait 2 ++ leBytes b.silenceMs 2 ++
      leBytes b.adapter 2 ++ leBytes b.adapterVer 4 ++ leBytes b.ttlLeftMs 4 ++ leBytes b.pages 4 ++ leBytes b.baseMeas 32 ++
      leBytes b.draftMeas 32
  | .moveReply b => commonBytes b.common ++ leBytes b.status 2 ++ leBytes b.rxRegion 2 ++ leBytes 0 4 ++ leBytes b.rxOffset 8
  | .moveAck b => commonBytes b.common ++ leBytes b.bytes 8
  | .moveCommit b => commonBytes b.common
  | .moveAbort b => commonBytes b.common ++ leBytes b.status 2 ++ leBytes 0 2
  | .moveQuery b => commonBytes b.common
  | .moveAnswer b => commonBytes b.common ++ leBytes b.answer 1
  | .movePull b => commonBytes b.common ++ leBytes b.deadline 4
  | .embRead b =>
    leBytes b.table 1 ++ leBytes 0 1 ++ leBytes b.rows.length 2 ++ leBytes b.version 4 ++ leBytes b.deadline 4 ++ leBytes 0 4 ++
      (b.rows.map (fun r => leBytes r 8)).flatten
  | .embRows b => leBytes b.status 2 ++ leBytes b.rows.length 2 ++ leBytes b.version 4 ++ leBytes 0 8 ++ b.rows.flatten
  | .embScatter b => scatterBytes b
  | .embScatterAck b => leBytes b.status 2 ++ leBytes 0 2 ++ leBytes b.seq 4
  | .embRedirect b =>
    leBytes b.status 2 ++ leBytes b.table 1 ++ leBytes b.log2Rows 1 ++ leBytes b.version 4 ++ leBytes b.firstRow 8 ++
      leBytes b.newDevice 2 ++ leBytes b.newRegion 2 ++ leBytes 0 4 ++ leBytes b.newOffset 8
  | .migOffer b =>
    leBytes b.table 1 ++ leBytes b.log2Rows 1 ++ leBytes 0 2 ++ leBytes b.version 4 ++ leBytes b.firstRow 8 ++ leBytes b.migId 4 ++
      leBytes 0 4
  | .migReply b => commonBytes b.common ++ leBytes b.status 2 ++ leBytes b.rxRegion 2 ++ leBytes 0 4 ++ leBytes b.rxOffset 8
  | .migAck b => commonBytes b.common ++ leBytes b.phase 1 ++ leBytes b.bytes 8
  | .migCommit b => commonBytes b.common
  | .migAbort b => commonBytes b.common ++ leBytes b.status 2 ++ leBytes 0 2
  | .raw bs => bs

/-- The payload bytes of a body in the clear. -/
def bodyLen (b : FabBody) : Nat := (bodyBytes b).length

/-! Encryption (R363). -/

/-- R363: the encryption header. -/
def encHdr (h : FabHdr) : List Byte := leBytes h.encPart 1 ++ leBytes h.encEpoch 1 ++ leBytes 0 6 ++ leBytes h.nonce 8

/-- R363: the IV of a packet. -/
def encIv (h : FabHdr) : List Byte := leBytes h.src 2 ++ leBytes 0 2 ++ leBytes h.nonce 8

/-- R363: the additional data of a packet. -/
def encAad (h : FabHdr) : List Byte := hdrBytes h 0 ++ encHdr h

/-- R317, R363, R370: a packet in its class's payload stream: its header and payload, up to the next 16-byte boundary. -/
def pktBytes (k : FabPkt) : List Byte :=
  padTo 16 (hdrBytes k.hdr k.hdr.hops ++ (if k.hdr.enc then encHdr k.hdr ++ k.hdr.wire else bodyBytes k.body))

/-! Phase placements (R212, R213, R248). -/

/-- R248: what the packets of a placement carry. `tokenLog` is the anchor's own. -/
structure PlacedPhase where
  source    : Nat
  holder    : Nat
  silenceMs : Nat
  tokenLog  : Nat
  collar    : CollarImg
  deriving DecidableEq, Repr

/-- R212: the collar header. -/
def collarBytes (m : CollarImg) (tokenLog : Nat) : List Byte :=
  wordBytes [(0, m.requestId)] ++ wordBytes [(0, m.hostTag)] ++
  wordBytes [(60, m.part), (48, m.customer), (32, m.adapter), (0, m.adapterVer)] ++
  wordBytes [(61, m.lcState), (60, bitN m.onePass), (59, bitN m.keep), (58, bitN m.stopEos), (57, bitN m.summaryOnly), (52, m.port),
    (48, m.nStop), (32, m.placement), (16, m.homeDevice), (0, m.endStatus)] ++
  wordBytes [(32, m.committed), (0, m.lastEmitted)] ++ wordBytes [(32, m.maxNew), (0, m.promptLen)] ++
  wordBytes [(0, m.startTime)] ++ wordBytes [(0, m.lastEmitTime)] ++ wordBytes [(48, m.runs.length), (0, tokenLog)] ++
  ((upTo 4).map (fun i => leBytes (m.samp.getD i 0#64).toNat 8)).flatten ++
  ((upTo 8).map (fun i => leBytes (m.stop.getD i 0) 4)).flatten ++ List.replicate 120 0#8

/-- R248: the bytes that the packets of a placement carry. -/
def placeBytes (p : PlacedPhase) : List Byte :=
  leBytes p.source 1 ++ leBytes 0 1 ++ leBytes p.holder 2 ++ leBytes p.silenceMs 2 ++ leBytes 0 2 ++
  collarBytes p.collar p.tokenLog ++ (p.collar.runs.map (fun r => leBytes (r.1 + bitN r.2 * 2 ^ 31) 4)).flatten ++
  (p.collar.log.map markedBytes).flatten

/-- Word `i` of the collar header in a placement's bytes. -/
def placeWord (bs : List Byte) (i : Nat) : W64 := BitVec.ofNat 64 (natOfLe ((bs.drop (8 + 8 * i)).take 8))

/-- R6, R212, R213, R248: whether a placement's bytes have the layout: their length, their codes, their reserved bits. -/
def placeForm (bs : List Byte) : Bool :=
  let w := placeWord bs
  let n := fieldOf (w 8) 63 48
  let head := u32sOf (bs.take 8)
  decide (264 + 4 * n ≤ bs.length) && bs.length % 4 == 0 && decide (1 ≤ n) && decide (n ≤ 256) &&
    (head.getD 0 0 % 256 == 0 || head.getD 0 0 % 256 == 2) && head.getD 0 0 / 256 % 256 == 0 && head.getD 1 0 / 65536 == 0 &&
    decide (fieldOf (w 3) 63 61 ≤ 6) && fieldOf (w 3) 56 54 == 0 && decide (fieldOf (w 3) 51 48 ≤ 8) &&
    ((bs.drop 144).take 120).all (fun b => b == 0#8) &&
    (u32sOf ((bs.drop 264).take (4 * n))).all (fun r => r / 2 ^ 21 % 2 ^ 10 == 0) &&
    (u32sOf (bs.drop (264 + 4 * n))).all (fun t => t / 2 ^ 24 % 2 ^ 7 == 0)

/-- R212, R213, R248: the placement its bytes spell. -/
def placementOf (bs : List Byte) : Option PlacedPhase :=
  let w := placeWord bs
  let n := fieldOf (w 8) 63 48
  let head := u32sOf (bs.take 8)
  if placeForm bs then
    some { source := head.getD 0 0 % 256, holder := head.getD 0 0 / 65536, silenceMs := head.getD 1 0 % 65536,
           tokenLog := fieldOf (w 8) 47 0,
           collar := { requestId := (w 0).toNat, hostTag := (w 1).toNat, part := fieldOf (w 2) 63 60, customer := fieldOf (w 2) 59 48,
                       adapter := fieldOf (w 2) 47 32, adapterVer := fieldOf (w 2) 31 0, lcState := fieldOf (w 3) 63 61,
                       onePass := bitOf (w 3) 60, keep := bitOf (w 3) 59, stopEos := bitOf (w 3) 58, summaryOnly := bitOf (w 3) 57,
                       port := fieldOf (w 3) 53 52, nStop := fieldOf (w 3) 51 48, placement := fieldOf (w 3) 47 32,
                       homeDevice := fieldOf (w 3) 31 16, endStatus := fieldOf (w 3) 15 0, committed := fieldOf (w 4) 63 32,
                       lastEmitted := fieldOf (w 4) 31 0, maxNew := fieldOf (w 5) 63 32, promptLen := fieldOf (w 5) 31 0,
                       startTime := (w 6).toNat, lastEmitTime := (w 7).toNat, samp := [w 9, w 10, w 11, w 12],
                       stop := u32sOf ((bs.drop 112).take 32),
                       runs := (u32sOf ((bs.drop 264).take (4 * n))).map (fun r => (r % 2 ^ 21, r.testBit 31)),
                       log := (u32sOf (bs.drop (264 + 4 * n))).map (fun t => (t % 2 ^ 24, t.testBit 31)) } }
  else none

/-! Messages that span packets (R317, R357). -/

/-- R317: the header of one packet of a message: its payload of `n` bytes at an offset of the message. -/
def pktOf (h : FabHdr) (offset n total : Nat) : FabHdr :=
  { h with payLen := n, msgOffset := offset, totalLen := total, last := offset + n == total }

/-- R287, R317: a scatter-add cut into packets of at most `lim` payload bytes: each packet's body (log entry 35). -/
def scatterPkts (lim : Nat) (b : EmbScatterBody) : List EmbScatterBody :=
  let first := (lim - 24) / 4
  { b with delta := b.delta.take first } :: (chunksOf (lim / 4) b.delta.length (b.delta.drop first)).map (fun d =>
    { table := 0, version := 0, seq := 0, row := 0, head := false, delta := d, rsvd := 0 })

/-- R287: the scatter-add that the bytes of a message spell. -/
def scatterOf (bs : List Byte) : EmbScatterBody :=
  { table := natOfLe (bs.take 1), version := natOfLe ((bs.drop 4).take 4), seq := natOfLe ((bs.drop 8).take 4),
    row := natOfLe ((bs.drop 16).take 8), head := true, delta := (u32sOf (bs.drop 24)).map (BitVec.ofNat 32), rsvd := 0 }

/-! Messages to a host. -/

/-- R478: the type of a message. -/
def hostType : HostMsg → Nat
  | .linkSync .. => 0x01 | .regData .. => 0x32 | .ack .. => 0x40 | .state .. => 0x41 | .tokens .. => 0x42 | .result .. => 0x43
  | .ended .. => 0x44 | .embResult .. => 0x45 | .bulkRead .. => 0x50 | .bulkWrite .. => 0x52

/-- The body bytes of a message (R228, R281, R373, R379, R387). -/
def hostBytes : HostMsg → List Byte
  | .ack tag req status value => leBytes tag 8 ++ leBytes req 8 ++ leBytes status 2 ++ leBytes 0 2 ++ leBytes value 4
  | .state tag req lc sum st pl home n last =>
    leBytes tag 8 ++ leBytes req 8 ++ leBytes lc 1 ++ leBytes (bitN sum) 1 ++ leBytes st 2 ++ leBytes pl 2 ++ leBytes home 2 ++
      leBytes n 4 ++ leBytes last 4
  | .tokens req tag first toks final after =>
    leBytes req 8 ++ leBytes tag 8 ++ leBytes first 4 ++ leBytes toks.length 1 ++ leBytes (bitN final + 2 * bitN after) 1 ++
      leBytes 0 2 ++ (toks.map markedBytes).flatten
  | .result req tag vs =>
    leBytes req 8 ++ leBytes tag 8 ++ leBytes vs.length 4 ++ leBytes 0 4 ++ (vs.map (fun v => leBytes v.toNat 4)).flatten
  | .ended req tag status n => leBytes req 8 ++ leBytes tag 8 ++ leBytes status 2 ++ leBytes 0 2 ++ leBytes n 4
  | .embResult tag version bags =>
    leBytes tag 8 ++ leBytes bags.length 2 ++ leBytes 0 2 ++ leBytes version 4 ++
      (bags.map (fun b => leBytes b.1 2 ++ leBytes b.2.1 2 ++ leBytes 0 4 ++ padTo 8 b.2.2)).flatten
  | .regData tag status vs =>
    leBytes tag 8 ++ leBytes status 2 ++ leBytes vs.length 1 ++ leBytes 0 5 ++ (vs.map (fun v => leBytes v.toNat 8)).flatten
  | .linkSync session e0 e1 e2 => leBytes session 8 ++ leBytes e0 4 ++ leBytes e1 4 ++ leBytes e2 4 ++ leBytes 0 12
  | .bulkRead tag length addr => leBytes tag 4 ++ leBytes length 4 ++ leBytes addr 8
  | .bulkWrite tag addr data => leBytes tag 4 ++ leBytes 0 4 ++ leBytes addr 8 ++ data

/-- R370: the packets of a message in a class under its number: 16-byte headers, payloads of at most 4,096 bytes padded to 16. -/
def hostPkts (hc n : Nat) (m : HostMsg) : List (List Byte) :=
  let bs := hostBytes m
  ((chunksOf 4096 (bs.length + 1) bs).zipIdx).map (fun x =>
    wordBytes [(56, hostType m), (54, hc), (53, bitN (4096 * x.2 + x.1.length == bs.length)), (40, x.1.length), (0, n)] ++
    wordBytes [(40, 4096 * x.2), (15, bs.length)] ++ padTo 16 x.1)

end Sys2Proof.Machine
end

