-- ==== Sys2Proof/Machine/Link.lean ====
section
/-!
DEFINITION. The flit layer of one port (R312 to R314): CRC-32C, the fields of a flit, the
go-back-N replay buffer, credits, and the sending of messages as flits.
-/
namespace Sys2Proof.Machine

/-- R313: the sender's replay buffer holds 1,024 flits. -/
def replayCap : Nat := 1024

/-- R314: the credits of each class after training. -/
def fullCredits : List Nat := [192, 192, 192, 192]

/-- A port before its first training. -/
def Link.init {α : Type} : Link α :=
  { signal := false, attempt := 0, retry := false, ownerFence := false, devFence := false,
    laneDev := 0, lanes := 0, tx := 0, rx := 0, nacked := false, replay := [], replays := 0,
    credits := fullCredits, out := [] }

/-! CRC-32C (R312). -/

/-- One bit step of the reflected CRC with polynomial 0x82F63B78. -/
def crcStep (c : Nat) : Nat := if c % 2 = 1 then (c / 2) ^^^ 0x82F63B78 else c / 2

/-- One byte. -/
def crcByte (c : Nat) (b : Byte) : Nat :=
  let c := c ^^^ b.toNat
  crcStep (crcStep (crcStep (crcStep (crcStep (crcStep (crcStep (crcStep c)))))))

/-- CRC-32C of bytes. -/
def crc32c (bs : List Byte) : Nat := (bs.foldl crcByte 0xFFFFFFFF) ^^^ 0xFFFFFFFF

/-- The fields of a flit (R312). -/
structure FlitFields where
  type   : Nat
  seq    : Nat
  ack    : Nat
  crdTc  : Nat
  crdN   : Nat
  crd2Tc : Nat
  crd2N  : Nat
  crcOk  : Bool
  deriving DecidableEq, Repr

/-- R312: a flit's fields read from its 256 bytes. -/
def flitFields (f : Flit) : FlitFields :=
  let w := BitVec.ofNat 64 (natOfLe (f.bytes.take 8))
  let t := BitVec.ofNat 64 (natOfLe ((f.bytes.drop 248).take 4))
  { type := fieldOf w 63 61, seq := fieldOf w 60 49, ack := fieldOf w 48 37,
    crdTc := fieldOf w 32 31, crdN := fieldOf w 30 23,
    crd2Tc := fieldOf t 31 30, crd2N := fieldOf t 29 22,
    crcOk := f.bytes.length == 256 &&
      crc32c (f.bytes.take 252) == natOfLe ((f.bytes.drop 252).take 4) }

/-- Add `n` at position `i` of a list of counts. -/
def addAt (l : List Nat) (i n : Nat) : List Nat := l.set i (l.getD i 0 + n)

/-- Packets without their first `n` bytes, and whether the first that is left has begun. -/
def dropBytes : List (List Byte) → Nat → Bool → List (List Byte) × Bool
  | [], _, _ => ([], false)
  | p :: ps, n, mid =>
    if n = 0 then (p :: ps, mid)
    else if p.length ≤ n then dropBytes ps (n - p.length) false else (p.drop n :: ps, true)

/-- The next flit of a class: its payload, `FIRST_PKT`, the items it ends, and what still waits to leave. -/
structure NextFlit (α : Type) where
  payload : List Byte
  first   : Nat
  items   : List α
  out     : List (OutMsg α)
  deriving DecidableEq, Repr

/-- R312: the place of the first packet header that a message begins in a flit, after the `used` bytes before it. -/
def firstHead {α : Type} (m : OutMsg α) (used : Nat) : Option Nat :=
  let at_ := used + (if m.mid then (m.pkts.headD []).length else 0)
  if (!m.mid || decide (1 < m.pkts.length)) && decide (at_ < 240) then some (at_ / 16) else none

/-- R312: a flit filled from the messages of a class that wait, in order: each packet starts at a 16-byte boundary, and a packet
may span flits. -/
def fillFlit {α : Type} (tc : Nat) : List (OutMsg α) → Nat → NextFlit α
  | [], _ => ⟨[], 15, [], []⟩
  | m :: ms, used =>
    if m.tc = tc ∧ used < 240 then
      let bs := m.pkts.flatten
      let n := min (240 - used) bs.length
      let (ps, mid) := dropBytes m.pkts n m.mid
      let r := fillFlit tc ms (used + n)
      ⟨bs.take n ++ r.payload, (firstHead m used).getD r.first, if ps.isEmpty then m.item :: r.items else r.items,
       if ps.isEmpty then r.out else { m with begun := true, pkts := ps, mid := mid } :: r.out⟩
    else
      let r := fillFlit tc ms used
      { r with out := m :: r.out }

/-- R313, R314: the flits that may leave now: while a message waits whose class has credit and
the replay buffer has room, the next flit of its class is sent, its payload filled up with zero. A class that waits for credit
holds no other class. -/
def Link.flushFuel {α : Type} : Nat → Link α → Link α
  | 0, l => l
  | k + 1, l =>
    if l.replay.length < replayCap then
      match l.out.find? (fun (o : OutMsg α) => decide (0 < l.credits.getD o.tc 0)) with
      | none => l
      | some o =>
        let r := fillFlit o.tc l.out 0
        let f : SentFlit α := ⟨l.tx, o.tc, r.first, padTo 240 r.payload, r.items⟩
        Link.flushFuel k
          { l with tx := wrapSucc 12 l.tx, replay := l.replay ++ [f], out := r.out,
                   credits := l.credits.set o.tc (l.credits.getD o.tc 0 - 1) }
    else l

/-- Send what may leave now. -/
def Link.flush {α : Type} (l : Link α) : Link α := Link.flushFuel replayCap l

/-- Queue a message of some packets for sending. -/
def Link.push {α : Type} (l : Link α) (tc : Nat) (pkts : List (List Byte)) (a : α) : Link α :=
  { l with out := l.out ++ [⟨tc, a, false, pkts, false⟩] }

/-- R313: the flits up to `ack` leave the replay buffer; the items whose last byte they carried
are delivered. -/
def Link.acked {α : Type} (l : Link α) (ack : Nat) : Link α × List α :=
  if l.replay.any (fun f => f.seq == ack) then
    let gone := l.replay.takeWhile (fun f => f.seq != ack)
    let rest := l.replay.drop (gone.length + 1)
    let items := ((l.replay.take (gone.length + 1)).map SentFlit.items).flatten
    ({ l with replay := rest, replays := 0 }, items)
  else (l, [])

/-- R314: credits returned, at most the class's buffer. -/
def Link.credit {α : Type} (l : Link α) (tc n : Nat) : Link α :=
  { l with credits := l.credits.set tc (min 192 (l.credits.getD tc 0 + n)) }

/-- R304 step 7, R366: training leaves an empty replay buffer, flit sequence 0, full credits. -/
def Link.fresh {α : Type} (l : Link α) : Link α :=
  { l with tx := 0, rx := 0, nacked := false, replay := [], replays := 0, credits := fullCredits,
           out := [], attempt := 0, retry := false }

/-- R316, R367: the replay buffer is discarded, and what waits to leave with it. -/
def Link.discard {α : Type} (l : Link α) : Link α :=
  { l with replay := [], replays := 0, nacked := false, out := [] }

/-- The items that wait to leave of which no flit has left. -/
def Link.unsent {α : Type} (l : Link α) : List α := (l.out.filter (fun o => !o.begun)).map OutMsg.item

/-- R316: the items lost with a replay buffer: those whose last byte was sent, and those partly sent. -/
def Link.lost {α : Type} (l : Link α) : Nat :=
  ((l.replay.map SentFlit.items).flatten).length + (l.out.filter OutMsg.begun).length

/-- R315: the items that pass a test leave a port's buffers; the flits that carried their bytes stay numbered. -/
def Link.dropItems {α : Type} (l : Link α) (p : α → Bool) : Link α :=
  { l with out := l.out.filter (fun o => !p o.item),
           replay := l.replay.map (fun f => { f with items := f.items.filter (fun a => !p a) }) }

/-- The lanes of a mask, lowest first. -/
def lanesOf (m : Nat) : List Nat := (upTo 8).filter (fun i => m.testBit i)

/-- R304 step 5: the width and the lanes a set of common lanes gives. -/
def linkWidth (common : Nat) : Nat × Nat :=
  let l := lanesOf common
  let w := if 8 ≤ l.length then 8 else if 4 ≤ l.length then 4 else if 2 ≤ l.length then 2
           else if 1 ≤ l.length then 1 else 0
  (w, sumN ((l.take w).map (fun i => 2 ^ i)))

/-- The lanes of `a` that `b` does not have. -/
def lanesMinus (a b : Nat) : Nat := a &&& (b ^^^ 0xFF)

end Sys2Proof.Machine
end

