-- ==== Sys2Proof/Machine/Records.lean ====
section
/-!
DEFINITION. The records of the always-on and hub infrastructure: the event recorder (R443 to
R452), power and clocks (R424 to R442), boot, attestation and the contents of flash and fuses
(R395 to R417).
-/
namespace Sys2Proof.Machine

/-- An event record (R443). -/
structure EvRec where
  seq        : Nat
  code       : Nat
  sev        : Nat
  domain     : Nat
  refKind    : Nat
  suppressed : Nat
  part       : Nat
  param0     : Nat
  ref        : Nat
  param1     : Nat
  deriving DecidableEq, Repr

/-- The token bucket of a code (R447) with its suppressed count (R448). -/
structure Bucket where
  tok  : Nat
  last : Nat
  supp : Nat
  deriving DecidableEq, Repr

/-- The event recorder (R444 to R452). `ring` and `early` hold records oldest first. `queue`
is the mirror queue; `mirPos` the next slot of the mirror (sector x 128 + slot), `mirNext`
whether the next sector is erased, `mirHdr` whether the current sector still needs its header,
`mirSeq` its `SECTOR_SEQ`, `fullSeen` that EV_EVT_MIRROR_DROPPED was logged while the queue
stays full. -/
structure Evt where
  seqCtr    : Nat
  live      : Bool
  mirLive   : Bool
  ring      : List EvRec
  early     : List EvRec
  earlyDrop : List Nat
  buckets   : List (Nat × Bucket)
  rates     : List (Nat × Nat)
  queue     : List EvRec
  fullSeen  : Bool
  mirPos    : Nat
  mirNext   : Bool
  mirHdr    : Bool
  mirSeq    : Nat
  deriving DecidableEq, Repr

/-- What brings a domain back after its down sequence (R427). -/
inductive Return where
  | stay | command | dependency | thermal
  deriving DecidableEq, Repr

/-- The power controller and the clocks (R420 to R442). `ret` and `ownerOff` hold one entry per
domain; `cmd` is the running PWR_DOMAIN_CMD (command, domain); `modReset` a requested module
reset; `inCold` the device is held in module cold reset with this cause until released;
`lowRun` and `highRun` how long V_IN has been low or high in microseconds, `underRun`,
`overRun` the runs of R420's fault classes, `normRun` how long it has been normal, `episode`
whether the episode was logged; `samples` the input power of the last 100 samples, newest
first; `below`, `since` the counters of R437; `pLevel`, `dLevel` the power levels of the
P-engines and D-engines; `vMv` the last input voltage in mV; `limiting`, `thermSeen` whether an episode is logged; `therm` the
thermal levels of quadrants 0 to 3 and of the hub and conversion sensors (as sensors 0 to 9);
`thermMax` the highest readings; `halved` the stacks whose refresh interval is halved; `clockHold` a lost clock holds every
other domain in reset (R423). -/
structure Pwr where
  ret       : List Return
  ownerOff  : List Bool
  cmd       : Option (Nat × Nat)
  modReset  : Bool
  inCold    : Option Nat
  rootLocked : Bool
  refPresent : Bool
  vMv       : Nat
  lowRun    : Nat
  highRun   : Nat
  underRun  : Nat
  overRun   : Nat
  normRun   : Nat
  episode   : Nat
  inputFault : Bool
  samples   : List Nat
  below     : Nat
  since     : Nat
  pLevel    : Nat
  dLevel    : Nat
  limiting  : Bool
  therm     : List Nat
  thermSeen : List Bool
  thermMax  : List (Option Int)
  halved    : List Bool
  clockHold : Bool
  deriving DecidableEq, Repr

/-- Board memory as it is trained and placed (R493 to R497). `t2Mib` is the usable T2 in MiB,
`collarOk` whether the collar region is carved, `t2Ok` the partitions whose T2 share is placed;
`marked` the byte addresses of lines marked by the scrub (multiples of 64); `dimmHot` and
`dimmSlow` the channels whose refresh is halved and whose command rate is halved; `stackBad` the stacks
whose last training failed. -/
structure Board where
  t2Mib    : Nat
  collarOk : Bool
  t2Ok     : List Bool
  marked   : List Nat
  dimmHot  : List Nat
  dimmSlow : List Nat
  stackBad : List Nat
  deriving DecidableEq, Repr

/-- The running BOOT_CMD (R417): its number and the word that started it; the slot or calibration copy (0 A, 1 B) it
writes, with the image or the entries and their `SEQ`; the units left; whether it waits for its image to be read; and
whether a hub restart or load shedding cut it off, so that only the unit in progress still ends (R411). -/
structure BootRun where
  cmd   : Nat
  word  : W64
  slot  : Nat
  img   : Option CfgImage
  seq   : Nat
  cal   : List (Nat × Nat × List Byte)
  units : Nat
  waits : Bool
  cut   : Bool
  deriving DecidableEq, Repr

/-- A document being produced (R408): its kind, output window and offset, its body, the log that follows it, and whether
it is signed and on its way to the host. -/
structure DocRun where
  kind   : Nat
  port   : Nat
  window : Nat
  offset : Nat
  body   : List Byte
  log    : List Byte
  signed : Bool
  length : Nat
  deriving DecidableEq, Repr

/-- Boot, configuration and attestation (R391 to R417). `img` is the applied image; `log` the
measurement log (R405): (slot, kind, index, digest); `nonce` the words of SEC_QUOTE_NONCE; `svnDue` that SVN_COMMIT
is to run by itself (R404); `smbOut` the bytes of the last SMBus read (R394); `calUse` the baseline of the next trainings and `trained` the calibration values in use (R414,
R415), as (kind, index, contents). -/
structure Boot where
  img       : Option CfgImage
  completed : Bool
  log       : List (Nat × Nat × Nat × List Byte)
  overflow  : Bool
  docSeq    : Nat
  doc       : Option DocRun
  run       : Option BootRun
  nonce     : List W64
  smbOffset : Nat
  calUse    : List (Nat × Nat × List Byte)
  trained   : List (Nat × Nat × List Byte)
  healthHold : Option W64
  straps    : Nat
  svnDue    : Bool
  smbOut    : List Byte
  deriving DecidableEq, Repr

/-- A calibration copy in flash (R414): whether the flash holds one, the fields of its header (`rsvd` the two reserved fields in
order), and its entries (kind, index, contents). -/
structure CalCopy where
  present : Bool
  magic   : Nat
  format  : Nat
  rsvd    : Nat
  seq     : Nat
  digest  : Nat
  entries : List (Nat × Nat × List Byte)
  deriving DecidableEq, Repr

/-- The times that the flash's JESD216 parameter table gives (R395, R411), in microseconds: the
rewrite of a sector, a page program, a sector erase. -/
structure FlashTimes where
  sectorUs : Nat
  pageUs   : Nat
  eraseUs  : Nat
  deriving DecidableEq, Repr

/-- What survives a loss of power (R395, R403): the fuses (`secret` the 256-bit device secret), the image slots, the calibration
records, the event mirror (sparse: an unlisted slot of 32 bytes is erased) and the flash's
parameter table. -/
structure Nv where
  serial      : W64
  svnFused    : Nat
  keys        : List (Option Nat)
  revoked     : List Bool
  factoryLock : Bool
  secret      : Nat
  slots       : List (Option CfgImage)
  factory     : CalCopy
  copyA       : CalCopy
  copyB       : CalCopy
  mirror      : List (Nat × List W64)
  flash       : FlashTimes
  deriving DecidableEq, Repr

end Sys2Proof.Machine
end

