-- ==== Sys2Proof/Machine/Regs.lean ====
section
/-!
DEFINITION. The register map (R459 to R475): the offset of every register, its access type, its
reset value, and the writable fields of every RW register with their ranges (R7).
-/
namespace Sys2Proof.Machine

/-- The access types of R5; `cnt` is an RL register that is a statistics counter (R453). -/
inductive Access where
  | ro | rw | w1c | wo | rl | cnt
  deriving DecidableEq, Repr

/-- A group of registers: `count` words from `base`, `stride` bytes apart. -/
structure RegRange where
  name   : String
  base   : Nat
  stride : Nat
  count  : Nat
  access : Access
  deriving DecidableEq, Repr

namespace Reg

/-! Offsets, block by block (R459). -/
/-- R466. -/
def idPart : Nat := 0x0
/-- R466. -/
def idSerial : Nat := 0x8
/-- R467. -/
def idDevice : Nat := 0x10
/-- R468. -/
def idCapScale : Nat := 0x18
/-- R469. -/
def idCapStations : Nat := 0x20
/-- R470. -/
def idCapLinks : Nat := 0x28
/-- R470. -/
def idCapMem : Nat := 0x30
/-- R471. -/
def idCapLimits : Nat := 0x38
/-- R416. -/
def idBootStatus : Nat := 0x80
/-- R472. -/
def idHealth : Nat := 0x88
/-- R417. -/
def bootCmd : Nat := 0x100000
/-- R417. -/
def bootCmdArg : Nat := 0x100008
/-- R417. -/
def bootCmdStatus : Nat := 0x100010
/-- R418. -/
def bootHoldup : Nat := 0x100018
/-- R418: two words. -/
def bootHoldupStatus : Nat := 0x100020
/-- R405: word w of register n. -/
def secMeas (n w : Nat) : Nat := 0x100100 + 32 * n + 8 * w
/-- R409. -/
def secHostAccess (p : Nat) : Nat := 0x100200 + 8 * p
/-- R409. -/
def secProtect : Nat := 0x100280
/-- R408. -/
def secQuoteNonce (w : Nat) : Nat := 0x100300 + 8 * w
/-- R408. -/
def secQuoteCmd : Nat := 0x100320
/-- R408. -/
def secQuoteStatus : Nat := 0x100328
/-- R408. -/
def secQuoteArg : Nat := 0x100330
/-- R406. -/
def secAikPublic (w : Nat) : Nat := 0x100340 + 8 * w
/-- R403. -/
def secFuseStatus : Nat := 0x100360
/-- R416: two words. -/
def secBootId (w : Nat) : Nat := 0x100380 + 8 * w
/-- R403: word w of the key hash of slot k. -/
def secKeyHash (k w : Nat) : Nat := 0x100400 + 32 * k + 8 * w
/-- R419. -/
def bootHoldupDeferrals : Nat := 0x100800
/-- R419. -/
def bootFlashUnits : Nat := 0x100808
/-- R419. -/
def secDocsSigned : Nat := 0x100810
/-- R428. -/
def pwrDomainCmd : Nat := 0x200000
/-- R428. -/
def pwrDomainCmdStatus : Nat := 0x200008
/-- R436. -/
def pwrModuleReset : Nat := 0x200010
/-- R436. -/
def pwrResetStatus : Nat := 0x200018
/-- R429. -/
def pwrDomainStatus (d : Nat) : Nat := 0x200100 + 8 * d
/-- R439. -/
def pwrLimitCtrl : Nat := 0x200200
/-- R439. -/
def pwrInputStatus : Nat := 0x200208
/-- R439. -/
def pwrThrottleStatus : Nat := 0x200210
/-- R441. -/
def pwrThermalCtrl : Nat := 0x200300
/-- R441. -/
def pwrThermalStatus (s : Nat) : Nat := 0x200380 + 8 * s
/-- R424. -/
def clkStatus : Nat := 0x200400
/-- R424. -/
def clkLocalTime : Nat := 0x200408
/-- R442: counter i. -/
def pwrCnt (i : Nat) : Nat := 0x201000 + 8 * i
/-- R449. -/
def evtRingStatus : Nat := 0x300000
/-- R449. -/
def evtRingOldest : Nat := 0x300008
/-- R449. -/
def evtRingFill : Nat := 0x300010
/-- R450. -/
def evtRateSel : Nat := 0x300100
/-- R450. -/
def evtRate : Nat := 0x300108
/-- R449. -/
def evtReadSel : Nat := 0x300200
/-- R449. -/
def evtReadData (w : Nat) : Nat := 0x300208 + 8 * w
/-- R449. -/
def evtLastSevere (w : Nat) : Nat := 0x300240 + 8 * w
/-- R452. -/
def evtMirrorSel : Nat := 0x300300
/-- R452. -/
def evtMirrorData (w : Nat) : Nat := 0x300308 + 8 * w
/-- R455. -/
def cntClear : Nat := 0x300400
/-- R456. -/
def evtDropped (s : Nat) : Nat := 0x301000 + 8 * s
/-- R456. -/
def evtSuppressed : Nat := 0x301038
/-- R456. -/
def evtMirrorWritten : Nat := 0x301040
/-- R456. -/
def evtMirrorDropped : Nat := 0x301048
/-- R456. -/
def evtEarlyDropped : Nat := 0x301050
/-- R241: counter i. -/
def reqCnt (i : Nat) : Nat := 0x401000 + 8 * i
/-- R27. -/
def partModeStatus (p : Nat) : Nat := 0x402000 + 8 * p
/-- R80. -/
def partFitStatus (p : Nat) : Nat := 0x402080 + 8 * p
/-- R84. -/
def partStepWatchdog : Nat := 0x402100
/-- R206. -/
def partSpecCtrl (p : Nat) : Nat := 0x402180 + 8 * p
/-- R216. -/
def partState (p : Nat) : Nat := 0x402200 + 8 * p
/-- R218. -/
def partReload : Nat := 0x402280
/-- R235. -/
def partAdmitCtrl (p : Nat) : Nat := 0x402300 + 8 * p
/-- R236. -/
def tenRefillCtrl : Nat := 0x402380
/-- R240. -/
def tenHistSnap : Nat := 0x402388
/-- R240. -/
def tenHistSnapBin (b : Nat) : Nat := 0x402400 + 8 * b
/-- R209: counter i of partition p. -/
def partSpecCnt (p i : Nat) : Nat := 0x403000 + 0x40 * p + 8 * i
/-- R223: word w of slot s. -/
def adapterSlot (s w : Nat) : Nat := 0x404000 + 16 * s + 8 * w
/-- R234. -/
def tenRate (c : Nat) : Nat := 0x408000 + 0x40 * c
/-- R234. -/
def tenPolicy (c : Nat) : Nat := 0x408008 + 0x40 * c
/-- R234. -/
def tenCredit (c : Nat) : Nat := 0x408010 + 0x40 * c
/-- R234. -/
def tenCounted (c : Nat) : Nat := 0x408018 + 0x40 * c
/-- R234. -/
def tenExcess (c : Nat) : Nat := 0x408020 + 0x40 * c
/-- R240. -/
def tenHist (c b : Nat) : Nat := 0x500000 + 0x200 * c + 8 * b
/-- R269. -/
def movTimers : Nat := 0x800000
/-- R270. -/
def movPhaseTimers : Nat := 0x800008
/-- R271. -/
def movPartTier (p : Nat) : Nat := 0x800100 + 8 * p
/-- R62. -/
def movStnCap (c : Nat) : Nat := 0x801000 + 8 * c
/-- R272: counter i. -/
def movCnt (i : Nat) : Nat := 0x802000 + 8 * i
/-- R136: counter i. -/
def movPlt (i : Nat) : Nat := 0x803000 + 8 * i
/-- R150. -/
def kvPartShare (p : Nat) : Nat := 0xA00000 + 8 * p
/-- R189. -/
def kvPartPressure (p : Nat) : Nat := 0xA00080 + 8 * p
/-- R172. -/
def kvPoolStatus (p q : Nat) : Nat := 0xA00200 + 0x20 * p + 8 * q
/-- R473. -/
def kvDescSel : Nat := 0xA00400
/-- R473. -/
def kvDescData (w : Nat) : Nat := 0xA00408 + 8 * w
/-- R169: counter i. -/
def kvCnt (i : Nat) : Nat := 0xA01000 + 8 * i
/-- R169. -/
def kvBucketRows (b : Nat) : Nat := 0xA01100 + 8 * b
/-- R190: counter i. -/
def kvPressCnt (i : Nat) : Nat := 0xA01200 + 8 * i
/-- R309. -/
def fabPortCtrl (p : Nat) : Nat := 0xC00000 + 8 * p
/-- R310. -/
def fabPortStatus (p : Nat) : Nat := 0xC00080 + 8 * p
/-- R311. -/
def fabLinkTimers : Nat := 0xC00100
/-- R328. -/
def swCtrl : Nat := 0xC01000
/-- R326. -/
def swEpochCommit : Nat := 0xC01008
/-- R328. -/
def swParams : Nat := 0xC01010
/-- R337. -/
def fabCcCtrl : Nat := 0xC02000
/-- R338. -/
def fabEgressTc : Nat := 0xC02008
/-- R338. -/
def fabEgressPart (p : Nat) : Nat := 0xC02100 + 8 * p
/-- R340: counter i. -/
def fabCnt (i : Nat) : Nat := 0xC03000 + 8 * i
/-- R323. -/
def routeLive (d : Nat) : Nat := 0xC80000 + 8 * d
/-- R323. -/
def routeShadow (d : Nat) : Nat := 0xD00000 + 8 * d
/-- R342. -/
def rmaRegion (r w : Nat) : Nat := 0xE00000 + 16 * r + 8 * w
/-- R344. -/
def rmaGrant (g w : Nat) : Nat := 0xE10000 + 16 * g + 8 * w
/-- R359. -/
def rmaWlHdr (l w : Nat) : Nat := 0xE20000 + 16 * l + 8 * w
/-- R360: word w of entry e of the selected list. -/
def rmaWlWindow (e w : Nat) : Nat := 0xE30000 + 32 * e + 8 * w
/-- R351. -/
def rmaTimers : Nat := 0xE31000
/-- R354. -/
def rmaEpoch : Nat := 0xE31008
/-- R360. -/
def rmaWlSelect : Nat := 0xE31010
/-- R361. -/
def rmaWlAdvance : Nat := 0xE31018
/-- R362. -/
def rmaKeySel : Nat := 0xE31100
/-- R362. -/
def rmaKeyData (w : Nat) : Nat := 0xE31108 + 8 * w
/-- R365: counter i. -/
def rmaCnt (i : Nat) : Nat := 0xE32000 + 8 * i
/-- R389. -/
def hlPortCtrl (p : Nat) : Nat := 0x1000000 + 8 * p
/-- R389. -/
def hlPortStatus (p : Nat) : Nat := 0x1000080 + 8 * p
/-- R389. -/
def hlPortSession (p : Nat) : Nat := 0x10000C0 + 8 * p
/-- R389. -/
def hlDevSession : Nat := 0x10000E0
/-- R389. -/
def hlLinkTimers : Nat := 0x1000100
/-- R389. -/
def hlHostTimers : Nat := 0x1000108
/-- R386: word d of window w of port p. -/
def hlHostWin (p w d : Nat) : Nat := 0x1001000 + 16 * (16 * p + w) + 8 * d
/-- R390: counter i. -/
def hlCnt (i : Nat) : Nat := 0x1003000 + 8 * i
/-- R474. -/
def bmChannelStatus (c : Nat) : Nat := 0x1200000 + 8 * c
/-- R475. -/
def bmEccCorrected : Nat := 0x1201000
/-- R475. -/
def bmEccUncorrectable : Nat := 0x1201008
/-- R297. -/
def embCtrl : Nat := 0x1400000
/-- R298. -/
def embPartCtrl (p : Nat) : Nat := 0x1400100 + 8 * p
/-- R300. -/
def embMigrateStatus : Nat := 0x1400300
/-- R62. -/
def embStnCap (c : Nat) : Nat := 0x1401000 + 8 * c
/-- R299. -/
def embTableStatus (t w : Nat) : Nat := 0x1402000 + 16 * t + 8 * w
/-- R301: counter i. -/
def embCnt (i : Nat) : Nat := 0x1403000 + 8 * i
/-- R459: the base of quadrant n. -/
def quadBase (n : Nat) : Nat := 0x2000000 + 0x400000 * n
/-- R62. -/
def stnCap (n i : Nat) : Nat := quadBase n + 0x1000 + 8 * i
/-- R63. -/
def stnFence (n : Nat) : Nat := quadBase n + 0x1400
/-- R53: kind 0 MX, 1 VX, 2 AT, 3 LD. -/
def arithFlagsReg (n kind : Nat) : Nat := quadBase n + 0x30000 + 8 * kind
/-- R54. -/
def arithCnt (n kind k : Nat) : Nat := quadBase n + 0x30100 + 0x40 * kind + 8 * k
/-- R109: counter i. -/
def mxCnt (n i : Nat) : Nat := quadBase n + 0x40000 + 8 * i
/-- R135: counter i. -/
def pltCnt (n i : Nat) : Nat := quadBase n + 0x40100 + 8 * i
/-- R170: counter i. -/
def atCnt (n i : Nat) : Nat := quadBase n + 0x40200 + 8 * i
/-- R208: counter i. -/
def smCnt (n i : Nat) : Nat := quadBase n + 0x40300 + 8 * i

end Reg

/-- The registers outside the quadrant blocks (R459). -/
def hubRegs : List RegRange :=
  [⟨"ID", 0x0, 8, 8, .ro⟩, ⟨"ID_BOOT_STATUS", 0x80, 8, 1, .ro⟩, ⟨"ID_HEALTH", 0x88, 8, 1, .ro⟩,
   ⟨"BOOT_CMD", 0x100000, 8, 1, .wo⟩, ⟨"BOOT_CMD_ARG", 0x100008, 8, 1, .rw⟩,
   ⟨"BOOT_CMD_STATUS", 0x100010, 8, 1, .ro⟩, ⟨"BOOT_HOLDUP", 0x100018, 8, 1, .rw⟩,
   ⟨"BOOT_HOLDUP_STATUS", 0x100020, 8, 2, .ro⟩, ⟨"SEC_MEAS", 0x100100, 8, 32, .ro⟩,
   ⟨"SEC_HOST_ACCESS", 0x100200, 8, 16, .rw⟩, ⟨"SEC_PROTECT", 0x100280, 8, 1, .rw⟩,
   ⟨"SEC_QUOTE_NONCE", 0x100300, 8, 4, .wo⟩, ⟨"SEC_QUOTE_CMD", 0x100320, 8, 1, .wo⟩,
   ⟨"SEC_QUOTE_STATUS", 0x100328, 8, 1, .ro⟩, ⟨"SEC_QUOTE_ARG", 0x100330, 8, 1, .rw⟩,
   ⟨"SEC_AIK_PUBLIC", 0x100340, 8, 4, .ro⟩, ⟨"SEC_FUSE_STATUS", 0x100360, 8, 1, .ro⟩,
   ⟨"SEC_BOOT_ID", 0x100380, 8, 2, .ro⟩, ⟨"SEC_KEY_HASH", 0x100400, 8, 16, .ro⟩,
   ⟨"BOOT_COUNTERS", 0x100800, 8, 3, .cnt⟩] ++
  [⟨"PWR_DOMAIN_CMD", 0x200000, 8, 1, .wo⟩, ⟨"PWR_DOMAIN_CMD_STATUS", 0x200008, 8, 1, .ro⟩,
   ⟨"PWR_MODULE_RESET", 0x200010, 8, 1, .wo⟩, ⟨"PWR_RESET_STATUS", 0x200018, 8, 1, .ro⟩,
   ⟨"PWR_DOMAIN_STATUS", 0x200100, 8, 20, .ro⟩, ⟨"PWR_LIMIT_CTRL", 0x200200, 8, 1, .rw⟩,
   ⟨"PWR_INPUT_STATUS", 0x200208, 8, 1, .ro⟩, ⟨"PWR_THROTTLE_STATUS", 0x200210, 8, 1, .ro⟩,
   ⟨"PWR_THERMAL_CTRL", 0x200300, 8, 1, .rw⟩, ⟨"PWR_THERMAL_STATUS", 0x200380, 8, 10, .ro⟩,
   ⟨"CLK_STATUS", 0x200400, 8, 1, .ro⟩, ⟨"CLK_LOCAL_TIME", 0x200408, 8, 1, .rl⟩,
   ⟨"PWR_COUNTERS", 0x201000, 8, 7, .cnt⟩] ++
  [⟨"EVT_RING", 0x300000, 8, 3, .ro⟩, ⟨"EVT_RATE_SEL", 0x300100, 8, 1, .rw⟩,
   ⟨"EVT_RATE", 0x300108, 8, 1, .rw⟩, ⟨"EVT_READ_SEL", 0x300200, 8, 1, .rw⟩,
   ⟨"EVT_READ_DATA", 0x300208, 8, 4, .ro⟩, ⟨"EVT_LAST_SEVERE", 0x300240, 8, 4, .ro⟩,
   ⟨"EVT_MIRROR_SEL", 0x300300, 8, 1, .rw⟩, ⟨"EVT_MIRROR_DATA", 0x300308, 8, 4, .ro⟩,
   ⟨"CNT_CLEAR", 0x300400, 8, 1, .wo⟩, ⟨"EVT_COUNTERS", 0x301000, 8, 11, .cnt⟩] ++
  [⟨"REQ_COUNTERS", 0x401000, 8, 12, .cnt⟩, ⟨"PART_MODE_STATUS", 0x402000, 8, 16, .ro⟩,
   ⟨"PART_FIT_STATUS", 0x402080, 8, 16, .ro⟩, ⟨"PART_STEP_WATCHDOG", 0x402100, 8, 1, .rw⟩,
   ⟨"PART_SPEC_CTRL", 0x402180, 8, 16, .rw⟩, ⟨"PART_STATE", 0x402200, 8, 16, .ro⟩,
   ⟨"PART_RELOAD", 0x402280, 8, 1, .wo⟩, ⟨"PART_ADMIT_CTRL", 0x402300, 8, 16, .rw⟩,
   ⟨"TEN_REFILL_CTRL", 0x402380, 8, 1, .rw⟩, ⟨"TEN_HIST_SNAP", 0x402388, 8, 1, .wo⟩,
   ⟨"TEN_HIST_SNAP_BIN", 0x402400, 8, 64, .ro⟩, ⟨"PART_SPEC_COUNTERS", 0x403000, 8, 128, .cnt⟩,
   ⟨"ADAPTER_SLOT", 0x404000, 8, 2048, .ro⟩, ⟨"TEN_ACCOUNT_RATE", 0x408000, 0x40, 4096, .rw⟩,
   ⟨"TEN_ACCOUNT_POLICY", 0x408008, 0x40, 4096, .rw⟩, ⟨"TEN_CREDIT", 0x408010, 0x40, 4096, .ro⟩,
   ⟨"TEN_COUNTED", 0x408018, 0x40, 4096, .cnt⟩, ⟨"TEN_EXCESS", 0x408020, 0x40, 4096, .cnt⟩,
   ⟨"TEN_HIST", 0x500000, 8, 262144, .cnt⟩] ++
  [⟨"MOV_TIMERS", 0x800000, 8, 1, .rw⟩, ⟨"MOV_PHASE_TIMERS", 0x800008, 8, 1, .rw⟩,
   ⟨"MOV_PART_TIER", 0x800100, 8, 16, .rw⟩, ⟨"MOV_STN_CAP", 0x801000, 8, 32, .ro⟩,
   ⟨"MOV_COUNTERS", 0x802000, 8, 19, .cnt⟩, ⟨"MOV_PLT", 0x803000, 8, 9, .cnt⟩,
   ⟨"KV_PART_SHARE", 0xA00000, 8, 16, .rw⟩, ⟨"KV_PART_PRESSURE", 0xA00080, 8, 16, .rw⟩,
   ⟨"KV_POOL_STATUS", 0xA00200, 8, 64, .ro⟩, ⟨"KV_DESC_SEL", 0xA00400, 8, 1, .rw⟩,
   ⟨"KV_DESC_DATA", 0xA00408, 8, 8, .ro⟩, ⟨"KV_COUNTERS", 0xA01000, 8, 8, .cnt⟩,
   ⟨"KV_BUCKET_ROWS", 0xA01100, 8, 9, .cnt⟩, ⟨"KV_PRESSURE_COUNTERS", 0xA01200, 8, 13, .cnt⟩] ++
  [⟨"FAB_PORT_CTRL", 0xC00000, 8, 16, .rw⟩, ⟨"FAB_PORT_STATUS", 0xC00080, 8, 16, .ro⟩,
   ⟨"FAB_LINK_TIMERS", 0xC00100, 8, 1, .rw⟩, ⟨"SW_CTRL", 0xC01000, 8, 1, .rw⟩,
   ⟨"SW_EPOCH_COMMIT", 0xC01008, 8, 1, .wo⟩, ⟨"SW_PARAMS", 0xC01010, 8, 1, .rw⟩,
   ⟨"FAB_CC_CTRL", 0xC02000, 8, 1, .rw⟩, ⟨"FAB_EGRESS_TC", 0xC02008, 8, 1, .rw⟩,
   ⟨"FAB_EGRESS_PART", 0xC02100, 8, 16, .rw⟩, ⟨"FAB_COUNTERS", 0xC03000, 8, 17, .cnt⟩,
   ⟨"ROUTE_LIVE", 0xC80000, 8, 65536, .rw⟩, ⟨"ROUTE_SHADOW", 0xD00000, 8, 65536, .rw⟩] ++
  [⟨"RMA_REGION", 0xE00000, 8, 8192, .rw⟩, ⟨"RMA_GRANT", 0xE10000, 8, 8192, .rw⟩,
   ⟨"RMA_WL", 0xE20000, 8, 8192, .rw⟩, ⟨"RMA_WL_WINDOW", 0xE30000, 8, 256, .rw⟩,
   ⟨"RMA_TIMERS", 0xE31000, 8, 1, .rw⟩, ⟨"RMA_EPOCH", 0xE31008, 8, 1, .ro⟩,
   ⟨"RMA_WL_SELECT", 0xE31010, 8, 1, .rw⟩, ⟨"RMA_WL_ADVANCE", 0xE31018, 8, 1, .wo⟩,
   ⟨"RMA_KEY_SEL", 0xE31100, 8, 1, .wo⟩, ⟨"RMA_KEY_DATA", 0xE31108, 8, 4, .wo⟩,
   ⟨"RMA_COUNTERS", 0xE32000, 8, 18, .cnt⟩] ++
  [⟨"HL_PORT_CTRL", 0x1000000, 8, 4, .rw⟩, ⟨"HL_PORT_STATUS", 0x1000080, 8, 4, .ro⟩,
   ⟨"HL_PORT_SESSION", 0x10000C0, 8, 4, .ro⟩, ⟨"HL_DEV_SESSION", 0x10000E0, 8, 1, .ro⟩,
   ⟨"HL_LINK_TIMERS", 0x1000100, 8, 1, .rw⟩, ⟨"HL_HOST_TIMERS", 0x1000108, 8, 1, .rw⟩,
   ⟨"HL_HOST_WIN", 0x1001000, 8, 128, .rw⟩, ⟨"HL_COUNTERS", 0x1003000, 8, 13, .cnt⟩,
   ⟨"BM_CHANNEL_STATUS", 0x1200000, 8, 16, .ro⟩, ⟨"BM_ECC", 0x1201000, 8, 2, .cnt⟩,
   ⟨"EMB_CTRL", 0x1400000, 8, 1, .rw⟩, ⟨"EMB_PART_CTRL", 0x1400100, 8, 16, .rw⟩,
   ⟨"EMB_MIGRATE_STATUS", 0x1400300, 8, 1, .ro⟩, ⟨"EMB_STN_CAP", 0x1401000, 8, 4, .ro⟩,
   ⟨"EMB_TABLE_STATUS", 0x1402000, 8, 128, .ro⟩, ⟨"EMB_COUNTERS", 0x1403000, 8, 13, .cnt⟩]

/-- The registers of a quadrant, at offsets from its base (R459). -/
def quadRegs : List RegRange :=
  [⟨"Qn_STN_CAP", 0x1000, 8, 124, .ro⟩, ⟨"Qn_STN_FENCE", 0x1400, 8, 1, .wo⟩,
   ⟨"Qn_ARITH_FLAGS", 0x30000, 8, 4, .w1c⟩, ⟨"Qn_MX_ARITH", 0x30100, 8, 7, .cnt⟩,
   ⟨"Qn_VX_ARITH", 0x30140, 8, 7, .cnt⟩, ⟨"Qn_AT_ARITH", 0x30180, 8, 7, .cnt⟩,
   ⟨"Qn_LD_ARITH", 0x301C0, 8, 7, .cnt⟩, ⟨"Qn_MX", 0x40000, 8, 13, .cnt⟩,
   ⟨"Qn_PLT", 0x40100, 8, 8, .cnt⟩, ⟨"Qn_AT", 0x40200, 8, 7, .cnt⟩,
   ⟨"Qn_SM", 0x40300, 8, 4, .cnt⟩]

/-- Whether a group holds a register at an offset. -/
def RegRange.holds (r : RegRange) (off : Nat) : Bool :=
  decide (r.base ≤ off) && decide ((off - r.base) % r.stride = 0) &&
    decide ((off - r.base) / r.stride < r.count)

/-- Access of the register at an offset; none where no register lies (R460). -/
def regAccess (off : Nat) : Option Access :=
  if 0x2000000 ≤ off ∧ off < 0x3000000 then
    (quadRegs.find? (fun r => r.holds ((off - 0x2000000) % 0x400000))).map RegRange.access
  else (hubRegs.find? (fun r => r.holds off)).map RegRange.access

/-- Whether the register at an offset is a statistics counter (R453). -/
def isCounter (off : Nat) : Bool := regAccess off == some .cnt

/-- R60: the kind of quadrant station i. -/
def stnKind (i : Nat) : Nat :=
  if i < 48 then 1 else if i < 64 then 2 else if i < 88 then 3 else if i < 104 then 4
  else if i < 106 then 5 else if i < 108 then 6 else if i < 116 then 8 else 9

/-- R60, R62: the engine of quadrant station i (0 P, 1 D, 2 shared). -/
def stnEngine (i : Nat) : Nat :=
  if i < 48 then 0 else if i < 64 then 1 else if i < 80 then 0 else if i < 88 then 1
  else if i < 96 then 0 else if i < 104 then 1 else if i < 108 then i % 2 else 2

/-- R60: local storage of a station kind in KiB. -/
def kindPocket (k : Nat) : Nat :=
  [0, 1536, 1536, 256, 512, 64, 64, 128, 0, 0, 0].getD k 0

/-- R56, R60: the formats a station kind accepts, bit k for format code k. -/
def kindFmtMask (k : Nat) : Nat :=
  [0, 0x1F, 0x1F, 0x7F, 0x77, 0x32, 0x30, 0x1E, 0x7F, 0x7F, 0x7F].getD k 0

/-- R62: a capability register at reset. -/
def stnCapReset (kind engine quad : Nat) : W64 :=
  BitVec.ofNat 64 (31 * 2 ^ 35 + 2 * 2 ^ 29 + kindPocket kind * 2 ^ 17 + kindFmtMask kind * 2 ^ 9 +
    engine * 2 ^ 7 + quad * 2 ^ 5 + kind)

/-- The reset value of a register outside the quadrant blocks; 0 where the table gives none. -/
def hubReset (off : Nat) : W64 :=
  if off < 0x100000 then
    if off = 0x0 then 0x000000B096000001#64
    else if off = 0x10 then 0x00000000FFFFFFFF#64
    else if off = 0x18 then
      BitVec.ofNat 64 (4 * 2 ^ 52 + 48 * 2 ^ 44 + 16 * 2 ^ 36 + 4 * 2 ^ 32 + 48 * 2 ^ 24 + 16 * 2 ^ 19 +
        4 * 2 ^ 16 + 16 * 2 ^ 11)
    else if off = 0x20 then
      BitVec.ofNat 64 (192 * 2 ^ 56 + 64 * 2 ^ 48 + 96 * 2 ^ 40 + 64 * 2 ^ 32 + 8 * 2 ^ 28 + 8 * 2 ^ 24 +
        32 * 2 ^ 18 + 32 * 2 ^ 12 + 32 * 2 ^ 6 + 4 * 2 ^ 3)
    else if off = 0x28 then 0xFFFFFFFFFF000000#64
    else if off = 0x30 then BitVec.ofNat 64 (192 * 2 ^ 48)
    else if off = 0x38 then
      BitVec.ofNat 64 (16 * 2 ^ 59 + 1024 * 2 ^ 48 + 4096 * 2 ^ 35 + 16 * 2 ^ 30 + 20 * 2 ^ 25 +
        22 * 2 ^ 20 + 64 * 2 ^ 13)
    else if off = 0x80 then BitVec.ofNat 64 (3 * 2 ^ 54)
    else 0#64
  else if off < 0x200000 then
    if off = 0x100018 then BitVec.ofNat 64 (0x32 * 2 ^ 32 + 0x28 * 2 ^ 24 + 0x32 * 2 ^ 14) else 0#64
  else if off < 0x300000 then
    if off = 0x200100 then BitVec.ofNat 64 (2 * 2 ^ 61 + 2 ^ 32)
    else if 0x200108 ≤ off ∧ off ≤ 0x200198 then BitVec.ofNat 64 (2 ^ 32)
    else if off = 0x200200 then
      BitVec.ofNat 64 (0xA28 * 2 ^ 48 + 0xBB8 * 2 ^ 36 + 0xA * 2 ^ 28 + 0xC * 2 ^ 24)
    else if off = 0x200300 then BitVec.ofNat 64 (0x64 * 2 ^ 48 + 0x5F * 2 ^ 40 + 3 * 2 ^ 32)
    else 0#64
  else if off < 0x800000 then
    if off = 0x402100 then 0x14#64
    else if 0x402180 ≤ off ∧ off < 0x402200 then 0x00001000400A2484#64
    else if 0x402300 ≤ off ∧ off < 0x402380 then 0x1000000000000020#64
    else if off = 0x402380 then 0x64#64
    else if 0x404000 ≤ off ∧ off < 0x408000 then
      if off % 16 = 0 then 0x00000000FFFF0000#64 else 0#64
    else if 0x408000 ≤ off ∧ off < 0x448000 then
      if off % 0x40 = 8 then 0x0000010000080000#64 else 0#64
    else 0#64
  else if off < 0xC00000 then
    if off = 0x800000 then 0x000000C800C80064#64
    else if off = 0x800008 then 0x00000000000A0032#64
    else if 0x800100 ≤ off ∧ off < 0x800180 then 0x000000014200012C#64
    else if 0x801000 ≤ off ∧ off < 0x801100 then stnCapReset 10 3 0
    else if 0xA00080 ≤ off ∧ off < 0xA00100 then 0x0000000000002803#64
    else 0#64
  else if off < 0xE00000 then
    if 0xC00080 ≤ off ∧ off < 0xC00100 then
      BitVec.ofNat 64 (2 ^ 61 + 31 * 2 ^ 40 + 0xFFFF * 2 ^ 24)
    else if off = 0xC00100 then
      BitVec.ofNat 64 (3 * 2 ^ 60 + 4 * 2 ^ 56 + 0x64 * 2 ^ 47 + 0x32 * 2 ^ 37 + 0x32 * 2 ^ 27 +
        0xA * 2 ^ 17)
    else if off = 0xC01000 then
      BitVec.ofNat 64 (8 * 2 ^ 25 + 2 ^ 24 + 2 ^ 23 + 5 * 2 ^ 16 + 0x14 * 2 ^ 8 + 0x3C)
    else if off = 0xC01010 then BitVec.ofNat 64 (0x100 * 2 ^ 48 + 0x14 * 2 ^ 40 + 0xFFFFFFFF)
    else if off = 0xC02000 then
      BitVec.ofNat 64 (0x4000 * 2 ^ 40 + 0x80 * 2 ^ 32 + 8 * 2 ^ 24 + 0x40 * 2 ^ 16 + 0x384)
    else if off = 0xC02008 then 0x0000080810402028#64
    else if 0xC02100 ≤ off ∧ off < 0xC02180 then 0x0000010010000001#64
    else 0#64
  else if off < 0x1000000 then
    if 0xE10000 ≤ off ∧ off < 0xE20000 then if off % 16 = 8 then 0xFFFF#64 else 0#64
    else if off = 0xE31000 then
      BitVec.ofNat 64 (4 * 2 ^ 60 + 8 * 2 ^ 54 + 2 * 2 ^ 48 + 0x14 * 2 ^ 40 + 0xA * 2 ^ 32 +
        0xA * 2 ^ 24 + 0xA * 2 ^ 16 + 0x14 * 2 ^ 8)
    else 0#64
  else if off < 0x1400000 then
    if 0x1000080 ≤ off ∧ off < 0x10000A0 then BitVec.ofNat 64 (2 ^ 61)
    else if off = 0x1000100 then
      BitVec.ofNat 64 (3 * 2 ^ 60 + 4 * 2 ^ 56 + 0x64 * 2 ^ 47 + 0x32 * 2 ^ 37 + 0x32 * 2 ^ 27 +
        0xA * 2 ^ 17)
    else if off = 0x1000108 then
      BitVec.ofNat 64 (3 * 2 ^ 60 + 0x64 * 2 ^ 47 + 0x32 * 2 ^ 37 + 0xA * 2 ^ 29 + 0x14 * 2 ^ 21)
    else 0#64
  else
    if off = 0x1400000 then 0x000000400000000A#64
    else if 0x1401000 ≤ off ∧ off < 0x1401020 then stnCapReset 7 3 0
    else 0#64

/-- The reset value of the register at an offset. -/
def regReset (off : Nat) : W64 :=
  if 0x2000000 ≤ off ∧ off < 0x3000000 then
    let o := (off - 0x2000000) % 0x400000
    let n := (off - 0x2000000) / 0x400000
    if 0x1000 ≤ o ∧ o < 0x13E0 then
      let i := (o - 0x1000) / 8
      stnCapReset (stnKind i) (stnEngine i) n
    else 0#64
  else hubReset off

/-- R461: the registers that live in PD_AON and keep their values through a hub restart.
(`JTAG_OFF` of SEC_PROTECT and the fence states are kept by the restart itself.) -/
def isAonReg (off : Nat) : Bool :=
  off < 0x100000 || (0x100100 ≤ off && off < 0x100200) || (0x100340 ≤ off && off < 0x100800) ||
  off == 0x200018 || (0x200100 ≤ off && off < 0x2001A0) || off == 0x200400 || off == 0x200408 ||
  (0x300240 ≤ off && off < 0x300260) || off == 0xE31008

/-- A writable field of a register: bits `hi:lo`, clamped to `min … max` (R7). -/
structure RwField where
  hi  : Nat
  lo  : Nat
  min : Nat
  max : Nat
  deriving DecidableEq, Repr

/-- A field that takes every value. -/
def plainField (hi lo : Nat) : RwField := ⟨hi, lo, 0, 2 ^ (hi + 1 - lo) - 1⟩

/-- One field written under its clamp. -/
def applyField (v : W64) (cur : W64) (f : RwField) : W64 :=
  putField cur f.hi f.lo (clampN f.min f.max (fieldOf v f.hi f.lo))

/-- Whether a write is clamped in some field. -/
def writeClamps (v : W64) (fs : List RwField) : Bool :=
  fs.any (fun f => outside f.min f.max (fieldOf v f.hi f.lo))

/-- R6, R7: a write to an RW register: its fields take the written values under their clamps,
its other bits stay, and its `CLAMPED` bit, if it has one, tells whether a value was clamped. -/
def rwWrite (fs : List RwField) (clampedBit : Option Nat) (cur v : W64) : W64 :=
  let w := fs.foldl (applyField v) cur
  match clampedBit with
  | some b => putBit w b (writeClamps v fs)
  | none => w

/-- The writable fields of PART_STEP_WATCHDOG (R84). -/
def watchdogFields : List RwField := [⟨7, 0, 1, 200⟩]
/-- R206. -/
def specCtrlFields : List RwField :=
  [plainField 47 32, ⟨31, 24, 8, 255⟩, ⟨23, 16, 0, 100⟩, ⟨15, 12, 1, 15⟩, ⟨11, 8, 1, 15⟩,
   ⟨7, 4, 1, 8⟩, ⟨3, 0, 1, 8⟩]
/-- R189. -/
def pressureFields : List RwField := [⟨15, 8, 1, 255⟩, ⟨3, 0, 1, 15⟩]
/-- R150. -/
def shareFields : List RwField := [plainField 1 1, plainField 0 0]
/-- R234. -/
def tenRateFields : List RwField := [plainField 63 32, plainField 23 0]
/-- R234. -/
def tenPolicyFields : List RwField :=
  [plainField 63 48, plainField 47 32, ⟨31, 16, 1, 65535⟩, plainField 7 5, plainField 1 1,
   plainField 0 0]
/-- R235. -/
def admitCtrlFields : List RwField := [⟨63, 48, 1, 65535⟩, plainField 47 32, ⟨8, 0, 0, 256⟩]
/-- R236. -/
def refillFields : List RwField := [⟨15, 0, 10, 10000⟩]
/-- R269. -/
def movTimerFields : List RwField := [⟨47, 32, 10, 2000⟩, ⟨31, 16, 10, 2000⟩, ⟨15, 0, 10, 2000⟩]
/-- R270. -/
def phaseTimerFields : List RwField := [⟨31, 16, 1, 500⟩, ⟨15, 0, 5, 1000⟩]
/-- R271, but for `PAUSE_TARGET`. -/
def partTierFields : List RwField := [⟨35, 28, 1, 255⟩, ⟨27, 24, 1, 8⟩, ⟨16, 0, 1, 86400⟩]
/-- R297. -/
def embCtrlFields : List RwField := [⟨47, 32, 1, 65535⟩, ⟨15, 0, 1, 1000⟩]
/-- R298. -/
def embPartFields : List RwField := [⟨47, 32, 0, 16384⟩]
/-- R311, R389. -/
def linkTimerFields : List RwField :=
  [⟨62, 60, 1, 7⟩, ⟨59, 56, 1, 15⟩, ⟨55, 47, 20, 400⟩, ⟨46, 37, 10, 500⟩, ⟨36, 27, 10, 500⟩,
   ⟨26, 17, 1, 600⟩]
/-- R328. -/
def swCtrlFields : List RwField :=
  [⟨28, 25, 1, 15⟩, plainField 24 24, plainField 23 23, ⟨22, 16, 1, 100⟩, ⟨15, 8, 1, 100⟩,
   ⟨7, 0, 10, 70⟩]
/-- R328. -/
def swParamsFields : List RwField := [⟨63, 48, 16, 4096⟩, ⟨47, 40, 1, 255⟩]
/-- R337. -/
def ccCtrlFields : List RwField :=
  [⟨55, 40, 64, 16384⟩, ⟨39, 32, 1, 255⟩, ⟨31, 24, 1, 255⟩, ⟨23, 16, 1, 255⟩, ⟨15, 0, 225, 14400⟩]
/-- R338. -/
def egressTcFields : List RwField :=
  [⟨47, 40, 1, 255⟩, ⟨39, 32, 1, 255⟩, ⟨31, 24, 1, 255⟩, ⟨23, 16, 4, 255⟩, ⟨15, 8, 8, 128⟩,
   plainField 7 0]
/-- R338. -/
def egressPartFields : List RwField :=
  [plainField 63 48, ⟨47, 32, 1, 65535⟩, ⟨31, 16, 256, 65535⟩, plainField 0 0]
/-- R351. -/
def rmaTimerFields : List RwField :=
  [⟨62, 60, 1, 7⟩, ⟨59, 54, 7, 63⟩, ⟨53, 48, 1, 32⟩, ⟨47, 40, 2, 200⟩, ⟨39, 32, 10, 200⟩,
   ⟨31, 24, 1, 200⟩, ⟨23, 16, 1, 100⟩, ⟨15, 8, 10, 255⟩]
/-- R389. -/
def hostTimerFields : List RwField :=
  [⟨62, 60, 1, 7⟩, ⟨59, 47, 1, 6000⟩, ⟨46, 37, 1, 1000⟩, ⟨36, 29, 1, 255⟩, ⟨28, 21, 1, 200⟩]
/-- R418. -/
def holdupFields : List RwField := [⟨39, 32, 10, 200⟩, ⟨31, 24, 10, 255⟩, ⟨23, 14, 0, 1000⟩]
/-- R441. -/
def thermalFields : List RwField := [⟨55, 48, 80, 110⟩, ⟨47, 40, 75, 100⟩, ⟨39, 32, 1, 10⟩]
/-- R342: word 0 and word 1 of a region. -/
def regionFields0 : List RwField := [plainField 63 55, plainField 47 0]
/-- R342. -/
def regionFields1 : List RwField := [plainField 47 0]
/-- R386. -/
def hostWinFields0 : List RwField := [plainField 63 56, plainField 47 0]

end Sys2Proof.Machine
end

