-- ==== Sys2Proof/Machine/Crypto.lean ====
section
/-!
DEFINITION. SHA-256 (R146, R405), and the ChaCha20 block function of the sampler's
generator (R199), written from FIPS 180-4 and RFC 8439, which the rules name.
-/
namespace Sys2Proof.Machine

/-- The 64 round constants of SHA-256. -/
def shaK : List (BitVec 32) :=
  [0x428a2f98#32, 0x71374491#32, 0xb5c0fbcf#32, 0xe9b5dba5#32, 0x3956c25b#32, 0x59f111f1#32,
   0x923f82a4#32, 0xab1c5ed5#32, 0xd807aa98#32, 0x12835b01#32, 0x243185be#32, 0x550c7dc3#32,
   0x72be5d74#32, 0x80deb1fe#32, 0x9bdc06a7#32, 0xc19bf174#32, 0xe49b69c1#32, 0xefbe4786#32,
   0x0fc19dc6#32, 0x240ca1cc#32, 0x2de92c6f#32, 0x4a7484aa#32, 0x5cb0a9dc#32, 0x76f988da#32,
   0x983e5152#32, 0xa831c66d#32, 0xb00327c8#32, 0xbf597fc7#32, 0xc6e00bf3#32, 0xd5a79147#32,
   0x06ca6351#32, 0x14292967#32] ++
  [0x27b70a85#32, 0x2e1b2138#32, 0x4d2c6dfc#32, 0x53380d13#32, 0x650a7354#32, 0x766a0abb#32,
   0x81c2c92e#32, 0x92722c85#32, 0xa2bfe8a1#32, 0xa81a664b#32, 0xc24b8b70#32, 0xc76c51a3#32,
   0xd192e819#32, 0xd6990624#32, 0xf40e3585#32, 0x106aa070#32, 0x19a4c116#32, 0x1e376c08#32,
   0x2748774c#32, 0x34b0bcb5#32, 0x391c0cb3#32, 0x4ed8aa4a#32, 0x5b9cca4f#32, 0x682e6ff3#32,
   0x748f82ee#32, 0x78a5636f#32, 0x84c87814#32, 0x8cc70208#32, 0x90befffa#32, 0xa4506ceb#32,
   0xbef9a3f7#32, 0xc67178f2#32]

/-- The initial hash value of SHA-256. -/
def shaH0 : List (BitVec 32) :=
  [0x6a09e667#32, 0xbb67ae85#32, 0x3c6ef372#32, 0xa54ff53a#32, 0x510e527f#32, 0x9b05688c#32,
   0x1f83d9ab#32, 0x5be0cd19#32]

/-- The padded message: a 1 bit, zeros, and the length in bits as 8 big-endian bytes. -/
def shaPad (m : List Byte) : List Byte :=
  let z := (119 - m.length % 64) % 64
  m ++ 0x80#8 :: List.replicate z 0#8 ++ beBytes (8 * m.length) 8

/-- One big-endian word of a block. -/
def shaWord (blk : List Byte) (i : Nat) : BitVec 32 :=
  BitVec.ofNat 32 (natOfBe ((blk.drop (4 * i)).take 4))

/-- The message schedule, newest word first (`k` further words). -/
def shaExpand : Nat → List (BitVec 32) → List (BitVec 32)
  | 0, ws => ws
  | k + 1, ws =>
    let w := fun i => ws.getD i 0#32
    let s0 := (w 14).rotateRight 7 ^^^ (w 14).rotateRight 18 ^^^ (w 14) >>> 3
    let s1 := (w 1).rotateRight 17 ^^^ (w 1).rotateRight 19 ^^^ (w 1) >>> 10
    shaExpand k ((s1 + w 6 + s0 + w 15) :: ws)

/-- One round of SHA-256 on the eight working variables. -/
def shaRound (v : List (BitVec 32)) (kw : BitVec 32 × BitVec 32) : List (BitVec 32) :=
  match v with
  | [a, b, c, d, e, f, g, h] =>
    let t1 := h + (e.rotateRight 6 ^^^ e.rotateRight 11 ^^^ e.rotateRight 25)
      + ((e &&& f) ^^^ (~~~e &&& g)) + kw.1 + kw.2
    let t2 := (a.rotateRight 2 ^^^ a.rotateRight 13 ^^^ a.rotateRight 22)
      + ((a &&& b) ^^^ (a &&& c) ^^^ (b &&& c))
    [t1 + t2, a, b, c, d + t1, e, f, g]
  | v => v

/-- The compression of one 64-byte block. -/
def shaBlock (h : List (BitVec 32)) (blk : List Byte) : List (BitVec 32) :=
  let w0 := ((upTo 16).map (shaWord blk)).reverse
  let ws := (shaExpand 48 w0).reverse
  List.zipWith (· + ·) h ((List.zip shaK ws).foldl shaRound h)

/-- SHA-256 as 32 bytes. -/
def sha256 (m : List Byte) : List Byte :=
  let p := shaPad m
  (((chunksOf 64 p.length p).foldl shaBlock shaH0).map (fun w => beBytes w.toNat 4)).flatten

/-- One ChaCha20 quarter round on the 16-word state. -/
def chachaQuarter (s : List (BitVec 32)) (ia ib ic id : Nat) : List (BitVec 32) :=
  let a := s.getD ia 0; let b := s.getD ib 0; let c := s.getD ic 0; let d := s.getD id 0
  let a := a + b; let d := (d ^^^ a).rotateLeft 16
  let c := c + d; let b := (b ^^^ c).rotateLeft 12
  let a := a + b; let d := (d ^^^ a).rotateLeft 8
  let c := c + d; let b := (b ^^^ c).rotateLeft 7
  (((s.set ia a).set ib b).set ic c).set id d

/-- Two ChaCha20 rounds: the four columns, then the four diagonals. -/
def chachaDouble (s : List (BitVec 32)) : List (BitVec 32) :=
  [(0, 4, 8, 12), (1, 5, 9, 13), (2, 6, 10, 14), (3, 7, 11, 15),
   (0, 5, 10, 15), (1, 6, 11, 12), (2, 7, 8, 13), (3, 4, 9, 14)].foldl
    (fun s (q : Nat × Nat × Nat × Nat) => chachaQuarter s q.1 q.2.1 q.2.2.1 q.2.2.2) s

/-- The ChaCha20 block function (RFC 8439, 2.3) on a key of 8 words, a counter and a nonce
of 3 words: 16 output words. -/
def chachaBlock (key : List (BitVec 32)) (ctr : BitVec 32) (nonce : List (BitVec 32)) :
    List (BitVec 32) :=
  let s0 := [0x61707865#32, 0x3320646e#32, 0x79622d32#32, 0x6b206574#32]
    ++ key ++ [ctr] ++ nonce
  List.zipWith (· + ·) s0 ((upTo 10).foldl (fun s _ => chachaDouble s) s0)

end Sys2Proof.Machine
end

