-- ==== Sys2Proof/Machine/Float32.lean ====
section
/-!
DEFINITION. IEEE 754 binary32 arithmetic of the vector stations (R32, R50, R51) and the
rounding of exact values into FP8, BF16 and binary32 (R46), on exact dyadic numbers.
-/
namespace Sys2Proof.Machine

/-- A finite dyadic number: the magnitude is `m × 2^x`, negative when `neg`. -/
structure Dyadic where
  neg : Bool
  m   : Nat
  x   : Int
  deriving DecidableEq, Repr

/-- What a floating-point bit pattern stands for. -/
inductive FVal where
  | nan
  | inf (neg : Bool)
  | fin (d : Dyadic)
  deriving DecidableEq, Repr

/-- A linear format: significand bits with the hidden one, least exponent of a unit in the
last place, largest finite magnitude `maxM × 2^maxX`. -/
structure LinFmt where
  prec : Nat
  emin : Int
  maxM : Nat
  maxX : Int
  deriving DecidableEq, Repr

/-- R32: binary32, BF16, E4M3 and E5M2. -/
def fmtF32  : LinFmt := ⟨24, -149, 2 ^ 24 - 1, 104⟩
def fmtBf16 : LinFmt := ⟨8, -133, 255, 120⟩
def fmtE4m3 : LinFmt := ⟨4, -9, 14, 5⟩
def fmtE5m2 : LinFmt := ⟨3, -16, 7, 13⟩

/-- `m / 2^k` rounded to nearest, ties to even. -/
def rneShift (m k : Nat) : Nat :=
  let q := m >>> k
  let r := m - q * 2 ^ k
  if k = 0 then m
  else if 2 * r > 2 ^ k then q + 1
  else if 2 * r = 2 ^ k then q + q % 2
  else q

/-- `a / b` rounded to nearest, ties to even. -/
def rneDiv (a b : Nat) : Nat :=
  let q := a / b
  let r := a % b
  if 2 * r > b then q + 1 else if 2 * r = b then q + q % 2 else q

/-- The significand and exponent of `m × 2^x` rounded to a format with its exponent range
taken as unbounded above (R46). -/
def roundLin (f : LinFmt) (m : Nat) (x : Int) : Nat × Int :=
  if m = 0 then (0, f.emin)
  else
    let e := max ((Nat.log2 m : Int) + x + 1 - f.prec) f.emin
    let d := e - x
    let s := if d ≤ 0 then m <<< d.natAbs else rneShift m d.toNat
    if s = 2 ^ f.prec then (2 ^ (f.prec - 1), e + 1) else (s, e)

/-- Whether `m × 2^x` is above `n × 2^y`. -/
def dyGt (m : Nat) (x : Int) (n : Nat) (y : Int) : Bool :=
  if x ≥ y then decide (m <<< (x - y).toNat > n) else decide (m > n <<< (y - x).toNat)

/-- The bits of a rounded significand and exponent: `mant` fraction bits, exponent `bias`. -/
def packLin (f : LinFmt) (s : Nat) (e : Int) : Nat :=
  if s < 2 ^ (f.prec - 1) then s
  else ((e - f.emin + 1).toNat) * 2 ^ (f.prec - 1) + (s - 2 ^ (f.prec - 1))

/-- A binary32 pattern from its sign and the lower 31 bits. -/
def f32Of (neg : Bool) (low : Nat) : W32 := BitVec.ofNat 32 (low + if neg then 2 ^ 31 else 0)

/-- The quiet NaN that the model's operations write (the sign and payload that IEEE 754
leaves open are never observable: a NaN leaves a station only flushed to zero, R52). -/
def f32NaN : W32 := 0x7FC00000#32
/-- +0, 1 and the infinities. -/
def f32Zero : W32 := 0#32
def f32One : W32 := 0x3F800000#32
def f32Inf (neg : Bool) : W32 := f32Of neg 0x7F800000

/-- The value of a binary32 pattern (R32). -/
def f32Val (w : W32) : FVal :=
  let n := w.toNat
  let neg := n.testBit 31
  let e := (n >>> 23) % 256
  let fr := n % 2 ^ 23
  if e = 255 then (if fr = 0 then .inf neg else .nan)
  else if e = 0 then .fin ⟨neg, fr, -149⟩
  else .fin ⟨neg, fr + 2 ^ 23, (e : Int) - 150⟩

/-- Round a dyadic number into binary32 under IEEE 754 (overflow gives an infinity, R50). -/
def f32Round (neg : Bool) (m : Nat) (x : Int) : W32 :=
  let (s, e) := roundLin fmtF32 m x
  if dyGt s e fmtF32.maxM fmtF32.maxX then f32Inf neg else f32Of neg (packLin fmtF32 s e)

/-- Exact sum of two dyadic numbers. -/
def dyAdd (a b : Dyadic) : Dyadic :=
  let x := min a.x b.x
  let ma : Int := (a.m <<< (a.x - x).toNat : Nat)
  let mb : Int := (b.m <<< (b.x - x).toNat : Nat)
  let s := (if a.neg then -ma else ma) + (if b.neg then -mb else mb)
  if s = 0 then ⟨a.neg && b.neg, 0, x⟩ else ⟨decide (s < 0), s.natAbs, x⟩

/-- Exact product of two dyadic numbers. -/
def dyMul (a b : Dyadic) : Dyadic := ⟨a.neg != b.neg, a.m * b.m, a.x + b.x⟩

/-- R50: binary32 addition. -/
def f32Add (a b : W32) : W32 :=
  match f32Val a, f32Val b with
  | .nan, _ => f32NaN
  | _, .nan => f32NaN
  | .inf s, .inf t => if s = t then f32Inf s else f32NaN
  | .inf s, _ => f32Inf s
  | _, .inf t => f32Inf t
  | .fin x, .fin y => let d := dyAdd x y; f32Round d.neg d.m d.x

/-- Sign flip. -/
def f32Neg (a : W32) : W32 := a ^^^ 0x80000000#32
/-- R50: binary32 subtraction. -/
def f32Sub (a b : W32) : W32 := f32Add a (f32Neg b)
/-- Magnitude. -/
def f32Abs (a : W32) : W32 := a &&& 0x7FFFFFFF#32

/-- R50: a multiply is rounded once. -/
def f32Mul (a b : W32) : W32 :=
  match f32Val a, f32Val b with
  | .nan, _ => f32NaN
  | _, .nan => f32NaN
  | .inf s, .inf t => f32Inf (s != t)
  | .inf s, .fin y => if y.m = 0 then f32NaN else f32Inf (s != y.neg)
  | .fin x, .inf t => if x.m = 0 then f32NaN else f32Inf (x.neg != t)
  | .fin x, .fin y => let d := dyMul x y; f32Round d.neg d.m d.x

/-- R50: a fused multiply-add is rounded once, after the addition. -/
def f32Fma (a b c : W32) : W32 :=
  match f32Val a, f32Val b, f32Val c with
  | .fin x, .fin y, .fin z => let d := dyAdd (dyMul x y) z; f32Round d.neg d.m d.x
  | .fin _, .fin _, .inf s => f32Inf s
  | _, _, _ => f32Add (f32Mul a b) c

/-- Round the quotient `m/n × 2^x` (`n ≠ 0`) into binary32, to nearest, ties to even. -/
def f32RoundQuot (neg : Bool) (m n : Nat) (x : Int) : W32 :=
  -- 64 further bits and a sticky bit keep the rounding exact
  let k := 64 + Nat.log2 n + 1
  let q := (m <<< k) / n
  let r := (m <<< k) % n
  f32Round neg (2 * q + (if r = 0 then 0 else 1)) (x - k - 1)

/-- Binary32 division, rounded once (R50). -/
def f32Div (a b : W32) : W32 :=
  match f32Val a, f32Val b with
  | .nan, _ => f32NaN
  | _, .nan => f32NaN
  | .inf s, .inf t => let _ := s != t; f32NaN
  | .inf s, .fin y => f32Inf (s != y.neg)
  | .fin x, .inf t => f32Of (x.neg != t) 0
  | .fin x, .fin y =>
    if y.m = 0 then (if x.m = 0 then f32NaN else f32Inf (x.neg != y.neg))
    else f32RoundQuot (x.neg != y.neg) x.m y.m (x.x - y.x)

/-- Binary32 comparison `a < b`; false with a NaN. -/
def f32Lt (a b : W32) : Bool :=
  match f32Val a, f32Val b with
  | .nan, _ => false
  | _, .nan => false
  | .inf true, .inf false => true
  | .inf true, .fin _ => true
  | .fin _, .inf false => true
  | .fin x, .fin y => let d := dyAdd x ⟨!y.neg, y.m, y.x⟩; decide (d.m ≠ 0) && d.neg
  | _, _ => false

/-- Binary32 equality as numbers (+0 = −0); false with a NaN. -/
def f32Eq (a b : W32) : Bool :=
  match f32Val a, f32Val b with
  | .nan, _ => false
  | _, .nan => false
  | _, _ => !f32Lt a b && !f32Lt b a

/-- `a ≤ b`. -/
def f32Le (a b : W32) : Bool := f32Lt a b || f32Eq a b

/-- The larger of two numbers (the first when neither is larger). -/
def f32Max (a b : W32) : W32 := if f32Lt a b then b else a
/-- The smaller of two numbers (the first when neither is smaller). -/
def f32Min (a b : W32) : W32 := if f32Lt b a then b else a

/-- A whole number in binary32, rounded to nearest even. -/
def f32OfNat (n : Nat) : W32 := f32Round false n 0
/-- An integer in binary32. -/
def f32OfInt (i : Int) : W32 := f32Round (decide (i < 0)) i.natAbs 0

/-- Whether a pattern is a NaN; an infinity; finite. -/
def f32IsNaN (a : W32) : Bool := match f32Val a with | .nan => true | _ => false
def f32IsInf (a : W32) : Bool := match f32Val a with | .inf _ => true | _ => false
def f32IsFinite (a : W32) : Bool := match f32Val a with | .fin _ => true | _ => false

/-- One level of the fixed tree of R51. -/
def treeLevel : List W32 → List W32
  | a :: b :: rest => f32Add a b :: treeLevel rest
  | l => l

/-- R51: the fixed binary tree over the element index (`fuel` bounds the levels). -/
def treeSumFuel : Nat → List W32 → W32
  | _, [] => f32Zero
  | _, [a] => a
  | 0, a :: _ => a
  | k + 1, l => treeSumFuel k (treeLevel l)

/-- R51: reduction of a list by the fixed binary tree. -/
def treeSum (l : List W32) : W32 := treeSumFuel l.length l

/-- R51: a dot product rounds each product, then reduces the products by the tree. -/
def treeDot (a b : List W32) : W32 := treeSum (List.zipWith f32Mul a b)

/-- An exact value saturated into FP8 or BF16 as R46 says: the low bits, without the sign,
and whether it saturated. A result that rounds to zero is +0. In E4M3 the significand 15 of the top
octave stands for no finite value: R46 sends a magnitude below 480 to 448 without saturation, and 480
itself up to 512, which saturates. -/
def satLin (f : LinFmt) (m : Nat) (x : Int) : Nat × Bool :=
  let (s, e) := roundLin f m x
  if dyGt s e f.maxM f.maxX then
    (packLin f f.maxM f.maxX, !(decide (s < 2 ^ f.prec ∧ e = f.maxX) && dyGt s e m x))
  else (packLin f s e, false)

/-- R46 into binary32: saturating, never an infinity, a NaN or a negative zero. -/
def satF32 (neg : Bool) (m : Nat) (x : Int) : W32 × Bool :=
  let (b, o) := satLin fmtF32 m x
  (if b = 0 then f32Zero else f32Of neg b, o)

end Sys2Proof.Machine
end

