-- ==== Sys2Proof/Machine/MathFns.lean ====
section
/-!
DEFINITION. The correctly rounded binary32 functions of the stations: exp32 (R102), ln32
(R197), cos32 and sin32 (R156). Each is evaluated in fixed point with 256 fraction bits and
rounded once; the fixed-point error is below 2^−240, far inside what a correctly rounded
result of a 24-bit significand needs.
-/
namespace Sys2Proof.Machine

/-- Fraction bits of the fixed-point numbers. -/
def fxBits : Nat := 256
/-- floor(π × 2^256) and floor(ln 2 × 2^256). -/
def fxPi : Nat :=
  363771576891766324280234942777729862653393377328392429958772151117938894466185
def fxLn2 : Nat :=
  80260960185991308862233904206310070533990667611589946606122867505419956976171

/-- Σ r^k / k! for a fixed-point r below 1. -/
def expSeries (r : Nat) : Nat → Nat → Nat → Nat → Nat
  | 0, _, _, acc => acc
  | fuel + 1, k, term, acc =>
    let t := (term * r / k) >>> fxBits
    if t = 0 then acc else expSeries r fuel (k + 1) t (acc + t)

/-- R102: the binary32 value nearest to e^v, ties to even. -/
def exp32 (v : W32) : W32 :=
  match f32Val v with
  | .nan => f32NaN
  | .inf true => f32Zero
  | .inf false => f32Inf false
  | .fin d =>
    if d.m = 0 then f32One
    else if f32Lt 0x43000000#32 (f32Abs v) then   -- |v| above 128
      (if d.neg then f32Zero else f32Inf false)
    else
      let x : Int := (if d.neg then -1 else 1) *
        (Int.ofNat (d.m <<< (d.x + fxBits).toNat))
      let k := Int.fdiv x fxLn2
      let r := (x - k * fxLn2).toNat
      let e := expSeries r 120 1 (2 ^ fxBits) (2 ^ fxBits)
      f32Round false (2 * e + 1) (k - fxBits - 1)

/-- Σ z^(2k+1) / (2k+1) for a fixed-point z below 1. -/
def atanhSeries (z2 : Nat) : Nat → Nat → Nat → Nat → Nat
  | 0, _, _, acc => acc
  | fuel + 1, k, term, acc =>
    if term = 0 then acc
    else atanhSeries z2 fuel (k + 2) ((term * z2) >>> fxBits) (acc + term / k)

/-- R197: the correctly rounded natural logarithm of a positive binary32 number. -/
def ln32 (v : W32) : W32 :=
  match f32Val v with
  | .nan => f32NaN
  | .inf true => f32NaN
  | .inf false => f32Inf false
  | .fin d =>
    if d.m = 0 then f32Inf true
    else if d.neg then f32NaN
    else if v = f32One then f32Zero
    else
      let p := Nat.log2 d.m
      let e : Int := p + d.x
      -- mantissa in [1, 2) as a fixed-point number
      let m := d.m <<< (fxBits - p)
      let z := ((m - 2 ^ fxBits) <<< fxBits) / (m + 2 ^ fxBits)
      let l := 2 * atanhSeries ((z * z) >>> fxBits) 200 1 z 0
      let t : Int := e * fxLn2 + l
      f32Round (decide (t < 0)) (2 * t.natAbs + 1) (-(fxBits : Int) - 1)

/-- The alternating series Σ ± t^k / k! of sine (first term `t`) and cosine (first term 1). -/
def trigSeries (t2 : Nat) : Nat → Nat → Int → Int → Int
  | 0, _, _, acc => acc
  | fuel + 1, k, term, acc =>
    if term = 0 then acc
    else trigSeries t2 fuel (k + 2)
      (- Int.tdiv (term * (t2 : Int)) ((((k + 1) * (k + 2)) <<< fxBits : Nat) : Int)) (acc + term)

/-- cos and sin of 2π·rem/2^32 for rem below 2^30, as fixed-point numbers (exact at 0). -/
def cosSinFx (rem : Nat) : Int × Int :=
  let th := (2 * fxPi * rem) >>> 32
  let t2 := (th * th) >>> fxBits
  (trigSeries t2 120 0 ((2 ^ fxBits : Nat) : Int) 0, trigSeries t2 120 1 (th : Int) 0)

/-- A signed fixed-point number rounded to binary32 (exact 0 and ±1 stay exact). -/
def fxToF32 (v : Int) : W32 :=
  if v = 0 then f32Zero
  else if v.natAbs = 2 ^ fxBits then f32Round (decide (v < 0)) 1 0
  else f32Round (decide (v < 0)) (2 * v.natAbs + 1) (-(fxBits : Int) - 1)

/-- R156: correctly rounded cos(2π·ph/2^32). -/
def cos32 (ph : Nat) : W32 :=
  let q := ph % 2 ^ 32 / 2 ^ 30
  let (c, s) := cosSinFx (ph % 2 ^ 30)
  fxToF32 (match q with | 0 => c | 1 => -s | 2 => -c | _ => s)

/-- R156: correctly rounded sin(2π·ph/2^32). -/
def sin32 (ph : Nat) : W32 :=
  let q := ph % 2 ^ 32 / 2 ^ 30
  let (c, s) := cosSinFx (ph % 2 ^ 30)
  fxToF32 (match q with | 0 => s | 1 => c | 2 => -s | _ => -c)

end Sys2Proof.Machine
end

