-- ==== Sys2Proof/Machine/Sampler.lean ====
section
/-!
DEFINITION. The sampler station (R195 to R199) and the acceptance rule and adaptive draft
length of speculation (R202, R203, R207).
-/
namespace Sys2Proof.Machine

/-- The 32-byte sampling block of an admission message (R195). -/
structure SampleBlock where
  seed    : Nat
  temp    : W32
  topP    : W32
  minP    : W32
  topK    : Nat
  optOut  : Bool
  rsvd    : Nat
  deriving DecidableEq, Repr

/-- R195: the sampling block read from its four words. -/
def sampleBlockOf (w0 w1 w2 w3 : W64) : SampleBlock :=
  ⟨w0.toNat, BitVec.ofNat 32 (fieldOf w1 63 32), BitVec.ofNat 32 (fieldOf w1 31 0),
   BitVec.ofNat 32 (fieldOf w2 63 32), fieldOf w2 31 23, bitOf w2 22,
   fieldOf w2 21 0 + w3.toNat⟩

/-- Whether a binary32 pattern is +0 or −0. -/
def f32IsZero (a : W32) : Bool := f32Abs a == f32Zero

/-- R196: whether an admission message's sampling block is refused as malformed. -/
def sampleBad (b : SampleBlock) : Bool :=
  b.rsvd != 0 ||
  !f32IsFinite b.temp || (f32Lt b.temp f32Zero) ||
  f32IsNaN b.topP || f32Lt b.topP f32Zero || f32Lt f32One b.topP ||
  f32IsNaN b.minP || f32Lt b.minP f32Zero || f32Le f32One b.minP ||
  256 < b.topK

/-- R196: a `TEMP` above 0 and below 2^−8. -/
def tempTiny (b : SampleBlock) : Bool := !f32IsZero b.temp && f32Lt b.temp 0x3B800000#32
/-- R195, R196: whether the block selects greedy decoding. -/
def isGreedy (b : SampleBlock) : Bool := f32IsZero b.temp || tempTiny b

/-- R197: the index of the largest logit; ties to the lower token. -/
def argmaxLow (z : List W32) : Nat :=
  ((z.zipIdx).foldl (fun (b : Nat × W32) p => if f32Lt b.2 p.1 then (p.2, p.1) else b)
    (0, z.getD 0 f32Zero)).1

/-- R199: the variate of (seed, position, token), exact in binary32. -/
def unif (seed n v : Nat) : W32 :=
  let key := [BitVec.ofNat 32 seed, BitVec.ofNat 32 (seed / 2 ^ 32), 0#32, 0#32, 0#32, 0#32,
              0#32, 0#32]
  let blk := chachaBlock key (BitVec.ofNat 32 (v / 16)) [BitVec.ofNat 32 n, 0#32, 0#32]
  let u := (blk.getD (v % 16) 0#32).toNat
  f32Round false (2 * (u / 512) + 1) (-24)

/-- A candidate: token, logit and weight. -/
structure Cand where
  tok : Nat
  z   : W32
  w   : W32
  deriving DecidableEq, Repr

/-- R197: rank order is descending logit, ties by ascending token. -/
def rankBefore (a b : Cand) : Bool := f32Lt b.z a.z || (f32Eq a.z b.z && decide (a.tok < b.tok))

/-- Insertion into a list in rank order. -/
def rankInsert (c : Cand) : List Cand → List Cand
  | [] => [c]
  | d :: ds => if rankBefore c d then c :: d :: ds else d :: rankInsert c ds

/-- Candidates in rank order. -/
def rankSort (l : List Cand) : List Cand := l.foldr rankInsert []

/-- R197: the shortest rank-order prefix whose running sum reaches the limit; all of it when
none does. -/
def topPPrefix (lim acc : W32) : List Cand → List Cand
  | [] => []
  | c :: cs =>
    let a := f32Add acc c.w
    if f32Le lim a then [c] else c :: topPPrefix lim a cs

/-- R197: the kept candidates, in ascending token order, and their weights. -/
def keptSet (z : List W32) (b : SampleBlock) : List Cand :=
  let best := argmaxLow z
  let zb := z.getD best f32Zero
  let it := f32Div f32One b.temp
  let all := (z.zipIdx).map (fun p => (⟨p.2, p.1, exp32 (f32Mul (f32Sub p.1 zb) it)⟩ : Cand))
  let c1 := if b.topK = 0 then all
    else
      let kept := (rankSort all).take b.topK
      all.filter (fun c => kept.any (fun d => d.tok == c.tok))
  let c2 := c1.filter (fun c => !(f32IsZero c.w) && !(f32Lt c.w b.minP))
  if f32Lt f32Zero b.topP && f32Lt b.topP f32One then
    let lim := f32Mul b.topP (treeSum (c2.map (·.w)))
    let kept := topPPrefix lim f32Zero (rankSort c2)
    c2.filter (fun c => kept.any (fun d => d.tok == c.tok))
  else c2

/-- R197: the token for position `n` from a logits row, and the kept set's size (R198; one
candidate for greedy decoding). -/
def sampleToken (z : List W32) (b : SampleBlock) (n : Nat) : Nat × Nat :=
  let best := argmaxLow z
  if isGreedy b then (best, 1)
  else
    let c := keptSet z b
    let r := c.foldl (fun (acc : Nat × W32) v =>
      let r := f32Div (f32Neg (ln32 (unif b.seed n v.tok))) v.w
      if f32Lt r acc.2 then (v.tok, r) else acc) (best, f32Inf false)
    (r.1, c.length)

/-- R202: the number of leading drafts that the main model's samples equal. -/
def leadingMatches : List Nat → List Nat → Nat
  | d :: ds, t :: ts => if d = t then leadingMatches ds ts + 1 else 0
  | _, _ => 0

/-- The state of a sequence's drafting (R207). -/
inductive DraftMode where
  | active | disabled | inactive
  deriving DecidableEq, Repr

/-- The draft state of a sleeve (R207). -/
structure DraftState where
  mode      : DraftMode
  kCur      : Nat
  rejectRun : Nat
  acceptRun : Nat
  winSteps  : Nat
  winProp   : Nat
  winAcc    : Nat
  sinceDis  : Nat
  deriving DecidableEq, Repr

/-- The fields of `PART_SPEC_CTRL` (R206). -/
structure SpecCtrl where
  retryTokens : Nat
  windowSteps : Nat
  acceptFloor : Nat
  growAfter   : Nat
  fullRej     : Nat
  kMax        : Nat
  kInit       : Nat
  deriving DecidableEq, Repr

/-- R207: the initial draft state of a sleeve. -/
def draftInit (c : SpecCtrl) (optOut : Bool) : DraftState :=
  ⟨if optOut then .inactive else .active, min c.kInit c.kMax, 0, 0, 0, 0, 0, 0⟩

/-- What a verify step does besides the state: halvings, disables (R209). -/
structure DraftEvents where
  halved   : Bool := false
  disabled : Bool := false
  retried  : Bool := false
  deriving DecidableEq, Repr

/-- R207: the verify columns of the table, for a round of `k` drafts with `a` accepted. -/
def draftVerify (c : SpecCtrl) (d : DraftState) (k a : Nat) : DraftState × DraftEvents :=
  let d := { d with kCur := min d.kCur c.kMax }
  let (d1, halved) : DraftState × Bool :=
    if a = k then
      let run := d.acceptRun + 1
      if c.growAfter ≤ run then
        ({ d with rejectRun := 0, acceptRun := 0, kCur := min (d.kCur + 1) c.kMax }, false)
      else ({ d with rejectRun := 0, acceptRun := run }, false)
    else if 0 < a then ({ d with rejectRun := 0, acceptRun := 0 }, false)
    else
      let run := d.rejectRun + 1
      if c.fullRej ≤ run then
        ({ d with acceptRun := 0, rejectRun := 0, kCur := max 1 (d.kCur / 2) }, true)
      else ({ d with acceptRun := 0, rejectRun := run }, false)
  let d2 := { d1 with winSteps := d1.winSteps + 1, winProp := d1.winProp + k,
                      winAcc := d1.winAcc + a }
  if c.windowSteps ≤ d2.winSteps then
    let low := decide (d2.winAcc * 100 < d2.winProp * c.acceptFloor)
    let d3 := { d2 with winSteps := 0, winProp := 0, winAcc := 0 }
    if low then ({ d3 with mode := .disabled, sinceDis := 0 }, ⟨halved, true, false⟩)
    else (d3, ⟨halved, false, false⟩)
  else (d2, ⟨halved, false, false⟩)

/-- R207: the DISABLED row: committed tokens count toward `RETRY_TOKENS` (0: never). -/
def draftDisabledTokens (c : SpecCtrl) (d : DraftState) (n : Nat) : DraftState × DraftEvents :=
  match d.mode with
  | .disabled =>
    let t := d.sinceDis + n
    if c.retryTokens ≠ 0 ∧ c.retryTokens ≤ t then
      (⟨.active, min c.kInit c.kMax, 0, 0, 0, 0, 0, 0⟩, { retried := true })
    else ({ d with sinceDis := t }, {})
  | _ => (d, {})

end Sys2Proof.Machine
end

