-- ==== Sys2Proof/Machine/WorkRecords.lean ====
section
/-!
DEFINITION. The records of requests and the work they run: collars (R211 to R214), sleeves and
their sequences (R144, R191, R207, R244, R245), KV page frames (R142), admission points (R233,
R237), steps with their streams and joins (R64 to R75), moves and stored sleeves (R244 to R250,
R266), adapters (R222) and partitions (R77, R216).
-/
namespace Sys2Proof.Machine

/-- Where a request's phase is placed by its anchor (R14, R248): the node, the targets not yet
tried, whether the answer is awaited, the holder of a paused sleeve to restore from, what is
skipped, and the message number of the last FAB_PKT_PHASE_PLACE. -/
structure PlaceRec where
  node    : Option Nat
  waiting : Bool
  left    : List Nat
  holder  : Option Nat
  skip    : Option Nat
  msg     : Nat
  deriving DecidableEq, Repr

/-- A collar (R212, R213) with what its anchor keeps beside it: its place in the collar region, the run of the token log
(64-byte units), tokens reported ahead of the next index (R21), the placement, a pending pause (R231),
whether the sleeve must be rebuilt (R218), whether DECODE_SILENCE_LIMIT runs (R263), whether the
next HL_MSG_TOKENS opens a measurement (R238), the indices at which resumes begin (each with whether the token before it was final), whether its prompt
pass has still to sample, the status it
ends with in DONE (R229), the next index to send and whether the last token is final, the values
of a one-pass request, and every generated token with its `EMPTY_ROW` bit. -/
structure Collar where
  img      : CollarImg
  cslot    : Nat
  logOff   : Nat
  logUnits : Nat
  ahead    : List (Nat × (Nat × Bool))
  place    : PlaceRec
  pausing  : Bool
  rebuild  : Bool
  silence  : Bool
  first    : Bool
  resumeAt : List (Nat × Bool)
  prefill  : Bool
  endWith  : Nat
  sent     : Nat
  final    : Bool
  values   : List W32
  gens     : List (Nat × Bool)
  deriving DecidableEq, Repr

/-- A position of a sequence: token, class (true: generation), `KEY_PAD` (R244). -/
structure PosEnt where
  tok : Nat
  gen : Bool
  pad : Bool
  deriving DecidableEq, Repr

/-- A page a sequence references (R142): the model, layer and `POS_BASE`, and its frame. -/
structure PageRef where
  draft   : Bool
  layer   : Nat
  posBase : Nat
  quad    : Nat
  idx     : Nat
  deriving DecidableEq, Repr

/-- A KV page frame that is not FREE (R142, R143): `state` 1 OPEN, 2 TAIL, 3 SEALED, 4 RETAINED,
5 WITHDRAWN; `fp` the fingerprint when computed; `release` its release number (R172); `bytes` the
element frame (from 0) and the scale frame (from 65,536). -/
structure Frame where
  quad    : Nat
  idx     : Nat
  part    : Nat
  state   : Nat
  layer   : Nat
  draft   : Bool
  fmt     : Nat
  fill    : Nat
  slot    : Nat
  refs    : Nat
  posBase : Nat
  fp      : Option Nat
  indexed : Bool
  pad     : Nat
  release : Nat
  bytes   : Mem
  deriving DecidableEq, Repr

/-- A page outside the frames (R182, R244): in T4, or in a stored sleeve. `pleats` holds the header words and the coded
blocks of the element frame of a page that rests pleated (R114, R134); `bytes` then holds the scale frame alone. -/
structure PageImg where
  draft   : Bool
  layer   : Nat
  fmt     : Nat
  fill    : Nat
  posBase : Nat
  pad     : Nat
  sealed_ : Bool
  bytes   : Mem
  pleats  : List (W64 × List Byte)
  deriving DecidableEq, Repr

/-- A page of a swapped sequence (R182, R185): its image, where it lies in the grant's window,
whether the host has it, whether a read of it is under way, whether it is pleated, the block that is read again after
damage (R126), and the key epoch and first nonce when it is encrypted (R364). The slot is read in pieces (R112): `headed`
whether its header record is there, `left` the pieces under way, `want` those that the header record comes before, and
`slot` what has come. -/
structure SwapPage where
  img     : PageImg
  port    : Nat
  window  : Nat
  offset  : Nat
  inHost  : Bool
  reading : Bool
  pleated : Bool
  again   : Option Nat
  epoch   : Option (Nat × Nat)
  headed  : Bool
  left    : List Nat
  want    : List Nat
  slot    : List Byte
  deriving DecidableEq, Repr

/-- What a sequence is doing (R231, R237): its prompt pass, decode, or holding a sleeve that waits
for a pause, a handoff, a restore or its release, or waiting for D-engine capacity (R16). -/
inductive SeqPhase where
  | prompt | decode | hold | restoring | waitD
  deriving DecidableEq, Repr

/-- A sleeve resident on this device with its sequence. `table` holds the known positions with the
pending token last once it is sampled; `c` and `cd` the committed lengths; `emitted` the index of
the next generated token; `maxNew` the tokens still allowed; `recompute` RECOMPUTE_PENDING with
the cursors `ra` (base) and `rd` (draft) once it has started (R186);
`paused` SELF_PAUSED; `progress` a step committed since the last report (R263); `pausePend` a pause waits for the COMMIT, `cancelPend` a cancel; `attached` the
positions attached by reference that its first chunk still charges (R237); `offered` whether its first prompt step
here has launched (R260). -/
structure Seq where
  requestId  : Nat
  anchor     : Nat
  placement  : Nat
  part       : Nat
  slot       : Nat
  customer   : Nat
  adapter    : Nat
  adapterVer : Nat
  onePass    : Bool
  keep       : Bool
  stopEos    : Bool
  stop       : List Nat
  maxNew     : Nat
  samp       : List W64
  table      : List PosEnt
  c          : Nat
  cd         : Nat
  emitted    : Nat
  phase      : SeqPhase
  draft      : DraftState
  pages      : List PageRef
  swapped    : List SwapPage
  evictions  : Nat
  lastCommit : Nat
  paused     : Bool
  recompute  : Bool
  started    : Bool
  ra         : Nat
  rd         : Nat
  running    : Bool
  silenceMs  : Nat
  progress   : Bool
  pausePend  : Bool
  cancelPend : Bool
  firstChunk : Bool
  attached   : Nat
  toPrompt   : Bool
  offered    : Bool
  deriving DecidableEq, Repr

/-- A sleeve stored in T2 (R244, R266): what the mover knows of it (its sequence, the directory of its pages, which of them
rest pleated, and the size of a page slot), its image as it rests, the bytes of the share it takes, the key epoch and
first nonce when it is encrypted at rest (R364), the TTL it started with in ms and the local time then (R267). -/
structure Stored where
  seq   : Seq
  pages : List PageImg
  pleated : List Bool
  slot  : Nat
  image : Mem
  runs  : List (Nat × Nat)
  bytes : Nat
  epoch : Option (Nat × Nat)
  ttl   : Nat
  since : Nat
  deriving DecidableEq, Repr

/-- One customer's queue at an admission point (R233, R237). -/
structure CustQ where
  cust    : Nat
  queue   : List Nat
  deficit : Nat
  deriving DecidableEq, Repr

/-- An admission point: one per partition and engine kind. -/
structure AdmPoint where
  part   : Nat
  engine : Nat
  custs  : List CustQ
  next   : Nat
  deriving DecidableEq, Repr

/-- The kind of work a segment of a step does (R237). -/
inductive Work where
  | chunk | decode | round | recompute | draftPrompt | onePass
  deriving DecidableEq, Repr

/-- A segment of a step (R153): its sequence, work, committed length at launch, rows, drafts, the
charge made at launch (R237), proposals (R201), samples (position, token) and the samples'
`EMPTY_ROW` bits (R164). `base` tells whether the segment has base rows. -/
structure Seg where
  requestId : Nat
  slot      : Nat
  work      : Work
  start     : Nat
  rows      : List PosEnt
  k         : Nat
  cost      : Nat
  excess    : Bool
  props     : List Nat
  samples   : List (Nat × Nat × Bool)
  values    : List W32
  deriving DecidableEq, Repr

/-- What a sink has received of one band of a stream: tiles and markers of the traversal (a KV page stream
traverses a band twice, R161), end markers, and the anchor blocks that came, by output column (R59; 0 where the stream
carries no weights). -/
structure BandCnt where
  band    : Nat
  tiles   : Nat
  ends    : Nat
  anchors : List Nat
  deriving DecidableEq, Repr

/-- A tile that a sink withholds (R126, R258): the tile as it arrived, its pleat headers, the damaged block, and
what is awaited: 1 its refetch, 2 the second source. -/
structure Withheld where
  tile     : Tile
  hdrs     : List W64
  block    : Nat
  attempts : Nat
  deriving DecidableEq, Repr

/-- A sink of a stream (R65, R71): its role, the tiles and markers it took, per band too, the credits of it that
the source holds, the data tiles that stand in its input slots, and a withheld tile. -/
structure SinkInst where
  role     : Nat
  got      : Nat
  bands    : List BandCnt
  credits  : Nat
  slots    : Nat
  withheld : Option Withheld
  deriving DecidableEq, Repr

/-- A stream of a running step in one entry of the layer order (R65, R71, R75): `layer` is the layer index, and above
65,536 how often the layer stood before that entry (R73); `sent` the tiles and markers that its source has
sent. -/
structure StreamInst where
  id         : Nat
  layer      : Nat
  sent       : Nat
  delivered  : Nat
  suppressed : Nat
  flags      : Nat
  status     : Nat
  closed     : Bool
  sinks      : List SinkInst
  deriving DecidableEq, Repr

/-- A tile that an ST stream wrote into its tier in a layer of a step (R57, R74): step scratch, which LD streams of
the step read. -/
structure Scratch where
  stream : Nat
  layer  : Nat
  tier   : Nat
  region : Nat
  addr   : Nat
  bytes  : List Byte
  deriving DecidableEq, Repr

/-- An activation tile that an MV channel has sent over the fabric (R131): its stream and place, and its blocks with their
headers. -/
structure Payload where
  stream : Nat
  layer  : Nat
  band   : Nat
  index  : Nat
  blocks : List (W64 × List Byte)
  deriving DecidableEq, Repr

/-- A staged copy of a stored weight tile (R93, R253), or a fetch that waits for staging room (R255): the tile's
stream and the quadrant whose buffer holds the copy (T0), or 4 and the quadrant whose T1 staging area does. -/
structure Staged where
  draft  : Bool
  plan   : Nat
  stream : Nat
  layer  : Nat
  index  : Nat
  place  : Nat
  bytes  : Nat
  deriving DecidableEq, Repr

/-- A join of a running step in one layer (R68): the tiles it holds with their input positions,
the outputs it has made, and the bands it has run. -/
structure JoinInst where
  id    : Nat
  layer : Nat
  held  : List (Nat × Tile)
  made  : List Tile
  done  : List Nat
  deriving DecidableEq, Repr

/-- A step in flight (R72, R74, R81): `pass` is the running pass of a speculative round (draft
passes 1 to k, then 0 for the main pass), `sub` the part of its rows that runs (R201); `fits` the mapping it launched with;
`retried` whether the watchdog has relaunched it;
`early` the experts that early routes prefetched (layer, expert); `empties` the rows (segment, position) with an
empty row-head (R164); `scratch` what its ST endpoints wrote, `payloads` what its MV channels sent; `staged` its staged copies in the quadrant buffers (R93);
`fetches` the prefetches that wait for staging room (R255); `depth` the PREFETCH_DEPTH that it launched with; `unstaged` the W tiles that were read from T1 without room
for a copy (R93); `bound` the work request lists that the state mover bound to its streams at launch (stream, list; R361). -/
structure Step where
  part    : Nat
  engine  : Nat
  seq     : Nat
  kind    : Nat
  draft   : Bool
  plan    : Nat
  launch  : Nat
  bands   : Nat
  segs    : List Seg
  pass    : Nat
  sub     : Nat
  passes  : Nat
  streams : List StreamInst
  joins   : List JoinInst
  fits    : List (Nat × Nat)
  retried : Bool
  abandoned : Bool
  early   : List (Nat × Nat)
  empties : List (Nat × Nat)
  scratch : List Scratch
  payloads : List Payload
  staged  : List Staged
  fetches : List Staged
  depth   : Nat
  unstaged : List Staged
  bound   : List (Nat × Nat)
  deriving DecidableEq, Repr

/-- A completion record (R75). -/
structure Completion where
  streamId   : Nat
  layer      : Nat
  status     : Nat
  flags      : Nat
  delivered  : Nat
  suppressed : Nat
  credit     : Nat
  anchor     : Nat
  expander   : Nat
  tier       : Nat
  deriving DecidableEq, Repr

/-- R75: the statistics that a partition keeps of its streams, the sums of its completion records' counts. -/
structure StreamStats where
  delivered  : Nat
  suppressed : Nat
  credit     : Nat
  anchor     : Nat
  expander   : Nat
  tier       : Nat
  deriving DecidableEq, Repr

/-- What a partition's T1 share holds of an image's tables: the skip-map directory (R95), and the words of the skip maps and
header arrays by image offset (R95, R114). -/
structure T1Copy where
  dir   : List (W64 × W64)
  words : List (Nat × W64)
  deriving DecidableEq, Repr

/-- A partition (R77, R148, R172, R216): its images, its fit, the next `STEP_SEQ`, the release
number counter, the completion ring, the pages' fingerprint index (draft, layer, fingerprint,
quadrant, frame) and the bytes of its T2 share in use; `mask` the quadrants of the share as of the last load (R77, R432) and `ref` the
roles each station carries under the reference fit (R78); `t1Base` and `t1Draft` the images' tables in its T1 share (R95, R114); `staged` the copies in its T1 staging area (R253, R255); `stats` its streams' counts (R75). -/
structure Part where
  base    : Option ModelImage
  draft   : Option ModelImage
  t1Base  : T1Copy
  t1Draft : T1Copy
  fit     : List (Nat × Nat)
  stepSeq : Nat
  release : Nat
  ring    : List Completion
  index   : List (Bool × Nat × Nat × Nat × Nat)
  t2Used  : Nat
  mask    : Nat
  ref     : List (Nat × Nat)
  staged  : List Staged
  stats   : StreamStats
  deriving DecidableEq, Repr

/-- A running install (R220 to R222): the slot it loads into and what its ACK needs. -/
structure Install where
  slot     : Nat
  tag      : Nat
  port     : Nat
  part     : Nat
  adapter  : Nat
  customer : Nat
  rank     : Nat
  measure  : Nat
  drained  : Bool
  waiting  : Bool
  deriving DecidableEq, Repr

/-- The source side of a move (R249): `state` 0 HOME, 1 OFFERED, 2 SENDING, 3 AWAIT_ACK,
4 FLIPPED. `total` the committed length the datum will have; `sentPages` the pages already sent; `bytes`
what was sent; `ready` whether the datum is
final; `acked` whether the anchor acknowledged the report of token 0 (R262); `resends` its sends after the first. -/
structure MoveSrc where
  moveId    : Nat
  requestId : Nat
  placement : Nat
  part      : Nat
  kind      : Nat
  dest      : Nat
  left      : List Nat
  state     : Nat
  region    : Nat
  offset    : Nat
  bytes     : Nat
  total     : Nat
  sentPages : List PageRef
  ready     : Bool
  acked     : Bool
  empty0    : Bool
  resends   : Nat
  deriving DecidableEq, Repr

/-- The destination side of a move (R250): `state` 1 RECEIVING, 2 ACKED. The data lie provisionally in
the reserved range of the move window; `bytes` those received, `head` those of the last message once
it came (0 before); `refs` the frames reserved; `size` the bytes of the range. `slot` is 65,536 for a
pause store, which takes no slot. `bad` names the page and the block whose refetch is awaited (R126). -/
structure MoveDst where
  source    : Nat
  moveId    : Nat
  requestId : Nat
  placement : Nat
  part      : Nat
  kind      : Nat
  state     : Nat
  slot      : Nat
  region    : Nat
  offset    : Nat
  size      : Nat
  pages     : Nat
  ttlMs     : Nat
  adapter   : Nat
  adapterVer : Nat
  silenceMs : Nat
  queries   : Nat
  bytes     : Nat
  head      : Nat
  refs      : List PageRef
  bad       : Option (Nat × Nat)
  deriving DecidableEq, Repr

/-- A pending MOVE_PULL at the restoring node (R268). -/
structure Pull where
  requestId : Nat
  placement : Nat
  holder    : Nat
  part      : Nat
  deriving DecidableEq, Repr

/-- The request and tenant scheduler, the KV page manager and the state mover. `logFree` counts no free list: the runs in use
are the collars' own; `slotWait` requests marked for rebuild that wait for a slot (R233); `lostSlots` adapter slots whose
version is lost (R258); `slotMeas` the measurement that each installed version was committed with (R218); `tenApplied` the
account and admission registers as applied at the last tick (R234, R235); `refitOld` the stations that changed since the running
refit began, with their states then (R81); `refill` the tick in progress in microseconds (R236); `reports` the (message,
request) of the reports sent for the sequences resident here (R264). -/
structure Work_ where
  collars    : List Collar
  localNum   : Nat
  seqs       : List Seq
  stored     : List Stored
  frames     : List Frame
  points     : List AdmPoint
  steps      : List Step
  parts      : List Part
  installs   : List Install
  verNums    : List (Nat × Nat)
  lostSlots  : List Nat
  slotMeas   : List (Nat × Nat)
  moveId     : Nat
  src        : List MoveSrc
  dst        : List MoveDst
  pulls      : List Pull
  slotWait   : List Nat
  tenApplied : List (Nat × W64)
  refill     : Nat
  refitting  : Option Nat
  refitAgain : List Nat
  refitOld   : List (Nat × Nat)
  reports    : List (Nat × Nat)
  t1         : Mem
  t2         : Mem
  deriving DecidableEq, Repr

/-- A partition with nothing loaded. -/
def Part.init : Part :=
  { base := none, draft := none, t1Base := ⟨[], []⟩, t1Draft := ⟨[], []⟩, fit := [], stepSeq := 0, release := 0, ring := [], index := [],
    t2Used := 0, mask := 0, ref := [], staged := [], stats := ⟨0, 0, 0, 0, 0, 0⟩ }

/-- No work; counters start at 0 (log entry 9). -/
def Work_.init : Work_ :=
  { collars := [], localNum := 0, seqs := [], stored := [], frames := [], points := [], steps := [],
    parts := List.replicate 16 .init, installs := [], verNums := [], lostSlots := [], slotMeas := [], moveId := 0,
    src := [], dst := [], pulls := [], slotWait := [], tenApplied := [], refill := 100,
    refitting := none, refitAgain := [], refitOld := [], reports := [], t1 := [], t2 := [] }

end Sys2Proof.Machine
end

