-- ==== Sys2Proof/Machine/State.lean ====
section
/-!
DEFINITION. The state of the block: the chip, the non-volatile store (flash and fuses), and the
queue of waiting commands; the ways a step can stop; and the state right after reset.
-/
namespace Sys2Proof.Machine

/-- A half-access latch of a Lateter port (R454, R460): register offset, whether a write loaded
it, and the half it holds. -/
structure HalfLatch where
  off   : Nat
  write : Bool
  value : Nat
  deriving DecidableEq, Repr

/-- Everything a module cold reset clears, and the retention latch with it. `regs` holds every
register the map shows (R459) as written;
`time` the local time count (R424), which runs when `timeOn`; `free` counts the free values
taken so far (log entry 2). -/
structure Chip where
  regs      : RegFile
  time      : Nat
  timeOn    : Bool
  free      : Nat
  latch     : List (Option HalfLatch)
  evt       : Evt
  pwr       : Pwr
  board     : Board
  boot      : Boot
  hl        : HostLink
  fab       : Fab
  rma       : Rma
  work      : Work_
  emb       : Emb
  deriving DecidableEq, Repr

/-- The whole state. -/
structure State where
  chip    : Chip
  nv      : Nv
  pending : List Instr
  deriving DecidableEq, Repr

/-- Why a command faults: no command does. What the spec calls an error is an answer, a record or a register, and so part
of the next state. -/
inductive Fault where
  deriving DecidableEq, Repr

/-- Why a command is refused. -/
inductive Refusal where
  /-- A command that has no meaning yet (safe). -/
  | notModelled (mnemonic : String)
  deriving DecidableEq, Repr

/-- The recorder with nothing recorded (R444, R447). -/
def Evt.init : Evt :=
  { seqCtr := 0, live := false, mirLive := false, ring := [], early := [],
    earlyDrop := [0, 0, 0, 0, 0, 0, 0], buckets := [], rates := [], queue := [],
    fullSeen := false, mirPos := 0, mirNext := false, mirHdr := false, mirSeq := 0 }

/-- The power controller before input power-good. -/
def Pwr.init : Pwr :=
  { ret := List.replicate 20 .stay, ownerOff := List.replicate 20 false, cmd := none,
    modReset := false, inCold := none, rootLocked := false, refPresent := false,
    vMv := 0, lowRun := 0, highRun := 0, underRun := 0, overRun := 0, normRun := 0, episode := 0,
    inputFault := false, samples := [], below := 0, since := 0, pLevel := 0, dLevel := 0,
    limiting := false, therm := List.replicate 10 0, thermSeen := List.replicate 10 false,
    thermMax := List.replicate 10 none,
    halved := List.replicate 4 false, clockHold := false }

/-- Board memory before training. -/
def Board.init : Board :=
  { t2Mib := 0, collarOk := false, t2Ok := List.replicate 16 false,
    marked := [], dimmHot := [], dimmSlow := [], stackBad := [] }

/-- Boot before step 1. -/
def Boot.init : Boot :=
  { img := none, completed := false, log := [], overflow := false,
    docSeq := 0, doc := none, run := none, nonce := [0#64, 0#64, 0#64, 0#64], smbOffset := 0,
    calUse := [], trained := [], healthHold := none, straps := 7, svnDue := false,
    smbOut := [] }

/-- A Lateter port before its first training (R372: numbers start at 1). -/
def HlPort.init : HlPort :=
  { link := .init, expect0 := 1, expect1 := 1, gap0 := false, gap1 := false, next0 := 1, next2 := 1, unsent := [],
    log0 := [], log2 := [], ring := [], seen := 0, stalled := [] }

/-- The host link after reset; `BULK_TAG` starts at 0 (log entry 9). -/
def HostLink.init : HostLink := { ports := List.replicate 4 .init, bulks := [], bulkTag := 0 }

/-- A fabric port before its first training. -/
def FabPort.init : FabPort :=
  { link := .init, queue := [], tc0 := 0, tc0Last := 0, classDef := [0, 0, 0, 0], classNext := 1,
    members := [], memNext := [0, 0, 0, 0], hot := [false, false, false, false] }

/-- The seam after reset; message numbers and pointers start at 0 (log entry 9). -/
def Fab.init : Fab :=
  { ports := List.replicate 16 .init, local_ := [], localHot := List.replicate 4 false, wait := [], prev := [], rotate := [0, 0, 0, 0],
    combines := [], combId := 0, rates := [], useCtr := 0, rxBytes := [], msgId := 0,
    shaper := List.replicate 16 0, shapLast := 0 }

/-- The remote memory engine after reset. -/
def Rma.init : Rma :=
  { ops := [], seq := 0, readTag := 0, tgtEpoch := [], replay := [], floors := [], emptyAt := 0,
    cancels := [], ctxs := [], keys := [], keyOrder := 0,
    keyData := [0#64, 0#64, 0#64, 0#64], nonces := [], lists := [], unsettled := [] }

/-- The chip right after a module cold reset of a device just powered. -/
def Chip.init : Chip :=
  { regs := [], time := 0, timeOn := false, free := 0,
    latch := [none, none, none, none], evt := .init, pwr := .init, board := .init,
    boot := .init, hl := .init, fab := .init, rma := .init,
    work := .init, emb := .init }

/-- An empty calibration copy. -/
def CalCopy.none : CalCopy := { present := false, magic := 0, format := 0, rsvd := 0, seq := 0, digest := 0, entries := [] }

/-- Blank flash and unprogrammed fuses (log entry 4: the spec gives no contents). -/
def Nv.blank : Nv :=
  { serial := 0#64, svnFused := 0, keys := [.none, .none, .none, .none],
    revoked := [false, false, false, false], factoryLock := false, secret := 0, slots := [.none, .none],
    factory := .none, copyA := .none, copyB := .none, mirror := [],
    flash := ⟨0, 0, 0⟩ }

/-- The machine right after reset. -/
def State.reset : State := { chip := .init, nv := .blank, pending := [] }

end Sys2Proof.Machine
end

