-- ==== Sys2Proof/Machine/Ops.lean ====
section
/-!
DEFINITION. The shared operations on the chip: reading and writing registers and their fields,
statistics counters (R453), and logging events (R443 to R448, R458).
-/
namespace Sys2Proof.Machine

/-- The register word stored at an offset. -/
def Chip.reg (c : Chip) (off : Nat) : W64 := rfGet regReset c.regs off

/-- A register word stored. -/
def Chip.setReg (c : Chip) (off : Nat) (v : W64) : Chip := { c with regs := rfSet c.regs off v }

/-- Bits `hi:lo` of a register. -/
def Chip.fld (c : Chip) (off hi lo : Nat) : Nat := fieldOf (c.reg off) hi lo

/-- Bits `hi:lo` of a register set. -/
def Chip.setFld (c : Chip) (off hi lo v : Nat) : Chip := c.setReg off (putField (c.reg off) hi lo v)

/-- One bit of a register. -/
def Chip.bit (c : Chip) (off i : Nat) : Bool := bitOf (c.reg off) i

/-- Several fields of one register set in one update. -/
def Chip.setFlds (c : Chip) (off : Nat) (l : List (Nat × Nat × Nat)) : Chip :=
  c.setReg off (l.foldl (fun w f => putField w f.1 f.2.1 f.2.2) (c.reg off))

/-- Fields set from zero: a register written whole in one update. -/
def wordOf (l : List (Nat × Nat × Nat)) : W64 :=
  l.foldl (fun w f => putField w f.1 f.2.1 f.2.2) 0#64

/-! Events (R443 to R448). -/

/-- R445: the severity of each code, by the table of R458. EV_DOMAIN_RESET is 3 unless an owner
command caused it. -/
def evSeverity : List (Nat × Nat) :=
  [(0x0101, 4), (0x0102, 1), (0x0103, 2), (0x0104, 1), (0x0105, 2), (0x0106, 3), (0x0107, 1),
   (0x0108, 2), (0x0109, 4), (0x010A, 3), (0x010B, 2), (0x010C, 1), (0x010D, 2), (0x010E, 4),
   (0x0201, 1), (0x0202, 3), (0x0203, 4), (0x0204, 2), (0x0205, 2), (0x0206, 3), (0x0207, 4),
   (0x0208, 5), (0x0209, 6), (0x020A, 5), (0x020B, 2), (0x020C, 3), (0x020D, 5)] ++
  [(0x0301, 2), (0x0302, 2), (0x0303, 3), (0x0401, 1), (0x0402, 3), (0x0403, 4), (0x0404, 4),
   (0x0405, 5), (0x0406, 2), (0x0407, 2), (0x0408, 3), (0x0409, 1), (0x040A, 3), (0x040B, 2),
   (0x040C, 2), (0x040D, 4), (0x040E, 1), (0x040F, 2), (0x0801, 3), (0x0802, 4), (0x0803, 2),
   (0x0804, 3), (0x0805, 2), (0x0806, 2), (0x0807, 1), (0x0808, 2)] ++
  [(0x0A01, 1), (0x0A02, 2), (0x0A03, 3), (0x0A04, 2), (0x0A05, 2), (0x0A06, 3), (0x0A07, 1),
   (0x0A08, 3), (0x0A09, 2), (0x0C01, 1), (0x0C02, 4), (0x0C03, 2), (0x0C04, 3), (0x0C05, 3),
   (0x0C06, 2), (0x0C07, 3), (0x0C08, 3), (0x0C09, 2), (0x0C0A, 1), (0x0E01, 2), (0x0E02, 3),
   (0x0E03, 1), (0x0E04, 2), (0x0E05, 3), (0x0E06, 3)] ++
  [(0x1001, 1), (0x1002, 4), (0x1003, 2), (0x1004, 3), (0x1005, 3), (0x1006, 3), (0x1007, 3),
   (0x1008, 4), (0x1009, 2), (0x1201, 3), (0x1401, 1), (0x1402, 1), (0x1403, 1), (0x1404, 2),
   (0x1405, 2), (0x2001, 3), (0x2002, 2), (0x2003, 2), (0x2004, 3), (0x2005, 3), (0x2006, 2)]

/-- Whether R458 defines a code. -/
def codeDefined (code : Nat) : Bool := evSeverity.any (fun p => p.1 == code)

/-- The domain that raises a code (log entry 10): the always-on core, the hub, the seam, the
Lateter SerDes, board memory or the embedding station. -/
def evDomain (code : Nat) : Nat :=
  let blk := code / 256
  if blk = 0x01 then 0
  else if blk = 0x02 then if 0x0206 ≤ code ∧ code ≤ 0x020A then 0 else 1
  else if blk = 0x0C then 2
  else if blk = 0x10 then 4
  else if blk = 0x12 then 5
  else if blk = 0x14 then 6
  else if blk = 0x20 then 16
  else 1

/-- What a rule says a record carries (R443). -/
structure EvArgs where
  code    : Nat
  sev     : Option Nat := none
  domain  : Option Nat := none
  refKind : Nat := 0
  part    : Nat := 0xFF
  param0  : Nat := 0
  ref     : Nat := 0
  param1  : Nat := 0
  deriving DecidableEq, Repr

/-- The severity of a record (R445: 0 to 6). -/
def EvArgs.severity (a : EvArgs) : Nat :=
  min 6 (a.sev.getD (((evSeverity.find? (fun p => p.1 == a.code)).map Prod.snd).getD 0))

/-- R443: word 0 to word 3 of a record. -/
def evWords (r : EvRec) : List W64 :=
  [wordOf [(63, 16, r.seq), (15, 0, r.code)],
   wordOf [(63, 61, r.sev), (60, 56, r.domain), (55, 54, r.refKind), (47, 32, r.suppressed),
     (31, 24, r.part), (23, 0, r.param0)],
   BitVec.ofNat 64 r.ref, BitVec.ofNat 64 r.param1]

/-- R447: one record, in units of 1/225,000,000. -/
def evOne : Nat := 225000000

/-- R447: a bucket that has never been used is full. -/
def bucketFull : Bucket := ⟨16 * evOne, 0, 0⟩

/-- The rate of a code (R450). -/
def Evt.rate (e : Evt) (code : Nat) : Nat := (assocGet e.rates code).getD 0x64

/-- The bucket of a code. -/
def Evt.bucket (e : Evt) (code : Nat) : Bucket := (assocGet e.buckets code).getD bucketFull

/-- R447: `rate_ok`, with the bucket it leaves. -/
def rateOk (rate sev now : Nat) (b : Bucket) : Bool × Bucket :=
  if rate = 0xFFFF then (true, b)
  else
    let tok := min (b.tok + (now - b.last) * rate) (16 * evOne)
    if evOne ≤ tok then (true, { b with tok := tok - evOne, last := now })
    else (decide (5 ≤ sev), { b with tok := tok, last := now })

/-- Remove the first record of a severity. -/
def dropFirstSev (s : Nat) : List EvRec → List EvRec
  | [] => []
  | r :: t => if r.sev = s then t else r :: dropFirstSev s t

/-- R446: `store`: the records kept, and whether `r` was dropped. -/
def storeRec (cap : Nat) (l : List EvRec) (r : EvRec) : List EvRec × Bool :=
  if l.length < cap then (l ++ [r], false)
  else
    match (upTo (r.sev + 1)).find? (fun s => l.any (fun q => q.sev == s)) with
    | some s => (dropFirstSev s l ++ [r], false)
    | none => (l, true)

/-- The largest value of a statistics counter (R453). -/
def cntMax : Nat := 2 ^ 63 - 1

/-- R453: a counter with `n` added, and whether it has just saturated. -/
def cntAdd (w : W64) (n : Nat) : W64 × Bool :=
  let v := fieldOf w 62 0
  if cntMax < v + n then
    (BitVec.ofNat 64 (2 ^ 63 + cntMax), !bitOf w 63)
  else (BitVec.ofNat 64 (v + n + (if bitOf w 63 then 2 ^ 63 else 0)), false)

/-- R446, R447, R448, R451: a record passes its rate limit, is numbered, stored and queued for
the mirror. `cnt` adds to a counter, `again` logs EV_EVT_MIRROR_DROPPED. -/
def logWith (cnt : Chip → Nat → Chip) (again : Chip → Chip) (c : Chip) (a : EvArgs) : Chip :=
  let sev := a.severity
  let (ok, b) := rateOk (c.evt.rate a.code) sev c.time (c.evt.bucket a.code)
  if ok then
    let seq := wrapSuccSkip0 48 c.evt.seqCtr
    let r : EvRec :=
      { seq := seq, code := a.code, sev := sev, domain := a.domain.getD (evDomain a.code),
        refKind := a.refKind, suppressed := min b.supp 65535, part := a.part,
        param0 := a.param0, ref := a.ref, param1 := a.param1 }
    let e := { c.evt with seqCtr := seq, buckets := assocPut c.evt.buckets a.code { b with supp := 0 } }
    let c :=
      if e.live then
        let (l, lost) := storeRec 65536 e.ring r
        let c := { c with evt := { e with ring := l } }
        if lost then cnt c (Reg.evtDropped sev) else c
      else
        let (l, lost) := storeRec 256 e.early r
        let d := if lost then e.earlyDrop.set sev (e.earlyDrop.getD sev 0 + 1) else e.earlyDrop
        { c with evt := { e with early := l, earlyDrop := d } }
    if sev < 5 then c
    else
      let w := evWords r
      let c := (upTo 4).foldl (fun c i => c.setReg (Reg.evtLastSevere i) (w.getD i 0#64)) c
      if c.evt.queue.length < 64 then { c with evt := { c.evt with queue := c.evt.queue ++ [r] } }
      else
        let c := cnt c Reg.evtMirrorDropped
        if c.evt.fullSeen then c else again { c with evt := { c.evt with fullSeen := true } }
  else
    let e := { c.evt with buckets := assocPut c.evt.buckets a.code { b with supp := b.supp + 1 } }
    cnt { c with evt := e } Reg.evtSuppressed

/-- The record of a counter that saturates (R453). -/
def satArgs (off : Nat) : EvArgs := { code := 0x0301, refKind := 3, ref := off }

/-- R453: add to a counter; EV_CNT_SATURATED is logged when it saturates. The recorder's own
counters can saturate while that record is logged, so the depth is bounded by the number of
those counters. -/
def bumpFuel : Nat → Chip → Nat → Nat → Chip
  | 0, c, off, n => c.setReg off (cntAdd (c.reg off) n).1
  | k + 1, c, off, n =>
    let (w, sat) := cntAdd (c.reg off) n
    let c := c.setReg off w
    if sat then
      let cnt := fun c o => bumpFuel k c o 1
      logWith cnt (fun c => logWith cnt (fun c => c) c { code := 0x0303 }) c (satArgs off)
    else c

/-- Add `n` to the statistics counter at an offset (R453). -/
def Chip.bumpBy (c : Chip) (off n : Nat) : Chip := if n = 0 then c else bumpFuel 12 c off n

/-- Add 1 to the statistics counter at an offset. -/
def Chip.bump (c : Chip) (off : Nat) : Chip := bumpFuel 12 c off 1

/-- Log an event record. -/
def Chip.log (c : Chip) (a : EvArgs) : Chip :=
  logWith (fun c o => c.bump o)
    (fun c => logWith (fun c o => c.bump o) (fun c => c) c { code := 0x0303 }) c a

/-- Set a register's flag bits (R55 sets; software clears). -/
def Chip.setBits (c : Chip) (off bits : Nat) : Chip :=
  c.setReg off (c.reg off ||| BitVec.ofNat 64 bits)

/-- Saturating add to a plain field `hi:lo` (no `SAT` bit). -/
def Chip.satInc (c : Chip) (off hi lo : Nat) : Chip :=
  c.setFld off hi lo (min (2 ^ (hi + 1 - lo) - 1) (c.fld off hi lo + 1))

/-- Wrapping increment of a field. -/
def Chip.wrapInc (c : Chip) (off hi lo : Nat) : Chip :=
  c.setFld off hi lo ((c.fld off hi lo + 1) % 2 ^ (hi + 1 - lo))

/-! Device identity and state. -/

/-- DEV_STATE (R391, R416): 0 ROM_VERIFY, 1 NO_IMAGE, 2 START_UP, 3 SERVICE, 4 TEST, 5 RECOVERY. -/
def Chip.devState (c : Chip) : Nat := c.fld Reg.idBootStatus 63 61

/-- The role (R9): 0 before an image is applied. -/
def Chip.role (c : Chip) : Nat := c.fld Reg.idDevice 50 48

/-- Whether a port is the owner port. No port holds owner privileges before START_UP (R393). -/
def Chip.isOwner (c : Chip) (p : Nat) : Bool :=
  2 ≤ c.devState && p == c.fld Reg.idDevice 47 46

/-- The device ID (R12, R467). -/
def Chip.deviceId (c : Chip) : Nat := c.fld Reg.idDevice 15 0

/-- The fabric manager's device ID; 0xFFFF for none. -/
def Chip.mgrDevice (c : Chip) : Nat := c.fld Reg.idDevice 31 16

/-- The state of a power domain (R429): 0 OFF, 1 POWERING_UP, 2 UP, 3 GOING_DOWN, 4 LOCKED_OFF. -/
def Chip.domState (c : Chip) (d : Nat) : Nat := c.fld (Reg.pwrDomainStatus d) 63 61

/-- Whether a power domain is UP. -/
def Chip.domUp (c : Chip) (d : Nat) : Bool := c.domState d == 2

/-- The reset epoch of a domain (R431). -/
def Chip.domEpoch (c : Chip) (d : Nat) : Nat := c.fld (Reg.pwrDomainStatus d) 47 32

/-- A calibration value in use (R414): what training gave, or a trim. -/
def Chip.trainAs (c : Chip) (kind idx : Nat) (v : List Byte) : Chip :=
  let l := c.boot.trained.filter (fun e => !(e.1 == kind && e.2.1 == idx))
  { c with boot := { c.boot with trained := l ++ [(kind, idx, v)] } }

/-- The next free value's index: the counter is advanced (log entry 2). -/
def Chip.takeFree (c : Chip) : Nat × Chip := (c.free, { c with free := c.free + 1 })

/-- Training ends with a value that the specification does not give (R414): a free value. -/
def Chip.train (c : Chip) (kind idx : Nat) : Chip :=
  let (k, c) := c.takeFree
  c.trainAs kind idx (leBytes (Config.freeWord k).toNat 8)

/-- R415, R427: a domain that powers up takes its voltage trim (calibration kind 6). -/
def Chip.takeTrim (c : Chip) (d : Nat) : Chip :=
  match c.boot.calUse.find? (fun e => e.1 == 6 && e.2.1 == d) with
  | some e => c.trainAs 6 d e.2.2
  | none => c

/-- R254, R292: replicas discarded, and counted. -/
def Chip.dropReplicas (c : Chip) (f : Replica → Bool) : Chip :=
  let n := (c.emb.replicas.filter f).length
  ({ c with emb := { c.emb with replicas := dropWhere f c.emb.replicas } }).bumpBy (Reg.movCnt 7) n

end Sys2Proof.Machine
end

