-- ==== Sys2Proof/Machine/Events.lean ====
section
/-!
DEFINITION. The event recorder's registers and the flash mirror (R449 to R455), and the hold-up
check before every flash or fuse unit (R411).
-/
namespace Sys2Proof.Machine

/-- Whether an accessor acts as the owner port. -/
def Chip.accOwner (c : Chip) (a : Accessor) : Bool :=
  match a with
  | .port p => c.isOwner p
  | .regInit => true
  | .manager => false

/-- A record that reports a refused write (R450 and its kin): the register offset in `REF`. -/
def refused (code off : Nat) : EvArgs := { code := code, refKind := 3, ref := off }

/-- R449: the stored records. -/
def Evt.stored (e : Evt) : List EvRec := if e.live then e.ring else e.early

/-- R449: the stored record with the smallest number at or after `v`. -/
def firstAtOrAfter (l : List EvRec) (v : Nat) : Option EvRec :=
  l.foldl (fun best r =>
    if atOrBefore 48 v r.seq then
      match best with
      | none => some r
      | some b => if serialDiff 48 v r.seq < serialDiff 48 v b.seq then some r else best
    else best) none

/-- Four words written to consecutive registers. -/
def Chip.setWords (c : Chip) (off : Nat) (ws : List W64) : Chip :=
  (ws.zipIdx).foldl (fun c p => c.setReg (off + 8 * p.2) p.1) c

/-- R449: a write of EVT_READ_SEL by owner software. -/
def evtSelect (c : Chip) (v : W64) : Chip :=
  match firstAtOrAfter c.evt.stored (fieldOf v 47 0) with
  | some r =>
    (c.setReg Reg.evtReadSel (wordOf [(63, 63, 1), (47, 0, r.seq)])).setWords (Reg.evtReadData 0) (evWords r)
  | none =>
    (c.setReg Reg.evtReadSel (wordOf [(47, 0, fieldOf v 47 0)])).setWords (Reg.evtReadData 0)
      [0#64, 0#64, 0#64, 0#64]

/-- R450: a write of EVT_RATE by owner software: ignored for an undefined code. -/
def evtSetRate (c : Chip) (v : W64) : Chip :=
  let code := c.fld Reg.evtRateSel 15 0
  if codeDefined code then
    let r := fieldOf v 15 0
    let c := { c with evt := { c.evt with rates := assocPut c.evt.rates code (max 1 r) } }
    c.setReg Reg.evtRate (wordOf [(63, 63, bitN (r == 0))])
  else c

/-- R450: what a read of EVT_RATE returns. -/
def evtRateView (c : Chip) : W64 :=
  let code := c.fld Reg.evtRateSel 15 0
  let k := codeDefined code
  wordOf [(63, 63, c.fld Reg.evtRate 63 63), (62, 62, bitN (!k)),
    (15, 0, if k then c.evt.rate code else 0)]

/-- R452: an erased slot reads all ones. -/
def erasedWord : W64 := 0xFFFFFFFFFFFFFFFF#64

/-- The words of a mirror slot. -/
def mirWords (nv : Nv) (slot : Nat) : List W64 :=
  (assocGet nv.mirror slot).getD [erasedWord, erasedWord, erasedWord, erasedWord]

/-- R451: `MAGIC`. -/
def mirMagic : Nat := 0x524D4B46

/-- R452: whether a slot passes its check. -/
def mirValid (slot : Nat) (ws : List W64) : Bool :=
  if slot % 128 = 0 then fieldOf (ws.getD 0 0#64) 31 0 == mirMagic
  else
    let w1 := ws.getD 1 0#64
    codeDefined (fieldOf (ws.getD 0 0#64) 15 0) && (fieldOf w1 63 61 == 5 || fieldOf w1 63 61 == 6) &&
      fieldOf w1 53 48 == 0

/-- R452: a write of EVT_MIRROR_SEL by owner software; the flash read ends at once. -/
def evtMirrorSelect (nv : Nv) (c : Chip) (v : W64) : Chip :=
  let n := fieldOf v 10 0
  let ws := mirWords nv n
  (c.setReg Reg.evtMirrorSel (wordOf [(63, 63, bitN (mirValid n ws)), (10, 0, n)])).setWords
    (Reg.evtMirrorData 0) ws

/-- R455: the block number of an offset. -/
def blockOf (off : Nat) : Nat := (off / 2 ^ 20) % 256

/-- R455: CNT_CLEAR by owner software. -/
def cntClearAll (c : Chip) (v : W64) : Chip :=
  if bitOf v 63 then
    let b := fieldOf v 7 0
    { c with regs := c.regs.filter (fun p => !(isCounter p.1 && (b == 0xFF || blockOf p.1 == b))) }
  else c

/-- A write to the events block from a port that is not the owner port (R450). -/
def evtOwnerWrite (c : Chip) (p off : Nat) (f : Chip → Chip) : Chip :=
  if c.isOwner p then f c else c.log (refused 0x0302 off)

/-! The hold-up check (R411). Energies in 10⁻¹² J: E_avail = C·(V² − V_HOLD_MIN²)/2 with C in µF
and V in mV; E_req with P_HOLD in 0.1 W and E_SHED in mJ. -/

/-- R411: E_avail. -/
def holdAvail (cUf vMv minV : Nat) : Nat := cUf * (vMv * vMv - (1000 * minV) * (1000 * minV)) / 2

/-- R411: E_req for a unit of `us` microseconds. -/
def holdReq (pHold eShed margin us : Nat) : Nat :=
  (100000 * (pHold * us) + 1000000000 * eShed) * (100 + margin) / 100

/-- R411: the check before a unit of `us` microseconds: whether it may start, and the chip with
the status updated; a deferral is counted and logged with the write's kind (the number of its BOOT_CMD; 0 the mirror). -/
def holdup (c : Chip) (us kind : Nat) : Bool × Chip :=
  let cal := c.reg (Reg.bootHoldupStatus + 8)
  let ctl := c.reg Reg.bootHoldup
  let v := c.pwr.vMv
  let a := holdAvail (fieldOf cal 63 48) v (fieldOf cal 47 40)
  let r := holdReq (fieldOf ctl 31 24) (fieldOf ctl 23 14) (fieldOf ctl 39 32) us
  let c := c.setReg Reg.bootHoldupStatus
    (wordOf [(63, 52, v / 100), (51, 32, a / 1000000000), (31, 12, r / 1000000000)])
  if r ≤ a then (true, c)
  else (false, (c.bump Reg.bootHoldupDeferrals).log { code := 0x0106, param1 := kind })

/-- R451: erase a sector of the mirror. -/
def mirErase (nv : Nv) (k : Nat) : Nv :=
  { nv with mirror := nv.mirror.filter (fun p => !(p.1 / 128 == k)) }

/-- R451: whether a sector of the mirror is erased. -/
def mirErased (nv : Nv) (k : Nat) : Bool := nv.mirror.all (fun p => !(p.1 / 128 == k))

/-- R451: the header of the current sector. -/
def mirHeader (c : Chip) : List W64 :=
  [BitVec.ofNat 64 (mirMagic + c.evt.mirSeq * 2 ^ 32), c.reg (Reg.secBootId 0), c.reg (Reg.secBootId 1),
   BitVec.ofNat 64 (c.fld Reg.pwrResetStatus 15 0)]

/-- R451, R393 step 3: the write position is found in the mirror; an unreadable mirror starts at
sector 0 with `SECTOR_SEQ` 1. -/
def mirStart (s : State) : State :=
  let heads := s.nv.mirror.filter (fun p => p.1 % 128 == 0 && mirValid p.1 p.2)
  let best := heads.foldl (fun (b : Option (Nat × Nat)) p =>
    let q := fieldOf (p.2.getD 0 0#64) 63 32
    match b with
    | none => some (p.1 / 128, q)
    | some (_, qb) => if precedes 32 qb q then some (p.1 / 128, q) else b) none
  match best with
  | some (k, q) =>
    let free := ((upTo 128).find? (fun i => (assocGet s.nv.mirror (128 * k + i)).isNone)).getD 128
    let e := { s.chip.evt with mirLive := true, mirSeq := q, mirHdr := false, mirPos := 128 * k + free,
                               mirNext := mirErased s.nv ((k + 1) % 16) }
    { s with chip := { s.chip with evt := e } }
  | none =>
    let nv := mirErase s.nv 0
    let e := { s.chip.evt with mirLive := true, mirSeq := 1, mirHdr := true, mirPos := 0,
                               mirNext := mirErased nv 1 }
    { s with chip := { s.chip with evt := e }, nv := nv }

/-- Whether the current sector is full: the position is at its end. -/
def Evt.sectorFull (e : Evt) : Bool := e.mirPos % 128 == 0 && !e.mirHdr

/-- R451: move into the next sector when the current one is full and the next is erased. -/
def mirAdvance (e : Evt) : Evt :=
  if e.sectorFull && e.mirNext then
    { e with mirPos := e.mirPos % 2048, mirHdr := true, mirNext := false,
             mirSeq := wrapSuccSkip0 32 e.mirSeq }
  else e

/-- R451: one page program of the mirror: the sector header where it is due, else the record at
the front of the queue. -/
def mirWrite (s : State) : State :=
  let e := mirAdvance s.chip.evt
  if !e.mirLive || e.queue.isEmpty || e.sectorFull then s
  else
    let (ok, c) := holdup { s.chip with evt := e } s.nv.flash.pageUs 0
    if ok then
      if e.mirHdr then
        let ws := mirHeader c
        let c := c.bump Reg.bootFlashUnits
        { s with chip := { c with evt := { c.evt with mirHdr := false, mirPos := e.mirPos + 1 } },
                 nv := { s.nv with mirror := assocPut s.nv.mirror e.mirPos ws } }
      else
        match c.evt.queue with
        | [] => { s with chip := c }
        | r :: q =>
          let ev := { c.evt with queue := q, fullSeen := false, mirPos := e.mirPos + 1 }
          { s with chip := (({ c with evt := ev }).bump Reg.evtMirrorWritten).bump Reg.bootFlashUnits,
                   nv := { s.nv with mirror := assocPut s.nv.mirror e.mirPos (evWords r) } }
    else { s with chip := c }

/-- R451: the erase of the sector after the current one, one unit, retried when deferred. -/
def mirEraseNext (s : State) : State :=
  let e := s.chip.evt
  if !e.mirLive || e.mirNext then s
  else
    let cur := if e.sectorFull then (e.mirPos / 128 + 15) % 16 else e.mirPos / 128
    let (ok, c) := holdup s.chip s.nv.flash.eraseUs 0
    if ok then
      { s with chip := ({ c with evt := { c.evt with mirNext := true } }).bump Reg.bootFlashUnits,
               nv := mirErase s.nv ((cur + 1) % 16) }
    else { s with chip := c }

/-- R446: the ring becomes live: the early buffer is copied in sequence order and its drops are
counted. -/
def ringLive (c : Chip) : Chip :=
  if c.evt.live then c
  else
    let e := c.evt
    let c := { c with evt := { e with live := true, ring := e.early, early := [],
                                      earlyDrop := [0, 0, 0, 0, 0, 0, 0] } }
    let c := (e.earlyDrop.zipIdx).foldl (fun c p => c.bumpBy (Reg.evtDropped p.2) p.1) c
    c.bumpBy Reg.evtEarlyDropped (sumN e.earlyDrop)

/-- R449: the ring's status registers as they read. -/
def evtRingView (c : Chip) (off : Nat) : W64 :=
  let l := c.evt.stored
  if off = Reg.evtRingStatus then wordOf [(63, 16, c.evt.seqCtr)]
  else if off = Reg.evtRingOldest then
    wordOf [(63, 16, ((l.foldl (fun (b : Option Nat) r =>
      match b with
      | none => some r.seq
      | some q => if precedes 48 r.seq q then some r.seq else b) none).getD 0))]
  else wordOf [(63, 63, bitN c.evt.live), (62, 62, bitN c.evt.mirLive), (16, 0, l.length)]

end Sys2Proof.Machine
end

