-- ==== Sys2Proof/Machine/LogNum.lean ====
section
/-!
DEFINITION. The logarithmic formats L4 and L8, their tables, row anchors, placed products,
the accumulator and every conversion into and out of a tile (R28 to R49, R52).
-/
namespace Sys2Proof.Machine

/-- An operand or tile element format (R28, R29, R32). -/
inductive ElemFmt where
  | l4 | l8 | e4m3 | e5m2 | bf16
  deriving DecidableEq, Repr

/-- What a conversion or a reduction raises, counted as R54 counts it. -/
structure ArithCnt where
  accSat         : Nat := 0
  outSat         : Nat := 0
  scaleClamped   : Nat := 0
  codeUnderflow  : Nat := 0
  scaleInvalid   : Nat := 0
  linSpecialIn   : Nat := 0
  nanFlushed     : Nat := 0
  deriving DecidableEq, Repr

/-- Counts added field by field. -/
def arithAdd (a b : ArithCnt) : ArithCnt :=
  ⟨a.accSat + b.accSat, a.outSat + b.outSat, a.scaleClamped + b.scaleClamped,
   a.codeUnderflow + b.codeUnderflow, a.scaleInvalid + b.scaleInvalid,
   a.linSpecialIn + b.linSpecialIn, a.nanFlushed + b.nanFlushed⟩

/-- The counts of a list of results, added. -/
def arithSum (l : List ArithCnt) : ArithCnt := l.foldl arithAdd {}

/-- The seven counts in the order of the flag bits 0 to 6 (R53). -/
def arithList (a : ArithCnt) : List Nat :=
  [a.accSat, a.outSat, a.scaleClamped, a.codeUnderflow, a.scaleInvalid, a.linSpecialIn,
   a.nanFlushed]

/-- The flag bits 6:0 that the counts raise (R53). -/
def arithFlags (a : ArithCnt) : Nat :=
  ((arithList a).zipIdx.map (fun p => if p.1 = 0 then 0 else 2 ^ p.2)).foldl (· + ·) 0

/-- R33: the fraction table T. -/
def tabT : List Nat :=
  [0x8000, 0x85AB, 0x8B96, 0x91C4, 0x9838, 0x9EF5, 0xA5FF, 0xAD58,
   0xB505, 0xBD09, 0xC567, 0xCE25, 0xD745, 0xE0CD, 0xEAC1, 0xF525]
/-- R33: the boundary table B. -/
def tabB : List Nat :=
  [0x82CE, 0x8898, 0x8EA4, 0x94F5, 0x9B8D, 0xA270, 0xA9A1, 0xB124,
   0xB8FC, 0xC12C, 0xC9BA, 0xD2A8, 0xDBFC, 0xE5B9, 0xEFE5, 0xFA84]
/-- R33: one entry of T. -/
def tT (f : Nat) : Nat := tabT.getD f 0
/-- R34: the L4 boundary table. -/
def tabB4 : List Nat := [tT 4, tT 12]

/-- R31: bytes of a tile of a format. -/
def tileBytes : ElemFmt → Nat
  | .l4 => 8704
  | .l8 => 16896
  | .e4m3 => 16384
  | .e5m2 => 16384
  | .bf16 => 32768

/-- R31: bits of one element. -/
def elemBits : ElemFmt → Nat
  | .l4 => 4
  | .l8 => 8
  | .e4m3 => 8
  | .e5m2 => 8
  | .bf16 => 16

/-- Whether a format is logarithmic (has block scales, R30). -/
def isLog : ElemFmt → Bool
  | .l4 => true
  | .l8 => true
  | _ => false

/-- One byte of a list, 0 past its end. -/
def byteAt (bs : List Byte) (i : Nat) : Nat := (bs.getD i 0#8).toNat

/-- R31: the raw code of element `k` of row `r` of a tile. -/
def tileCode (f : ElemFmt) (bs : List Byte) (r k : Nat) : Nat :=
  match f with
  | .l4 => let b := byteAt bs (64 * r + k / 2); if k % 2 = 0 then b % 16 else b / 16
  | .l8 => byteAt bs (128 * r + k)
  | .e4m3 => byteAt bs (128 * r + k)
  | .e5m2 => byteAt bs (128 * r + k)
  | .bf16 => byteAt bs (256 * r + 2 * k) + 256 * byteAt bs (256 * r + 2 * k + 1)

/-- R31: the scale byte of block `b` of row `r`. -/
def tileScale (f : ElemFmt) (bs : List Byte) (r b : Nat) : Nat :=
  match f with
  | .l4 => byteAt bs (8192 + 4 * r + b)
  | .l8 => byteAt bs (16384 + 4 * r + b)
  | _ => 0

/-- A logarithmic element that takes part in a product: its sign, its index in sixteenths
of an octave without the scale, and its scale byte. -/
structure LogElem where
  neg : Bool
  idx : Int
  e   : Nat
  deriving DecidableEq, Repr

/-- R28, R29, R30: an L4 or L8 element with its scale byte; `none` reads as zero. -/
def logElem (f : ElemFmt) (code e : Nat) : Option LogElem :=
  if e = 0 ∨ e = 255 then none
  else match f with
    | .l4 => let c := code % 8
             if c = 0 then none else some ⟨code ≥ 8, 8 * ((c : Int) - 7), e⟩
    | .l8 => let c := code % 128
             if c = 0 then none else some ⟨code ≥ 128, (c : Int) - 127, e⟩
    | _ => none

/-- R32: an FP8 or BF16 element. -/
def linVal (f : ElemFmt) (code : Nat) : FVal :=
  match f with
  | .e4m3 =>
    let neg := code ≥ 128; let e := code / 8 % 16; let m := code % 8
    if e = 15 ∧ m = 7 then .nan
    else if e = 0 then .fin ⟨neg, m, -9⟩ else .fin ⟨neg, m + 8, (e : Int) - 10⟩
  | .e5m2 =>
    let neg := code ≥ 128; let e := code / 4 % 32; let m := code % 4
    if e = 31 then (if m = 0 then .inf neg else .nan)
    else if e = 0 then .fin ⟨neg, m, -16⟩ else .fin ⟨neg, m + 4, (e : Int) - 17⟩
  | .bf16 => f32Val (BitVec.ofNat 32 (code * 65536))
  | _ => .nan

/-- R32: the exact linear value of an FP8 or BF16 element; `none` for a NaN, an infinity or
a zero (no product, R40, R52). -/
def linElem (f : ElemFmt) (code : Nat) : Option Dyadic :=
  match linVal f code with
  | .fin d => if d.m = 0 then none else some d
  | _ => none

/-- Whether an FP8 or BF16 element is a NaN or an infinity (R40: `LIN_SPECIAL_IN`). -/
def linSpecial (f : ElemFmt) (code : Nat) : Bool :=
  match linVal f code with
  | .fin _ => false
  | _ => true

/-- floor(log2 |v|) of a nonzero dyadic value. -/
def dyFloorLog (d : Dyadic) : Int := (Nat.log2 d.m : Int) + d.x

/-- R35: a row anchor; `none` is the mark `0x8000`. -/
abbrev Anchor := Option Int

/-- R35: the anchor of a row of scale bytes (0xFF counts as 0x00). -/
def logAnchor (scales : List Nat) : Anchor :=
  some (Int.ofNat ((scales.map (fun e => if e = 255 then 0 else e)).foldl max 0))

/-- R35: the anchor of an FP8 or BF16 row: the largest floor(log2 |v|). -/
def linAnchor (f : ElemFmt) (codes : List Nat) : Anchor :=
  codes.foldl (fun a c => match linElem f c, a with
    | none, a => a
    | some d, none => some (dyFloorLog d)
    | some d, some m => some (max m (dyFloorLog d))) none

/-- R35: a 16-bit anchor word. -/
def anchorWord : Anchor → Nat
  | none => 0x8000
  | some i => Int.toNat (i % (65536 : Int))

/-- R35: an anchor word read back (`0x8000` marks a row with no nonzero element). -/
def anchorOfWord (w : Nat) : Anchor :=
  if w = 0x8000 then none
  else if w < 0x8000 then some (w : Int) else some ((w : Int) - 65536)

/-- R37: the accumulator anchor G in octaves, from the weight and activation anchors;
`none` when either marks a row with no nonzero element. -/
def accAnchor (log : Bool) (hw hx : Anchor) : Option Int :=
  match hw, hx with
  | some a, some b => some (if log then ceilDiv (a + b - 256) 2 else a + b + 2)
  | _, _ => none

/-- R39: the placed integer of a logarithmic product. -/
def placeLns (a b : LogElem) (g : Int) : Int :=
  let r := a.idx + b.idx + 8 * ((a.e : Int) - 128) + 8 * ((b.e : Int) - 128) - 16 * g
  let q := floorDiv r 16
  let f := (r - 16 * q).toNat
  let sh := q + 16
  let p : Nat := if 0 ≤ sh then tT f <<< sh.toNat
                 else if -16 < sh then tT f >>> (-sh).toNat else 0
  if a.neg != b.neg then -(p : Int) else (p : Int)

/-- floor(m × 2^x). -/
def dyFloor (m : Nat) (x : Int) : Nat :=
  if 0 ≤ x then m <<< x.toNat else m >>> (-x).toNat

/-- R40: the placed integer of a linear product. -/
def placeLin (a b : Dyadic) (g : Int) : Int :=
  let p := dyMul a b
  let v := dyFloor p.m (p.x + 31 - g)
  if p.neg then -(v : Int) else (v : Int)

/-- R41: the 48-bit range check at the end of a reduction. -/
def accClamp (v : Int) : Int × Bool :=
  if v < -(2 ^ 47 : Int) then (-(2 ^ 47 : Int), true)
  else if (2 ^ 47 : Int) - 1 < v then ((2 ^ 47 : Int) - 1, true) else (v, false)

/-- R42: a partial sum as a 64-bit word, bits 63:56 zero. -/
def partialWord (v : Int) : W64 := BitVec.ofNat 64 (Int.toNat (v % ((2 ^ 56 : Nat) : Int)))

/-- R42: a partial-sum word read back as a signed 56-bit number. -/
def partialOfWord (w : W64) : Int :=
  let n : Nat := w.toNat % 2 ^ 56
  if n < 2 ^ 55 then (n : Int) else (n : Int) - 2 ^ 56

/-- R44: the index of a positive magnitude `m × 2^x`, in units of 1/res octave. -/
def logRound (m : Nat) (x : Int) (l8 : Bool) : Int :=
  let p := Nat.log2 m
  let n := if 15 ≤ p then m >>> (p - 15) else m <<< (15 - p)
  let tab := if l8 then tabB else tabB4
  let k := (tab.zipIdx.filter (fun t => n > t.1 || (n == t.1 && (t.2 + 1) % 2 == 0))).length
  (if l8 then 16 else 2) * ((p : Int) + x) + k

/-- One value on its way into a tile: exact, or a special binary32 input (R46, R48). -/
inductive OutVal where
  | num (d : Dyadic)
  | inf (neg : Bool)
  | nan
  deriving DecidableEq, Repr

/-- A binary32 value on its way into a tile. -/
def outOfF32 (w : W32) : OutVal :=
  match f32Val w with
  | .nan => .nan
  | .inf s => .inf s
  | .fin d => .num d

/-- An accumulator value at anchor G on its way into a tile (R44: m = |V|, x = G − 31). -/
def outOfAcc (v : Int) (g : Int) : OutVal := .num ⟨decide (v < 0), v.natAbs, g - 31⟩

/-- R48: a special input replaced as the device replaces it, with its counts. -/
def outFix (v : OutVal) : Dyadic × ArithCnt :=
  match v with
  | .num d => (d, {})
  | .inf s => (⟨s, 2 ^ 24 - 1, 104⟩, { outSat := 1 })
  | .nan => (⟨false, 0, 0⟩, { nanFlushed := 1 })

/-- R45 steps 2 to 7 on the indices of a block (`none` is a zero element): the codes with
their sign bit, the scale byte and the counts. `sat` marks the elements that were infinite: each is
one saturated element (R48, R54), whatever its code. -/
def scaleBlock (l8 : Bool) (sat : List Bool) (idx : List (Option (Bool × Int))) : List Nat × Nat × ArithCnt :=
  let top : Nat := if l8 then 127 else 7
  let signBit : Nat := if l8 then 128 else 8
  match (idx.filterMap (fun o => o.map (·.2))) with
  | [] => (idx.map (fun _ => 0), 0, {})
  | a :: as =>
    let amax := as.foldl max a
    let e0 := if l8 then 128 + ceilDiv amax 8 else 128 + amax
    let e := if e0 < 1 then 1 else if 254 < e0 then 254 else e0
    let per (o : Option (Bool × Int)) : Nat × Nat × Nat :=
      match o with
      | none => (0, 0, 0)
      | some (s, ai) =>
        let c := if l8 then ai - 8 * (e - 128) + 127 else ai - (e - 128) + 7
        let sb : Nat := if s then signBit else 0
        if Int.ofNat top < c then (top + sb, 1, 0)
        else if c < 1 then (0, 0, 1)
        else (c.toNat + sb, 0, 0)
    let rs := idx.map per
    let codes := rs.map (·.1)
    let e' := if codes.all (· == 0) then 0 else e.toNat
    (codes, e', { outSat := sumN ((rs.zipIdx).map (fun r => max r.1.2.1 (bitN (sat.getD r.2 false)))),
                  codeUnderflow := sumN (rs.map (·.2.2)), scaleClamped := if e = e0 then 0 else 1 })

/-- R45: a block of output values converted to L8 or L4. -/
def convBlock (l8 : Bool) (vals : List OutVal) : List Nat × Nat × ArithCnt :=
  let fixed := vals.map outFix
  let idx := fixed.map (fun p => if p.1.m = 0 then none
                                 else some (p.1.neg, logRound p.1.m p.1.x l8))
  let (codes, e, cnt) := scaleBlock l8 (fixed.map (fun p => p.2.outSat != 0)) idx
  (codes, e, arithAdd cnt { nanFlushed := sumN (fixed.map (fun p => p.2.nanFlushed)) })

/-- R47: the exact linear value of an L4 or L8 element: `T[f] × 2^(q−15)`. -/
def logValue (a : LogElem) : Dyadic :=
  let s := a.idx + 8 * ((a.e : Int) - 128)
  let q := floorDiv s 16
  ⟨a.neg, tT (s - 16 * q).toNat, q - 15⟩

/-- R47: an L4 or L8 element as binary32 (exact). -/
def logToF32 (f : ElemFmt) (code e : Nat) : W32 :=
  match logElem f code e with
  | none => f32Zero
  | some a => let d := logValue a; f32Round d.neg d.m d.x

/-- R47, R52: any element as binary32; special FP8 or BF16 inputs stay special. -/
def elemToF32 (f : ElemFmt) (code e : Nat) : W32 :=
  if isLog f then logToF32 f code e
  else match linVal f code with
    | .nan => f32NaN
    | .inf s => f32Inf s
    | .fin d => if d.m = 0 then f32Zero else f32Round d.neg d.m d.x

/-- R48: an L8 index becomes the L4 index round(s / 8), ties to even. -/
def idx8to4 (s : Int) : Int :=
  let q := floorDiv s 8
  let r := s - 8 * q
  if r > 4 then q + 1 else if r = 4 then q + q % 2 else q

/-- R48: one block of L8 codes converted to L4 through the index alone, or L4 to L8. -/
def convLogBlock (from8 : Bool) (codes : List Nat) (e : Nat) : List Nat × Nat × ArithCnt :=
  let f := if from8 then ElemFmt.l8 else ElemFmt.l4
  let idx := codes.map (fun c => (logElem f c e).map (fun a =>
    let s := a.idx + 8 * ((a.e : Int) - 128)
    (a.neg, if from8 then idx8to4 s else s)))
  scaleBlock (!from8) [] idx

/-- R46: a value converted to FP8 or BF16: the element code and its counts. -/
def convLin (f : ElemFmt) (v : OutVal) : Nat × ArithCnt :=
  let (d, cnt) := outFix v
  let sgn := if d.neg then 2 ^ (elemBits f - 1) else 0
  let fmt := match f with | .e4m3 => fmtE4m3 | .e5m2 => fmtE5m2 | _ => fmtBf16
  let (b, o) := satLin fmt d.m d.x
  (if b = 0 then 0 else b + sgn,
   arithAdd cnt { outSat := if o then (if cnt.outSat = 0 then 1 else 0) else 0 })

/-- A converted row: raw codes, scale bytes (none for a linear format), anchor, counts. -/
structure RowOut where
  codes  : List Nat
  scales : List Nat
  anchor : Anchor
  cnt    : ArithCnt
  deriving DecidableEq, Repr

/-- R45, R46, R49: a row of values converted into a tile format, with its row anchor
(R49: `0x8000` when every element written is zero). -/
def convRow (f : ElemFmt) (vals : List OutVal) : RowOut :=
  match f with
  | .l4 =>
    let bs := (chunksOf 32 vals.length vals).map (convBlock false)
    let codes := (bs.map (·.1)).flatten
    ⟨codes, bs.map (·.2.1), if codes.all (· == 0) then none else logAnchor (bs.map (·.2.1)),
     arithSum (bs.map (·.2.2))⟩
  | .l8 =>
    let bs := (chunksOf 32 vals.length vals).map (convBlock true)
    let codes := (bs.map (·.1)).flatten
    ⟨codes, bs.map (·.2.1), if codes.all (· == 0) then none else logAnchor (bs.map (·.2.1)),
     arithSum (bs.map (·.2.2))⟩
  | f =>
    let es := vals.map (convLin f)
    ⟨es.map (·.1), [], linAnchor f (es.map (·.1)), arithSum (es.map (·.2))⟩

/-- R31: the bytes of a row of raw codes. -/
def packCodes (f : ElemFmt) (codes : List Nat) : List Byte :=
  match f with
  | .l4 => (chunksOf 2 codes.length codes).map
      (fun p => BitVec.ofNat 8 (p.getD 0 0 % 16 + 16 * (p.getD 1 0 % 16)))
  | .bf16 => (codes.map (fun c => leBytes c 2)).flatten
  | _ => codes.map (fun c => BitVec.ofNat 8 c)

/-- R31: a tile of rows: the element bytes of every row, then the scale bytes. -/
def packTile (f : ElemFmt) (rows : List RowOut) : List Byte :=
  (rows.map (fun r => packCodes f r.codes)).flatten
    ++ (rows.map (fun r => r.scales.map (fun e => BitVec.ofNat 8 e))).flatten

/-- The row of a tile: its 128 codes and its 4 scale bytes. -/
def tileRow (f : ElemFmt) (bs : List Byte) (r : Nat) : List Nat × List Nat :=
  ((upTo 128).map (tileCode f bs r), if isLog f then (upTo 4).map (tileScale f bs r) else [])

/-- R35: the anchor of one row over several tiles of the reduction dimension. -/
def rowAnchorOf (f : ElemFmt) (rows : List (List Nat × List Nat)) : Anchor :=
  if isLog f then
    if rows.all (fun r => (upTo r.1.length).all
        (fun k => (logElem f (r.1.getD k 0) (r.2.getD (k / 32) 0)).isNone)) then none
    else logAnchor (rows.map (·.2)).flatten
  else linAnchor f (rows.map (·.1)).flatten

/-- The element `k` of a row in its block's scale. -/
def rowLog (f : ElemFmt) (row : List Nat × List Nat) (k : Nat) : Option LogElem :=
  logElem f (row.1.getD k 0) (row.2.getD (k / 32) 0)

/-- R39, R40, R41: the sum of the placed products of two rows of one reduction tile. -/
def dotPlaced (fw fx : ElemFmt) (w x : List Nat × List Nat) (g : Int) : Int :=
  (upTo (min w.1.length x.1.length)).foldl (fun acc k =>
    if isLog fw then
      match rowLog fw w k, rowLog fx x k with
      | some a, some b => acc + placeLns a b g
      | _, _ => acc
    else
      match linElem fw (w.1.getD k 0), linElem fx (x.1.getD k 0) with
      | some a, some b => acc + placeLin a b g
      | _, _ => acc) 0

/-- R30, R40: what reading one operand row counts. -/
def rowReadCnt (f : ElemFmt) (row : List Nat × List Nat) : ArithCnt :=
  if isLog f then { scaleInvalid := (row.2.filter (· == 255)).length }
  else { linSpecialIn := (row.1.filter (linSpecial f)).length }

/-- R38: the pairs of operand formats that a matrix product accepts. -/
def pairOk (fw fx : ElemFmt) : Bool := isLog fw == isLog fx

end Sys2Proof.Machine
end

