-- ==== Sys2Proof/Machine/Flags.lean ====
section
/-!
DEFINITION. The arithmetic flags of the quadrants and their counters (R53 to R55).
-/
namespace Sys2Proof.Machine

/-- R53 to R55: what a conversion or reduction raised, at the stations of a kind (0 MX, 1 VX,
2 AT, 3 LD) of a quadrant: the flags are set, the counters grow, and EV_ARITH_SATURATED or
EV_SCALE_INVALID is logged in the station's domain when a flag changes from 0 to 1. DESIGN CHOICE: where `ACC_SAT` and
`OUT_SAT` rise in one update, one EV_ARITH_SATURATED is logged (log entry 78). -/
def Chip.raise (c : Chip) (quad kind dom : Nat) (a : ArithCnt) : Chip :=
  let off := Reg.arithFlagsReg quad kind
  let old := c.fld off 6 0
  let new := arithFlags a
  let c := c.setBits off new
  let c := ((arithList a).zipIdx).foldl (fun c p => c.bumpBy (Reg.arithCnt quad kind p.2) p.1) c
  let rises := fun (b : Nat) => new.testBit b && !old.testBit b
  let c := if rises 0 || rises 1 then c.log { code := 0x2003, domain := some dom, refKind := 3, ref := off } else c
  if rises 4 then c.log { code := 0x2004, domain := some dom, refKind := 3, ref := off } else c

/-- R53: a write-1-to-clear of a flags register. -/
def Chip.clearFlags (c : Chip) (off : Nat) (v : W64) : Chip :=
  c.setReg off (c.reg off &&& ~~~(v &&& 0x7F#64))

end Sys2Proof.Machine
end

