-- ==== Sys2Proof/Machine/Measure.lean ====
section
/-!
DEFINITION. The measurement registers and their log (R405).
-/
namespace Sys2Proof.Machine

/-- R405: the 32 bytes of a measurement register. -/
def Chip.meas (c : Chip) (n : Nat) : List Byte :=
  ((upTo 4).map (fun w => leBytes (c.reg (Reg.secMeas n w)).toNat 8)).flatten

/-- R405: an extend: the register becomes SHA-256(M ‖ D), and the log takes an entry while it has room. -/
def Chip.extend (c : Chip) (slot kind index : Nat) (d : List Byte) : Chip :=
  let m := sha256 (c.meas slot ++ d)
  let c := (upTo 4).foldl (fun c w =>
    c.setReg (Reg.secMeas slot w) (BitVec.ofNat 64 (natOfLe ((m.drop (8 * w)).take 8)))) c
  if c.boot.log.length < 1024 then
    { c with boot := { c.boot with log := c.boot.log ++ [(slot, kind, index, d)] } }
  else { c with boot := { c.boot with overflow := true } }

end Sys2Proof.Machine
end

