-- ==== Sys2Proof/Machine/Gcm.lean ====
section
/-!
DEFINITION. AES-256-GCM, which encrypts data at rest (R364; FIPS 197 and NIST SP 800-38D, the
standards the name refers to).
-/
namespace Sys2Proof.Machine

/-- Multiplication by x in GF(2⁸) with the AES polynomial. -/
def gfDouble (a : Nat) : Nat := if 128 ≤ a then ((2 * a) ^^^ 0x11B) else 2 * a

/-- Multiplication in GF(2⁸), `k` bits of the second factor left. -/
def gfMulBits : Nat → Nat → Nat → Nat
  | 0, _, _ => 0
  | k + 1, a, b => (if b % 2 = 1 then a else 0) ^^^ gfMulBits k (gfDouble a) (b / 2)

/-- Multiplication in GF(2⁸). -/
def gfMul (a b : Nat) : Nat := gfMulBits 8 a b

/-- The inverse in GF(2⁸): the 254th power; 0 for 0. -/
def gfInv (a : Nat) : Nat :=
  let a2 := gfMul a a; let a4 := gfMul a2 a2; let a8 := gfMul a4 a4; let a16 := gfMul a8 a8
  let a32 := gfMul a16 a16; let a64 := gfMul a32 a32; let a128 := gfMul a64 a64
  gfMul a2 (gfMul a4 (gfMul a8 (gfMul a16 (gfMul a32 (gfMul a64 a128)))))

/-- A byte rotated left. -/
def rotl8 (a k : Nat) : Nat := (a * 2 ^ k % 256) + a / 2 ^ (8 - k)

/-- The AES S-box. -/
def aesSub (a : Nat) : Nat :=
  let b := gfInv a
  b ^^^ rotl8 b 1 ^^^ rotl8 b 2 ^^^ rotl8 b 3 ^^^ rotl8 b 4 ^^^ 0x63

/-- Two lists added bytewise. -/
def xorL (a b : List Nat) : List Nat := List.zipWith (fun x y => x ^^^ y) a b

/-- The key schedule: words appended until `k` more are there. -/
def aesExpand : Nat → Nat → List (List Nat) → List (List Nat)
  | 0, _, ws => ws
  | k + 1, rc, ws =>
    let i := ws.length
    let p := ws.getD (i - 1) []
    let t := if i % 8 = 0 then
        xorL ((p.drop 1 ++ p.take 1).map aesSub) [rc, 0, 0, 0]
      else if i % 8 = 4 then p.map aesSub else p
    aesExpand k (if i % 8 = 0 then gfDouble rc else rc) (ws ++ [xorL (ws.getD (i - 8) []) t])

/-- The 15 round keys of 16 bytes of AES-256. -/
def aesKeys (key : List Byte) : List (List Nat) :=
  let ws := aesExpand 52 1 (chunksOf 4 8 (key.map BitVec.toNat))
  (chunksOf 4 15 ws).map List.flatten

/-- ShiftRows, on a column-major state. -/
def aesShift (s : List Nat) : List Nat :=
  (upTo 16).map (fun i => s.getD ((i + 4 * (i % 4)) % 16) 0)

/-- MixColumns on one column. -/
def aesMixCol (c : List Nat) : List Nat :=
  (upTo 4).map (fun i =>
    let g := fun k => c.getD ((i + k) % 4) 0
    gfDouble (g 0) ^^^ (gfDouble (g 1) ^^^ g 1) ^^^ g 2 ^^^ g 3)

/-- AES-256 on one block. -/
def aesBlock (rk : List (List Nat)) (blk : List Nat) : List Nat :=
  let s := xorL blk (rk.getD 0 [])
  let s := (upTo 13).foldl (fun s r =>
    let t := aesShift (s.map aesSub)
    xorL ((chunksOf 4 4 t).map aesMixCol).flatten (rk.getD (r + 1) [])) s
  xorL (aesShift (s.map aesSub)) (rk.getD 14 [])

/-- Multiplication in GF(2¹²⁸) as GCM orders its bits: `z` gathers, `v` is the running multiple. -/
def ghMul : Nat → Nat → Nat → Nat → Nat
  | 0, _, _, z => z
  | k + 1, x, v, z =>
    let z := if x.testBit k then z ^^^ v else z
    ghMul k x (if v % 2 = 1 then (v / 2) ^^^ (0xE1 * 2 ^ 120) else v / 2) z

/-- GHASH of 16-byte blocks. -/
def ghash (h : Nat) (bs : List (List Byte)) : Nat :=
  bs.foldl (fun y b => ghMul 128 (y ^^^ natOfBe b) h 0) 0

/-- Bytes cut into 16-byte blocks, the last padded with zero. -/
def blocks16 (bs : List Byte) : List (List Byte) :=
  (chunksOf 16 (bs.length + 1) bs).map (fun b => b ++ List.replicate (16 - b.length) 0#8)

/-- AES-256-GCM: the ciphertext and the 16-byte tag. -/
def gcmSeal (key iv aad pt : List Byte) : List Byte × List Byte :=
  let rk := aesKeys key
  let ks := fun (ctr : Nat) => (aesBlock rk ((iv ++ beBytes ctr 4).map BitVec.toNat)).map (BitVec.ofNat 8)
  let h := natOfBe ((aesBlock rk (List.replicate 16 0)).map (BitVec.ofNat 8))
  let ct := ((chunksOf 16 (pt.length + 1) pt).zipIdx.map (fun b =>
    List.zipWith (fun x y => x ^^^ y) b.1 (ks (b.2 + 2)))).flatten
  let lens := beBytes (8 * aad.length) 8 ++ beBytes (8 * ct.length) 8
  let s := ghash h (blocks16 aad ++ blocks16 ct ++ [lens])
  (ct, List.zipWith (fun x y => x ^^^ y) (beBytes s 16) (ks 1))

end Sys2Proof.Machine
end

