-- ==== Sys2Proof/Machine/HlSend.lean ====
section
/-!
DEFINITION. Sending to the hosts: numbering
and the resend logs (R372, R374), the emission ring (R381), and bulk transfers (R387).
-/
namespace Sys2Proof.Machine

/-- R374: the resend log's length. -/
def logCap : Nat := 5120

/-- A Lateter port's record. -/
def Chip.hlPort (c : Chip) (p : Nat) : HlPort := c.hl.ports.getD p .init

/-- A Lateter port's record replaced. -/
def Chip.setHlPort (c : Chip) (p : Nat) (r : HlPort) : Chip :=
  { c with hl := { c.hl with ports := c.hl.ports.set p r } }

/-- The state of a Lateter port (R389): 0 FENCED, 1 DOWN, 2 TRAIN, 3 ACTIVE, 4 RETRAIN, 5 SYNC. -/
def Chip.hlState (c : Chip) (p : Nat) : Nat := c.fld (Reg.hlPortStatus p) 63 61

/-- A message appended to a resend log. -/
def logPush (l : List (Nat × HostMsg)) (n : Nat) (m : HostMsg) : List (Nat × HostMsg) :=
  (if l.length < logCap then l else l.drop 1) ++ [(n, m)]

/-- R374, R383: what may leave a Lateter port leaves; a numbered message of which the first flit leaves is sent. -/
def HlPort.flush (r : HlPort) : HlPort :=
  let l := r.link.flush
  let waits := fun (l : Link (Nat × HostMsg)) (x : Nat × Nat) => l.out.any (fun o => o.tc == x.1 && o.item.1 == x.2 && !o.begun)
  { r with link := l, unsent := r.unsent.filter (fun x => !waits r.link x || waits l x) }

/-- Queue a message for the link of an ACTIVE port (or, LINK_SYNC, of a port in SYNC). -/
def Chip.hlPush (c : Chip) (p hc n : Nat) (m : HostMsg) (inSync : Bool) : Chip :=
  if c.hlState p = 3 ∨ (inSync ∧ c.hlState p = 5) then
    let r := c.hlPort p
    c.setHlPort p ({ r with link := r.link.push hc (hostPkts hc n m) (n, m) } : HlPort).flush
  else c

/-- R372, R374: number a sequenced message of HC0 or HC2, keep it in the resend log, and send it. -/
def Chip.hlSend (c : Chip) (p hc : Nat) (m : HostMsg) : Chip :=
  let r := c.hlPort p
  let n := if hc = 0 then r.next0 else r.next2
  let r := if hc = 0 then { r with next0 := wrapSuccSkip0 32 n, log0 := logPush r.log0 n m }
           else { r with next2 := wrapSuccSkip0 32 n, log2 := logPush r.log2 n m }
  ((c.setHlPort p { r with unsent := r.unsent ++ [(hc, n)] }).bump (Reg.hlCnt 5)).hlPush p hc n m false

/-- R228, R369: HL_MSG_ACK in a class: HC2 for admits and resumes, else HC0. -/
def Chip.ackIn (c : Chip) (p hc tag req status value : Nat) : Chip := c.hlSend p hc (.ack tag req status value)

/-- R228: HL_MSG_ACK in HC0. -/
def Chip.ack (c : Chip) (p tag req status value : Nat) : Chip := c.ackIn p 0 tag req status value

/-- R373: this device's LINK_SYNC on a port. -/
def Chip.sendSync (c : Chip) (p : Nat) : Chip :=
  let r := c.hlPort p
  let m : HostMsg := .linkSync (c.reg Reg.hlDevSession).toNat r.expect0 r.expect1 0
  (c.bump (Reg.hlCnt 5)).hlPush p 0 0 m true

/-! The emission ring (R381). -/

/-- A collar's entry in its port's ring, made at the back when it has none. -/
def Chip.ringUpd (c : Chip) (p req : Nat) (f : RingEnt → RingEnt) : Chip :=
  let r := c.hlPort p
  let ring := if r.ring.any (fun e => e.requestId == req) then
      updWhere (fun e => e.requestId == req) f r.ring
    else r.ring ++ [f { requestId := req, ack := [], result := false, ended := false }]
  c.setHlPort p { r with ring := ring }

/-- A collar's entry leaves its port's ring. -/
def Chip.ringDrop (c : Chip) (p req : Nat) : Chip :=
  let r := c.hlPort p
  c.setHlPort p { r with ring := dropWhere (fun e => e.requestId == req) r.ring }

/-! Bulk transfers (R387). -/

/-- R387: whether a window admits a transfer. -/
def Chip.windowOk (c : Chip) (port w offset len : Nat) (write : Bool) : Bool :=
  let w0 := c.reg (Reg.hlHostWin port w 0)
  bitOf w0 63 && bitOf w0 (if write then 61 else 62) && decide (offset + len ≤ fieldOf w0 47 0)

/-- Send the message of a bulk transfer under its tag; R390: a message sent again does not count. -/
def Chip.bulkSend (c : Chip) (b : Bulk) : Chip :=
  let addr := ((c.reg (Reg.hlHostWin b.port b.window 1)).toNat + b.offset) % 2 ^ 64
  let m : HostMsg := if b.write then .bulkWrite b.tag addr b.data else .bulkRead b.tag b.length addr
  (if b.sends = 1 then c.bump (Reg.hlCnt 5) else c).hlPush b.port 3 0 m false

/-- R387: start a bulk transfer, if the window admits it. -/
def Chip.bulkStart (c : Chip) (port w : Nat) (write : Bool) (offset len : Nat) (data : List Byte)
    (owner : BulkOwner) (item : Nat) : Bool × Chip :=
  if c.windowOk port w offset len write then
    let tag := wrapSucc 32 c.hl.bulkTag
    let b : Bulk := { tag := tag, port := port, window := w, write := write, offset := offset, length := len,
                      data := data, sends := 1, owner := owner, item := item }
    let c := { c with hl := { c.hl with bulks := c.hl.bulks ++ [b], bulkTag := tag } }
    (true, c.bulkSend b)
  else (false, c)

/-- The pending bulk transfer of a tag leaves the table. -/
def Chip.bulkTake (c : Chip) (tag : Nat) : Option Bulk × Chip :=
  (c.hl.bulks.find? (fun b => b.tag == tag),
    { c with hl := { c.hl with bulks := dropWhere (fun b => b.tag == tag) c.hl.bulks } })

end Sys2Proof.Machine
end

