-- ==== Sys2Proof/Machine/Pleat.lean ====
section
/-!
DEFINITION. Pleats: the block header, the canonical prefix codes, the expander and the
egress compressor (R110 to R120, R125, R132), and the reassembly of skip-mapped tiles (R96).
-/
namespace Sys2Proof.Machine

/-- The fields of a pleat header (R113). -/
structure PleatHdr where
  codec    : Nat
  pfmt     : Nat
  rawCount : Nat
  codedLen : Nat
  table    : Nat
  rsvd     : Nat
  deriving DecidableEq, Repr

/-- R113: a header word read. -/
def pleatHdrOf (w : W64) : PleatHdr :=
  ⟨fieldOf w 63 62, fieldOf w 61 60, fieldOf w 55 42, fieldOf w 41 29, fieldOf w 28 25,
   fieldOf w 59 56 + fieldOf w 24 0⟩

/-- R113: a header word written. -/
def pleatHdrWord (h : PleatHdr) : W64 :=
  putField (putField (putField (putField (putField 0 63 62 h.codec) 61 60 h.pfmt)
    55 42 h.rawCount) 41 29 h.codedLen) 28 25 h.table

/-- R113: the raw bytes of a block. -/
def pleatRawBytes (h : PleatHdr) : Nat := if h.pfmt = 0 then h.rawCount / 2 else h.rawCount

/-- R116: a code table: its word 0, the code length of every symbol, and whether its padding is zero. -/
structure CodeTable where
  tid  : Nat
  pfmt : Nat
  rsvd : Nat
  lens : List Nat
  pad  : Bool
  deriving DecidableEq, Repr

/-- R115: an entry of the pleat directory: a pleated stream of a plan and the image offset of its header array. -/
structure PleatDir where
  streamId  : Nat
  planId    : Nat
  rsvd      : Nat
  hdrOffset : Nat
  deriving DecidableEq, Repr

/-- R115: the pleat section. `kv8`, `kv4`, `act8`, `act4` are table numbers, 15 for none. -/
structure PleatSection where
  threshold   : Nat
  nTables     : Nat
  tableOffset : Nat
  dirOffset   : Nat
  dirEntries  : Nat
  rsvd        : Nat
  tables    : List CodeTable
  kv8       : Nat
  kv4       : Nat
  act8      : Nat
  act4      : Nat
  dir       : List PleatDir
  deriving DecidableEq, Repr

/-- R116: the number of literals of a table. -/
def numLiterals (pfmt : Nat) : Nat := if pfmt = 0 then 16 else 256

/-- R116: the number of symbols of a table (literals, then Z0 to Z13). -/
def numSymbols (pfmt : Nat) : Nat := numLiterals pfmt + 14

/-- R116: the bytes of a table: word 0, and a 4-bit length per symbol in whole words. -/
def tableSize (pfmt : Nat) : Nat := 8 + 8 * cdiv (numSymbols pfmt) 16

/-- R116: the table that stands at an offset of an image whose words are `word`. -/
def tableOf (word : Nat → W64) (off : Nat) : CodeTable :=
  let w := word off
  let pfmt := fieldOf w 59 58
  let n := numSymbols pfmt
  let nibbles := ((upTo (cdiv n 16)).map (fun i =>
    let v := (word (off + 8 + 8 * i)).toNat
    (upTo 16).map (fun k => (v >>> (4 * k)) % 16))).flatten
  { tid := fieldOf w 63 60, pfmt := pfmt, rsvd := fieldOf w 57 0, lens := nibbles.take n, pad := (nibbles.drop n).all (fun l => l == 0) }

/-- R116: `n` tables in order from an offset. -/
def tablesOf (word : Nat → W64) : Nat → Nat → List CodeTable
  | 0, _ => []
  | n + 1, off =>
    let t := tableOf word off
    t :: tablesOf word n (off + tableSize t.pfmt)

/-- R118: the sum of 2^(15 − length) over the assigned symbols. -/
def kraft (lens : List Nat) : Nat :=
  sumN (lens.map (fun l => if l = 0 then 0 else 2 ^ (15 - l)))

/-- One codeword of a canonical code: symbol, length, value. -/
structure Codeword where
  sym : Nat
  len : Nat
  val : Nat
  deriving DecidableEq, Repr

/-- R117: the canonical code of a list of lengths (RFC 1951, 3.2.2): in order of length, and
within a length in ascending symbol number, with consecutive values. -/
def canonicalCode (lens : List Nat) : List Codeword :=
  let step := fun (acc : List Codeword × Nat) (len : Nat) =>
    let syms := (lens.zipIdx.filter (fun p => p.1 == len)).map (·.2)
    let cws := syms.zipIdx.map (fun p => (⟨p.1, len, acc.2 + p.2⟩ : Codeword))
    (acc.1 ++ cws, (acc.2 + syms.length) * 2)
  ((upTo 15).foldl (fun acc i => step acc (i + 1)) ([], 0)).1

/-- R117: the literal code (codec 1) or the full code (codec 2) of a table. -/
def codeOf (t : CodeTable) (codec : Nat) : List Codeword :=
  canonicalCode (if codec = 1 then t.lens.take (numLiterals t.pfmt) else t.lens)

/-- The bits of a byte list, bit 7 of each byte first (R117). -/
def bitsMsb (bs : List Byte) : List Bool :=
  (bs.map (fun b => (upTo 8).map (fun i => b.toNat.testBit (7 - i)))).flatten

/-- The number that bits spell, most significant first. -/
def natOfBits (bs : List Bool) : Nat := bs.foldl (fun a b => 2 * a + bitN b) 0

/-- `k` bits of a number, most significant first. -/
def bitsOfNat (v k : Nat) : List Bool := (upTo k).map (fun i => v.testBit (k - 1 - i))

/-- Bits packed into bytes, bit 7 first, padded with zeros (R132). -/
def packBits (bs : List Bool) : List Byte :=
  (chunksOf 8 bs.length bs).map
    (fun c => BitVec.ofNat 8 (natOfBits (c ++ List.replicate (8 - c.length) false)))

/-- What `next_symbol` of R120 answers. -/
inductive SymRes where
  | sym (s : Nat) (rest : List Bool)
  | noCode        -- −1
  | short         -- −2
  deriving DecidableEq, Repr

/-- R120: the next symbol of the coded bits. -/
def nextSymbol (code : List Codeword) (bits : List Bool) : SymRes :=
  match code.find? (fun c => c.len ≤ bits.length && natOfBits (bits.take c.len) == c.val) with
  | some c => .sym c.sym (bits.drop c.len)
  | none =>
    -- fewer bits remain than a codeword needs, and those bits begin some codeword
    if code.any (fun c => bits.length < c.len &&
        (c.val >>> (c.len - bits.length)) == natOfBits bits) then .short
    else .noCode

/-- R120: the decode loop; answers the symbols and the bits left over, or a damage cause. -/
def expandLoop (code : List Codeword) (nlit : Nat) :
    Nat → Nat → List Bool → List Nat → Except Nat (List Nat × List Bool)
  | _, 0, bits, acc => .ok (acc.reverse, bits)
  | 0, _ + 1, bits, acc => .ok (acc.reverse, bits)
  | fuel + 1, left + 1, bits, acc =>
    match nextSymbol code bits with
    | .noCode => .error 2
    | .short => .error 3
    | .sym s rest =>
      if s < nlit then expandLoop code nlit fuel left rest (s :: acc)
      else
        let k := s - nlit
        if rest.length < k then .error 3
        else
          let run := 2 ^ k + natOfBits (rest.take k)
          if left + 1 < run then .error 4
          else expandLoop code nlit fuel (left + 1 - run) (rest.drop k)
                 (List.replicate run 0 ++ acc)

/-- R113: symbols back to bytes (in L4 each byte gives two symbols, bits 3:0 first). -/
def symbolsToBytes (pfmt : Nat) (syms : List Nat) : List Byte :=
  if pfmt = 0 then (chunksOf 2 syms.length syms).map
      (fun p => BitVec.ofNat 8 (p.getD 0 0 + 16 * p.getD 1 0))
  else syms.map (fun s => BitVec.ofNat 8 s)

/-- R113: the symbols of a raw block, in ascending address order. -/
def bytesToSymbols (pfmt : Nat) (bs : List Byte) : List Nat :=
  if pfmt = 0 then (bs.map (fun b => [b.toNat % 16, b.toNat / 16])).flatten
  else bs.map (·.toNat)

/-- R119: the largest coded length of a block. -/
def pleatLimit (rawBytes pct : Nat) : Nat := rawBytes * pct / 100

/-- R113, R118: whether a header is well formed for a slot of `rawBytes` bytes in `pfmt`. -/
def pleatHdrOk (ps : PleatSection) (pfmt rawBytes : Nat) (h : PleatHdr) : Bool :=
  h.rsvd == 0 && h.codec ≤ 2 && h.pfmt == pfmt && pleatRawBytes h == rawBytes &&
  h.rawCount % (if pfmt = 0 then 128 else 64) == 0 && 0 < h.rawCount &&
  h.rawCount ≤ (if pfmt = 0 then 8192 else 4096) &&
  (if h.codec = 0 then h.codedLen == rawBytes && h.table == 0
   else 1 ≤ h.codedLen && h.codedLen ≤ pleatLimit rawBytes ps.threshold &&
     (match ps.tables[h.table]? with
      | some t => t.pfmt == pfmt
      | none => false))

/-- R120, R125: expand a block: its raw bytes, or the damage cause. -/
def expandBlock (ps : PleatSection) (pfmt rawBytes : Nat) (hw : W64) (coded : List Byte) :
    Except Nat (List Byte) :=
  let h := pleatHdrOf hw
  if !pleatHdrOk ps pfmt rawBytes h then .error 1
  else if h.codec = 0 then .ok ((coded ++ List.replicate rawBytes 0#8).take rawBytes)
  else
    match ps.tables[h.table]? with
    | none => .error 1
    | some t =>
      let bits := bitsMsb (coded.take h.codedLen)
      match expandLoop (codeOf t h.codec) (numLiterals pfmt) (h.rawCount + 1) h.rawCount bits []
      with
      | .error c => .error c
      | .ok (syms, rest) =>
        if rest.length < 8 && rest.all (!·) then .ok (symbolsToBytes pfmt syms) else .error 5

/-- The blocks that a page's headers say are coded. -/
def codedBlocks (hs : List W64) : Nat := (hs.filter (fun w => (pleatHdrOf w).codec != 0)).length

/-- R136: the coded blocks from the block that was damaged before (if any) to the first `k`, or to the end. -/
def codedBetween (hs : List W64) (again upto : Option Nat) : Nat :=
  let hs := match upto with
    | some k => hs.take k
    | none => hs
  codedBlocks (hs.drop (again.getD 0))

/-- R111: the raw lengths of the blocks of a unit. -/
def blockLens (raw : Nat) : List Nat :=
  List.replicate (raw / 4096) 4096 ++ (if raw % 4096 = 0 then [] else [raw % 4096])

/-- R120: expand every block of a unit whose coded blocks stand in their slots' order;
answers the raw bytes, or the first damaged block and its cause. -/
def expandUnit (ps : PleatSection) (pfmt raw : Nat) (hdrs : List W64)
    (blocks : List (List Byte)) : Except (Nat × Nat) (List Byte) :=
  ((blockLens raw).zipIdx).foldl (fun acc p =>
    match acc with
    | .error e => .error e
    | .ok out =>
      match expandBlock ps pfmt p.1 (hdrs.getD p.2 0) (blocks.getD p.2 []) with
      | .ok bs => .ok (out ++ bs)
      | .error c => .error (p.2, c)) (.ok [])

/-- R131, R134: the element frame of a page from its 16 headers and coded blocks; else the damaged block and its
cause. -/
def expandPage (ps : PleatSection) (fmt : Nat) (blocks : List (W64 × List Byte)) : Except (Nat × Nat) (List Byte) :=
  expandUnit ps fmt 65536 (blocks.map Prod.fst) (blocks.map Prod.snd)

/-- R112: the coded blocks of a unit stored in slots: each from the start of its slot. -/
def slotCoded (raw : Nat) (hdrs : List W64) (bs : List Byte) : List (List Byte) :=
  ((blockLens raw).zipIdx).map (fun p => (bs.drop (4096 * p.2)).take (pleatHdrOf (hdrs.getD p.2 0)).codedLen)

/-- The codeword of a symbol. -/
def cwOf (code : List Codeword) (s : Nat) : Option Codeword := code.find? (fun c => c.sym == s)

/-- R132: codec 1 of a symbol list, `none` when a literal has no codeword. -/
def encode1 (code : List Codeword) (syms : List Nat) : Option (List Bool) :=
  syms.foldr (fun s acc => match acc, cwOf code s with
    | some bs, some c => some (bitsOfNat c.val c.len ++ bs)
    | _, _ => none) (some [])

/-- R132: maximal runs: (symbol, length) pairs; only runs of symbol 0 are joined. -/
def zeroRuns : List Nat → List (Nat × Nat)
  | [] => []
  | s :: ss =>
    match s, zeroRuns ss with
    | 0, (0, n) :: rest => (0, n + 1) :: rest
    | s, rest => (s, 1) :: rest

/-- R132: the coding of one run in codec 2. -/
def encodeRun (code : List Codeword) (nlit : Nat) (s n : Nat) : Option (List Bool) :=
  let z := fun (m : Nat) =>
    let k := Nat.log2 m
    (cwOf code (nlit + k)).map (fun c => bitsOfNat c.val c.len ++ bitsOfNat (m - 2 ^ k) k)
  if s ≠ 0 then (cwOf code s).map (fun c => bitsOfNat c.val c.len)
  else if 2 ≤ n then z n
  else match cwOf code 0 with
    | some c => some (bitsOfNat c.val c.len)
    | none => z 1

/-- R132: codec 2 of a symbol list. -/
def encode2 (code : List Codeword) (nlit : Nat) (syms : List Nat) : Option (List Bool) :=
  (zeroRuns syms).foldr (fun p acc => match acc, encodeRun code nlit p.1 p.2 with
    | some bs, some b => some (b ++ bs)
    | _, _ => none) (some [])

/-- R132: the egress compressor's choice for one raw block: header and coded bytes. -/
def pleatBlock (t : CodeTable) (pfmt pct : Nat) (raw : List Byte) : W64 × List Byte :=
  let syms := bytesToSymbols pfmt raw
  let nlit := numLiterals pfmt
  let c1 := (encode1 (codeOf t 1) syms).map packBits
  let c2 := (encode2 (codeOf t 2) nlit syms).map packBits
  let l1 := match c1 with | some b => b.length | none => 0xFFFF
  let l2 := match c2 with | some b => b.length | none => 0xFFFF
  let useC1 := decide (l1 ≤ l2)
  let best := if useC1 then l1 else l2
  if pleatLimit raw.length pct < best then
    (pleatHdrWord ⟨0, pfmt, syms.length, raw.length, 0, 0⟩, raw)
  else
    (pleatHdrWord ⟨if useC1 then 1 else 2, pfmt, syms.length, best, t.tid, 0⟩,
     ((if useC1 then c1 else c2).getD []))

/-- R134: a raw block sent at `CODEC` 0 with its header. -/
def pleatRaw (pfmt : Nat) (raw : List Byte) : W64 × List Byte :=
  (pleatHdrWord ⟨0, pfmt, if pfmt = 0 then 2 * raw.length else raw.length, raw.length, 0, 0⟩,
   raw)

/-- R111, R131: a unit of data pleated block by block (`tab = none`: at `CODEC` 0). -/
def pleatUnit (tab : Option CodeTable) (pfmt pct : Nat) (raw : List Byte) :
    List (W64 × List Byte) :=
  (chunksOf 4096 raw.length raw).map (fun b => match tab with
    | some t => pleatBlock t pfmt pct b
    | none => pleatRaw pfmt b)

/-- R94: whether block (a, b) of a skip word is skipped. -/
def skipBit (skip a b : Nat) : Bool := skip.testBit (4 * a + b)

/-- R94: the present blocks of a skip word, in ascending bit order. -/
def presentBlocks (skip : Nat) : List Nat := (upTo 16).filter (fun i => !skip.testBit i)

/-- R96: bytes of one 32-element row of a block in an element width of `bits`. -/
def blkRowBytes (bits : Nat) : Nat := 32 * bits / 8

/-- R96: the stored bytes of a skip-mapped tile (`scaled` for L4 and L8). -/
def skipStored (bits : Nat) (scaled : Bool) (skip : Nat) : Nat :=
  (if scaled then 512 else 0) + (presentBlocks skip).length * 32 * blkRowBytes bits

/-- R96: a stored skip-mapped tile reassembled into the layout of R31: skipped blocks read
as zero, with scale 0x00 for L4 and L8. -/
def reassembleSkip (bits : Nat) (scaled : Bool) (skip : Nat) (st : List Byte) : List Byte :=
  let hdr := if scaled then 512 else 0
  let rb := blkRowBytes bits
  let pres := presentBlocks skip
  let row := fun (r : Nat) => ((upTo 4).map (fun b =>
    let i := 4 * (r / 32) + b
    match pres.zipIdx.find? (fun p => p.1 == i) with
    | none => List.replicate rb 0#8
    | some p => (st.drop (hdr + p.2 * 32 * rb + (r % 32) * rb)).take rb)).flatten
  let scales := if scaled then (upTo 512).map (fun j =>
      if skipBit skip (j / 4 / 32) (j % 4) then 0#8 else st.getD j 0#8) else []
  ((upTo 128).map row).flatten ++ scales

end Sys2Proof.Machine
end

