-- ==== Sys2Proof/Machine/Attend.lean ====
section
/-!
DEFINITION. The attention station: rotary phases (R156), masks (R158), the score and the
exact softmax with its partials (R160 to R167), and the length buckets (R168).
-/
namespace Sys2Proof.Machine

/-- A row of raw codes and scale bytes in one format. -/
structure CodedRow where
  fmt    : ElemFmt
  codes  : List Nat
  scales : List Nat
  deriving DecidableEq, Repr

/-- One key with its value, as a page or this step's projections hold it (R157). -/
structure KvEntry where
  pos : Nat
  pad : Bool
  k   : CodedRow
  v   : CodedRow
  deriving DecidableEq, Repr

/-- The fields of a KV layer descriptor (R137). -/
structure KvLayer where
  fmt     : Nat
  log2tpp : Nat
  heads   : Nat
  qPerKv  : Nat
  mask    : Nat
  ropeEn  : Bool
  window  : Nat
  rsvd    : Nat
  scale   : W32
  rope    : List Nat
  deriving DecidableEq, Repr

/-- R137: tokens per page. -/
def kvTpp (l : KvLayer) : Nat := 2 ^ l.log2tpp

/-- R137: the element format of a KV format code. -/
def kvElem : Nat → ElemFmt
  | 0 => .l4
  | 1 => .l8
  | _ => .e4m3

/-- R156: rotation of one head of 128 binary32 elements at a position. -/
def ropeRotate (freq : List Nat) (pos : Nat) (x : List W32) : List W32 :=
  let pr := (upTo 64).map (fun i =>
    let ph := pos * freq.getD i 0 % 2 ^ 32
    let c := cos32 ph; let s := sin32 ph
    let a := x.getD i 0#32; let b := x.getD (i + 64) 0#32
    (f32Sub (f32Mul a c) (f32Mul b s), f32Add (f32Mul a s) (f32Mul b c)))
  pr.map (·.1) ++ pr.map (·.2)

/-- A row of binary32 values converted to a format (R156, R163). -/
def codeRow (f : ElemFmt) (x : List W32) : CodedRow × Anchor × ArithCnt :=
  let r := convRow f (x.map outOfF32)
  (⟨f, r.codes, r.scales⟩, r.anchor, r.cnt)

/-- R156: the format a query head is converted to. -/
def queryFmt (kvfmt : Nat) : ElemFmt := if kvfmt = 2 then .bf16 else .l8

/-- R158: whether a key at position `p` is admissible for a query row at position `r`
(same sequence and presence are the caller's). -/
def admissible (mask window p r : Nat) (pad : Bool) : Bool :=
  !pad &&
  (match mask with
   | 0 => decide (p ≤ r)
   | 1 => decide (p < r)
   | _ => true) &&
  (window == 0 ||
   (if mask = 2 then decide ((max r p) - (min r p) < window) else decide (r - p < window)))

/-- R162: a binary32 number rounded to an integer, ties to even, clamped to ±2^30. -/
def f32ToIntClamp (w : W32) : Int :=
  let lim : Int := 2 ^ 30
  match f32Val w with
  | .nan => 0
  | .inf s => if s then -lim else lim
  | .fin d =>
    let m : Nat := if 0 ≤ d.x then d.m <<< (min d.x 64).toNat else rneShift d.m (-d.x).toNat
    let v : Int := if d.neg then -(m : Int) else (m : Int)
    max (-lim) (min lim v)

/-- The row anchor of a coded row (R35). -/
def codedAnchor (r : CodedRow) : Anchor :=
  if isLog r.fmt then logAnchor r.scales else linAnchor r.fmt r.codes

/-- R41, R46, R162: the score accumulator of one query head and one key as binary32, with what it raises. -/
def scoreAcc (q k : CodedRow) : W32 × ArithCnt :=
  match accAnchor (isLog q.fmt) (codedAnchor k) (codedAnchor q) with
  | none => (f32Zero, {})
  | some g =>
    let v := accClamp (dotPlaced k.fmt q.fmt (k.codes, k.scales) (q.codes, q.scales) g)
    let a := satF32 (decide (v.1 < 0)) v.1.natAbs (g - 31)
    (a.1, { accSat := bitN v.2, outSat := bitN a.2 })

/-- R162: the score index of one query head and one key. -/
def scoreIndex (scale : W32) (q k : CodedRow) : Int :=
  f32ToIntClamp (f32Mul (f32Mul (scoreAcc q k).1 scale) 0x41B8AA3B#32)

/-- R161: the largest V scale byte of block `b` (0xFF counts as 0x00); for E4M3 values the
largest floor(log2 |v|), when some element is nonzero. -/
def vBlockMax (e : KvEntry) (b : Nat) : Option Int :=
  if isLog e.v.fmt then
    let s := e.v.scales.getD b 0
    some (if s = 255 then 0 else (s : Int))
  else linAnchor e.v.fmt ((e.v.codes.drop (32 * b)).take 32)

/-- The larger of two optional numbers. -/
def optMax : Option Int → Option Int → Option Int
  | none, b => b
  | a, none => a
  | some a, some b => some (max a b)

/-- What pass 1 of R161 finds: the largest score index and the four block maxima. -/
structure AttPass1 where
  m    : Option Int
  emax : List (Option Int)
  deriving DecidableEq, Repr

/-- R166 step 3: partial results of pass 1 combined by maxima. -/
def pass1Join (a b : AttPass1) : AttPass1 :=
  ⟨optMax a.m b.m, List.zipWith optMax a.emax b.emax⟩

/-- R161, R162: pass 1 over a list of admissible keys. -/
def attPass1 (scale : W32) (q : CodedRow) (keys : List KvEntry) : AttPass1 :=
  keys.foldl (fun acc e => pass1Join acc
      ⟨some (scoreIndex scale q e.k), (upTo 4).map (vBlockMax e)⟩)
    ⟨none, [none, none, none, none]⟩

/-- R162: the octave gv of value block `b`. -/
def attGv (log : Bool) (emax : List (Option Int)) (b : Nat) : Int :=
  match (emax.getD b none) with
  | none => 0
  | some e => if log then floorDiv (e - 128) 2 + 1 else e + 1

/-- What pass 2 sums: z, the 128 numerators, weights formed and weights dropped. -/
structure AttPass2 where
  z     : Nat
  n     : List Int
  under : Nat
  deriving DecidableEq, Repr

/-- R166 step 5: partial sums added. -/
def pass2Join (a b : AttPass2) : AttPass2 :=
  ⟨a.z + b.z, List.zipWith (· + ·) a.n b.n, a.under + b.under⟩

/-- R162: the contribution of one value element to its numerator. -/
def attPlace (e : KvEntry) (d : Int) (gv : Int) (j : Nat) : Int :=
  if isLog e.v.fmt then
    match logElem e.v.fmt (e.v.codes.getD j 0) (e.v.scales.getD (j / 32) 0) with
    | none => 0
    | some a =>
      let ix := d + a.idx + 8 * ((a.e : Int) - 128)
      let q2 := floorDiv ix 16
      let f2 := (ix - 16 * q2).toNat
      let sh := q2 + 41 - gv
      let p : Nat := if 0 ≤ sh then tT f2 <<< sh.toNat
                     else if -16 < sh then tT f2 >>> (-sh).toNat else 0
      if a.neg then -(p : Int) else (p : Int)
  else
    match linElem e.v.fmt (e.v.codes.getD j 0) with
    | none => 0
    | some v =>
      let q1 := floorDiv d 16
      let f1 := (d - 16 * q1).toNat
      let p := dyFloor (tT f1 * v.m) (q1 - 15 + v.x + 56 - gv)
      if v.neg then -(p : Int) else (p : Int)

/-- R162: pass 2 over a list of admissible keys with the combined maxima of pass 1. -/
def attPass2 (scale : W32) (q : CodedRow) (keys : List KvEntry) (p1 : AttPass1) : AttPass2 :=
  keys.foldl (fun acc e =>
    let d := scoreIndex scale q e.k - (p1.m.getD 0)
    if d < -640 then { acc with under := acc.under + 1 }
    else
      let q1 := floorDiv d 16
      let f1 := (d - 16 * q1).toNat
      ⟨acc.z + (tT f1 <<< (q1 + 40).toNat),
       (acc.n.zipIdx).map (fun t =>
         t.1 + attPlace e d (attGv (isLog e.v.fmt) p1.emax (t.2 / 32)) t.2),
       acc.under⟩) ⟨0, List.replicate 128 0, 0⟩

/-- R163: an output element: (n / z) × 2^(gv − 1), rounded once. -/
def attQuot (n : Int) (z : Nat) (gv : Int) : W32 :=
  if n = 0 ∨ z = 0 then f32Zero else f32RoundQuot (decide (n < 0)) n.natAbs z (gv - 1)

/-- R162 to R166: one row-head, its admissible keys cut into the shares of the host and the
partial roles: its output, the weights that each share dropped, and whether it is empty. An empty row gives +0
everywhere (R164). -/
def attendRowHead (scale : W32) (q : CodedRow) (shares : List (List KvEntry)) :
    List W32 × List Nat × Bool :=
  let p1 := (shares.map (attPass1 scale q)).foldl pass1Join ⟨none, [none, none, none, none]⟩
  match p1.m with
  | none => (List.replicate 128 f32Zero, shares.map (fun _ => 0), true)
  | some _ =>
    let p2s := shares.map (fun ks => attPass2 scale q ks p1)
    let p2 := p2s.foldl pass2Join ⟨0, List.replicate 128 0, 0⟩
    let log := shares.flatten.all (fun e => isLog e.v.fmt)
    ((p2.n.zipIdx).map (fun t => attQuot t.1 p2.z (attGv log p1.emax (t.2 / 32))), p2s.map AttPass2.under, false)

/-- R30, R40, R52: what reading a key and its value counts. -/
def kvReadCnt (e : KvEntry) : ArithCnt :=
  arithAdd (rowReadCnt e.k.fmt (e.k.codes, e.k.scales)) (rowReadCnt e.v.fmt (e.v.codes, e.v.scales))

/-- R168: the bucket of a context length. -/
def lengthBucket (l : Nat) : Nat :=
  if l ≤ 512 then 0 else min 8 (Nat.log2 (l - 1) + 1 - 9)

/-- R139: size of the scale frame of a page in a KV format. -/
def scaleFrameBytes : Nat → Nat
  | 0 => 4096
  | 1 => 2048
  | _ => 0

/-- R139: bytes of one K or V row. -/
def kvRowBytes : Nat → Nat
  | 0 => 64
  | _ => 128

/-- R139: element-frame offset of K (or V) of head `h`, entry `j`. -/
def kvElemOff (l : KvLayer) (isV : Bool) (h j : Nat) : Nat :=
  (if isV then 32768 else 0) + (h * kvTpp l + j) * kvRowBytes l.fmt

/-- R139: scale-frame offset of the K (or V) scales of head `h`, entry `j`. -/
def kvScaleOff (l : KvLayer) (isV : Bool) (h j : Nat) : Nat :=
  (if isV then scaleFrameBytes l.fmt / 2 else 0) + (h * kvTpp l + j) * 4

/-- R137, R139: bytes a token takes in a layer, element and scale bytes together. -/
def kvBytesPerToken (l : KvLayer) : Nat :=
  2 * l.heads * kvRowBytes l.fmt + (if l.fmt = 2 then 0 else 2 * l.heads * 4)

end Sys2Proof.Machine
end

