-- ==== Sys2Proof/Machine/Stations.lean ====
section
/-!
DEFINITION. What the matrix, vector and router stations compute on whole tiles: MATMUL and
SUM joins, zero tiles, the route of R101 to R106 and the expert combine (R56 to R59, R85 to
R90, R99).
-/
namespace Sys2Proof.Machine

/-- R56: the logarithmic or linear element format of a tile format code. -/
def elemOfFmt : Nat → Option ElemFmt
  | 0 => some .l4
  | 1 => some .l8
  | 2 => some .e4m3
  | 3 => some .e5m2
  | 4 => some .bf16
  | _ => none

/-- R56: the bytes of a tile of a format code. -/
def fmtTileBytes (f : Nat) : Nat :=
  match elemOfFmt f with
  | some e => tileBytes e
  | none => if f = 5 then 65536 else if f = 6 then 131584 else 0

/-- R56: element (r, j) of an FP32 tile. -/
def f32At (bs : List Byte) (r j : Nat) : W32 :=
  BitVec.ofNat 32 (natOfLe ((bs.drop (512 * r + 4 * j)).take 4))

/-- R56: element (r, j) of a PS tile, as the signed guarded sum (R42). -/
def psAt (bs : List Byte) (r j : Nat) : Int :=
  partialOfWord (BitVec.ofNat 64 (natOfLe ((bs.drop (1024 * r + 8 * j)).take 8)))

/-- R56: the row anchor and the channel anchor that a PS tile carries. -/
def psRowAnchor (bs : List Byte) (r : Nat) : Anchor :=
  anchorOfWord (natOfLe ((bs.drop (131072 + 2 * r)).take 2))
def psColAnchor (bs : List Byte) (j : Nat) : Anchor :=
  anchorOfWord (natOfLe ((bs.drop (131328 + 2 * j)).take 2))

/-- R59: the anchors of an anchor block. -/
def anchorsOf (bs : List Byte) : List Anchor :=
  (upTo 128).map (fun r => anchorOfWord (natOfLe ((bs.drop (2 * r)).take 2)))

/-- R59: elementwise maximum, `0x8000` below every other value. -/
def anchorMax (a b : List Anchor) : List Anchor := List.zipWith optMax a b

/-- R59: an anchor block's bytes. -/
def anchorBytes (l : List Anchor) : List Byte := (l.map (fun a => leBytes (anchorWord a) 2)).flatten

/-- R47, R56: row `r` of a tile of any element format or FP32, as binary32. -/
def tileRowF32 (fmt : Nat) (bs : List Byte) (r : Nat) : List W32 :=
  match elemOfFmt fmt with
  | some f =>
    let row := tileRow f bs r
    (upTo 128).map (fun k => elemToF32 f (row.1.getD k 0) (row.2.getD (k / 32) 0))
  | none => (upTo 128).map (f32At bs r)

/-- R30, R52: what reading the first `rows` rows of a tile counts: blocks with E = 0xFF, and as a matrix or
attention operand (`mul`) the NaN and infinite elements. -/
def tileReadCnt (mul : Bool) (fmt rows : Nat) (bs : List Byte) : ArithCnt :=
  match elemOfFmt fmt with
  | none => {}
  | some f =>
    if mul || isLog f then arithSum ((upTo rows).map (fun r => rowReadCnt f (tileRow f bs r))) else {}

/-- R58, R66: a tile with only the rows kept and its first `cols` columns; every other element is zero, with
E = 0x00 for a block without a valid element. The anchors of a PS tile stand. -/
def clipTile (fmt : Nat) (keep : Nat → Bool) (cols : Nat) (bs : List Byte) : List Byte :=
  (bs.zipIdx).map (fun p =>
    let i := p.2
    let at_ := fun (row col : Nat) => if keep row && decide (col < cols) then p.1 else 0#8
    if fmt = 0 then
      if i < 8192 then
        (if keep (i / 64) then (if 2 * (i % 64) + 1 < cols then p.1 else if 2 * (i % 64) < cols then p.1 &&& 0x0F#8 else 0#8)
         else 0#8)
      else at_ ((i - 8192) / 4) (32 * ((i - 8192) % 4))
    else if fmt = 1 then (if i < 16384 then at_ (i / 128) (i % 128) else at_ ((i - 16384) / 4) (32 * ((i - 16384) % 4)))
    else if fmt ≤ 3 then at_ (i / 128) (i % 128)
    else if fmt = 4 then at_ (i / 256) (i % 256 / 2)
    else if fmt = 5 then at_ (i / 512) (i % 512 / 4)
    else if i < 131072 then at_ (i / 1024) (i % 1024 / 8) else p.1)

/-- R58: what a station reads of a tile with `rows` valid rows and `cols` valid columns. -/
def validTile (fmt rows cols : Nat) (bs : List Byte) : List Byte :=
  if 128 ≤ rows ∧ 128 ≤ cols then bs else clipTile fmt (fun r => decide (r < rows)) cols bs

/-- R48: a block of a tile between the two logarithmic formats, by row. -/
def convLogRow (from8 : Bool) (row : List Nat × List Nat) : RowOut :=
  let bs := (upTo 4).map (fun b => convLogBlock from8 ((row.1.drop (32 * b)).take 32) (row.2.getD b 0))
  let codes := (bs.map (·.1)).flatten
  ⟨codes, bs.map (·.2.1), if codes.all (· == 0) then none else logAnchor (bs.map (·.2.1)), arithSum (bs.map (·.2.2))⟩

/-- R99: whether every valid element of an X tile reads as zero under R52. -/
def xTileZero (fmt rows : Nat) (bs : List Byte) : Bool :=
  match elemOfFmt fmt with
  | none => false
  | some f => (upTo rows).all (fun r =>
      let row := tileRow f bs r
      (upTo 128).all (fun k =>
        if isLog f then (rowLog f row k).isNone
        else match linVal f (row.1.getD k 0) with
          | .fin d => d.m == 0
          | _ => false))

/-- R85: token rows per A-cycle of an operand pair, doubled (FP8 with BF16 is half a row). -/
def pairRows2 (fw fx : Nat) : Nat :=
  if fw = 0 ∧ fx = 0 then 8
  else if fw ≤ 1 ∧ fx ≤ 1 then 4
  else if fw = 4 ∨ fx = 4 then 1 else 2

/-- R86: the array time of a band for an operand pair, in A-cycles. -/
def arrayCycles (fw fx rows : Nat) : Nat := cdiv (2 * rows) (pairRows2 fw fx)

/-- A W tile at a MATMUL join: its reduction and column index, its skip word (R94), and its
bytes (none for a skip marker). -/
structure WTile where
  red   : Nat
  col   : Nat
  rows  : Nat
  cols  : Nat
  parts : Nat
  skip  : Nat
  bytes : Option (List Byte)
  deriving DecidableEq, Repr

/-- An X tile of the band. -/
structure XTile where
  red   : Nat
  cols  : Nat
  bytes : Option (List Byte)
  deriving DecidableEq, Repr

/-- R39 to R42, R97: the partial sum of output (row i, channel j) over the W tiles of one
output column and the X tiles of equal reduction index. -/
def matmulElem (fw fx : ElemFmt) (ws : List WTile) (xs : List XTile) (g : Option Int)
    (i j : Nat) : Int :=
  match g with
  | none => 0
  | some g =>
    ws.foldl (fun acc w =>
      match w.bytes, (xs.find? (fun x => x.red == w.red)).bind (·.bytes) with
      | some wb, some xb =>
        if j < w.rows then acc + dotPlaced fw fx (tileRow fw wb j) (tileRow fx xb i) g else acc
      | _, _ => acc) 0

/-- R90, R56: the PS tile of one output column: `rows` valid rows, row anchors `hx`, channel
anchors `hw`. -/
def psTile (fw fx : ElemFmt) (ws : List WTile) (xs : List XTile) (hx hw : List Anchor)
    (rows : Nat) : List Byte :=
  let body := (upTo 128).map (fun i => ((upTo 128).map (fun j =>
    if i < rows then
      let g := accAnchor (isLog fw) (hw.getD j none) (hx.getD i none)
      leBytes (partialWord (matmulElem fw fx ws xs g i j)).toNat 8
    else List.replicate 8 0#8)).flatten)
  body.flatten ++ anchorBytes (hx.take 128) ++ anchorBytes (hw.take 128)

/-- R30, R40, R54: what reading the W tiles counts: each element and block once, whatever it is paired with. -/
def wReadCnt (fmt : Nat) (ws : List WTile) : ArithCnt :=
  arithSum (ws.map (fun w => match w.bytes with
    | none => {}
    | some b => tileReadCnt true fmt w.rows b))

/-- R30, R40, R54: what reading the X tiles of a band counts. -/
def xReadCnt (fmt rows : Nat) (xs : List XTile) : ArithCnt :=
  arithSum (xs.map (fun x => match x.bytes with
    | none => {}
    | some b => tileReadCnt true fmt rows b))

/-- R37, R97, R109: the products that a W tile places with an X tile: for each present block (a, b), the rows
and the channels with an anchor, over the block's valid reduction elements. -/
def placedMacs (w : WTile) (x : XTile) (hx hw : List Anchor) (rows : Nat) : Nat :=
  let live := fun (l : List Anchor) (from_ n : Nat) => (((l.drop from_).take n).filter Option.isSome).length
  sumN ((presentBlocks w.skip).map (fun i =>
    let a := i / 4
    live hx 0 rows * live hw (32 * a) (min 32 (w.rows - 32 * a)) * min 32 (min w.cols x.cols - 32 * (i % 4))))

/-- R37, R85, R109: the A-cycles in which a W tile with an X tile places at least one product: those of rows with an anchor,
where some present block has a channel with one. Where a row takes two A-cycles, both count. -/
def activeCycles (fw fx : Nat) (w : WTile) (x : XTile) (hx hw : List Anchor) (rows : Nat) : Nat :=
  let any := (presentBlocks w.skip).any (fun i =>
    decide (32 * (i % 4) < min w.cols x.cols) && (((hw.take w.rows).drop (32 * (i / 4))).take 32).any Option.isSome)
  if !any then 0
  else
    let live := (upTo rows).map (fun r => (hx.getD r none).isSome)
    if pairRows2 fw fx = 1 then 2 * (live.filter id).length
    else ((chunksOf (pairRows2 fw fx / 2) rows live).filter (fun g => g.any id)).length

/-- R41, R45, R46: PS tiles of one output tile added and converted; the bytes of the result,
the row anchors written (R49) and the counts. `log` says the operands' family (R37). -/
def sumTile (out : Nat) (log : Bool) (rows : Nat) (pss : List (List Byte)) :
    List Byte × List Anchor × ArithCnt :=
  let p0 := pss.headD []
  let val : Nat → Nat → Int × Int × Bool := fun (i j : Nat) =>
    let v := pss.foldl (fun a p => a + psAt p i j) 0
    match accAnchor log (psColAnchor p0 j) (psRowAnchor p0 i) with
    | none => ((0 : Int), (0 : Int), false)
    | some g => let (c, s) := accClamp v; (c, g, s)
  let accs := (upTo rows).map (fun i => (upTo 128).map (val i))
  let accCnt : ArithCnt :=
    { accSat := ((accs.flatten).filter (fun t => t.2.2)).length }
  match elemOfFmt out with
  | some f =>
    let rs := accs.map (fun row => convRow f (row.map (fun t => outOfAcc t.1 t.2.1)))
    let pad : RowOut := ⟨List.replicate 128 0, if isLog f then [0, 0, 0, 0] else [], none, {}⟩
    (packTile f (rs ++ List.replicate (128 - rows) pad),
     rs.map (·.anchor) ++ List.replicate (128 - rows) none,
     arithAdd accCnt (arithSum (rs.map (·.cnt))))
  | none =>
    let cs := accs.map (fun row => row.map (fun t =>
      satF32 (decide (t.1 < 0)) t.1.natAbs (t.2.1 - 31)))
    ((cs.map (fun r => (r.map (fun c => leBytes c.1.toNat 4)).flatten)).flatten
       ++ List.replicate ((128 - rows) * 512) 0#8,
     List.replicate 128 none,
     arithAdd accCnt { outSat := ((cs.flatten).filter (·.2)).length })

/-- R46, R48: rows of binary32 values converted into a tile of a format (vector, attention
and router outputs). -/
def f32Tile (out : Nat) (rows : List (List W32)) : List Byte × List Anchor × ArithCnt :=
  let n := rows.length
  match elemOfFmt out with
  | some f =>
    let rs := rows.map (fun r => convRow f (r.map outOfF32))
    let pad : RowOut := ⟨List.replicate 128 0, if isLog f then [0, 0, 0, 0] else [], none, {}⟩
    (packTile f (rs ++ List.replicate (128 - n) pad),
     rs.map (·.anchor) ++ List.replicate (128 - n) none, arithSum (rs.map (·.cnt)))
  | none =>
    let fix := fun (w : W32) => match f32Val w with
      | .nan => (f32Zero, { nanFlushed := 1 : ArithCnt })
      | .inf s => (f32Of s 0x7F7FFFFF, { outSat := 1 : ArithCnt })
      | .fin d => (if d.m = 0 then f32Zero else w, ({} : ArithCnt))
    let rs := rows.map (fun r => r.map fix)
    ((rs.map (fun r => (r.map (fun c => leBytes c.1.toNat 4)).flatten)).flatten
       ++ List.replicate ((128 - n) * 512) 0#8,
     List.replicate 128 none, arithSum ((rs.flatten).map (·.2)))

/-- R45 to R48: a tile converted into another format: between L4 and L8 through the index alone, else through
binary32. -/
def convTile (fin fout rows : Nat) (bs : List Byte) : List Byte × List Anchor × ArithCnt :=
  let pad : RowOut := ⟨List.replicate 128 0, [0, 0, 0, 0], none, {}⟩
  let log := fun (from8 : Bool) =>
    let (f, g) := if from8 then (ElemFmt.l8, ElemFmt.l4) else (ElemFmt.l4, ElemFmt.l8)
    let rs := (upTo rows).map (fun r => convLogRow from8 (tileRow f bs r))
    (packTile g (rs ++ List.replicate (128 - rows) pad), rs.map (·.anchor) ++ List.replicate (128 - rows) none,
     arithSum (rs.map (·.cnt)))
  if fin = fout then
    (bs, match elemOfFmt fin with
      | some f => (upTo 128).map (fun r => if r < rows then rowAnchorOf f [tileRow f bs r] else none)
      | none => List.replicate 128 none, {})
  else if fin = 1 ∧ fout = 0 then log true
  else if fin = 0 ∧ fout = 1 then log false
  else f32Tile fout ((upTo rows).map (tileRowF32 fin bs))

/-- The fields of a route descriptor (R100). -/
structure RouteDesc where
  nExperts : Nat
  topK     : Nat
  mode     : Nat
  early    : Bool
  dispBase : Nat
  merge    : Nat
  routeStr : Nat
  biasOff  : Nat
  scale    : W32
  predBase : Nat
  window   : Nat
  shared   : Bool
  rsvd     : Nat
  deriving DecidableEq, Repr

/-- R100: a route descriptor read from its four words. -/
def routeDescOf (w : List W64) : RouteDesc :=
  let a := w.getD 0 0; let b := w.getD 1 0; let c := w.getD 2 0; let d := w.getD 3 0
  ⟨fieldOf a 63 55, fieldOf a 54 51, fieldOf a 50 49, bitOf a 48, fieldOf a 47 32,
   fieldOf a 31 16, fieldOf a 15 0, fieldOf b 63 32, BitVec.ofNat 32 (fieldOf b 31 0),
   fieldOf c 63 48, fieldOf c 47 44, bitOf c 43, fieldOf c 42 0 + d.toNat⟩

/-- An expert with its score. -/
structure ExpScore where
  e : Nat
  s : W32
  deriving DecidableEq, Repr

/-- R101: larger score first, equal scores by lower index. -/
def expBefore (a b : ExpScore) : Bool :=
  f32Lt b.s a.s || (f32Eq a.s b.s && decide (a.e < b.e))

/-- Insertion into a list in selection order. -/
def expInsert (x : ExpScore) : List ExpScore → List ExpScore
  | [] => [x]
  | y :: ys => if expBefore x y then x :: y :: ys else y :: expInsert x ys

/-- R101: the selected experts in ascending index, and the selections that the index decides
(some expert not ranked before it has the same score). -/
def selectExperts (k : Nat) (logits bias : List W32) : List Nat × Nat :=
  let sc := (logits.zipIdx).map (fun p => (⟨p.2, f32Add p.1 (bias.getD p.2 f32Zero)⟩ : ExpScore))
  let order := sc.foldr expInsert []
  let sel := order.take k
  let ties := ((sel.zipIdx).filter (fun p =>
    (order.drop (p.2 + 1)).any (fun y => f32Eq y.s p.1.s))).length
  ((upTo logits.length).filter (fun e => sel.any (fun x => x.e == e)), ties)

/-- R102: the weights of the selected experts, in ascending index order. -/
def routeWeights (mode : Nat) (scale : W32) (logits : List W32) (sel : List Nat) : List W32 :=
  let xs := if mode = 0 then sel else upTo logits.length
  let l := fun e => logits.getD e f32Zero
  let m := match xs with
    | [] => f32Zero
    | x :: rest => rest.foldl (fun a e => f32Max a (l e)) (l x)
  let t := fun e => exp32 (f32Sub (l e) m)
  let z := treeSum (xs.map t)
  sel.map (fun e => f32Mul (f32Div (t e) z) scale)

/-- R103: a row of the route tile. -/
def routeRow (k : Nat) (sel : List Nat) (w : List W32) : List W32 :=
  (upTo 128).map (fun c =>
    if c < k then w.getD c f32Zero
    else if 8 ≤ c ∧ c < 8 + k then f32OfNat (sel.getD (c - 8) 0)
    else f32Zero)

/-- R106: one output element of the expert combine: the terms in ascending expert index. -/
def combineElem (s : W32) (terms : List (W32 × W32)) : W32 :=
  terms.foldl (fun y t => f32Fma t.1 t.2 y) s

/-- R104: the position of row (band, row) among the rows of its window that selected an
expert, where `selOf b r` tells whether row r of band b did. -/
def packedPos (selOf : Nat → Nat → Bool) (rowsOf : Nat → Nat) (window band row : Nat) : Nat :=
  let b0 := band - band % window
  let before := (upTo (band - b0)).map (fun i =>
    ((upTo (rowsOf (b0 + i))).filter (selOf (b0 + i))).length)
  sumN before + ((upTo row).filter (selOf band)).length

end Sys2Proof.Machine
end

