-- ==== Sys2Proof/Machine/Plans.lean ====
section
/-!
DEFINITION. A model image as the device reads it: KV layer descriptors (R137), stream and join
descriptors (R64, R68), step plans (R72), role references (R61), and the checks at partition load
(R70, R98, R100, R105, R107, R118, R138, R200).
-/
namespace Sys2Proof.Machine

/-! Statuses (R476). -/
/-- ST_OK. -/
def stOk : Nat := 0x0000
def stBusy : Nat := 0x0001
def stNotReady : Nat := 0x0002
def stPrivilege : Nat := 0x0003
def stMalformed : Nat := 0x0004
def stUnsupported : Nat := 0x0005
def stAborted : Nat := 0x0006
def stBudget : Nat := 0x0010
def stPartFull : Nat := 0x0011
def stNoSlot : Nat := 0x0012
def stContext : Nat := 0x0013
def stAdapterUnknown : Nat := 0x0014
def stAdapterBusy : Nat := 0x0015
def stTableRetired : Nat := 0x0016
def stDegraded : Nat := 0x0017
def stWeightLost : Nat := 0x0020
def stStateLost : Nat := 0x0021
def stRecompute : Nat := 0x0022
def stDeadline : Nat := 0x0023
def stDamaged : Nat := 0x0024
def stUncorrectable : Nat := 0x0025
def stOffline : Nat := 0x0030
def stReset : Nat := 0x0031
def stStaleMap : Nat := 0x0040
def stRegionUnknown : Nat := 0x0041
def stRevoked : Nat := 0x0042
def stDenied : Nat := 0x0043
def stAtomicUnknown : Nat := 0x0044
def stTimeout : Nat := 0x0045
def stLinkDown : Nat := 0x0046
def stImageInvalid : Nat := 0x0050
def stHoldup : Nat := 0x0051

/-- R476, R477: the numbers that name a status; any other is handled as ST_UNSUPPORTED. -/
def statusAssigned (n : Nat) : Bool :=
  n ≤ 0x06 || (0x10 ≤ n && n ≤ 0x17) || (0x20 ≤ n && n ≤ 0x25) || n == 0x30 || n == 0x31 ||
    (0x40 ≤ n && n ≤ 0x46) || n == 0x50 || n == 0x51

/-- R477. -/
def statusOf (n : Nat) : Nat := if statusAssigned n then n else stUnsupported

/-! Roles (R61). -/
/-- The kind code of a role reference. -/
def roleKind (r : Nat) : Nat := r / 4096
/-- The logical group. -/
def roleGroup (r : Nat) : Nat := r / 1024 % 4
/-- The engine field. -/
def roleEngine (r : Nat) : Nat := r / 256 % 4
/-- The ordinal. -/
def roleOrd (r : Nat) : Nat := r % 256

/-- R61: whether the engine field fits the kind. -/
def roleOk (r : Nat) : Bool :=
  let k := roleKind r
  let e := roleEngine r
  if k = 1 then e == 0 || e == 2
  else if k = 2 then e == 1 || e == 2
  else if 3 ≤ k ∧ k ≤ 6 then e != 3
  else if k = 8 ∨ k = 9 then e == 2
  else if k = 7 ∨ k = 10 then e == 3
  else false

/-! Descriptors. -/

/-- A stream descriptor (R64). -/
structure StreamD where
  id : Nat
  src : Nat
  sink : Nat
  fmt : Nat
  fanout : Nat
  hold : Bool
  pleated : Bool
  gate : Nat
  bounded : Bool
  count : Nat
  credits : Nat
  joinIn : Nat
  tier : Nat
  region : Nat
  offset : Nat
  layerStride : Nat
  tileStride : Nat
  rows : Nat
  lastCols : Nat
  bandTiles : Nat
  gateRef : Nat
  deadline : Nat
  lateClass : Nat
  rsvd : Nat
  deriving DecidableEq, Repr

/-- R64: a descriptor read from its eight words. -/
def streamOf (w : List W64) : StreamD :=
  let a := w.getD 0 0; let b := w.getD 1 0; let c := w.getD 2 0; let d := w.getD 3 0
  let e := w.getD 4 0; let f := w.getD 5 0; let g := w.getD 6 0; let h := w.getD 7 0
  { id := fieldOf a 63 48, src := fieldOf a 47 32, sink := fieldOf a 31 16, fmt := fieldOf a 15 12,
    fanout := fieldOf a 11 10, hold := bitOf a 9, pleated := bitOf a 8, gate := fieldOf a 7 6,
    bounded := bitOf a 5, count := fieldOf b 63 32, credits := fieldOf b 31 24,
    joinIn := fieldOf b 23 8, tier := fieldOf c 63 61, region := fieldOf c 59 48,
    offset := fieldOf c 47 0, layerStride := fieldOf d 63 32, tileStride := fieldOf d 31 0,
    rows := fieldOf e 63 56, lastCols := fieldOf e 55 48, bandTiles := fieldOf e 47 32,
    gateRef := fieldOf e 31 16, deadline := fieldOf f 63 32, lateClass := fieldOf f 31 30,
    rsvd := fieldOf a 4 0 + fieldOf b 7 0 + fieldOf c 60 60 + fieldOf e 15 0 + fieldOf f 29 0 +
      g.toNat + h.toNat }

/-- A join descriptor (R68). -/
structure JoinD where
  id      : Nat
  kind    : Nat
  nIn     : Nat
  host    : Nat
  out     : Nat
  operand : Nat
  rsvd    : Nat
  inputs  : List Nat
  deriving DecidableEq, Repr

/-- R68: a join read from its words. -/
def joinOf (j : JoinImg) : JoinD :=
  { id := fieldOf j.w0 63 48, kind := fieldOf j.w0 47 44, nIn := fieldOf j.w0 43 36,
    host := fieldOf j.w0 31 16, out := fieldOf j.w0 15 0, operand := fieldOf j.w1 31 0,
    rsvd := fieldOf j.w0 35 32, inputs := j.inputs }

/-- A step plan (R72). -/
structure PlanD where
  id       : Nat
  kind     : Nat
  engine   : Nat
  nStreams : Nat
  nJoins   : Nat
  nLayers  : Nat
  maxBands : Nat
  qbufKib  : Nat
  commit   : Nat
  rsvd     : Nat
  streams  : List StreamD
  joins    : List JoinD
  order    : List Nat
  headS    : List StreamD
  headJ    : List JoinD
  deriving DecidableEq, Repr

/-- R72: a plan read from the image. -/
def planOf (p : PlanImg) : PlanD :=
  let a := p.header.getD 0 0; let d := p.header.getD 3 0
  { id := fieldOf a 63 48, kind := fieldOf a 47 44, engine := fieldOf a 43 43,
    nStreams := fieldOf a 42 32, nJoins := fieldOf a 31 20, nLayers := fieldOf a 19 12,
    maxBands := fieldOf a 11 4, qbufKib := fieldOf d 63 32, commit := fieldOf d 31 16,
    rsvd := fieldOf a 3 0 + fieldOf d 15 0 + sumN ((p.header.drop 4).map BitVec.toNat),
    streams := p.streams.map streamOf, joins := p.joins.map joinOf, order := p.order,
    headS := p.headStreams.map streamOf, headJ := p.headJoins.map joinOf }

/-- Every stream of a plan. -/
def PlanD.allS (p : PlanD) : List StreamD := p.streams ++ p.headS
/-- Every join of a plan. -/
def PlanD.allJ (p : PlanD) : List JoinD := p.joins ++ p.headJ
/-- A stream of a plan. -/
def PlanD.stream (p : PlanD) (id : Nat) : Option StreamD := p.allS.find? (fun s => s.id == id)
/-- A join of a plan. -/
def PlanD.join (p : PlanD) (id : Nat) : Option JoinD := p.allJ.find? (fun j => j.id == id)

/-- R73: the entries of the layer order, each with its layer index, and above 65,536 how often the layer stood before it:
the template has one instance for each. -/
def PlanD.keys (p : PlanD) : List Nat :=
  (p.order.zipIdx).map (fun y => y.1 + 65536 * ((p.order.take y.2).filter (fun l => l == y.1)).length)
/-- The layer of an entry of the layer order. -/
def keyLayer (key : Nat) : Nat := key % 65536

/-- The plans of an image. -/
def imgPlans (m : ModelImage) : List PlanD := m.plans.map planOf
/-- The plan of a kind. DESIGN CHOICE (log entry 91): of several the first in the image. -/
def imgPlan (m : ModelImage) (kind : Nat) : Option PlanD := (imgPlans m).find? (fun p => p.kind == kind)

/-- R137: a KV layer descriptor read from its two words; `rope` its frequencies. -/
def kvLayerOf (w : List W64) (rope : List Nat) : KvLayer :=
  let a := w.getD 0 0; let b := w.getD 1 0
  { fmt := fieldOf a 63 60, log2tpp := fieldOf a 59 56, heads := fieldOf a 55 51,
    qPerKv := fieldOf a 50 45, mask := fieldOf a 44 43, ropeEn := bitOf a 42,
    window := fieldOf a 41 21, rsvd := fieldOf a 20 0, scale := BitVec.ofNat 32 (fieldOf b 63 32),
    rope := rope }

/-- The KV layers of an image. -/
def imgLayers (m : ModelImage) : List KvLayer :=
  (m.kvLayers.zipIdx).map (fun p => kvLayerOf p.1 (m.ropeTables.getD p.2 []))

/-- A word of an image by its image offset. -/
def imgWord (m : ModelImage) (off : Nat) : W64 := ((m.words.find? (fun w => w.1 == off)).map Prod.snd).getD 0#64

/-- The pleat section of an image (R115, R116): its tables from `TABLE_OFFSET`, its directory from `DIR_OFFSET`. -/
def imgPleat (m : ModelImage) : PleatSection :=
  let a := m.pleatWords.getD 0 0; let b := m.pleatWords.getD 1 0; let c := m.pleatWords.getD 2 0
  { threshold := fieldOf a 63 56, nTables := fieldOf a 55 52, tableOffset := fieldOf a 31 0, dirOffset := fieldOf b 63 32,
    dirEntries := fieldOf b 31 16,
    rsvd := fieldOf a 51 32 + fieldOf b 15 0 + fieldOf c 47 0 + (m.pleatWords.getD 3 0).toNat,
    tables := tablesOf (imgWord m) (fieldOf a 55 52) (fieldOf a 31 0),
    kv8 := fieldOf c 63 60, kv4 := fieldOf c 59 56, act8 := fieldOf c 55 52, act4 := fieldOf c 51 48,
    dir := (upTo (fieldOf b 31 16)).map (fun i =>
      let at_ := fieldOf b 63 32 + 16 * i
      { streamId := fieldOf (imgWord m at_) 63 48, planId := fieldOf (imgWord m at_) 47 32,
        rsvd := fieldOf (imgWord m at_) 31 0 + fieldOf (imgWord m (at_ + 8)) 31 0, hdrOffset := fieldOf (imgWord m (at_ + 8)) 63 32 }) }

/-! Load checks. -/

/-- Whether a sink role reference, with its fan-out, covers a host. -/
def sinkCovers (s : StreamD) (host : Nat) : Bool :=
  if s.fanout = 0 then s.sink == host
  else roleKind s.sink == roleKind host && roleEngine s.sink == roleEngine host &&
    (s.fanout == 2 || roleGroup s.sink == roleGroup host)

/-- R160: whether a stream is the KV page stream of an ATTEND join. -/
def PlanD.isKv (p : PlanD) (s : StreamD) : Bool := p.allJ.any (fun j => j.kind == 3 && j.inputs.getD 1 0xFFFF == s.id)

/-- R68: whether a stream is the W input of a MATMUL join. -/
def PlanD.isW (p : PlanD) (s : StreamD) : Bool := p.allJ.any (fun j => j.kind == 1 && j.inputs.getD j.operand 0xFFFF == s.id)

/-- R68: whether a stream is an X input of a MATMUL join. -/
def PlanD.isX (p : PlanD) (s : StreamD) : Bool := p.allJ.any (fun j => j.kind == 1 && (j.inputs.eraseIdx j.operand).contains s.id)

/-- R65: the sinks of a stream; a fan-out stream has every role of its pattern: those that host a join which consumes it,
or, at endpoints and channels that host none, the role of the descriptor and the roles that other streams of the plan
name. -/
def PlanD.sinksOf (p : PlanD) (s : StreamD) : List Nat :=
  if s.fanout = 0 then [s.sink]
  else if 9 ≤ roleKind s.sink then
    (s.sink :: ((p.allS.filter (fun o => o.fanout == 0)).map StreamD.sink).filter (sinkCovers s)).eraseDups
  else ((p.allJ.filter (fun j => j.inputs.contains s.id && sinkCovers s j.host)).map JoinD.host).eraseDups

/-- R160: the partial roles that an ATTEND join names: in each group of `GROUP_MASK`, the AT role of the host's engine
with `PARTIAL_ORDINAL`, where it is not the host itself. -/
def partialRoles (j : JoinD) : List Nat :=
  if j.kind = 3 then
    (((upTo 4).filter (fun g => (j.operand / 2 ^ 28).testBit g)).map (fun g =>
      4 * 4096 + g * 1024 + roleEngine j.host * 256 + j.operand / 2 ^ 20 % 256)).filter (fun r => r != j.host)
  else []

/-- R70: reserved codes and fields of a stream; a KV page stream's placement is ignored (R160). -/
def streamReserved (kv : Bool) (s : StreamD) : Bool :=
  decide (7 ≤ s.fmt) || s.fanout == 3 || s.gate == 3 || s.rsvd != 0 || outside 1 128 s.credits ||
    (!kv && (((roleKind s.src == 8 || roleKind s.sink == 9) && decide (5 ≤ s.tier)) ||
      s.offset % 64 != 0 || s.tileStride % 64 != 0)) || decide (128 < s.rows) || decide (128 < s.lastCols)

/-- R70, R110: a stream is bad. -/
def streamBad (p : PlanD) (s : StreamD) : Bool :=
  streamReserved (p.isKv s) s || !roleOk s.src || !roleOk s.sink ||
    (s.hold && decide (s.credits < s.bandTiles)) ||
    (s.pleated && (decide (2 ≤ s.fmt) || !(roleKind s.sink == 1 || roleKind s.sink == 2))) ||
    (!(roleKind s.sink == 9 || roleKind s.sink == 10) && (p.join s.joinIn).isNone)

/-- R70: a join is bad. -/
def joinBad (p : PlanD) (j : JoinD) : Bool :=
  outside 1 7 j.kind || j.nIn == 0 || j.nIn != j.inputs.length || j.rsvd != 0 || !roleOk j.host ||
    j.inputs.any (fun i => match p.stream i with
      | some s => !sinkCovers s j.host
      | none => true)

/-- R38, R41: the pairs and the reduction length of a MATMUL join. -/
def matmulUnsupported (p : PlanD) (j : JoinD) : Bool :=
  j.kind == 1 &&
    (match p.stream (j.inputs.getD j.operand 0) with
     | none => false
     | some w =>
       match elemOfFmt w.fmt with
       | none => true
       | some fw =>
         decide (2 ^ 20 < w.bandTiles * 128) ||
         (j.inputs.eraseIdx j.operand).any (fun i => match p.stream i with
           | none => false
           | some x => match elemOfFmt x.fmt with
             | none => true
             | some fx => !pairOk fw fx))

/-- The words of a route descriptor. -/
def routeWords : Routine → Option (List W64)
  | .route w _ => some w
  | .vector _ => none

/-- The route descriptors of an image. -/
def imgRoutes (m : ModelImage) : List RouteDesc :=
  (m.routines.filterMap routeWords).map routeDescOf

/-- R100, R108: the route descriptors that run in a plan, with their joins; early ones make no tile. -/
def planRoutes (m : ModelImage) (p : PlanD) : List (JoinD × RouteDesc) :=
  p.allJ.filterMap (fun j => if j.kind = 7 then
    (match (m.routines[j.operand]?).bind routeWords with
     | some w => let r := routeDescOf w; if r.early then none else some (j, r)
     | none => none) else none)

/-- R105: the streams that the route descriptors of a plan dispatch. -/
def dispatchIds (m : ModelImage) (p : PlanD) : List Nat :=
  ((planRoutes m p).map (fun r => (upTo r.2.nExperts).map (fun e => r.2.dispBase + e))).flatten

/-- R103, R104, R160: the streams that a join makes. -/
def joinMakes (m : ModelImage) (p : PlanD) (j : JoinD) : List Nat :=
  (if j.out = 0xFFFF then [] else [j.out]) ++ (if j.kind = 3 then [j.operand % 65536] else []) ++
    (((planRoutes m p).filter (fun r => r.1.id == j.id)).map (fun r =>
      r.2.routeStr :: (upTo r.2.nExperts).map (fun e => r.2.predBase + e))).flatten

/-- R66, R68, R104: the streams that a stream waits for: the inputs of the joins that make it, the predicate of its gate,
and for a dispatch stream the predicate of its expert. -/
def streamNeeds (m : ModelImage) (p : PlanD) (s : StreamD) : List Nat :=
  ((p.allJ.filter (fun j => (joinMakes m p j).contains s.id)).map JoinD.inputs).flatten ++
    (if s.gate = 2 then [s.gateRef] else []) ++
    ((planRoutes m p).filter (fun r => decide (r.2.dispBase ≤ s.id) && decide (s.id < r.2.dispBase + r.2.nExperts))).map
      (fun r => r.2.predBase + (s.id - r.2.dispBase))

/-- R70: streams that wait for no stream still in the list are removed, until none is left or no more can be; what is left
waits on a cycle. -/
def cycleLeft (needs : StreamD → List Nat) : Nat → List StreamD → List StreamD
  | 0, l => l
  | f + 1, l =>
    let l2 := l.filter (fun s => let ns := needs s; l.any (fun o => ns.contains o.id))
    if l2.length = l.length then l else cycleLeft needs f l2

/-- R105: the streams that some streams feed, through joins other than a MERGE; one pass over the joins a round. -/
def fedBy (p : PlanD) : Nat → List Nat → List Nat
  | 0, ids => ids
  | n + 1, ids =>
    let more := (p.allJ.filter (fun j => j.kind != 4 && j.out != 0xFFFF && j.inputs.any (fun i => ids.contains i))).map JoinD.out
    fedBy p n (ids ++ more.filter (fun o => !ids.contains o)).eraseDups

/-- R105: every stream between a dispatch stream and the MERGE join is bounded. -/
def dispatchBad (m : ModelImage) (p : PlanD) : Bool :=
  let ids := fedBy p p.allJ.length (dispatchIds m p)
  p.allS.any (fun s => ids.contains s.id && !s.bounded)

/-- R64: the columns that a stream's tiles of one band cover. -/
def StreamD.width (s : StreamD) : Nat := if s.lastCols = 0 then s.count * 128 else (s.count - 1) * 128 + s.lastCols

/-- R107: the holding space of a MERGE join, in bytes; its output has the model's width. -/
def mergeHold (m : ModelImage) (p : PlanD) (j : JoinD) : Nat :=
  match (m.routines[j.operand]?).bind routeWords, p.stream j.out with
  | some w, some s =>
    let r := routeDescOf w
    r.window * 128 * (r.topK + bitN r.shared) * s.width * 4
  | _, _ => 0

/-- R91: the bytes of a tile of a stream: in a recompute plan an X stream has the format of the class that it
recomputes, so the larger one counts. -/
def planTileBytes (m : ModelImage) (p : PlanD) (s : StreamD) : Nat :=
  if p.kind = 3 ∧ p.isX s then
    (([0, 1, 4, 5].filterMap (fun k => (imgPlan m k).bind (fun q => q.stream s.id))).map (fun o => fmtTileBytes o.fmt)).foldl max
      (fmtTileBytes s.fmt)
  else fmtTileBytes s.fmt

/-- The bytes of one band of a stream. A pleated tile counts raw (R112). -/
def bandBytes (m : ModelImage) (p : PlanD) (s : StreamD) : Nat := s.count * planTileBytes m p s

/-- R59, R89: whether the source of a stream holds its bands in the quadrant buffer: a band whose anchors its source
forms, or its part of a band that exceeds the X region of an operand pocket, with the other X streams of the join. -/
def holdsBand (m : ModelImage) (p : PlanD) (s : StreamD) : Bool :=
  !p.isW s && (s.hold || p.allJ.any (fun j => j.kind == 1 && (j.inputs.eraseIdx j.operand).contains s.id &&
    decide (1179648 < sumN ((j.inputs.eraseIdx j.operand).map (fun i => ((p.stream i).map (bandBytes m p)).getD 0)))))

/-- R70, R107: the bytes of quadrant `q`'s buffer that a plan needs: the bands that sources there hold, the credits of
sinks there that keep no operand pocket, and the holds of the MERGE joins there. `quadOf` is the quadrant that the fitted
program maps a role to (log entry 13). -/
def qbufNeed (m : ModelImage) (p : PlanD) (quadOf : Nat → Nat) (q : Nat) : Nat :=
  let here := fun (r : Nat) => roleKind r != 7 && roleKind r != 10 && quadOf r == q
  sumN ((p.allS.filter (fun s => here s.src && holdsBand m p s)).map (bandBytes m p)) +
    sumN (p.allS.map (fun s => ((p.sinksOf s).filter (fun r => here r && decide (3 ≤ roleKind r))).length * s.credits * planTileBytes m p s)) +
    sumN ((p.allJ.filter (fun j => j.kind == 4 && here j.host)).map (mergeHold m p))

/-- R70: what a plan needs, as computed or as it declares (R72), exceeds the partition's share of a quadrant buffer. -/
def qbufBad (m : ModelImage) (p : PlanD) (quadOf : Nat → Nat) (shares : List (Nat × Nat)) : Bool :=
  shares.any (fun q => decide (q.2 < max (qbufNeed m p quadOf q.1) (p.qbufKib * 1024)))

/-- R70, R105, R107: a plan refused with ST_IMAGE_INVALID. -/
def planBad (m : ModelImage) (p : PlanD) : Bool :=
  decide (7 ≤ p.kind) || p.rsvd != 0 || p.nLayers == 0 || p.maxBands == 0 ||
    p.nLayers != p.order.length || p.nStreams != p.streams.length || p.nJoins != p.joins.length ||
    p.allS.any (streamBad p) || p.allJ.any (joinBad p) ||
    !(cycleLeft (streamNeeds m p) p.streams.length p.streams).isEmpty ||
    !(cycleLeft (streamNeeds m p) p.headS.length p.headS).isEmpty ||
    (p.join p.commit).isNone || dispatchBad m p

/-- R100: the reserved fields of a route descriptor. -/
def routeInvalid (r : RouteDesc) : Bool :=
  r.rsvd != 0 || decide (2 ≤ r.mode) || outside 1 256 r.nExperts || outside 1 8 r.topK || outside 1 8 r.window

/-- R94: the bytes of a stored skip-mapped tile (R96). -/
def skipTileBytes (fmt skip : Nat) : Nat :=
  let n := (presentBlocks skip).length
  (if fmt ≤ 1 then 512 else 0) + n * (if fmt = 0 then 512 else if fmt = 4 then 2048 else 1024)

/-- R100: a route whose logits input has fewer columns than the experts that it routes to. -/
def routeNarrow (m : ModelImage) (p : PlanD) : Bool :=
  p.allJ.any (fun j => j.kind == 7 && (match m.routines[j.operand]? with
    | some (.route w _) =>
      (match p.stream (j.inputs.getD 0 0xFFFF) with
       | some s => decide (s.width < (routeDescOf w).nExperts)
       | none => false)
    | _ => false))

/-- R95: the skip-map directory of an image. -/
def imgSkipMaps (m : ModelImage) : List SkipMap :=
  m.skipDir.map (fun d => { streamId := fieldOf d.1 63 48, planId := fieldOf d.1 47 32,
                            rsvd := fieldOf d.1 31 0 + fieldOf d.2 31 0, mapOffset := fieldOf d.2 63 32 })

/-- R95: the image offset of a skip-map entry. -/
def mapEntryAddr (k : SkipMap) (count layer index : Nat) : Nat := k.mapOffset + 8 * (count * layer + index)

/-- R95: the entry of a tile of a skip-mapped stream. -/
def mapEntry (m : ModelImage) (k : SkipMap) (count layer index : Nat) : SkipEntry :=
  let w := imgWord m (mapEntryAddr k count layer index)
  ⟨fieldOf w 63 48, fieldOf w 47 40, fieldOf w 39 0⟩

/-- R73: the layers whose entries a stream of a plan has in an image: those of the layer order, or layer 0 for a stream
outside the template. -/
def PlanD.layersOf (p : PlanD) (stream : Nat) : List Nat :=
  if p.headS.any (fun s => s.id == stream) then [0] else p.order.eraseDups

/-- R98: a skip map is bad; one that names no stream of the image is refused in the same way (DESIGN CHOICE, log entry 91).
`limit` the bytes of the stream's region, taken to be the length of the image's source
descriptor (R399; log entry 72: the spec gives no other size). -/
def skipBad (m : ModelImage) (limit : Nat) (k : SkipMap) : Bool :=
  k.rsvd != 0 ||
    (match (imgPlans m).find? (fun p => p.id == k.planId) with
     | none => true
     | some p => match p.stream k.streamId with
       | none => true
       | some s =>
         !p.isW s || decide (5 ≤ s.fmt) ||
           (p.layersOf s.id).any (fun l => (upTo s.count).any (fun i =>
             let e := mapEntry m k s.count l i
             e.rsvd != 0 ||
               decide (limit < s.offset + s.layerStride * 4096 * l + 64 * e.offset64 + skipTileBytes s.fmt e.skip))))

/-- R95: the skip map of a stream of a plan. -/
def imgSkipMap (m : ModelImage) (plan stream : Nat) : Option SkipMap :=
  (imgSkipMaps m).find? (fun k => k.streamId == stream && k.planId == plan)

/-- R94: the skip word of a tile of a stream; 0 for a stream without a skip map. -/
def imgSkip (m : ModelImage) (plan : Nat) (s : StreamD) (layer index : Nat) : Nat :=
  ((imgSkipMap m plan s.id).map (fun k => (mapEntry m k s.count layer index).skip)).getD 0

/-- R73, R95: the address in its region of a tile of a stream. -/
def imgTileAddr (m : ModelImage) (plan : Nat) (s : StreamD) (layer index : Nat) : Nat :=
  let base := s.offset + s.layerStride * 4096 * layer
  match imgSkipMap m plan s.id with
  | some k => base + 64 * (mapEntry m k s.count layer index).offset64
  | none => base + s.tileStride * index

/-- R31, R96: the raw bytes of a stored tile of a format. -/
def storedBytes (fmt : Nat) (mapped : Bool) (skip : Nat) : Nat :=
  match elemOfFmt fmt with
  | some f => if mapped then skipStored (elemBits f) (isLog f) skip else fmtTileBytes fmt
  | none => fmtTileBytes fmt

/-- R73: the stored bytes that the image gives at an address of a region. -/
def imgBlock (m : ModelImage) (tier region addr : Nat) : Option (List Byte) :=
  (m.blocks.find? (fun b => b.tier == tier && b.region == region && b.addr == addr)).map BlockImg.bytes

/-- R114: the header positions of a tile of a pleated stream. -/
def hdrSlots (fmt : Nat) : Nat := if fmt = 0 then 3 else 5

/-- R114: the image offset of a block's header. -/
def PleatDir.hdrAt (d : PleatDir) (s : StreamD) (layer index block : Nat) : Nat :=
  d.hdrOffset + 8 * (hdrSlots s.fmt * (s.count * layer + index) + block)

/-- R114: the headers of a tile in its stream's header array. -/
def PleatDir.tileHdrs (d : PleatDir) (m : ModelImage) (s : StreamD) (layer index : Nat) : List W64 :=
  (upTo (hdrSlots s.fmt)).map (fun k => imgWord m (d.hdrAt s layer index k))

/-- R118, R125: the first block of a stored tile that does not expand, and its cause; none where the image does not bring the
tile. -/
def tileDamage (m : ModelImage) (p : PlanD) (s : StreamD) (d : PleatDir) (layer index : Nat) : Option (Nat × Nat) :=
  let skip := imgSkip m p.id s layer index
  let raw := storedBytes s.fmt (imgSkipMap m p.id s.id).isSome skip
  let hs := d.tileHdrs m s layer index
  if skip = 0xFFFF then none
  else (imgBlock m s.tier s.region (imgTileAddr m p.id s layer index)).bind (fun bs =>
    match expandUnit (imgPleat m) s.fmt raw hs (slotCoded raw hs bs) with
    | .ok _ => none
    | .error e => some e)

/-- R114, R118: the headers of a tile disagree with R113, with their slots or with their positions, or a stored
block of it does not expand. -/
def pleatTileBad (m : ModelImage) (ps : PleatSection) (p : PlanD) (s : StreamD) (d : PleatDir) (layer index : Nat) : Bool :=
  let mapped := (imgSkipMap m p.id s.id).isSome
  let skip := imgSkip m p.id s layer index
  let raw := storedBytes s.fmt mapped skip
  let hs := d.tileHdrs m s layer index
  if skip = 0xFFFF then false
  else
    let lens := blockLens raw
    (lens.zipIdx).any (fun y => !pleatHdrOk ps s.fmt y.1 (pleatHdrOf (hs.getD y.2 0#64))) ||
      (hs.drop lens.length).any (fun w => decide (w ≠ 0#64)) ||
      (tileDamage m p s d layer index).isSome

/-- R116, R118: a code table breaks its layout. -/
def tableBad (t : CodeTable) (i : Nat) : Bool :=
  t.tid != i || t.rsvd != 0 || decide (2 ≤ t.pfmt) || !t.pad ||
    (t.lens.take (numLiterals t.pfmt)).all (fun l => l == 0) || decide (32768 < kraft t.lens)

/-- R118: the checks of the pleat section. The blocks that the image does not bring (log entry 21) come with the
outcome of their trial expansion, `pleatBad`. -/
def imgPleatBad (m : ModelImage) : Bool :=
  let any := (imgPlans m).any (fun p => p.allS.any (fun s => s.pleated))
  if !any && m.pleatWords.isEmpty then m.pleatBad
  else
    let ps := imgPleat m
    outside 50 95 ps.threshold || ps.rsvd != 0 ||
      (ps.tables.zipIdx).any (fun t => tableBad t.1 t.2) || ps.dir.any (fun d => d.rsvd != 0) ||
      (imgPlans m).any (fun p => p.allS.any (fun s => s.pleated &&
        (match ps.dir.find? (fun d => d.streamId == s.id && d.planId == p.id) with
         | none => true
         | some d => (p.layersOf s.id).any (fun l => (upTo s.count).any (fun t => pleatTileBad m ps p s d l t))))) ||
      m.pleatBad

/-- R118: the pleated tiles of an image that the state mover expands once at a load: plan, stream, directory entry, layer, index. -/
def pleatTiles (m : ModelImage) : List (PlanD × StreamD × PleatDir × Nat × Nat) :=
  let ps := imgPleat m
  ((imgPlans m).map (fun p => ((p.allS.filter StreamD.pleated).map (fun s =>
    match ps.dir.find? (fun d => d.streamId == s.id && d.planId == p.id) with
    | none => []
    | some d => ((p.layersOf s.id).map (fun l => (upTo s.count).map (fun i => (p, s, d, l, i)))).flatten)).flatten)).flatten

/-- R118, R136: the coded blocks and the damaged blocks that the trial expansions of a load count: each stored tile once, up to the
first that is damaged. A tile that the image does not bring counts as it is said to be (`pleatBad`, log entry 21). -/
def trialCount (m : ModelImage) : Nat × Nat :=
  let step := fun (a : (List (Nat × Nat × Nat)) × Nat × Nat) (y : PlanD × StreamD × PleatDir × Nat × Nat) =>
    let (p, s, d, l, i) := y
    let key := (s.tier, s.region, imgTileAddr m p.id s l i)
    let skip := imgSkip m p.id s l i
    if a.2.2 ≠ 0 ∨ a.1.contains key ∨ skip = 0xFFFF then a
    else
      let hs := (d.tileHdrs m s l i).take (blockLens (storedBytes s.fmt (imgSkipMap m p.id s.id).isSome skip)).length
      match tileDamage m p s d l i with
      | some e => (a.1, a.2.1 + codedBetween hs none (some e.1), 1)
      | none => (key :: a.1, a.2.1 + codedBlocks hs, 0)
  let r := (pleatTiles m).foldl step ([], 0, 0)
  if r.2.2 = 0 ∧ m.pleatBad then (r.2.1, 1) else r.2

/-- R138: a KV layer descriptor is bad; `full` whether the layer is not one that
one-pass ranking plans alone use. -/
def kvLayerBad (l : KvLayer) (full : Bool) : Bool :=
  let eb2 := if l.fmt = 0 then 1 else 2
  decide (3 ≤ l.fmt) || outside 4 8 l.log2tpp || outside 1 16 l.heads || l.qPerKv == 0 || l.mask == 3 ||
    l.rsvd != 0 || decide (2 * 32768 < kvTpp l * l.heads * 128 * eb2) || decide (1048576 < l.window) ||
    (l.mask == 2 && full)

/-- R138 over an image: a full mask stands only in layers that one-pass plans use and no other plan does. -/
def kvBad (m : ModelImage) : Bool :=
  ((imgLayers m).zipIdx).any (fun p => kvLayerBad p.1
    ((imgPlans m).any (fun pl => pl.kind != 6 && pl.order.contains p.2) ||
      !(imgPlans m).any (fun pl => pl.kind == 6 && pl.order.contains p.2)))

/-- R70, R98, R100, R105, R110, R118, R138: the status of the load checks of one image. `regionBytes` bounds its
regions; `quadOf` and `shares` are the quadrant of each role and the partition's share of each quadrant buffer. -/
def imageCheck (m : ModelImage) (regionBytes : Nat) (quadOf : Nat → Nat) (shares : List (Nat × Nat)) : Nat :=
  let ps := imgPlans m
  if ps.any (planBad m) || (imgRoutes m).any routeInvalid || (imgSkipMaps m).any (skipBad m regionBytes) ||
      imgPleatBad m || kvBad m || ps.any (fun p => qbufBad m p quadOf shares) then stImageInvalid
  else if ps.any (fun p => p.allJ.any (matmulUnsupported p) || routeNarrow m p) ||
      (imgRoutes m).any (fun r => decide (r.nExperts < r.topK)) then stUnsupported
  else stOk

/-- R171: the frame size of a partition. -/
def frameBytes (base draft : Option ModelImage) : Nat :=
  let ls := (base.map imgLayers).getD [] ++ (draft.map imgLayers).getD []
  if ls.any (fun l => l.fmt == 0) then 69632 else if ls.any (fun l => l.fmt == 1) then 67584 else 65536

/-- R77: the quadrants of a share, ascending. -/
def qsetOf (mask : Nat) : List Nat := (upTo 4).filter (fun q => mask.testBit q)

/-- R91: whether a plan kind is of the generation class. -/
def genPlan (kind : Nat) : Bool := kind == 1 || kind == 2 || kind == 4

/-- The roles a plan names (R61), with the sinks of a fan-out written out (R65). -/
def planRoles (p : PlanD) : List Nat :=
  (p.allS.map (fun s => s.src) ++ (p.allS.map p.sinksOf).flatten ++ p.allJ.map (fun j => j.host) ++ (p.allJ.map partialRoles).flatten).eraseDups

/-- R78: roles sorted by kind, then group, then ordinal. -/
def roleKey (r : Nat) : Nat := ((roleKind r * 4 + roleGroup r) * 256 + roleOrd r) * 4 + roleEngine r

/-- Insertion by key. -/
def roleInsert (r : Nat) : List Nat → List Nat
  | [] => [r]
  | x :: xs => if roleKey r ≤ roleKey x then r :: x :: xs else x :: roleInsert r xs

/-- The roles of a partition's programs, in the order of the fit; each with the engine tried first: `ENGINE_DEFAULT` of the
plan that names it. DESIGN CHOICE (log entry 91): of several plans that name a role, the first. -/
def programRoles (base draft : Option ModelImage) : List (Nat × Nat) :=
  let ps := (base.map imgPlans).getD [] ++ (draft.map imgPlans).getD []
  let rs := ((ps.map planRoles).flatten).eraseDups
  (rs.foldr roleInsert []).map (fun r =>
    (r, ((ps.find? (fun p => (planRoles p).contains r)).map PlanD.engine).getD 0))

end Sys2Proof.Machine
end

