-- ==== Sys2Proof/Machine/KvPages.lean ====
section
/-!
DEFINITION. The KV page manager's frames: pools and homes (R141, R171 to R173), page states (R143),
fingerprints (R146, R147), the index, attaching and sealing (R148 to R151), and the entries beyond
a page's fill (R194).
-/
namespace Sys2Proof.Machine

/-- The work records changed. -/
def Chip.onWork (c : Chip) (f : Work_ → Work_) : Chip := { c with work := f c.work }

/-- R234, R235: an account or admission register as it applies: the value taken at a refill tick. -/
def Chip.applied (c : Chip) (off : Nat) : W64 := (assocGet c.work.tenApplied off).getD (regReset off)

/-- The declaration of a partition in the applied image (R399). -/
def Chip.decl (c : Chip) (p : Nat) : Option PartDecl :=
  (c.boot.img).bind (fun i => i.partitions.find? (fun d => d.part == p))

/-- A flag bit of a partition's declaration (R399). -/
def Chip.declFlag (c : Chip) (p b : Nat) : Bool := ((c.decl p).map (fun d => d.flags.testBit b)).getD false

/-- A partition's record. -/
def Chip.part (c : Chip) (p : Nat) : Part := c.work.parts.getD p .init

/-- A partition's record replaced. -/
def Chip.setPart (c : Chip) (p : Nat) (r : Part) : Chip :=
  c.onWork (fun w => { w with parts := w.parts.set p r })

/-- The state of a partition (R216). -/
def Chip.partState (c : Chip) (p : Nat) : Nat := c.fld (Reg.partState p) 2 0

/-- R95, R114: an image whose tables are read from their copy in T1. -/
def T1Copy.over (t : T1Copy) (m : ModelImage) : ModelImage := { m with skipDir := t.dir, words := t.words }

/-- The base or the draft image of a partition; its skip maps and pleat headers are those of its T1 share (R95, R114). -/
def Chip.model (c : Chip) (p : Nat) (draft : Bool) : Option ModelImage :=
  if draft then (c.part p).draft.map (c.part p).t1Draft.over else (c.part p).base.map (c.part p).t1Base.over

/-- R155, R229: the context limit of a partition's base model, never above 1,048,576 positions. -/
def Chip.ctxLimit (c : Chip) (p : Nat) : Nat := min (((c.model p false).map ModelImage.ctxLimit).getD 1048576) 1048576

/-- The KV layers of a partition's base or draft model. -/
def Chip.layers (c : Chip) (p : Nat) (draft : Bool) : List KvLayer := ((c.model p draft).map imgLayers).getD []

/-- One KV layer. -/
def Chip.layer (c : Chip) (p : Nat) (draft : Bool) (l : Nat) : KvLayer :=
  (c.layers p draft).getD l (kvLayerOf [] [])

/-- The quadrants of a partition's share, as of its last load (R77, R432). -/
def Chip.qset (c : Chip) (p : Nat) : List Nat := qsetOf (c.part p).mask

/-- R141: the home quadrant of a page. -/
def Chip.pageQuad (c : Chip) (p slot layer n : Nat) : Nat :=
  let qs := c.qset p
  qs.getD ((slot + layer + n) % (max 1 qs.length)) 0

/-- R171: the frames carved for a loaded partition in a quadrant. -/
def Chip.frameCount (c : Chip) (p q : Nat) : Nat :=
  if (c.part p).base.isSome then
    match c.decl p with
    | some d => if (c.part p).mask.testBit q then d.kvFrames.getD q 0 else 0
    | none => 0
  else 0

/-- A frame's record. -/
def Chip.frame (c : Chip) (p q i : Nat) : Option Frame :=
  c.work.frames.find? (fun f => f.part == p && f.quad == q && f.idx == i)

/-- The frame of a page reference. -/
def Chip.frameOf (c : Chip) (p : Nat) (r : PageRef) : Option Frame := c.frame p r.quad r.idx

/-- A frame's record replaced. -/
def Chip.setFrame (c : Chip) (f : Frame) : Chip :=
  let l := updWhere (fun g => g.part == f.part && g.quad == f.quad && g.idx == f.idx) (fun _ => f) c.work.frames
  c.onWork (fun w => { w with frames := l })

/-- A frame becomes FREE: its index entry goes too. -/
def Chip.freeFrame (c : Chip) (f : Frame) : Chip :=
  let l := dropWhere (fun g => g.part == f.part && g.quad == f.quad && g.idx == f.idx) c.work.frames
  let c := c.onWork (fun w => { w with frames := l })
  let r := c.part f.part
  c.setPart f.part { r with index := dropWhere (fun e => e.2.2.2.1 == f.quad && e.2.2.2.2 == f.idx) r.index }

/-- Frames in use or RETAINED in a quadrant. -/
def Chip.framesIn (c : Chip) (p q : Nat) : List Frame :=
  c.work.frames.filter (fun f => f.part == p && f.quad == q)

/-- FREE frames (R172). -/
def Chip.freeCount (c : Chip) (p q : Nat) : Nat := c.frameCount p q - (c.framesIn p q).length

/-- RETAINED frames (R172). -/
def Chip.retainedCount (c : Chip) (p q : Nat) : Nat :=
  ((c.framesIn p q).filter (fun f => f.state == 4)).length

/-- R172: what KV_POOL_STATUS reads. -/
def Chip.poolStatus (c : Chip) (p q : Nat) : W64 :=
  wordOf [(59, 40, c.frameCount p q), (39, 20, c.freeCount p q), (19, 0, c.retainedCount p q)]

/-- R142: the eight words of a descriptor. -/
def descWords (f : Frame) : List W64 :=
  [wordOf [(63, 61, f.state), (60, 57, f.part), (56, 49, f.layer), (48, 45, f.fmt), (44, 36, f.fill),
     (35, 20, f.slot), (19, 0, f.refs)],
   wordOf [(63, 44, f.posBase), (43, 43, bitN f.draft)],
   BitVec.ofNat 64 (f.fp.getD 0), 0#64] ++ (upTo 4).map (fun i => BitVec.ofNat 64 (f.pad >>> (64 * i)))

/-- R473: the partition and frame of a frame number of a quadrant: by ascending partition, then by
ascending address. -/
def Chip.frameAt (c : Chip) (q n : Nat) : Option (Nat × Nat) :=
  ((upTo 16).foldl (fun (s : Nat × Option (Nat × Nat)) p =>
    match s.2 with
    | some _ => s
    | none =>
      let k := c.frameCount p q
      if s.1 < k then (s.1, some (p, s.1)) else (s.1 - k, none)) (n, none)).2

/-- R142, R473: a write of KV_DESC_SEL by owner software. DESIGN CHOICE (log entry 99): the descriptor of a FREE frame reads zero
but for its `PART`. -/
def kvDescSelect (c : Chip) (v : W64) : Chip :=
  let q := fieldOf v 21 20
  let n := fieldOf v 19 0
  let zero := List.replicate 8 0#64
  match c.frameAt q n with
  | none =>
    (upTo 8).foldl (fun c i => c.setReg (Reg.kvDescData i) 0#64)
      (c.setReg Reg.kvDescSel (wordOf [(21, 20, q), (19, 0, n)]))
  | some (p, i) =>
    let ws := match c.frame p q i with
      | some f => descWords f
      | none => (wordOf [(60, 57, p)]) :: zero.drop 1
    (upTo 8).foldl (fun c k => c.setReg (Reg.kvDescData k) (ws.getD k 0#64))
      (c.setReg Reg.kvDescSel (wordOf [(63, 63, 1), (21, 20, q), (19, 0, n)]))

/-! Entries beyond the fill (R140, R194). -/

/-- The entry of a page that a byte of its frames belongs to. -/
def entryOfByte (l : KvLayer) (off : Nat) : Nat :=
  let t := kvTpp l
  if off < 65536 then (off % 32768) / kvRowBytes l.fmt % t
  else (off - 65536) % (max 1 (scaleFrameBytes l.fmt / 2)) / 4 % t

/-- R194: the entries at or beyond `n` zeroed. -/
def zeroEntries (l : KvLayer) (n : Nat) (m : Mem) : Mem := m.filter (fun b => decide (entryOfByte l b.1 < n))

/-- One entry's key and value of a head, as the page holds it (R139). -/
def pageEntry (l : KvLayer) (f : Frame) (h j : Nat) : KvEntry :=
  let row := fun (isV : Bool) =>
    let bs := memReadBytes f.bytes (kvElemOff l isV h j) (kvRowBytes l.fmt)
    let codes := if l.fmt = 0 then (bs.map (fun b => [b.toNat % 16, b.toNat / 16])).flatten else bs.map BitVec.toNat
    let sc := if l.fmt = 2 then [] else
      (memReadBytes f.bytes (65536 + kvScaleOff l isV h j) 4).map BitVec.toNat
    (⟨kvElem l.fmt, codes, sc⟩ : CodedRow)
  { pos := f.posBase + j, pad := f.pad.testBit j, k := row false, v := row true }

/-- A coded row's bytes in a page. -/
def codedBytes (r : CodedRow) : List Byte := packCodes r.fmt r.codes

/-- R139, R156: one row of K or V of a head written at entry `j`. -/
def writeEntry (l : KvLayer) (m : Mem) (isV : Bool) (h j : Nat) (elem scales : List Byte) : Mem :=
  let m := memWriteBytes m (kvElemOff l isV h j) elem
  if l.fmt = 2 then m else memWriteBytes m (65536 + kvScaleOff l isV h j) scales

/-! Taking and releasing frames (R173, R143). -/

/-- R173 step 2: the RETAINED page of a quadrant with the oldest release number. -/
def Chip.oldestRetained (c : Chip) (p q : Nat) : Option Frame :=
  ((c.framesIn p q).filter (fun f => f.state == 4)).foldl (fun (b : Option Frame) f =>
    match b with
    | none => some f
    | some g => if precedes 32 f.release g.release then some f else b) none

/-- R173 step 2: the oldest RETAINED page is reclaimed. -/
def Chip.reclaim (c : Chip) (p q : Nat) : Chip :=
  match c.oldestRetained p q with
  | some f => (c.freeFrame f).bump (Reg.kvPressCnt 1)
  | none => c

/-- R173, R143: a page opened in a FREE frame (the lowest one, log entry 14), after a reclaim when none is FREE. -/
def Chip.openPage (c : Chip) (p slot : Nat) (r : PageRef) (fmt : Nat) : Option (PageRef × Chip) :=
  let c := if c.freeCount p r.quad = 0 then c.reclaim p r.quad else c
  match leastFree (c.frameCount p r.quad) ((c.framesIn p r.quad).map Frame.idx) with
  | none => none
  | some i =>
    let f : Frame :=
      { quad := r.quad, idx := i, part := p, state := 1, layer := r.layer, draft := r.draft, fmt := fmt,
        fill := 0, slot := slot, refs := 1, posBase := r.posBase, fp := none, indexed := false, pad := 0,
        release := 0, bytes := [] }
    some ({ r with idx := i },
      ((c.onWork (fun w => { w with frames := w.frames ++ [f] })).bump (Reg.kvPressCnt 0)))

/-- R143, R172: one reference to a page released. -/
def Chip.releaseRef (c : Chip) (p : Nat) (r : PageRef) : Chip :=
  match c.frameOf p r with
  | none => c
  | some f =>
    if 1 < f.refs then c.setFrame { f with refs := f.refs - 1 }
    else if f.state = 3 ∧ f.indexed then
      let pr := c.part p
      let n := wrapSucc 32 pr.release
      (c.setPart p { pr with release := n }).setFrame { f with state := 4, refs := 0, release := n }
    else c.freeFrame f

/-- Every reference of a list released. -/
def Chip.releaseAll (c : Chip) (p : Nat) (l : List PageRef) : Chip := l.foldl (fun c r => c.releaseRef p r) c

/-! Fingerprints (R146, R147). -/

/-- R146: the partition salt for the base or the draft model. -/
def Chip.fpSalt (c : Chip) (p : Nat) (draft : Bool) : List Byte :=
  match c.decl p with
  | some d => sha256 (leBytes d.salt 32 ++ leBytes (if draft then d.draftMeas else d.baseMeas) 32)
  | none => []

/-- R146: the fingerprint of a page. -/
def fpOf (salt : List Byte) (layer cust ver prev posBase t : Nat) (es : List PosEnt) : Nat :=
  let m := salt ++ leBytes layer 2 ++ leBytes cust 2 ++ leBytes ver 4 ++ leBytes prev 8 ++
    leBytes posBase 4 ++ leBytes t 4 ++
    (es.map (fun e => leBytes e.tok 4 ++ [BitVec.ofNat 8 (bitN e.gen + 2 * bitN e.pad)])).flatten
  natOfLe ((sha256 m).take 8)

/-- R146: the customer field. -/
def Chip.fpCust (c : Chip) (p cust : Nat) : Nat := if c.bit (Reg.kvPartShare p) 1 then 0xFFFF else cust

/-- R146, R147: the fingerprint of page `n` of a layer, through the chain of the pages below it; `own` is the
fingerprint that a page of the sequence holds itself, which the chain takes where there is one. -/
def fpChain (own : Nat → Option Nat) (salt : List Byte) (layer cust ver t : Nat) (tab : List PosEnt) : Nat → Nat
  | 0 => fpOf salt layer cust ver 0 0 t (tab.take t)
  | n + 1 =>
    fpOf salt layer cust ver ((own n).getD (fpChain own salt layer cust ver t tab n)) ((n + 1) * t) t
      ((tab.drop ((n + 1) * t)).take t)

/-- The page of a sequence that starts at `posBase`. -/
def Chip.pageAt (c : Chip) (s : Seq) (draft : Bool) (layer posBase : Nat) : Option Frame :=
  (s.pages.find? (fun r => r.draft == draft && r.layer == layer && r.posBase == posBase)).bind (c.frameOf s.part)

/-- The fingerprint of the page of a sequence that starts at `posBase`. -/
def Chip.fpPage (c : Chip) (s : Seq) (tab : List PosEnt) (draft : Bool) (layer posBase : Nat) : Nat :=
  let t := kvTpp (c.layer s.part draft layer)
  fpChain (fun n => (c.pageAt s draft layer (n * t)).bind Frame.fp) (c.fpSalt s.part draft) layer (c.fpCust s.part s.customer)
    (if draft then 0 else s.adapterVer) t tab (posBase / t)

/-- R147: the fingerprints that a layer's chain lacks below `posBase`, computed oldest first and kept in their pages. -/
def Chip.fillChain (c : Chip) (s : Seq) (draft : Bool) (layer posBase : Nat) : Chip :=
  let t := kvTpp (c.layer s.part draft layer)
  (upTo (posBase / t)).foldl (fun c n =>
    match c.pageAt s draft layer (n * t) with
    | some f => if f.fp.isNone && f.state == 3 then c.setFrame { f with fp := some (c.fpPage s s.table draft layer (n * t)) } else c
    | none => c) c

/-- R148: the page that the index holds under a fingerprint, SEALED or RETAINED. -/
def Chip.lookup (c : Chip) (p : Nat) (draft : Bool) (layer fp : Nat) : Option Frame :=
  ((c.part p).index.find? (fun e => e.1 == draft && e.2.1 == layer && e.2.2.1 == fp)).bind (fun e =>
    (c.frame p e.2.2.2.1 e.2.2.2.2).bind (fun f => if f.state = 3 ∨ f.state = 4 then some f else none))

/-- R143: a prefix attach of a page. -/
def Chip.attachFrame (c : Chip) (f : Frame) : Chip :=
  if f.state = 4 then c.setFrame { f with state := 3, refs := 1 }
  else c.setFrame { f with refs := f.refs + 1 }

/-- R149: the pages of the first `len` positions that lie wholly below it, over both models, with
their page numbers. -/
def Chip.pagesBelow (c : Chip) (p len : Nat) : List (Bool × Nat × Nat) :=
  ([false, true].map (fun d => (((c.layers p d).zipIdx).map (fun l =>
    let t := kvTpp l.1
    (upTo (len / t)).map (fun n => (d, l.2, n * t)))).flatten)).flatten

/-- The largest tokens-per-page of a partition's layers. -/
def Chip.maxTpp (c : Chip) (p : Nat) : Nat :=
  ((c.layers p false ++ c.layers p true).map kvTpp).foldl max 16

/-- R149 step 2: the largest L at or below `cap` whose pages are all indexed; `k` counts the
multiples of the largest T still to try. -/
def Chip.attachLen (c : Chip) (s : Seq) (tab : List PosEnt) (t : Nat) : Nat → Nat
  | 0 => 0
  | k + 1 =>
    if (c.pagesBelow s.part ((k + 1) * t)).all (fun g =>
        (c.lookup s.part g.1 g.2.1 (c.fpPage s tab g.1 g.2.1 g.2.2)).isSome) then (k + 1) * t
    else c.attachLen s tab t k

/-- R149: attach the pages of the prefix of `tab`, at most `cap` positions; the length attached. Without PD_CRYPTO no
fingerprint is computed, and nothing is attached (R147). -/
def Chip.attachPrefix (c : Chip) (s : Seq) (tab : List PosEnt) (cap : Nat) : Nat × Seq × Chip :=
  if !c.bit (Reg.kvPartShare s.part) 0 || !c.domUp 7 then (0, s, c)
  else
    let c := c.bump (Reg.kvCnt 0)
    let t := c.maxTpp s.part
    let len := c.attachLen s tab t (cap / t)
    let (s, c) := (c.pagesBelow s.part len).foldl (fun (sc : Seq × Chip) g =>
      if sc.1.pages.any (fun r => r.draft == g.1 && r.layer == g.2.1 && r.posBase == g.2.2) then sc
      else
        match sc.2.lookup s.part g.1 g.2.1 (c.fpPage s tab g.1 g.2.1 g.2.2) with
        | some f =>
          let r : PageRef := ⟨g.1, g.2.1, g.2.2, f.quad, f.idx⟩
          ({ sc.1 with pages := sc.1.pages ++ [r] }, (sc.2.attachFrame f).bump (Reg.kvCnt 1))
        | none => sc) (s, c)
    (len, s, c.bumpBy (Reg.kvCnt 2) len)

/-- The `KEY_PAD` bits of the entries of a page. -/
def padBits (tab : List PosEnt) (posBase n : Nat) : Nat :=
  sumN ((((tab.drop posBase).take n).zipIdx).map (fun e => if e.1.pad then 2 ^ e.2 else 0))

/-- R148, R147: a page that a COMMIT fills is sealed; the sequence's page list after it. -/
def Chip.sealPage (c : Chip) (s : Seq) (r : PageRef) (f : Frame) : PageRef × Chip :=
  let t := kvTpp (c.layer s.part r.draft r.layer)
  let f := { f with state := 3, fill := t, pad := padBits s.table r.posBase t }
  let c := c.bump (Reg.kvCnt 3)
  if !c.domUp 7 then (r, (c.setFrame { f with fp := none, indexed := false }).bump (Reg.kvCnt 6))
  else
    let c := c.fillChain s r.draft r.layer r.posBase
    let fp := c.fpPage s s.table r.draft r.layer r.posBase
    if !c.bit (Reg.kvPartShare s.part) 0 then (r, c.setFrame { f with fp := some fp, indexed := false })
    else
      match c.lookup s.part r.draft r.layer fp with
      | some g =>
        let c := (c.freeFrame f).bump (Reg.kvCnt 4)
        ({ r with quad := g.quad, idx := g.idx }, c.attachFrame g)
      | none =>
        let pr := c.part s.part
        (r, (c.setFrame { f with fp := some fp, indexed := true }).setPart s.part
          { pr with index := pr.index ++ [(r.draft, r.layer, fp, r.quad, r.idx)] })

/-- R143, R151: a page found bad: SEALED goes to WITHDRAWN and RETAINED to FREE, and its index entry goes. -/
def Chip.pageBad (c : Chip) (f : Frame) : Chip :=
  if f.state = 4 then c.freeFrame f
  else if f.state = 3 then
    let r := c.part f.part
    let c := c.setPart f.part { r with index := dropWhere (fun e => e.2.2.2.1 == f.quad && e.2.2.2.2 == f.idx) r.index }
    ((c.setFrame { f with state := 5, indexed := false }).bump (Reg.kvCnt 5)).log
      { code := 0x0A03, refKind := 3, ref := f.quad * 2 ^ 20 + f.idx, part := f.part }
  else c

/-- R143, R194: what a COMMIT to `len` does to one page of the sequence, in its model. -/
def Chip.commitPage (c : Chip) (s : Seq) (r : PageRef) (len : Nat) : Option PageRef × Chip :=
  match c.frameOf s.part r with
  | none => (none, c)
  | some f =>
    if f.state = 1 ∨ f.state = 2 then
      let l := c.layer s.part r.draft r.layer
      let t := kvTpp l
      if len ≤ r.posBase then
        if f.state = 1 then (none, (c.freeFrame f).bump (Reg.kvCnt 7))
        else (some r, c.setFrame { f with bytes := zeroEntries l f.fill f.bytes })
      else if r.posBase + t ≤ len then
        let (r, c) := c.sealPage s r f
        (some r, c)
      else
        let n := len - r.posBase
        (some r, c.setFrame { f with state := 2, fill := n, pad := padBits s.table r.posBase n,
                                     bytes := zeroEntries l n f.bytes })
    else (some r, c)

/-- R143, R148, R194: every page of a sequence at a COMMIT join. -/
def Chip.commitPages (c : Chip) (s : Seq) (baseLen draftLen : Nat) : Seq × Chip :=
  let (ps, c) := s.pages.foldl (fun (a : List PageRef × Chip) r =>
    let (o, c) := a.2.commitPage s r (if r.draft then draftLen else baseLen)
    (match o with | some r => a.1 ++ [r] | none => a.1, c)) ([], c)
  ({ s with pages := ps }, c)

/-- R143, R145: an abandoned step: OPEN pages go to FREE, TAIL pages keep their committed entries. -/
def Chip.abandonPages (c : Chip) (s : Seq) : Seq × Chip :=
  let (ps, c) := s.pages.foldl (fun (a : List PageRef × Chip) r =>
    match a.2.frameOf s.part r with
    | some f =>
      if f.state = 1 then (a.1, a.2.freeFrame f)
      else if f.state = 2 then
        (a.1 ++ [r], a.2.setFrame { f with bytes := zeroEntries (c.layer s.part r.draft r.layer) f.fill f.bytes })
      else (a.1 ++ [r], a.2)
    | none => (a.1, a.2)) ([], c)
  ({ s with pages := ps }, c)

/-- R144: the pages that base positions below `baseEnd` and draft positions below `draftEnd` need and
the sequence does not hold. -/
def Chip.neededPages (c : Chip) (s : Seq) (baseFrom baseEnd draftFrom draftEnd : Nat) : List PageRef :=
  let one := fun (d : Bool) (a b : Nat) => (((c.layers s.part d).zipIdx).map (fun l =>
    let t := kvTpp l.1
    ((upTo (cdiv b t)).filter (fun n => decide (a / t ≤ n) && decide (a < b) &&
        !(s.pages.any (fun r => r.draft == d && r.layer == l.2 && r.posBase == n * t)))).map
      (fun n => (⟨d, l.2, n * t, c.pageQuad s.part s.slot l.2 n, 0⟩ : PageRef)))).flatten
  one false baseFrom baseEnd ++ one true draftFrom draftEnd

/-- The frames that a list of pages needs in a quadrant. -/
def needIn (l : List PageRef) (q : Nat) : Nat := (l.filter (fun r => r.quad == q)).length

/-- R173: take a frame for every page of a list. -/
def Chip.takePages (c : Chip) (s : Seq) (l : List PageRef) : Seq × Chip :=
  l.foldl (fun (sc : Seq × Chip) r =>
    match sc.2.openPage s.part s.slot r (c.layer s.part r.draft r.layer).fmt with
    | some (r, c) => ({ sc.1 with pages := sc.1.pages ++ [r] }, c)
    | none => sc) (s, c)

/-! Sharing registers (R150). -/

/-- R150: every index entry of a partition removed and its RETAINED pages freed. -/
def Chip.flushIndex (c : Chip) (p : Nat) : Chip :=
  let c := (c.work.frames.filter (fun f => f.part == p && f.state == 4)).foldl (fun c f => c.freeFrame f) c
  let c := c.setPart p { c.part p with index := [] }
  c.onWork (fun w => { w with frames := updWhere (fun f => f.part == p) (fun f => { f with indexed := false }) w.frames })

/-- R150: a write of KV_PART_SHARE by the owner port. -/
def kvShareSet (c : Chip) (p : Nat) (v : W64) : Chip :=
  let off := Reg.kvPartShare p
  let old := c.reg off
  let new := rwWrite shareFields none old v
  let c := c.setReg off new
  if fieldOf old 1 0 = fieldOf new 1 0 then c
  else (c.flushIndex p).log { code := 0x0A01, part := p }

/-- R186 step 2: whether a sequence holds a page's committed entries below a length; a frame that is only open holds none. -/
def Chip.holdsPage (c : Chip) (s : Seq) (draft : Bool) (layer posBase n : Nat) : Bool :=
  s.pages.any (fun r => r.draft == draft && r.layer == layer && r.posBase == posBase &&
    (match c.frameOf s.part r with
     | some f => decide (2 ≤ f.state) && decide (n ≤ f.fill)
     | none => false))

/-- R186 step 2: where the recompute of a model starts; `upto` when no page is missing. -/
def Chip.missingStart (c : Chip) (s : Seq) (draft : Bool) (upto : Nat) : Nat :=
  let ls := c.layers s.part draft
  let tmax := (ls.map kvTpp).foldl max 1
  let miss := (((ls.zipIdx).map (fun l =>
    let t := kvTpp l.1
    ((upTo (cdiv upto t)).map (fun n => n * t)).filter (fun b =>
      !(c.holdsPage s draft l.2 b (min t (upto - b)))))).flatten)
  match miss with
  | [] => upto
  | b :: bs =>
    let m := bs.foldl min b
    m - m % tmax

end Sys2Proof.Machine
end

