-- ==== Sys2Proof/Machine/Seam.lean ====
section
/-!
DEFINITION. Packets and the seam: packet types and classes (R318, R479), routing by epoch (R322 to R326), combining (R329 to R332), congestion control and pacing (R333 to
R335), and the sending and answering of packets.
-/
namespace Sys2Proof.Machine

/-- R479: the packet type of a body; 0 for an unassigned type's bytes. -/
def bodyType : FabBody → Nat
  | .nack _ => 0x01 | .ccEcho => 0x02 | .swWrite _ => 0x03 | .swWriteAck _ => 0x04
  | .load _ => 0x10 | .loadReply _ => 0x11 | .store _ => 0x12 | .storeAck _ => 0x13
  | .read _ => 0x14 | .readData _ => 0x15 | .write _ => 0x16 | .writeAck _ => 0x17
  | .atomic _ => 0x18 | .atomicReply _ => 0x19 | .atomicCombined _ => 0x1A
  | .atomicCombinedReply _ => 0x1B | .cancel _ => 0x1C | .cancelAck _ => 0x1D
  | .rmaGrant _ => 0x1E | .revokeDone _ => 0x1F
  | .phasePlace _ => 0x20 | .phaseReport _ => 0x21 | .phaseCtrl _ => 0x22
  | .moveOffer _ => 0x28 | .moveReply _ => 0x29 | .moveAck _ => 0x2A | .moveCommit _ => 0x2B
  | .moveAbort _ => 0x2C | .moveQuery _ => 0x2D | .moveAnswer _ => 0x2E | .movePull _ => 0x2F
  | .embRead _ => 0x30 | .embRows _ => 0x31 | .embScatter _ => 0x32 | .embScatterAck _ => 0x33
  | .embRedirect _ => 0x34 | .migOffer _ => 0x38 | .migReply _ => 0x39 | .migAck _ => 0x3A
  | .migCommit _ => 0x3B | .migAbort _ => 0x3C
  | .raw _ => 0

/-- R318, R350: the traffic class of a packet this device originates, by its type. What a move, a migration or a second source
carries in writes and reads has its own class (`ownerTc`). -/
def bodyTc : FabBody → Nat
  | .phasePlace _ => 1
  | .load _ => 2 | .loadReply _ => 2 | .store _ => 2 | .storeAck _ => 2 | .read _ => 2
  | .readData _ => 2 | .write _ => 2 | .writeAck _ => 2 | .atomic _ => 2 | .atomicReply _ => 2
  | .atomicCombined _ => 2 | .atomicCombinedReply _ => 2 | .cancelAck _ => 2
  | .embRead _ => 2 | .embRows _ => 2 | .embScatter _ => 2 | .embScatterAck _ => 2
  | _ => 0

/-! Ports. -/

/-- A fabric port's record. -/
def Chip.fabPort (c : Chip) (p : Nat) : FabPort := c.fab.ports.getD p .init

/-- A fabric port's record replaced. -/
def Chip.setFabPort (c : Chip) (p : Nat) (r : FabPort) : Chip :=
  { c with fab := { c.fab with ports := c.fab.ports.set p r } }

/-- The state of a fabric port (R310): 0 FENCED, 1 DOWN, 2 TRAIN, 3 ACTIVE, 4 RETRAIN. -/
def Chip.fabState (c : Chip) (p : Nat) : Nat := c.fld (Reg.fabPortStatus p) 63 61

/-- R325: whether a port of a set is usable; 16 is the local port. -/
def Chip.portUsable (c : Chip) (p : Nat) : Bool :=
  p == 16 || (decide (p < 16) && c.fabState p == 3 && !(c.bit (Reg.fabPortCtrl p) 62))

/-- R323: the ports of a route entry, in slot order. -/
def routePorts (e : W64) : List Nat :=
  if bitOf e 63 then (upTo (fieldOf e 62 60 + 1)).map (fun j => fieldOf e (5 * j + 4) (5 * j)) else []

/-- The usable ports of an entry. -/
def Chip.usablePorts (c : Chip) (e : W64) : List Nat := (routePorts e).filter c.portUsable

/-- R325, R339: the bytes queued at a port in a class; 16 is the local port. -/
def Chip.queuedBytes (c : Chip) (p tc : Nat) : Nat :=
  let ks := if p < 16 then (c.fabPort p).queue.map EgItem.pkt else c.fab.local_
  sumN ((ks.filter (fun k => k.hdr.tc == tc)).map (fun k => 32 + k.hdr.payLen))

/-- R339: whether a queue's hot spot has been logged. -/
def Chip.hot (c : Chip) (p tc : Nat) : Bool := (if p < 16 then (c.fabPort p).hot else c.fab.localHot).getD tc false

/-- R339: whether a queue's hot spot has been logged, set. -/
def Chip.setHot (c : Chip) (p tc : Nat) (b : Bool) : Chip :=
  if p < 16 then
    let r := c.fabPort p
    c.setFabPort p { r with hot := r.hot.set tc b }
  else { c with fab := { c.fab with localHot := c.fab.localHot.set tc b } }

/-- R339: the latch of a queue is cleared once it falls below half the threshold. -/
def Chip.coolHot (c : Chip) (p tc : Nat) : Chip :=
  if c.hot p tc && decide (c.queuedBytes p tc < c.fld Reg.swParams 63 48 * 1024 / 2) then c.setHot p tc false else c

/-- R325: the pinned path among `n` usable ports. -/
def pinHash (src dst n : Nat) : Nat := (((src * 2 ^ 16 + dst) * 0x9E3779B9) % 2 ^ 32 / 2 ^ 16) % n

/-- R325: the port of a packet, with the rotating pointers after the choice. -/
def pickPort (c : Chip) (e : W64) (k : FabPkt) : Option Nat × List Nat :=
  let us := c.usablePorts e
  let rot := c.fab.rotate
  match us with
  | [] => (none, rot)
  | u :: _ =>
    if k.hdr.pin then (us[pinHash k.hdr.src k.hdr.dst us.length]?, rot)
    else
      let q := fun p => c.queuedBytes p k.hdr.tc
      let best := us.foldl (fun b p => if q p < q b then p else b) u
      let tied := us.filter (fun p => q p == q best)
      if tied.length ≤ 1 then (some best, rot)
      else
        let ptr := rot.getD k.hdr.tc 0
        let pick := ((upTo 17).map (fun i => (ptr + 1 + i) % 17)).find? (fun p => tied.contains p)
        (pick, rot.set k.hdr.tc (pick.getD ptr))

/-- R326: which table an arriving epoch uses. -/
inductive TableSel where
  | current | ahead | previous | none
  deriving DecidableEq, Repr

/-- R326: by serial comparison with the current epoch. -/
def Chip.epochTable (c : Chip) (e : Nat) : TableSel :=
  let cur := c.fld Reg.swCtrl 60 45
  if e = cur then .current
  else if precedes 16 cur e then .ahead
  else if (e + 1) % 65536 = cur ∧ c.bit Reg.swCtrl 61 then .previous
  else .none

/-- A route entry of the chosen table. -/
def Chip.routeEntry (c : Chip) (t : TableSel) (d : Nat) : W64 :=
  match t with
  | .previous => rfGet (fun _ => 0#64) c.fab.prev d
  | _ => c.reg (Reg.routeLive d)

/-- The next `MSG_ID` (R317). -/
def Chip.nextMsgId (c : Chip) : Nat × Chip :=
  let m := wrapSucc 32 c.fab.msgId
  (m, { c with fab := { c.fab with msgId := m } })

/-- R333: the stamp of a packet sent now. -/
def Chip.stamp (c : Chip) : Nat := c.time % 2 ^ 32

/-- A header for a packet this device originates. -/
def Chip.header (c : Chip) (dst tc msgId echo : Nat) (b : FabBody) : FabHdr :=
  { dst := dst, src := c.deviceId, mapEpoch := c.fld Reg.swCtrl 60 45, tc := tc, last := true,
    pin := false, enc := false, combined := false, hops := 0, rsvd := 0, pktType := bodyType b,
    payLen := bodyLen b, msgId := msgId, msgOffset := 0, totalLen := bodyLen b,
    tsStamp := c.stamp, tsEcho := echo, wire := [],
    encPart := 0, encEpoch := 0, nonce := 0 }

/-- Put a packet at the end of a port's queue, or deliver it locally through port 16. -/
def Chip.enqueue (c : Chip) (p : Nat) (m : Member) (k : FabPkt) : Chip :=
  if p < 16 then
    let r := c.fabPort p
    c.setFabPort p { r with queue := r.queue ++ [⟨m, k⟩] }
  else { c with fab := { c.fab with local_ := c.fab.local_ ++ [k] } }

/-! Combining (R329 to R331). -/

/-- R329: whether a load or a 64-bit add may combine. -/
def mayCombine (k : FabPkt) : Bool :=
  !k.hdr.enc && !k.hdr.pin && !k.hdr.combined &&
  (match k.body with
   | .load _ => true
   | .atomic b => b.op == 1
   | _ => false)

/-- R329: the body without the atomic's sequence number and addend. -/
def combineKey (b : FabBody) : FabBody :=
  match b with
  | .atomic a => .atomic { a with seq := 0, a0 := 0#64 }
  | b => b

/-- R329: whether two packets have equal keys. -/
def sameKey (a b : FabPkt) : Bool :=
  a.hdr.dst == b.hdr.dst && a.hdr.mapEpoch == b.hdr.mapEpoch && a.hdr.tc == b.hdr.tc &&
    a.hdr.pktType == b.hdr.pktType && combineKey a.body == combineKey b.body

/-- A packet as a constituent. -/
def constituentOf (k : FabPkt) : Constituent :=
  let (seq, a) := match k.body with
    | .atomic b => (b.seq, b.a0)
    | _ => (0, 0#64)
  { src := k.hdr.src, msgId := k.hdr.msgId, stamp := k.hdr.tsStamp, seq := seq, addend := a,
    pkt := k }

/-- R329: the open entry a packet joins, whatever port its own route would give. -/
def Chip.openEntry (c : Chip) (k : FabPkt) : Option Combine :=
  c.fab.combines.find? (fun e => e.joinOpen && decide (e.parts.length < 16) &&
    (e.parts.head?.map (fun q => sameKey q.pkt k)).getD false)

/-- A combining entry replaced. -/
def Chip.setCombine (c : Chip) (e : Combine) : Chip :=
  { c with fab := { c.fab with combines := updWhere (fun x => x.id == e.id) (fun _ => e) c.fab.combines } }

/-- A combining entry freed. -/
def Chip.freeCombine (c : Chip) (id : Nat) : Chip :=
  { c with fab := { c.fab with combines := dropWhere (fun x => x.id == id) c.fab.combines } }

/-- A new combining entry, when fewer than 256 are open (R329). -/
def Chip.newCombine (c : Chip) (e : Combine) : Option Chip :=
  if c.fab.combines.length < 256 then
    some { c with fab := { c.fab with combines := c.fab.combines ++ [{ e with id := c.fab.combId }],
                                      combId := c.fab.combId + 1 } }
  else none

/-- R331: whether a packet waits at the head of its queue at a port: the queue of its class and member. -/
def atHead (r : FabPort) (k : FabPkt) : Bool :=
  r.queue.any (fun i => i.pkt == k &&
    ((r.queue.find? (fun j => j.pkt.hdr.tc == k.hdr.tc && j.member == i.member)).map EgItem.pkt) == some k)

/-- R331: an entry closes to new constituents when its waiting add reaches the head of its queue. -/
def Chip.closeHeads (c : Chip) : Chip :=
  let heads := fun (e : Combine) => e.add && e.sent.isNone &&
    c.fab.ports.any (fun r => (e.parts.head?.map (fun q => atHead r q.pkt)).getD false)
  { c with fab := { c.fab with combines := updWhere heads (fun e => { e with joinOpen := false }) c.fab.combines } }

/-- R330, R331: combine a packet bound for port `p`, or queue it. -/
def Chip.combineOrQueue (c : Chip) (p : Nat) (m : Member) (k : FabPkt) : Chip :=
  if !mayCombine k || 16 ≤ p then c.enqueue p m k
  else
    match k.body with
    | .load _ =>
      if !c.bit Reg.swCtrl 23 then c.enqueue p m k
      else
        match c.openEntry k with
        | some e => (c.setCombine { e with parts := e.parts ++ [constituentOf k] }).bump (Reg.fabCnt 11)
        | none =>
          let (id, c1) := c.nextMsgId
          match c1.newCombine { id := 0, add := false, joinOpen := true, sent := some id,
                                parts := [constituentOf k] } with
          | some c2 =>
            c2.enqueue p m { k with hdr := { k.hdr with src := c.deviceId, msgId := id,
                                                        combined := true, tsStamp := c.stamp } }
          | none => c.enqueue p m k
    | _ =>
      if !c.bit Reg.swCtrl 24 then c.enqueue p m k
      else
        match c.openEntry k with
        | some e =>
          let e := { e with parts := e.parts ++ [constituentOf k] }
          (c.setCombine { e with joinOpen := decide (e.parts.length < 16) }).bump (Reg.fabCnt 12)
        | none =>
          if (c.fabPort p).queue.any (fun i => i.pkt.hdr.tc == k.hdr.tc && i.member == m) then
            match c.newCombine { id := 0, add := true, joinOpen := true, sent := none,
                                 parts := [constituentOf k] } with
            | some c2 => c2.enqueue p m k
            | none => c.enqueue p m k
          else c.enqueue p m k

/-- R330, R331: whether a packet bound for port `p` joins an open entry, and is not forwarded itself. -/
def Chip.joins (c : Chip) (k : FabPkt) (p : Nat) : Bool :=
  mayCombine k && decide (p < 16) && c.bit Reg.swCtrl (if k.hdr.pktType = 0x10 then 23 else 24) && (c.openEntry k).isSome

/-! Forwarding (R322). -/

/-- R320: whether a dropped packet may be answered by a NACK. -/
def nackable (k : FabPkt) : Bool := k.hdr.pktType != 0x01 && k.hdr.pktType != 0x02

/-- R320: the NACK for a packet. -/
def nackBody (k : FabPkt) (status : Nat) : FabBody :=
  .nack { status := status, droppedType := k.hdr.pktType, msgId := k.hdr.msgId,
          msgOffset := k.hdr.msgOffset, rsvd := 0 }

/-- R333: bytes received from a source in TC 1 to 3, and whether an echo is due. -/
def Chip.countRx (c : Chip) (k : FabPkt) : Bool × Chip :=
  if k.hdr.tc = 0 ∨ k.hdr.src = c.deviceId then (false, c)
  else
    match assocGet c.fab.rxBytes k.hdr.src with
    | none => (true, { c with fab := { c.fab with rxBytes := assocPut c.fab.rxBytes k.hdr.src k.hdr.payLen } })
    | some n =>
      let n2 := n + k.hdr.payLen
      (decide (n / 65536 < n2 / 65536),
        { c with fab := { c.fab with rxBytes := assocPut c.fab.rxBytes k.hdr.src n2 } })

/-- R322, R480: forward a packet that arrived at the seam or that this device sends. `answer` sends a
packet of this device (a NACK or an echo). -/
def forwardWith (answer : Chip → Nat → Nat → FabBody → Chip) (c : Chip) (m : Member) (k : FabPkt) : Chip :=
  let nack := fun (c : Chip) (st : Nat) =>
    if nackable k then answer c k.hdr.src k.hdr.tsStamp (nackBody k st) else c
  let t := c.epochTable k.hdr.mapEpoch
  let c := if t = .ahead ∧ k.hdr.src ≠ c.deviceId then c.bump (Reg.fabCnt 10) else c
  if t = .none then
    nack ((c.bump (Reg.fabCnt 8)).log { code := 0x0C06, refKind := 3, ref := k.hdr.mapEpoch }) 0x0040
  else if k.hdr.dst = c.deviceId then
    let (echo, c) := c.countRx k
    let c := if echo then answer c k.hdr.src k.hdr.tsStamp .ccEcho else c
    match k.body with
    | .raw _ => nack c 0x0005
    | _ => { c with fab := { c.fab with local_ := c.fab.local_ ++ [k] } }
  else
    let own := k.hdr.src == c.deviceId
    let hops := if own then k.hdr.hops else k.hdr.hops + 1
    if !own && decide (c.fld Reg.swCtrl 28 25 < hops) then
      nack ((c.bump (Reg.fabCnt 9)).log { code := 0x0C07, refKind := 3, ref := k.hdr.dst }) 0x0046
    else
      match pickPort c (c.routeEntry t k.hdr.dst) k with
      | (none, _) => nack (c.bump (Reg.fabCnt 9)) 0x0046
      | (some p, rot) =>
        let c := { c with fab := { c.fab with rotate := rot } }
        let k := { k with hdr := { k.hdr with hops := hops } }
        let c2 := c.combineOrQueue p m k
        if own || c.joins k p then c2 else c2.bump (Reg.fabCnt 7)

/-- A packet of this device in TC 0, which is not paced (R334). NACKs and echoes are never
answered, so `depth` 1 suffices for them. -/
def answerFuel : Nat → Chip → Nat → Nat → FabBody → Chip
  | 0, c, _, _, _ => c
  | d + 1, c, dst, echo, b =>
    let (id, c) := c.nextMsgId
    forwardWith (answerFuel d) c .device ⟨c.header dst 0 id echo b, b⟩

/-- R322: forward a packet. -/
def Chip.forward (c : Chip) (m : Member) (k : FabPkt) : Chip := forwardWith (answerFuel 2) c m k

/-! Congestion control and pacing (R333 to R335). Buckets count 1/72 byte: a rate of r units
gives 35·r of them each L-unit. -/

/-- A rate cache entry of a destination. -/
def Chip.rateEnt (c : Chip) (d : Nat) : Option RateEnt := c.fab.rates.find? (fun e => e.dst == d)

/-- A rate cache entry replaced. -/
def Chip.setRate (c : Chip) (e : RateEnt) : Chip :=
  { c with fab := { c.fab with rates := updWhere (fun x => x.dst == e.dst) (fun _ => e) c.fab.rates } }

/-- R334: a new entry starts at `INIT_RATE`, with an empty bucket (log entry 12). -/
def Chip.newRate (c : Chip) (d : Nat) : RateEnt :=
  { dst := d, r := c.fld Reg.fabCcCtrl 23 16, lastInc := 0, lastDec := 0, bucket := 0, lastFill := c.time,
    unechoed := 0, sent := c.time, lastHalf := 0, used := c.fab.useCtr, queue := [] }

/-- R334: the entry evicted for room: the least recently used one with no paced packet. -/
def evictable (l : List RateEnt) : Option Nat :=
  ((l.filter (fun e => e.queue.isEmpty)).foldl (fun (b : Option RateEnt) e =>
    match b with
    | none => some e
    | some x => if e.used < x.used then some e else b) none).map RateEnt.dst

/-- R334: the entry of a destination, made when there is room. -/
def Chip.useRate (c : Chip) (d : Nat) : Option Chip :=
  let c := { c with fab := { c.fab with useCtr := c.fab.useCtr + 1 } }
  match c.rateEnt d with
  | some e => some (c.setRate { e with used := c.fab.useCtr })
  | none =>
    if c.fab.rates.length < 4096 then
      some { c with fab := { c.fab with rates := c.fab.rates ++ [c.newRate d] } }
    else
      (evictable c.fab.rates).map (fun v =>
        { c with fab := { c.fab with rates := dropWhere (fun e => e.dst == v) c.fab.rates ++ [c.newRate d] } })

/-- R335: a TC 1 to 3 packet joins its destination's paced queue, or waits for an entry. -/
def Chip.pace (c : Chip) (m : Member) (k : FabPkt) : Chip :=
  match c.useRate k.hdr.dst with
  | some c1 =>
    match c1.rateEnt k.hdr.dst with
    | some e => c1.setRate { e with queue := e.queue ++ [⟨m, k⟩] }
    | none => c1
  | none =>
    let it : EgItem := ⟨m, k⟩
    ({ c with fab := { c.fab with wait := c.fab.wait ++ [it] } } : Chip).bump (Reg.fabCnt 16)

/-- Send a packet that this device originates: TC 0 goes to the seam at once, the others are
paced; a packet to this device itself is delivered. -/
def Chip.sendPkt (c : Chip) (m : Member) (k : FabPkt) : Chip :=
  if k.hdr.dst = c.deviceId then { c with fab := { c.fab with local_ := c.fab.local_ ++ [k] } }
  else if k.hdr.tc = 0 then c.forward m k
  else c.pace m k

/-- Send a single-packet message under a new `MSG_ID`, in the class of its type; the number used
is answered. -/
def Chip.sendNew (c : Chip) (m : Member) (dst echo : Nat) (b : FabBody) : Nat × Chip :=
  let (id, c) := c.nextMsgId
  (id, c.sendPkt m ⟨c.header dst (bodyTc b) id echo b, b⟩)

/-- R350: answer a request packet under its own `MSG_ID`, echoing its stamp. -/
def Chip.reply (c : Chip) (m : Member) (h : FabHdr) (b : FabBody) : Chip :=
  c.sendPkt m ⟨{ c.header h.src (bodyTc b) h.msgId h.tsStamp b with enc := false }, b⟩

/-- R320: refuse an arrived packet. -/
def Chip.nackPkt (c : Chip) (k : FabPkt) (status : Nat) : Chip :=
  if nackable k then answerFuel 2 c k.hdr.src k.hdr.tsStamp (nackBody k status) else c

/-- R334: a round-trip sample of a destination. -/
def ccSample (c : Chip) (d s : Nat) : Chip :=
  match c.rateEnt d with
  | none => c
  | some e =>
    let ctl := c.reg Reg.fabCcCtrl
    let t := fieldOf ctl 15 0
    let e := { e with unechoed := 0, sent := c.time }
    if s ≤ t then
      if t ≤ c.time - e.lastInc then
        c.setRate { e with r := min (e.r + fieldOf ctl 31 24) (fieldOf ctl 55 40), lastInc := c.time }
      else c.setRate e
    else if t ≤ c.time - e.lastDec then
      let cut := min (e.r * fieldOf ctl 39 32 * (s - t) / (s * 256)) (e.r / 2)
      (c.setRate { e with r := max (e.r - cut) 1, lastDec := c.time }).bump (Reg.fabCnt 15)
    else c.setRate e

/-- R333: an arriving echo of one of this device's stamps is a sample of its sender. -/
def Chip.takeEcho (c : Chip) (h : FabHdr) : Chip :=
  if h.tsEcho = 0 then c
  else ccSample c h.src ((c.time + 2 ^ 32 - h.tsEcho) % 2 ^ 32)

/-- R335: the bucket filled up to now, at most 16 KiB. -/
def fillBucket (now : Nat) (e : RateEnt) : RateEnt :=
  { e with bucket := min (e.bucket + ((now - e.lastFill) * e.r * 35 : Nat)) (16384 * 72), lastFill := now }

/-- R331: the entry whose waiting add a packet is. -/
def Chip.waitingAdd (c : Chip) (k : FabPkt) : Option Combine :=
  c.fab.combines.find? (fun e => e.add && e.sent.isNone && (e.parts.head?.map (fun q => q.pkt == k)).getD false)

/-- R336, R335: the cost of a packet in bytes; that of a waiting add is the cost of what leaves in its place (R331). -/
def Chip.cost (c : Chip) (k : FabPkt) : Nat :=
  (match c.waitingAdd k with
   | some e => if e.parts.length ≤ 1 then k.hdr.payLen else 24 + 16 * e.parts.length
   | none => k.hdr.payLen) + c.fld Reg.fabEgressTc 7 0

/-- R335: packets that waited for an entry take one where they now can. -/
def Chip.drainWait (c : Chip) : Chip :=
  c.fab.wait.foldl (fun c i =>
    match c.useRate i.pkt.hdr.dst with
    | some c1 =>
      match c1.rateEnt i.pkt.hdr.dst with
      | some e => c1.setRate { e with queue := e.queue ++ [i] }
      | none => c1
    | none => { c with fab := { c.fab with wait := c.fab.wait ++ [i] } })
    { c with fab := { c.fab with wait := [] } }

/-- R335: the head packet of a destination is released when the bucket is not negative. -/
def pacedRelease (c : Chip) (d : Nat) : Chip :=
  match c.rateEnt d with
  | none => c
  | some e =>
    let e := fillBucket c.time e
    match e.queue with
    | [] => c.setRate e
    | i :: rest =>
      if e.bucket < 0 then c.setRate e
      else
        let cost := c.cost i.pkt
        let c := c.setRate { e with queue := rest, bucket := e.bucket - (cost * 72 : Nat),
                                    unechoed := e.unechoed + cost }
        (c.forward i.member i.pkt).drainWait

/-- R334: 8 target round trips without a sample halve the rate. -/
def ccNoSample (c : Chip) (d : Nat) : Chip :=
  match c.rateEnt d with
  | none => c
  | some e =>
    if e.unechoed = 0 then c
    else (c.setRate { e with r := max (e.r / 2) 1, lastHalf := c.time }).bump (Reg.fabCnt 15)

/-! Egress (R336). -/

/-- The deficit of a member of a class. -/
def defOf (l : List Deficit) (tc : Nat) (m : Member) : Int :=
  ((l.find? (fun d => d.tc == tc && d.member == m)).map Deficit.value).getD 0

/-- A member's deficit set; zero deficits are not listed. -/
def setDef (l : List Deficit) (tc : Nat) (m : Member) (v : Int) : List Deficit :=
  let l := dropWhere (fun d => d.tc == tc && d.member == m) l
  if v = 0 then l else l ++ [({ tc := tc, member := m, value := v } : Deficit)]

/-- The order of members in a round: transit, the partitions, the device. -/
def memberKey : Member → Nat
  | .transit => 0 | .part p => p + 1 | .device => 17

/-- The member of a key. -/
def memberOf (k : Nat) : Member := if k = 0 then .transit else if k = 17 then .device else .part (k - 1)

/-- R336: the quantum of a class in bytes; TC 0 uses its burst. -/
def Chip.classQuantum (c : Chip) (tc : Nat) : Nat :=
  1024 * (if tc = 0 then c.fld Reg.fabEgressTc 23 16 else if tc = 1 then c.fld Reg.fabEgressTc 31 24
          else if tc = 2 then c.fld Reg.fabEgressTc 39 32 else c.fld Reg.fabEgressTc 47 40)

/-- R336: the quantum of a member. -/
def Chip.memberQuantum (c : Chip) (tc : Nat) : Member → Nat
  | .transit => c.classQuantum tc
  | .part p => c.fld (Reg.fabEgressPart p) 31 16
  | .device => 16384

/-- R336: the pass a member is served in; none when it may not be served. -/
def Chip.memberPass (c : Chip) : Member → Option Nat
  | .part p =>
    if c.fld (Reg.fabEgressPart p) 63 48 = 0 ∨ 0 < c.fab.shaper.getD p 0 then some 0
    else if c.bit (Reg.fabEgressPart p) 0 then some 1 else none
  | _ => some 0

/-- One deficit round robin: from the current key, serve it while its head's cost is within its
deficit, else give the next key in order its quantum. `fuel` bounds the turns. -/
def drr (keys : List Nat) (quantum cost : Nat → Nat) : Nat → Nat → (Nat → Int) → Option (Nat × (Nat → Int))
  | 0, _, _ => none
  | fuel + 1, cur, d =>
    if keys.contains cur && decide ((cost cur : Int) ≤ d cur) then
      some (cur, fun k => if k = cur then d k - (cost cur : Int) else d k)
    else
      let next := ((keys.find? (fun k => decide (cur < k))).orElse (fun _ => keys.head?)).getD cur
      drr keys quantum cost fuel next (fun k => if k = next then d k + (quantum next : Int) else d k)

/-- R336: the member stage: the member of a class that is served next, and the deficits after. -/
def Chip.pickMember (c : Chip) (r : FabPort) (tc : Nat) : Option (Member × List Deficit × Nat) :=
  let q := r.queue.filter (fun i => i.pkt.hdr.tc == tc)
  let have_ := (upTo 18).filter (fun k => q.any (fun i => memberKey i.member == k))
  let p0 := have_.filter (fun k => c.memberPass (memberOf k) == some 0)
  let keys := if p0.isEmpty then have_.filter (fun k => c.memberPass (memberOf k) == some 1) else p0
  let headCost := fun k => ((q.find? (fun i => memberKey i.member == k)).map (fun i => c.cost i.pkt)).getD 0
  -- a member with nothing queued loses its deficit
  let defs := r.members.filter (fun d => d.tc != tc || have_.contains (memberKey d.member))
  match drr keys (fun k => c.memberQuantum tc (memberOf k)) headCost 2000 (r.memNext.getD tc 0)
      (fun k => defOf defs tc (memberOf k)) with
  | none => none
  | some (k, d) =>
    some (memberOf k, (upTo 18).foldl (fun l j => setDef l tc (memberOf j) (if have_.contains j then d j else 0)) defs, k)

/-- R336: TC 0's bucket filled up to now, in 1/144 byte. -/
def Chip.fillTc0 (c : Chip) (p : Nat) (r : FabPort) : FabPort :=
  let share := c.fld Reg.fabEgressTc 15 8
  let width := c.fld (Reg.fabPortStatus p) 60 57
  let cap : Int := (c.fld Reg.fabEgressTc 23 16 * 1024 * 144 : Nat)
  { r with tc0 := min (r.tc0 + ((c.time - r.tc0Last) * 35 * width * share : Nat)) cap, tc0Last := c.time }

/-- R336: the partition shapers filled up to now, in 1/72 byte. -/
def Chip.fillShaper (c : Chip) : Chip :=
  let dt := c.time - c.fab.shapLast
  let sh := (upTo 16).map (fun p =>
    let w := c.reg (Reg.fabEgressPart p)
    min (c.fab.shaper.getD p 0 + (dt * fieldOf w 63 48 * 35 : Nat)) ((fieldOf w 47 32 * 1024 * 72 : Nat) : Int))
  { c with fab := { c.fab with shaper := sh, shapLast := c.time } }

/-- R336, R314: the class served next at a port, with the record after the choice, among the classes of which no
packet waits for credit: TC 0 within its share, else TC 1 to 3 by deficit round robin, else TC 0. -/
def Chip.pickClass (c : Chip) (r : FabPort) : Option (Nat × FabPort) :=
  let free := fun tc => !r.link.out.any (fun o => o.tc == tc)
  let hasTc := fun tc => free tc && r.queue.any (fun i => i.pkt.hdr.tc == tc)
  if hasTc 0 && decide (0 ≤ r.tc0) then some (0, r)
  else
    let keys := [1, 2, 3].filter (fun tc => free tc && (c.pickMember r tc).isSome)
    if keys.isEmpty then if hasTc 0 then some (0, r) else none
    else
      let headCost := fun tc => match c.pickMember r tc with
        | some (m, _, _) =>
          ((r.queue.find? (fun i => i.pkt.hdr.tc == tc && i.member == m)).map (fun i => c.cost i.pkt)).getD 0
        | none => 0
      let d0 := fun tc => if keys.contains tc then r.classDef.getD tc 0 else 0
      match drr keys c.classQuantum headCost 2000 r.classNext d0 with
      | none => none
      | some (tc, d) => some (tc, { r with classNext := tc, classDef := [0, d 1, d 2, d 3] })

/-- R331: the packet that leaves when an add reaches the head of its queue: itself, or the
combined packet of its entry. -/
def Chip.closeAdd (c : Chip) (k : FabPkt) : FabPkt × Chip :=
  match c.waitingAdd k with
  | none => (k, c)
  | some e =>
    if e.parts.length ≤ 1 then (k, c.freeCombine e.id)
    else
      let (id, c) := c.nextMsgId
      let (reg, off) := match k.body with
        | .atomic b => (b.region, b.offset)
        | _ => (0, 0)
      let sum := e.parts.foldl (fun s q => s + q.addend) 0#64
      let b : FabBody := .atomicCombined
        { region := reg, offset := off, sum := sum, entries := e.parts.map (fun q => (q.src, q.seq, q.addend)),
          rsvd := 0 }
      let h := { c.header k.hdr.dst k.hdr.tc id 0 b with combined := true, mapEpoch := k.hdr.mapEpoch }
      (⟨h, b⟩, c.setCombine { e with joinOpen := false, sent := some id })

/-- R336: one packet leaves the port's queues for its link. -/
def egressDequeue (c : Chip) (p : Nat) : Chip :=
  if c.fabState p ≠ 3 then c
  else
    let c := c.fillShaper
    let r := c.fillTc0 p (c.fabPort p)
    match c.pickClass r with
    | none => c.setFabPort p r
    | some (tc, r) =>
      match c.pickMember r tc with
      | none => c.setFabPort p r
      | some (m, defs, k) =>
        match findIdx1 (fun i => i.pkt.hdr.tc == tc && i.member == m) r.queue with
        | none => c.setFabPort p r
        | some (i, it) =>
          let cost := c.cost it.pkt
          let r := { r with queue := r.queue.eraseIdx i, members := defs, memNext := r.memNext.set tc k,
                            tc0 := if tc = 0 then r.tc0 - (cost * 144 : Nat) else r.tc0 }
          let sh := match m with
            | .part q =>
              if c.fld (Reg.fabEgressPart q) 63 48 = 0 then c.fab.shaper
              else c.fab.shaper.set q (c.fab.shaper.getD q 0 - (cost * 72 : Nat))
            | _ => c.fab.shaper
          let c := ({ c with fab := { c.fab with shaper := sh } }).setFabPort p r
          let (pkt, c) := c.closeAdd it.pkt
          let r := c.fabPort p
          ((c.setFabPort p { r with link := (r.link.push tc [pktBytes pkt] ⟨m, pkt⟩).flush }).coolHot p tc).closeHeads

/-- R325: unpinned packets queued for a port that left the usable sets, of which no flit has left, move to another usable port
of their entry. -/
def Chip.requeue (c : Chip) (p : Nat) : Chip :=
  let r := c.fabPort p
  let back := r.link.out.filter (fun o => !o.begun && !o.item.pkt.hdr.pin)
  let (stay, go) := r.queue.partition (fun i => i.pkt.hdr.pin)
  let r := { r with queue := stay, link := { r.link with out := r.link.out.filter (fun o => o.begun || o.item.pkt.hdr.pin) } }
  let c := (back.map OutMsg.item ++ go).foldl (fun c i =>
    let t := c.epochTable i.pkt.hdr.mapEpoch
    match pickPort c (c.routeEntry t i.pkt.hdr.dst) i.pkt with
    | (some q, rot) => ({ c with fab := { c.fab with rotate := rot } }).enqueue q i.member i.pkt
    | (none, _) =>
      let r := c.fabPort p
      c.setFabPort p { r with queue := r.queue ++ [i] })
    (c.setFabPort p r)
  ((upTo 4).foldl (fun c tc => c.coolHot p tc) c).closeHeads

/-- R339: a queue above the threshold for the set time. -/
def hotspotDetected (c : Chip) (p tc : Nat) : Chip :=
  if c.fld Reg.swParams 63 48 * 1024 < c.queuedBytes p tc ∧ c.hot p tc = false then
    (c.setHot p tc true).log { code := 0x0C08, refKind := 3, ref := p, param1 := tc }
  else c

/-- R331: the combining window of an entry ends: it closes to new constituents. -/
def combineWindow (c : Chip) (id : Nat) : Chip :=
  match c.fab.combines.find? (fun e => e.id == id) with
  | some e => c.setCombine { e with joinOpen := false }
  | none => c

/-- R332: no reply within the hold: every constituent gets a NACK, and the entry is freed. -/
def combineHold (c : Chip) (id : Nat) : Chip :=
  match c.fab.combines.find? (fun e => e.id == id) with
  | some e =>
    if e.sent.isSome then
      let c := (c.freeCombine id).bump (Reg.fabCnt 13)
      e.parts.foldl (fun c q => answerFuel 2 c q.src q.stamp (nackBody q.pkt 0x0045)) c
    else c
  | none => c

/-- The combining entry that a reply to this device answers. -/
def Chip.combineFor (c : Chip) (msgId : Nat) (add : Bool) : Option Combine :=
  c.fab.combines.find? (fun e => e.sent == some msgId && e.add == add)

/-- A reply to a constituent of a combining entry: under its own `MSG_ID`, echoing its stamp. -/
def Chip.replyPart (c : Chip) (q : Constituent) (b : FabBody) : Chip :=
  c.sendPkt .transit ⟨c.header q.src (bodyTc b) q.msgId q.stamp b, b⟩

/-! Encryption (R362, R363). -/

/-- R362: the key of a (partition, epoch). -/
def Chip.keyOf (c : Chip) (p e : Nat) : Option KeySlot := c.rma.keys.find? (fun k => k.part == p && k.epoch == e)

/-- The 32 bytes of a key, lowest word first (R362). -/
def keyBytes (k : KeySlot) : List Byte := (k.key.map (fun w => leBytes w.toNat 8)).flatten

/-- R363: the ciphertext and tag of a packet under a key. -/
def encWire (k : KeySlot) (h : FabHdr) (b : FabBody) : List Byte :=
  let s := gcmSeal (keyBytes k) (encIv h) (encAad h) (bodyBytes b)
  s.1 ++ s.2

/-- R363: the next fabric nonce of a (partition, epoch); none when it would wrap. -/
def Chip.fabNonce (c : Chip) (p e : Nat) : Option (Nat × Chip) :=
  let cur := ((c.rma.nonces.find? (fun x => x.part == p && x.epoch == e)).getD
    { part := p, epoch := e, fab := 0, rest := 0 })
  if 2 ^ 64 ≤ cur.fab + 1 then none
  else
    let l := dropWhere (fun x => x.part == p && x.epoch == e) c.rma.nonces
    some (cur.fab, { c with rma := { c.rma with nonces := l ++ [{ cur with fab := cur.fab + 1 }] } })

/-- R363: whether `n` more nonces of a (partition, epoch) are left. -/
def Chip.noncesLeft (c : Chip) (p e n : Nat) : Bool :=
  decide (((c.rma.nonces.find? (fun x => x.part == p && x.epoch == e)).map NonceCtr.fab).getD 0 + n < 2 ^ 64)

/-- R363: a packet, whose header counts the 32 bytes more, encrypted under a (partition, epoch). -/
def Chip.encrypt (c : Chip) (k : FabPkt) (pe : Option (Nat × Nat)) : FabPkt × Chip :=
  match pe with
  | none => (k, c)
  | some (p, e) =>
    match c.keyOf p e, c.fabNonce p e with
    | some q, some (n, c) =>
      let h := { k.hdr with enc := true, encPart := p, encEpoch := e, nonce := n }
      (⟨{ h with wire := encWire q h k.body }, k.body⟩, c)
    | _, _ => (k, c)

/-- R317, R350, R363: a message leaves, one packet for each body, all under the number and the class of the header given. -/
def Chip.sendPkts (c : Chip) (m : Member) (h : FabHdr) (enc : Option (Nat × Nat)) (bs : List FabBody) : Chip :=
  let len := fun (b : FabBody) => bodyLen b + (if enc.isSome then 32 else 0)
  let total := sumN (bs.map len)
  (bs.foldl (fun (a : Nat × Chip) b =>
    let (k, c) := a.2.encrypt ⟨pktOf h a.1 (len b) total, b⟩ enc
    (a.1 + len b, c.sendPkt m k)) (0, c)).2

/-! Taking an arrived packet (R6, R319, R326, R431). -/

/-- R319: the checks of one packet at local delivery. -/
def hdrOk (h : FabHdr) : Bool :=
  h.payLen ≤ 4096 && h.msgOffset + h.payLen ≤ h.totalLen &&
    (h.last == (h.msgOffset + h.payLen == h.totalLen)) && h.rsvd == 0

/-- A unit takes an arrived packet: it leaves the local queue, and its echo is a sample. -/
def Chip.takeLocal (c : Chip) (k : FabPkt) : Chip :=
  ((({ c with fab := { c.fab with local_ := c.fab.local_.erase k } } : Chip).coolHot 16 k.hdr.tc)).takeEcho k.hdr

/-- Whether the seam can deliver to this device's units: PD_HUB, PD_SEAM and PD_FSD are UP. -/
def Chip.fabricUp (c : Chip) : Bool := c.domUp 1 && c.domUp 2 && c.domUp 3

/-- R363: the receiver discards a packet it cannot authenticate. -/
def Chip.authFailed (c : Chip) (k : FabPkt) : Chip :=
  ((c.bump (Reg.rmaCnt 17)).log
    { code := 0x0E06, param0 := 0x0043, refKind := 2, ref := k.hdr.src * 2 ^ 48 }).nackPkt k 0x0043

/-- R363: whether an encrypted packet authenticates: this device holds its key, and under it the packet's ciphertext and tag are those
of its payload. -/
def Chip.authOk (c : Chip) (h : FabHdr) (b : FabBody) : Bool :=
  match c.keyOf h.encPart h.encEpoch with
  | some k => h.wire == encWire k h b
  | none => false

/-- The common part of every packet: delivered while the fabric is up, discarded under a cancel record
(R352), checked under R319 and R6, with an encrypted packet authenticated (R363) or refused. Answers whether
the packet's own effect follows. -/
def takePkt (c : Chip) (k : FabPkt) (bodyRsvd : Nat) (hdr : FabHdr → Bool) : Bool × Chip :=
  if !c.fabricUp then (false, c)
  else
    let c := c.takeLocal k
    if c.rma.cancels.contains (k.hdr.src, k.hdr.msgId) then (false, c.bump (Reg.rmaCnt 12))
    else if hdr k.hdr && bodyRsvd == 0 && k.hdr.pktType == bodyType k.body then
      if k.hdr.enc && !c.domUp 7 then (false, c.nackPkt k 0x0030)
      else if k.hdr.enc && !c.authOk k.hdr k.body then (false, c.authFailed k)
      else (true, c)
    else (false, c.nackPkt k 0x0004)

/-- A packet of one packet's payload: `f` is its own effect. -/
def onPkt (c : Chip) (k : FabPkt) (bodyRsvd : Nat) (f : Chip → Chip) : Chip :=
  let (ok, c) := takePkt c k bodyRsvd hdrOk
  if ok then f c else c

end Sys2Proof.Machine
end

