-- ==== Sys2Proof/Machine/Passes.lean ====
section
/-!
DEFINITION. The passes of a running step (R72 to R75, R81, R93, R108, R144, R153, R193, R201, R253 to R255): resident
sequences, admission queues and accounts, the rows and bands of a pass, staged copies and the prefetch schedule, and
abandoning and relaunching a step.
-/
namespace Sys2Proof.Machine

/-- A resident sequence. -/
def Chip.seq (c : Chip) (req : Nat) : Option Seq := c.work.seqs.find? (fun s => s.requestId == req)

/-- A resident sequence replaced. -/
def Chip.setSeq (c : Chip) (s : Seq) : Chip :=
  c.onWork (fun w => { w with seqs := updWhere (fun t => t.requestId == s.requestId) (fun _ => s) w.seqs })

/-- R22, R25, R200: whether the draft model keeps pages of a sequence. -/
def Chip.drafts (c : Chip) (s : Seq) : Bool :=
  (c.part s.part).draft.isSome && c.declFlag s.part 0 && !bitOf (s.samp.getD 2 0#64) 22

/-! Admission queues (R233, R237). -/

/-- The admission point of a partition and engine. -/
def Chip.point (c : Chip) (part engine : Nat) : AdmPoint :=
  (c.work.points.find? (fun a => a.part == part && a.engine == engine)).getD
    { part := part, engine := engine, custs := [], next := 0 }

/-- An admission point stored. -/
def Chip.setPoint (c : Chip) (a : AdmPoint) : Chip :=
  let l := dropWhere (fun b => b.part == a.part && b.engine == a.engine) c.work.points
  c.onWork (fun w => { w with points := l ++ [a] })

/-- The plan of a partition's base or draft model of a kind. -/
def Chip.plan (c : Chip) (part : Nat) (draft : Bool) (kind : Nat) : Option PlanD :=
  (c.model part draft).bind (fun m => imgPlan m kind)

/-- The engine a sequence's next work queues for: that of the plan it runs. -/
def Chip.seqEngine (c : Chip) (s : Seq) : Nat :=
  let kind := if s.recompute then 3 else if s.phase = .prompt then (if s.onePass then 6 else 0) else 1
  ((c.plan s.part false kind).map PlanD.engine).getD 0

/-- A sequence joins its customer's queue at the back, or at the head (R179). -/
def Chip.enqueueSeq (c : Chip) (s : Seq) (head : Bool) : Chip :=
  let a := c.point s.part (c.seqEngine s)
  let add := fun (q : CustQ) =>
    if q.queue.contains s.requestId then q
    else { q with queue := if head then s.requestId :: q.queue else q.queue ++ [s.requestId] }
  let cs := if a.custs.any (fun q => q.cust == s.customer) then
      updWhere (fun q => q.cust == s.customer) add a.custs
    else a.custs ++ [add { cust := s.customer, queue := [], deficit := 0 }]
  c.setPoint { a with custs := cs }

/-- A sequence leaves every admission queue; an emptied queue loses its deficit. -/
def Chip.dequeueSeq (c : Chip) (req : Nat) : Chip :=
  c.onWork (fun w =>
    { w with points := w.points.map (fun a =>
        { a with custs := a.custs.map (fun q =>
            if q.queue.contains req then { q with queue := q.queue.filter (fun r => r != req) } else q) }) })

/-- R233: the placements that an admission point holds. -/
def AdmPoint.size (a : AdmPoint) : Nat := sumN (a.custs.map (fun q => q.queue.length))

/-! Accounts (R236, R237). -/

/-- R236: the credit of a customer. -/
def Chip.credit (c : Chip) (cust : Nat) : Int := (c.reg (Reg.tenCredit cust)).toInt

/-- A customer's credit set. -/
def Chip.setCredit (c : Chip) (cust : Nat) (v : Int) : Chip := c.setReg (Reg.tenCredit cust) (wordOfInt v)

/-- A statistics counter taken back by `n` (R237: work that leaves its launch is not charged). -/
def Chip.unbump (c : Chip) (off n : Nat) : Chip := c.setFld off 62 0 (c.fld off 62 0 - n)

/-- R237: a charge of `cost` in 1/256 token: to credit, or counted as excess. -/
def Chip.charge (c : Chip) (cust cost : Nat) (excess : Bool) : Chip :=
  if cost = 0 then c
  else if excess then c.bumpBy (Reg.tenExcess cust) cost
  else (c.setCredit cust (c.credit cust - (225000000 * cost : Nat))).bumpBy (Reg.tenCounted cust) cost

/-- R237: a charge given back. -/
def Chip.uncharge (c : Chip) (cust cost : Nat) (excess : Bool) : Chip :=
  if excess then c.unbump (Reg.tenExcess cust) cost
  else (c.setCredit cust (c.credit cust + (225000000 * cost : Nat))).unbump (Reg.tenCounted cust) cost

/-- A customer's queue at an admission point. -/
def AdmPoint.queueOf (a : AdmPoint) (cust : Nat) : CustQ :=
  (a.custs.find? (fun q => q.cust == cust)).getD { cust := cust, queue := [], deficit := 0 }

/-- A customer's deficit changed. -/
def Chip.setDeficit (c : Chip) (part eng cust : Nat) (g : Nat → Nat) : Chip :=
  let a := c.point part eng
  c.setPoint { a with custs := updWhere (fun q => q.cust == cust) (fun q => { q with deficit := g q.deficit }) a.custs }

/-- R237: a segment that leaves the launch gives its cost back. -/
def Chip.giveBack (c : Chip) (p eng : Nat) (g : Seg) : Chip :=
  match c.seq g.requestId with
  | none => c
  | some s => (c.uncharge s.customer g.cost g.excess).setDeficit p eng s.customer (fun d => d + g.cost)

/-! Quadrants and shares (R70, R77, R171). -/

/-- R77: the quadrant of a logical group. -/
def Chip.groupQuad (c : Chip) (p g : Nat) : Nat :=
  let qs := c.qset p
  qs.getD (g % max 1 qs.length) 0

/-- R77, R171: the bytes of an image's groups that are homed in a quadrant. -/
def Chip.homedIn (c : Chip) (p : Nat) (m : ModelImage) (q : Nat) : Nat :=
  sumN ((m.homedBytes.zipIdx).map (fun w => if c.groupQuad p w.2 == q then w.1 else 0))

/-- R171: the bytes of a quadrant's `T1_MIB` that the frames and the image bytes homed there take. -/
def Chip.t1Used (c : Chip) (p : Nat) (d : PartDecl) (base draft : Option ModelImage) (q : Nat) : Nat :=
  let held := fun (o : Option ModelImage) => match o with
    | some m => c.homedIn p m q
    | none => 0
  d.kvFrames.getD q 0 * frameBytes base draft + held base + held draft

/-- R70: the partition's share of each of its quadrant buffers, in bytes: a buffer of 96 MiB in equal parts among the
partitions whose `QUAD_MASK` names it (log entry 13: the spec does not divide it). -/
def Chip.qbufShares (c : Chip) (p : Nat) : List (Nat × Nat) :=
  (c.qset p).map (fun q =>
    let n := ((upTo 16).filter (fun x => ((c.decl x).map (fun d => d.quadMask.testBit q)).getD false)).length
    (q, 96 * 2 ^ 20 / max 1 n))

/-- R174: whether a request is met from FREE and RETAINED frames alone. -/
def Chip.fitsFree (c : Chip) (part : Nat) (need : List PageRef) : Bool :=
  (upTo 4).all (fun q => decide (needIn need q ≤ c.freeCount part q + c.retainedCount part q))

/-! Steps (R74, R75, R81). -/

/-- A running step. -/
def Chip.step? (c : Chip) (part sq : Nat) : Option Step :=
  c.work.steps.find? (fun t => t.part == part && t.seq == sq)

/-- A running step replaced. -/
def Chip.setStep (c : Chip) (t : Step) : Chip :=
  c.onWork (fun w => { w with steps := updWhere (fun u => u.part == t.part && u.seq == t.seq) (fun _ => t) w.steps })

/-- A running step removed. -/
def Chip.dropStep (c : Chip) (t : Step) : Chip :=
  c.onWork (fun w => { w with steps := dropWhere (fun u => u.part == t.part && u.seq == t.seq) w.steps })

/-- R153: the rows of a pass laid out in bands: (segment, position, entry). Positions of different
classes go in different bands when `split` (R91, R186). -/
def layoutRows (split : Bool) (segs : List (Nat × Nat × List PosEnt)) : List (List (Nat × Nat × PosEnt)) :=
  let all := (segs.map (fun g => (g.2.2.zipIdx).map (fun e => (g.1, g.2.1 + e.2, e.1)))).flatten
  let (done, cur) := all.foldl (fun (a : List (List (Nat × Nat × PosEnt)) × List (Nat × Nat × PosEnt)) r =>
    let breaks := a.2.length == 128 || (split && (match a.2.head? with | some x => x.2.2.gen != r.2.2.gen | none => false))
    if breaks then (a.1 ++ [a.2], [r]) else (a.1, a.2 ++ [r])) ([], [])
  if cur.isEmpty then done else done ++ [cur]

/-- Rows of segments from the `skip`-th on, at most `cap`. -/
def sliceRows : Nat → Nat → List (Nat × Nat × List PosEnt) → List (Nat × Nat × List PosEnt)
  | _, _, [] => []
  | skip, cap, (i, st, rows) :: rest =>
    let a := min skip rows.length
    let r := (rows.drop a).take cap
    (i, st + a, r) :: sliceRows (skip - a) (cap - r.length) rest

/-- R193: the rows of a plan's step at most. -/
def Chip.planCap (c : Chip) (p : Nat) (draft : Bool) (kind : Nat) : Nat :=
  128 * (((c.plan p draft kind).map PlanD.maxBands).getD 0)

/-- R201, R202: all rows of one pass of a step, by segment. -/
def Chip.passAll (c : Chip) (t : Step) : List (Nat × Nat × List PosEnt) :=
  let tok := fun (v : Nat) => (⟨v, true, false⟩ : PosEnt)
  ((t.segs.zipIdx).map (fun x =>
    let (g, i) := x
    if t.passes = 0 then (i, g.start, g.rows)
    else if t.pass = 0 then (i, g.start, g.rows.take 1 ++ (g.props.take g.k).map tok)
    else if g.k < t.pass then (i, g.start, [])
    else if t.pass = 1 then
      match c.seq g.requestId with
      | some s => (i, s.cd, (s.table.take (s.c + 1)).drop s.cd)
      | none => (i, g.start, [])
    else (i, g.start + t.pass - 1, ((g.props.drop (t.pass - 2)).take 1).map tok))).filter (fun r => !r.2.2.isEmpty)

/-- R201: whether a draft pass has rows beyond its running part; its rows run `MAX_BANDS` bands at a time. -/
def Chip.passMore (c : Chip) (t : Step) : Bool :=
  t.passes != 0 && t.pass != 0 &&
    decide ((t.sub + 1) * max 128 (c.planCap t.part true 4) < sumN ((c.passAll t).map (fun r => r.2.2.length)))

/-- R201, R202: the rows that a pass runs now, by segment. -/
def Chip.passRows (c : Chip) (t : Step) : List (Nat × Nat × List PosEnt) :=
  if t.passes = 0 ∨ t.pass = 0 then c.passAll t
  else
    let cap := max 128 (c.planCap t.part true 4)
    (sliceRows (t.sub * cap) cap (c.passAll t)).filter (fun r => !r.2.2.isEmpty)

/-- R153: the bands of the running pass. -/
def Chip.bandsOf (c : Chip) (t : Step) : List (List (Nat × Nat × PosEnt)) := layoutRows (t.kind == 3) (c.passRows t)

/-- R72: the plan of the running pass, and whether it is of the draft model. -/
def Step.passPlan (t : Step) : Nat × Bool :=
  if t.passes = 0 then (t.kind, t.draft) else if t.pass = 0 then (t.kind, false) else (4, true)

/-- R168: the rows of a pass counted in their buckets. -/
def Chip.countRows (c : Chip) (t : Step) : Chip :=
  ((c.passRows t).map (fun g => (upTo g.2.2.length).map (fun i => g.2.1 + i + 1))).flatten.foldl
    (fun c l => c.bump (Reg.kvBucketRows (lengthBucket l))) c

/-- The plan of the running pass of a step. -/
def Chip.passPlan (c : Chip) (t : Step) : Option PlanD := let (k, d) := t.passPlan; c.plan t.part d k

/-- Whether a stream or join is of the head section, which runs once per pass. -/
def PlanD.inHead (p : PlanD) (stream : Nat) : Bool := p.headS.any (fun s => s.id == stream)

/-- The entry that an instance of a stream is kept under; the head section has one instance. -/
def PlanD.layerKey (p : PlanD) (stream key : Nat) : Nat := if p.inHead stream then 0 else key

/-- R57, R73: the entry of the layer order that a layer index names for a stream: of the entries with that layer, the first
whose instance of the stream has not ended (log entry 92). -/
def Step.entryOf (t : Step) (p : PlanD) (stream layer : Nat) : Nat :=
  let ended := fun (k : Nat) => t.streams.any (fun i => i.id == stream && i.layer == k && i.closed)
  p.layerKey stream (((p.keys.filter (fun k => keyLayer k == layer)).find? (fun k => !ended k)).getD layer)

/-- The station of a role in a step. -/
def Step.station (t : Step) (r : Nat) : Nat := ((t.fits.find? (fun f => f.1 == r)).map Prod.snd).getD 0

/-- The quadrant of a role in a step. -/
def Step.roleQuad (t : Step) (r : Nat) : Nat := t.station r / 128 % 4

/-- R75: a completion record of a stream, its counts saturated and added to the partition's statistics. -/
def Chip.complete (c : Chip) (part : Nat) (r : Completion) : Chip :=
  let sat := fun (n : Nat) => min n 0xFFFFFFFF
  let add := fun (a n : Nat) => min (a + n) cntMax
  let r := { r with delivered := sat r.delivered, suppressed := sat r.suppressed, credit := sat r.credit, anchor := sat r.anchor,
                    expander := sat r.expander, tier := sat r.tier }
  let p := c.part part
  let s := p.stats
  c.setPart part { p with
    ring := p.ring ++ [r],
    stats := ⟨add s.delivered r.delivered, add s.suppressed r.suppressed, add s.credit r.credit, add s.anchor r.anchor,
              add s.expander r.expander, add s.tier r.tier⟩ }

/-- R75: the record of a stream that ends with a status before its completion; what it waited for is not part of the
command that ends it (log entry 73). -/
def StreamInst.record (i : StreamInst) (status : Nat) : Completion :=
  { streamId := i.id, layer := keyLayer i.layer, status := status, flags := i.flags, delivered := i.delivered,
    suppressed := i.suppressed, credit := 0, anchor := 0, expander := 0, tier := 0 }

/-- A stream that has delivered nothing yet. -/
def StreamInst.fresh (id layer : Nat) : StreamInst :=
  { id := id, layer := layer, sent := 0, delivered := 0, suppressed := 0, flags := 0, status := 0, closed := false, sinks := [] }

/-- R73, R75, R81: the streams of a step that are open: those of the template in each layer entry and those of the head
section, in table order. -/
def Chip.openStreams (c : Chip) (t : Step) : List StreamInst :=
  match c.passPlan t with
  | none => t.streams.filter (fun i => !i.closed)
  | some pl =>
    let ids := (pl.keys.map (fun l => pl.streams.map (fun s => (s.id, l)))).flatten ++ pl.headS.map (fun s => (s.id, 0))
    (ids.map (fun y => (t.streams.find? (fun i => i.id == y.1 && i.layer == y.2)).getD (.fresh y.1 y.2))).filter (fun i => !i.closed)

/-- R81: the open streams of a step close with a status. -/
def Chip.closeStreams (c : Chip) (t : Step) (status : Nat) : Chip :=
  (c.openStreams t).foldl (fun c i => c.complete t.part (i.record status)) c

/-- R81: the pages of a step's sequences as at launch. -/
def Chip.rollback (c : Chip) (t : Step) : Chip :=
  t.segs.foldl (fun c g =>
    match c.seq g.requestId with
    | some s =>
      let (s, c) := c.abandonPages s
      c.setSeq { s with running := false }
    | none => c) c

/-- A segment without what it produced. -/
def Seg.fresh (g : Seg) : Seg := { g with props := [], samples := [], values := [] }

/-- The next `STEP_SEQ` of a partition. -/
def Chip.nextStep (c : Chip) (part : Nat) : Nat × Chip :=
  let p := c.part part
  (p.stepSeq, c.setPart part { p with stepSeq := wrapSucc 32 p.stepSeq })

/-- R144: the pages that a segment's rows need. -/
def Chip.segPages (c : Chip) (s : Seq) (g : Seg) : List PageRef :=
  match g.work with
  | .recompute =>
    if s.ra < s.c then c.neededPages s s.ra (s.ra + g.rows.length) 0 0
    else c.neededPages s 0 0 s.rd (s.rd + g.rows.length)
  | .draftPrompt => c.neededPages s 0 0 g.start (g.start + g.rows.length)
  | .round => c.neededPages s g.start (g.start + g.rows.length) s.cd (g.start + g.k)
  | _ => c.neededPages s g.start (g.start + g.rows.length) 0 0

/-! Staged copies and the prefetch schedule (R93, R108, R253 to R255). -/

/-- Whether a staged copy is of a tile. -/
def Staged.is (x y : Staged) : Bool :=
  x.draft == y.draft && x.plan == y.plan && x.stream == y.stream && x.layer == y.layer && x.index == y.index

/-- R254: copies of a partition's T1 staging areas discarded. -/
def Chip.dropStaged (c : Chip) (p : Nat) (f : Staged → Bool) : Chip :=
  let r := c.part p
  (c.setPart p { r with staged := dropWhere f r.staged }).bumpBy (Reg.movCnt 7) (r.staged.filter f).length

/-- R171: the bytes of a partition's `T1_MIB` in a quadrant that hold no frame, no image byte and no staged copy. -/
def Chip.t1Room (c : Chip) (p q : Nat) : Nat :=
  match c.decl p with
  | none => 0
  | some d =>
    let r := c.part p
    d.t1Mib.getD q 0 * 2 ^ 20 -
      (c.t1Used p d r.base r.draft q + sumN ((r.staged.filter (fun x => x.place == 4 + q)).map Staged.bytes))

/-- R254: how far behind layer entry `cur` of a plan a staged copy is: the furthest behind has the least rank; none for
one that is not behind. A copy of another plan ranks first (log entry 65). -/
def Staged.rank (x : Staged) (pl : PlanD) (draft : Bool) (cur : Nat) : Option Nat :=
  if x.draft != draft || x.plan != pl.id then some 0
  else match ((pl.order.zipIdx).filter (fun y => y.1 == x.layer)).getLast? with
    | some y => if y.2 < cur then some (y.2 + 1) else none
    | none => some 0

/-- R254: the next copy to go when the staging area of a quadrant needs room. -/
def Chip.stagedVictim (c : Chip) (p q : Nat) (pl : PlanD) (draft : Bool) (cur : Nat) : Option Staged :=
  ((c.part p).staged.filter (fun x => x.place == 4 + q)).foldl (fun (b : Option Staged) x =>
    match x.rank pl draft cur, b.bind (fun y => y.rank pl draft cur) with
    | some n, some m => if n < m then some x else b
    | some _, none => some x
    | none, _ => b) none

/-- R254: room of `need` bytes made in a quadrant's staging area, if it can be. -/
def makeRoom (p q need : Nat) (pl : PlanD) (draft : Bool) (cur : Nat) : Nat → Chip → Bool × Chip
  | 0, c => (decide (need ≤ c.t1Room p q), c)
  | n + 1, c =>
    if need ≤ c.t1Room p q then (true, c)
    else match c.stagedVictim p q pl draft cur with
      | none => (false, c)
      | some x => makeRoom p q need pl draft cur n (c.dropStaged p (fun y => y.is x))

/-- R128: whether a block of a tile that was fetched ahead is damaged. -/
def Chip.copyDamaged (c : Chip) (p : Nat) (pl : PlanD) (x : Staged) : Bool :=
  match c.model p x.draft, pl.stream x.stream with
  | some m, some s => s.pleated && (match (imgPleat m).dir.find? (fun d => d.streamId == s.id && d.planId == pl.id) with
    | some d => (tileDamage m pl s d x.layer x.index).isSome
    | none => true)
  | _, _ => false

/-- R128, R255: a fetched tile lands as a staged copy, or its fetch waits for room; one with a damaged block is discarded and
counted. -/
def Chip.land (c : Chip) (t : Step) (pl : PlanD) (draft : Bool) (cur : Nat) (x : Staged) : Step × Chip :=
  if c.copyDamaged t.part pl x then (t, c.bump (Reg.pltCnt (x.place - 4) 5))
  else
  let (ok, c) := makeRoom t.part (x.place - 4) x.bytes pl draft cur (c.part t.part).staged.length c
  if ok then
    let r := c.part t.part
    (t, c.setPart t.part { r with staged := r.staged ++ [x] })
  else ({ t with fetches := t.fetches ++ [x] }, c)

/-- R255: the fetch of a tile, one for each tile (log entry 65), unless a copy is held or its fetch waits. -/
def Chip.fetch (c : Chip) (t : Step) (pl : PlanD) (draft : Bool) (cur : Nat) (x : Staged) : Step × Chip :=
  if (c.part t.part).staged.any (Staged.is x) || t.fetches.any (Staged.is x) then (t, c)
  else (c.bump (Reg.movCnt 8)).land t pl draft cur x

/-- R73, R253: whether a stream of a plan reads what no ST stream of the plan writes. -/
def PlanD.readOnly (pl : PlanD) (s : StreamD) : Bool :=
  !pl.isKv s && !(pl.allS.any (fun o => roleKind o.sink == 9 && o.tier == s.tier && o.region == s.region))

/-- R66: whether a mask gate lets a tile pass; a bit that the mask lacks reads 0. -/
def imgMask (m : ModelImage) (ref index : Nat) : Bool := (m.masks.getD ref []).getD index false

/-- R66, R97, R255: the tiles of a stream in a layer that are fetched ahead. -/
def Chip.toFetch (c : Chip) (t : Step) (pl : PlanD) (draft : Bool) (layer : Nat) (s : StreamD) : List Staged :=
  match c.model t.part draft with
  | none => []
  | some m =>
    (upTo s.count).filterMap (fun i =>
      let skip := imgSkip m pl.id s layer i
      if skip == 0xFFFF || (s.gate == 1 && !imgMask m s.gateRef i) then none
      else some { draft := draft, plan := pl.id, stream := s.id, layer := layer, index := i,
                  place := 4 + c.groupQuad t.part (roleGroup s.src),
                  bytes := storedBytes s.fmt (imgSkipMap m pl.id s.id).isSome skip })

/-- Fetches issued in order. -/
def Chip.fetchAll (c : Chip) (t : Step) (pl : PlanD) (draft : Bool) (cur : Nat) (l : List Staged) : Step × Chip :=
  l.foldl (fun (a : Step × Chip) x => a.2.fetch a.1 pl draft cur x) (t, c)

/-- R255: the LD streams of a layer entry that are fetched ahead: read-only, from T2 to T4, and not gated by a predicate
that no router has sent yet. -/
def Chip.fetchEntry (c : Chip) (t : Step) (pl : PlanD) (draft : Bool) (cur entry : Nat) : Step × Chip :=
  match pl.order[entry]? with
  | none => (t, c)
  | some layer =>
    (pl.streams.filter (fun s => roleKind s.src == 8 && decide (2 ≤ s.tier) && decide (s.tier ≤ 4) && s.gate != 2 &&
      pl.readOnly s)).foldl
      (fun (a : Step × Chip) s => a.2.fetchAll a.1 pl draft cur (a.2.toFetch a.1 pl draft layer s)) (t, c)

/-- R255: fetches that waited for staging room are tried again. -/
def Chip.retryFetches (c : Chip) (t : Step) (pl : PlanD) (draft : Bool) (cur : Nat) : Step × Chip :=
  t.fetches.foldl (fun (a : Step × Chip) x => a.2.land a.1 pl draft cur x) ({ t with fetches := [] }, c)

/-- `PREFETCH_DEPTH` of a partition (R271). -/
def Chip.prefetchDepth (c : Chip) (p : Nat) : Nat := c.fld (Reg.movPartTier p) 27 24

/-- R255: the fetches that a pass issues at its launch; the depth is the one that the step launched with (R271). -/
def Chip.prefetchFirst (c : Chip) (t : Step) : Step × Chip :=
  match c.passPlan t with
  | none => (t, c)
  | some pl => (upTo t.depth).foldl (fun (a : Step × Chip) i => a.2.fetchEntry a.1 pl t.passPlan.2 0 i) (t, c)

/-- R255: the fetches issued when the first stream of a layer entry launches. -/
def Chip.prefetchNext (c : Chip) (t : Step) (pl : PlanD) (layer : Nat) : Step × Chip :=
  match findIdx1 (fun l => l == layer) pl.keys with
  | none => (t, c)
  | some (i, _) =>
    let (t, c) := c.retryFetches t pl t.passPlan.2 i
    c.fetchEntry t pl t.passPlan.2 i (i + t.depth)

/-- R108: the entry after an entry of the layer order of a plan. -/
def PlanD.nextLayer (pl : PlanD) (layer : Nat) : Option Nat :=
  (findIdx1 (fun l => l == layer) pl.keys).bind (fun x => pl.keys[x.1 + 1]?)

/-- R108: the W tiles of an expert in a layer fetched ahead: from T2 to T4 into the T1 staging area. -/
def Chip.fetchExpert (c : Chip) (t : Step) (pl : PlanD) (predBase layer expert : Nat) : Step × Chip :=
  let cur := match findIdx1 (fun l => l == layer) pl.keys with
    | some (i, _) => i - 1
    | none => 0
  (pl.streams.filter (fun s => roleKind s.src == 8 && decide (2 ≤ s.tier) && decide (s.tier ≤ 4) && s.gate == 2 &&
    s.gateRef == predBase + expert && pl.isW s && pl.readOnly s)).foldl
    (fun (a : Step × Chip) s => a.2.fetchAll a.1 pl t.passPlan.2 cur (a.2.toFetch a.1 pl t.passPlan.2 (keyLayer layer) s)) (t, c)

/-! Passes. -/

/-- A pass of a step begins, or the next part of its rows (R201): its bands are laid out, its streams start afresh, and
its prefetches are issued (R255). -/
def Chip.beginPass (c : Chip) (t : Step) (pass sub : Nat) : Chip :=
  let t := { t with pass := pass, sub := sub, streams := [], joins := [], empties := [], scratch := [], payloads := [], fetches := [] }
  let (k, d) := t.passPlan
  let t := { t with plan := ((c.plan t.part d k).map PlanD.id).getD 0, bands := (c.bandsOf t).length }
  let (t, c) := c.prefetchFirst t
  (c.setStep t).countRows t

/-- R81: the plans that the passes of a step run. -/
def Chip.stepPlans (c : Chip) (t : Step) : List PlanD :=
  (c.plan t.part t.draft t.kind).toList ++ (if t.kind = 2 then (c.plan t.part false 1).toList else []) ++
    (if t.passes = 0 then [] else (c.plan t.part true 4).toList)

/-- R81: the mapping that a step launches with: of the roles that its own plans name. -/
def Chip.stepFits (c : Chip) (t : Step) : List (Nat × Nat) :=
  let ps := c.stepPlans t
  (c.part t.part).fit.filter (fun f => ps.any (fun p => (planRoles p).contains f.1 || (p.allS.any (fun s => s.fanout != 0 && s.sink == f.1))))

/-- R193: how many segments of single rows a launch of the decode plan keeps. -/
def keepRows : Nat → List Seg → List Seg × List Seg
  | _, [] => ([], [])
  | cap, g :: gs =>
    if g.rows.length ≤ cap then let (a, b) := keepRows (cap - g.rows.length) gs; (g :: a, b)
    else let (a, b) := keepRows cap gs; (a, g :: b)

/-- R144, R237: a segment leaves a step before it has run: its pages are as before, and its cost returns. -/
def Chip.leaveStep (c : Chip) (t : Step) (g : Seg) : Chip :=
  match c.seq g.requestId with
  | none => c
  | some s =>
    let (s, c) := c.abandonPages s
    let s := { s with running := false,
                      firstChunk := s.firstChunk || ((g.work == Work.chunk || g.work == Work.onePass) && g.start == s.attached) }
    ((c.setSeq s).giveBack t.part t.engine g).enqueueSeq s true

/-- R193: the plan that a decode step runs: the verify plan while a segment carries drafts, else the decode plan, which
keeps the rows that it has room for; and the mapping of the plans. -/
def Chip.settleStep (c : Chip) (t : Step) : Step × Chip :=
  let n := (t.segs.map Seg.k).foldl max 0
  let kind := if t.kind = 1 ∨ t.kind = 2 then (if n = 0 then 1 else 2) else t.kind
  let (keep, go) := if kind = 1 then keepRows (c.planCap t.part false 1) t.segs else (t.segs, [])
  let c := go.foldl (fun c g => c.leaveStep t g) c
  let t := { t with segs := keep, kind := kind, passes := n }
  ({ t with fits := c.stepFits t }, c)

/-- R81: whether steps of a partition wait for a refit. -/
def Chip.refitDue (c : Chip) (p : Nat) : Bool := c.work.refitting == some p || c.work.refitAgain.contains p

/-- R81: an abandoned step that waits for a refit with its sequences; one left with no sequence ends. -/
def Chip.awaitRefit (c : Chip) (t : Step) : Chip :=
  let c := t.segs.foldl (fun c g => match c.seq g.requestId with
    | some s => c.setSeq { s with running := true }
    | none => c) c
  if t.segs.isEmpty then c.dropStep t
  else c.setStep { t with streams := [], joins := [], segs := t.segs.map Seg.fresh, abandoned := true }

/-- R81, R144: a step abandoned and launched again from its committed inputs, without the sequences in
`gone`; a sequence whose pages find no frames leaves it, and a step left with no sequence ends. While a refit of the partition
is due, the step waits for it. -/
def Chip.relaunch (c : Chip) (t : Step) (status : Nat) (gone : List Nat) : Chip :=
  let c := if t.abandoned then c else (c.closeStreams t status).rollback t
  if c.refitDue t.part then c.awaitRefit { t with segs := t.segs.filter (fun g => !gone.contains g.requestId) }
  else
  let c := c.dropStep t
  let (segs, c) := ((t.segs.filter (fun g => !gone.contains g.requestId)).map Seg.fresh).foldl (fun (a : List Seg × Chip) g =>
    match a.2.seq g.requestId with
    | none => a
    | some s =>
      let need := a.2.segPages s g
      if a.2.fitsFree s.part need then
        let (s, c) := a.2.takePages s need
        (a.1 ++ [g], c.setSeq { s with running := true })
      else (a.1, a.2.leaveStep t g)) ([], c)
  let (t, c) := c.settleStep { t with segs := segs }
  if t.segs.isEmpty then c
  else
    let (n, c) := c.nextStep t.part
    let t := { t with seq := n, launch := c.time, abandoned := false, early := [], staged := [], unstaged := [],
                      depth := c.prefetchDepth t.part }
    let c := c.onWork (fun w => { w with steps := w.steps ++ [t] })
    c.beginPass t (if t.passes = 0 then 0 else 1) 0

/-- R81: a sequence leaves an abandoned step, which goes on waiting for its refit. -/
def Chip.leaveAbandoned (c : Chip) (t : Step) (req : Nat) : Chip :=
  let segs := t.segs.filter (fun g => g.requestId != req)
  let c := match c.seq req with
    | some s => c.setSeq { s with running := false }
    | none => c
  if segs.isEmpty then c.dropStep t else c.setStep { t with segs := segs }

/-- R81: every step with a sequence in the list is relaunched without it. -/
def Chip.evictFromSteps (c : Chip) (req status : Nat) : Chip :=
  (c.work.steps.filter (fun t => t.segs.any (fun g => g.requestId == req))).foldl
    (fun c t => if t.abandoned then c.leaveAbandoned t req else c.relaunch t status [req]) c

/-- The stream of the new K and V. -/
def attendOut (j : JoinD) : Nat := j.operand % 65536
/-- R160, R166: the partial roles of a host: in each group of `GROUP_MASK`, the AT role of the host's engine with
`PARTIAL_ORDINAL`; where it is the host itself it is no partial role. -/
def attendPartials (j : JoinD) : List Nat := partialRoles j

/-- Whether an instance of a stream has completed. -/
def Step.closed (t : Step) (id layer : Nat) : Bool := t.streams.any (fun i => i.id == id && i.layer == layer && i.closed)

/-- R261: whether every `KV_OUT` stream of a layer has completed. -/
def kvLayerDone (pl : PlanD) (t : Step) (layer : Nat) : Bool :=
  let outs := (pl.allJ.filter (fun j => j.kind == 3)).map attendOut
  !outs.isEmpty && outs.all (fun o => t.closed o layer)

/-- An instance of a stream. A sink grants `CREDITS` credits when the step launches (R71). -/
def Step.stream (t : Step) (pl : PlanD) (s : StreamD) (layer : Nat) : StreamInst :=
  (t.streams.find? (fun i => i.id == s.id && i.layer == layer)).getD
    { StreamInst.fresh s.id layer with
      sinks := (pl.sinksOf s).map (fun r => ⟨r, 0, [], s.credits, 0, none⟩) }

/-- An instance of a stream stored. -/
def Step.setStream (t : Step) (i : StreamInst) : Step :=
  { t with streams := dropWhere (fun x => x.id == i.id && x.layer == i.layer) t.streams ++ [i] }

/-- R75: a stream ends with a status before its step does. -/
def Chip.endStream (c : Chip) (t : Step) (i : StreamInst) (status : Nat) : Chip :=
  (c.complete t.part (i.record status)).setStep (t.setStream { i with closed := true, status := status })

end Sys2Proof.Machine
end

