-- ==== Sys2Proof/Machine/Sleeves.lean ====
section
/-!
DEFINITION. Sequences resident on the device: slots (R233), adapter references (R219, R222), releasing a sleeve
(R143, R264), and aborting a move at its source (R249).
-/
namespace Sys2Proof.Machine

/-! Places in T2 (R211, R494, R495). -/

/-- R494: the T2 share of a partition: address and bytes. -/
def Chip.t2Share (c : Chip) (p : Nat) : Nat × Nat :=
  let mib := fun (k : Nat) => ((c.decl k).map PartDecl.t2Mib).getD 0
  let col := match c.boot.img with
    | some i => if i.composition.collarTier = 2 then i.composition.collarSlots * 1280 + i.composition.collarLogMib * 2 ^ 20 else 0
    | none => 0
  (col + 2 ^ 20 * sumN ((upTo p).map mib), 2 ^ 20 * mib p)

/-- R495: whether a range of T2 touches a line that the patrol scrub marked. -/
def Chip.lineBad (c : Chip) (tier addr len : Nat) : Bool :=
  tier == 2 && c.board.marked.any (fun m => decide (m < addr + len) && decide (addr < m + 64))

/-- R475: a read of a tier met an uncorrectable error: board memory counts it. -/
def Chip.eccBad (c : Chip) (tier : Nat) : Chip := if tier = 2 then c.bump Reg.bmEccUncorrectable else c

/-- R495: a write to T2 clears the marks of the lines it touches. -/
def Chip.clearMarks (c : Chip) (tier addr len : Nat) : Chip :=
  if c.lineBad tier addr len then
    let keep := c.board.marked.filter (fun m => !(decide (m < addr + len) && decide (addr < m + 64)))
    { c with board := { c.board with marked := keep } }
  else c

/-- The runs of free bytes, lowest first, that `need` bytes take from an address on, below `hi`, beside the runs in use. -/
def fillRuns (used : List (Nat × Nat)) (hi : Nat) : Nat → Nat → Nat → List (Nat × Nat)
  | 0, _, _ => []
  | fuel + 1, at_, need =>
    if need = 0 ∨ hi ≤ at_ then []
    else
      match used.find? (fun u => decide (u.1 ≤ at_) && decide (at_ < u.1 + u.2)) with
      | some u => fillRuns used hi fuel (u.1 + u.2) need
      | none =>
        let stop := (used.map Prod.fst).foldl (fun b a => if at_ < a then min a b else b) hi
        let n := min need (stop - at_)
        (at_, n) :: fillRuns used hi fuel (at_ + n) (need - n)

/-- R266, R494: where a sleeve at rest takes its bytes in the T2 share of a partition (log entry 103). -/
def Chip.t2Runs (c : Chip) (p need : Nat) : List (Nat × Nat) :=
  let used := (c.work.stored.map Stored.runs).flatten
  let s := c.t2Share p
  fillRuns used (s.1 + s.2) (2 * used.length + 2) s.1 need

/-- R495: the marked lines under a sleeve at rest. -/
def Chip.storedLines (c : Chip) (st : Stored) : Nat :=
  (c.board.marked.filter (fun m => st.runs.any (fun r => decide (m < r.1 + r.2) && decide (r.1 < m + 64)))).length

/-! Slots (R233). -/

/-- R233: the lowest-numbered free resident slot. -/
def Chip.freeSlot (c : Chip) : Option Nat :=
  leastFree 65536 (c.work.seqs.map Seq.slot ++ c.work.dst.map MoveDst.slot)

/-! Adapters (R219, R222, R223). -/

/-- The state of an adapter slot. -/
def Chip.slotState (c : Chip) (s : Nat) : Nat := c.fld (Reg.adapterSlot s 1) 63 61

/-- The slots of a partition and adapter, with a state in the list given. -/
def Chip.adapterSlots (c : Chip) (part adapter : Nat) (states : List Nat) : List Nat :=
  (upTo 1024).filter (fun s => states.contains (c.slotState s) &&
    c.fld (Reg.adapterSlot s 0) 31 16 == adapter && c.fld (Reg.adapterSlot s 0) 3 0 == part)

/-- The slot that holds a version of an adapter (CURRENT, DRAINING or RETIRING). -/
def Chip.versionSlot (c : Chip) (part adapter ver : Nat) : Option Nat :=
  (c.adapterSlots part adapter [2, 3, 4]).find? (fun s => c.fld (Reg.adapterSlot s 0) 63 32 == ver)

/-- R223: a slot becomes FREE. -/
def Chip.freeAdapter (c : Chip) (s : Nat) : Chip :=
  ((c.setReg (Reg.adapterSlot s 0) 0x00000000FFFF0000#64).setReg (Reg.adapterSlot s 1) 0#64).onWork (fun w =>
    { w with slotMeas := dropWhere (fun x => x.1 == s) w.slotMeas })

/-- R222, R223: a slot LOADING: it names what it loads, and holds no version yet. -/
def Chip.loadingSlot (c : Chip) (s part adapter customer rank : Nat) : Chip :=
  (c.setReg (Reg.adapterSlot s 0) (wordOf [(31, 16, adapter), (15, 4, customer), (3, 0, part)])).setReg
    (Reg.adapterSlot s 1) (wordOf [(63, 61, 1), (60, 55, rank / 8)])

/-- R219: one more reference to a version. -/
def Chip.refAdapter (c : Chip) (part adapter ver : Nat) : Chip :=
  if ver = 0 then c
  else match c.versionSlot part adapter ver with
    | some s => c.setFld (Reg.adapterSlot s 1) 22 0 (c.fld (Reg.adapterSlot s 1) 22 0 + 1)
    | none => c

/-- R222: one reference fewer; at 0 a RETIRING slot is FREE and a DRAINING slot loads its successor. -/
def Chip.unrefAdapter (c : Chip) (part adapter ver : Nat) : Chip :=
  if ver = 0 then c
  else match c.versionSlot part adapter ver with
    | none => c
    | some s =>
      let n := c.fld (Reg.adapterSlot s 1) 22 0 - 1
      let c := c.setFld (Reg.adapterSlot s 1) 22 0 n
      if n ≠ 0 then c
      else if c.slotState s = 4 then c.freeAdapter s
      else if c.slotState s = 3 then
        let c := match c.work.installs.find? (fun i => i.slot == s) with
          | some i => c.loadingSlot s i.part i.adapter i.customer i.rank
          | none => c
        c.onWork (fun w => { w with installs := updWhere (fun i => i.slot == s) (fun i => { i with waiting := false }) w.installs })
      else c

/-! Releasing a sleeve. -/

/-- R143, R233: the sleeve of a request leaves the device: its running step goes on without it, its
pages are released, its slot and its adapter reference are freed. -/
def Chip.releaseSleeve (c : Chip) (req : Nat) : Chip :=
  match c.seq req with
  | none => c
  | some _ =>
    let c := c.evictFromSteps req stReset
    match c.seq req with
    | none => c
    | some s =>
      let c := (c.releaseAll s.part s.pages).dequeueSeq req
      let c := c.onWork (fun w => { w with seqs := dropWhere (fun t => t.requestId == req) w.seqs })
      c.unrefAdapter s.part s.adapter s.adapterVer

/-- A stored sleeve. -/
def Chip.stored? (c : Chip) (req : Nat) : Option Stored := c.work.stored.find? (fun s => s.seq.requestId == req)

/-- A stored sleeve leaves T2; its space returns to the partition's share. -/
def Chip.dropStored (c : Chip) (req : Nat) : Chip :=
  match c.stored? req with
  | none => c
  | some s =>
    let p := c.part s.seq.part
    let c := c.setPart s.seq.part { p with t2Used := p.t2Used - s.bytes }
    let c := c.onWork (fun w => { w with stored := dropWhere (fun t => t.seq.requestId == req) w.stored })
    c.unrefAdapter s.seq.part s.seq.adapter s.seq.adapterVer

/-! Moves at the source (R249). -/

/-- The running move of a request at its source. -/
def Chip.moveSrc (c : Chip) (req : Nat) : Option MoveSrc :=
  c.work.src.find? (fun m => m.requestId == req && m.state != 4)

/-- A move record replaced. -/
def Chip.setMoveSrc (c : Chip) (m : MoveSrc) : Chip :=
  c.onWork (fun w => { w with src := updWhere (fun x => x.moveId == m.moveId) (fun _ => m) w.src })

/-- A move record removed. -/
def Chip.dropMoveSrc (c : Chip) (id : Nat) : Chip :=
  c.onWork (fun w => { w with src := dropWhere (fun x => x.moveId == id) w.src })

/-- R248: the common bytes of a move's packets. -/
def MoveSrc.common (m : MoveSrc) : MoveCommon :=
  { requestId := m.requestId, placement := m.placement, moveId := m.moveId, rsvd := 0 }

/-- R249: the source goes back to HOME and tells the destination; its data writes settle on
their own. -/
def Chip.abortMove (c : Chip) (m : MoveSrc) (status : Nat) : Chip :=
  let c := c.dropMoveSrc m.moveId
  let ops := updWhere (fun (o : PendOp) => o.owner == .move m.moveId) (fun o => { o with owner := .none }) c.rma.ops
  let c := { c with rma := { c.rma with ops := ops } }
  let (_, c) := c.sendNew (.part m.part) m.dest 0
    (.moveAbort { common := m.common, status := status, rsvd := 0 })
  c.bump (Reg.movCnt 2)

/-- Every copy of a request's sleeve that this device is home of goes: resident, stored, or under
move from here. -/
def Chip.purge (c : Chip) (req status : Nat) : Chip :=
  let c := match c.moveSrc req with
    | some m => c.abortMove m status
    | none => c
  (c.releaseSleeve req).dropStored req

end Sys2Proof.Machine
end

