-- ==== Sys2Proof/Machine/Pressure.lean ====
section
/-!
DEFINITION. KV pressure (R174 to R190): victims, eviction by drop and by swap, data at rest (R364),
the growth procedure, and bringing swapped pages back.
-/
namespace Sys2Proof.Machine

/-! Keys at rest (R362, R364). -/

/-- R362: the current key slot of a partition: the one installed last. -/
def Chip.currentKey (c : Chip) (p : Nat) : Option KeySlot :=
  (c.rma.keys.filter (fun k => k.part == p)).foldl (fun (b : Option KeySlot) k =>
    match b with
    | none => some k
    | some j => if j.order < k.order then some k else b) none

/-- R364: `n` consecutive nonces of the rest counter of the current epoch; none when there is no
key or the counter would wrap. -/
def Chip.takeNonces (c : Chip) (p n : Nat) : Option (KeySlot × Nat × Chip) :=
  match c.currentKey p with
  | none => none
  | some k =>
    let cur := ((c.rma.nonces.find? (fun x => x.part == p && x.epoch == k.epoch)).getD
      { part := p, epoch := k.epoch, fab := 0, rest := 0 })
    if 2 ^ 64 ≤ cur.rest + n then none
    else
      let l := dropWhere (fun x => x.part == p && x.epoch == k.epoch) c.rma.nonces
      some (k, cur.rest, { c with rma := { c.rma with nonces := l ++ [{ cur with rest := cur.rest + n }] } })

/-- R364: the initialization vector of a unit. -/
def restIv (dev nonce : Nat) : List Byte := leBytes dev 2 ++ [1#8, 0#8] ++ leBytes nonce 8

/-- R364: the additional authenticated data of a unit. -/
def restAad (req part epoch kind layer : Nat) (draft : Bool) (block posBase tier len : Nat) : List Byte :=
  leBytes req 8 ++ leBytes part 1 ++ leBytes epoch 1 ++ leBytes kind 1 ++ [0#8] ++ leBytes layer 1 ++
    leBytes (bitN draft) 1 ++ leBytes block 2 ++ leBytes posBase 4 ++ leBytes tier 1 ++ [0#8, 0#8, 0#8] ++
    leBytes len 4 ++ [0#8, 0#8, 0#8, 0#8]

/-! A page as it is moved (R140, R244, R131). -/

/-- The page of a frame as an image; a TAIL carries its committed entries only (R182). -/
def Chip.pageImg (c : Chip) (p : Nat) (f : Frame) : PageImg :=
  let l := c.layer p f.draft f.layer
  { draft := f.draft, layer := f.layer, fmt := f.fmt, fill := f.fill, posBase := f.posBase, pad := f.pad,
    sealed_ := decide (3 ≤ f.state), bytes := zeroEntries l f.fill f.bytes, pleats := [] }

/-- R115, R131: the code table for KV pages of a format; none for table 15 or FP8. -/
def Chip.kvTable (c : Chip) (p fmt : Nat) (draft : Bool) : Option (CodeTable × Nat) :=
  match c.model p draft with
  | none => none
  | some m =>
    if m.pleatWords.isEmpty ∨ 2 ≤ fmt then none
    else
      let ps := imgPleat m
      let t := if fmt = 0 then ps.kv4 else ps.kv8
      (ps.tables.find? (fun x => x.tid == t)).map (fun x => (x, ps.threshold))

/-- R131, R134: whether pages of a partition in a format are pleated on their way out. -/
def Chip.kvPleats (c : Chip) (p fmt : Nat) (draft : Bool) : Bool :=
  c.declFlag p 2 && (c.kvTable p fmt draft).isSome

/-- R131 to R134: the blocks of a page's element frame, with the compressor's counters; at `CODEC` 0
while PD_EMB is down. A page that rests pleated goes as it is. -/
def Chip.pleatPage (c : Chip) (p : Nat) (g : PageImg) : List (W64 × List Byte) × Chip :=
  let raw := memReadBytes g.bytes 0 65536
  match c.kvTable p g.fmt g.draft with
  | none => ([], c)
  | some (t, pct) =>
    if !g.pleats.isEmpty then (g.pleats, c)
    else if c.domUp 6 then
      let bs := pleatUnit (some t) g.fmt pct raw
      let out := sumN (bs.map (fun b => b.2.length))
      let rawN := (bs.filter (fun b => (pleatHdrOf b.1).codec == 0)).length
      (bs, ((c.bumpBy (Reg.movPlt 4) 65536).bumpBy (Reg.movPlt 5) out).bumpBy (Reg.movPlt 6) rawN)
    else
      let bs := pleatUnit none g.fmt pct raw
      (bs, c.bumpBy (Reg.movPlt 7) bs.length)

/-- R22, R131, R134: a page that rests pleated, with its headers beside it (R114). -/
def PageImg.rest (g : PageImg) (blocks : List (W64 × List Byte)) : PageImg :=
  if blocks.isEmpty then g else { g with pleats := blocks, bytes := g.bytes.filter (fun b => decide (65536 ≤ b.1)) }

/-- R121: a page that rests pleated, expanded for use; else its damaged block and the cause (R125). A page whose image
is gone names a missing table. -/
def Chip.unrest (c : Chip) (p : Nat) (g : PageImg) : Except (Nat × Nat) PageImg :=
  match g.pleats, c.model p g.draft with
  | [], _ => .ok g
  | _, none => .error (0, 1)
  | bs, some m =>
    match expandPage (imgPleat m) g.fmt bs with
    | .ok raw => .ok { g with pleats := [], bytes := memWriteBytes g.bytes 0 raw }
    | .error e => .error e

/-- R244: a page slot: the header record (zero when the page moves unpleated), the element frame with
each coded block at its slot (R112), the scale frame. -/
def slotBytes (blocks : List (W64 × List Byte)) (g : PageImg) : List Byte :=
  let scale := memReadBytes g.bytes 65536 (scaleFrameBytes g.fmt)
  if blocks.isEmpty then List.replicate 128 0#8 ++ memReadBytes g.bytes 0 65536 ++ scale
  else (blocks.map (fun b => leBytes b.1.toNat 8)).flatten ++
    (blocks.map (fun b => (b.2 ++ List.replicate 4096 0#8).take 4096)).flatten ++ scale

/-- R364: the units of a page slot: (kind, block, offset in the slot, length). -/
def pageUnits (blocks : List (W64 × List Byte)) (fmt : Nat) : List (Nat × Nat × Nat × Nat) :=
  (if blocks.isEmpty then [] else [(1, 0, 0, 128)]) ++
  (upTo 16).map (fun k => (2, k, 128 + 4096 * k,
    match blocks[k]? with | some b => b.2.length | none => 4096)) ++
  (if fmt = 2 then [] else [(3, 0, 65664, scaleFrameBytes fmt)])

/-- R364: a page slot encrypted unit by unit, with its unit records behind it. -/
def sealSlot (dev req part tier : Nat) (k : KeySlot) (nonce : Nat) (g : PageImg)
    (blocks : List (W64 × List Byte)) (bs : List Byte) : List Byte :=
  let units := (pageUnits blocks g.fmt).zipIdx
  let sealed_ := units.map (fun u =>
    let (kind, blk, off, len) := u.1
    let pt := (bs.drop off).take len
    (off, gcmSeal (keyBytes k) (restIv dev (nonce + u.2))
      (restAad req part k.epoch kind g.layer g.draft blk g.posBase tier len) pt, nonce + u.2))
  let body := sealed_.foldl (fun (b : List Byte) s =>
    b.take s.1 ++ s.2.1.1 ++ b.drop (s.1 + s.2.1.1.length)) bs
  let recs := (sealed_.map (fun s =>
    leBytes s.2.2 8 ++ leBytes k.epoch 1 ++ List.replicate 7 0#8 ++ s.2.1.2)).flatten
  let all := body ++ recs
  all ++ List.replicate (roundUp all.length 64 - all.length) 0#8

/-! Swap to host memory (R182 to R185). -/

/-- R386: the swap window of a partition, by port and window. -/
def Chip.swapWindow (c : Chip) (p : Nat) : Option (Nat × Nat) :=
  ((upTo 64).find? (fun i =>
    let w := c.reg (Reg.hlHostWin (i / 16) (i % 16) 0)
    bitOf w 63 && bitOf w 60 && fieldOf w 59 56 == p)).map (fun i => (i / 16, i % 16))

/-- R24, R182: whether a partition evicts by swap. -/
def Chip.swaps (c : Chip) (p : Nat) : Bool := c.declFlag p 1 && (c.swapWindow p).isSome

/-- The bytes of a page's place in T4. -/
def Chip.t4Slot (c : Chip) (p : Nat) : Nat :=
  roundUp (128 + frameBytes (c.part p).base (c.part p).draft + 18 * 32) 64

/-- The lowest free place of a swap window. -/
def Chip.t4Free (c : Chip) (port w size : Nat) : Nat :=
  let used := ((c.work.seqs.map Seq.swapped).flatten.filter (fun x => x.port == port && x.window == w)).map
    (fun x => x.offset / size)
  size * ((leastFree (used.length + 1) used).getD 0)

/-- R176: the pages a sequence alone holds in a quadrant. -/
def Chip.unsharedRefs (c : Chip) (s : Seq) : List PageRef :=
  s.pages.filter (fun r => match c.frameOf s.part r with
    | some f => f.state == 2 || (f.state == 3 && f.refs == 1)
    | none => false)

/-- R177: an eviction counted; EV of protection in `KV_PROTECTED`. -/
def Chip.countEviction (c : Chip) (s : Seq) : Seq × Chip :=
  let s := { s with evictions := s.evictions + 1 }
  let c := c.bump (Reg.kvPressCnt 2)
  (s, if s.evictions = c.fld (Reg.kvPartPressure s.part) 3 0 then c.bump (Reg.kvPressCnt 4) else c)

/-- R178: a victim releases every reference and becomes RECOMPUTE_PENDING. -/
def Chip.dropVictim (c : Chip) (s : Seq) : Chip :=
  let (s, c) := c.countEviction s
  let n := s.pages.length
  let c := (c.releaseAll s.part s.pages).bumpBy (Reg.kvPressCnt 3) n
  let c := c.setSeq { s with pages := [], recompute := true, started := false }
  c.log { code := 0x0A04, refKind := 3, ref := s.slot, part := s.part, param1 := n }

/-- The place of a page in its window, in units of 64 bytes; a bulk transfer names it with one of 32 pieces. -/
def SwapPage.place (x : SwapPage) : Nat := x.offset / 64

/-- Whether a page in T4, or on its way, is the page of a reference. -/
def SwapPage.isPage (x : SwapPage) (r : PageRef) : Bool :=
  x.img.draft == r.draft && x.img.layer == r.layer && x.img.posBase == r.posBase

/-- R182: the end of a swap-out, once the host has every page that goes. -/
def Chip.swapOutOver (c : Chip) (s : Seq) : Chip :=
  if !s.swapped.isEmpty && s.swapped.all SwapPage.inHost then
    c.log { code := 0x0A07, refKind := 3, ref := s.slot, part := s.part, param1 := s.swapped.length }
  else c

/-- R178, R184: the pages of a victim that are not on their way to T4 are dropped; moves under way go on (DEDUCED, log
entry 100), and pages that T4 holds come back at its next turn (R185). -/
def Chip.dropRest (c : Chip) (s : Seq) : Chip :=
  let (keep, go) := s.pages.partition (fun r => s.swapped.any (fun x => !x.inHost && x.isPage r))
  let n := go.length
  let c := (c.releaseAll s.part go).bumpBy (Reg.kvPressCnt 3) n
  let s := { s with pages := keep, recompute := true, started := false }
  let c := (c.setSeq s).log { code := 0x0A08, refKind := 3, ref := s.slot, part := s.part }
  (c.log { code := 0x0A04, refKind := 3, ref := s.slot, part := s.part, param1 := n }).swapOutOver s

/-- R184: a page's move to T4 failed. -/
def Chip.swapFailed (c : Chip) (req item : Nat) : Chip :=
  match c.seq req with
  | none => c
  | some s => (c.bump (Reg.kvPressCnt 10)).dropRest { s with swapped := dropWhere (fun x => x.place == item / 32) s.swapped }

/-- R182, R183: one page set on its way to T4; false when the window refuses or no key serves. -/
def Chip.swapPage (c : Chip) (s : Seq) (port w : Nat) (r : PageRef) : Bool × Seq × Chip :=
  match c.frameOf s.part r with
  | none => (true, s, c)
  | some f =>
    let g := c.pageImg s.part f
    let size := c.t4Slot s.part
    let off := (c.setSeq s).t4Free port w size
    let pl := c.kvPleats s.part g.fmt g.draft
    let (blocks, c) := if pl then c.pleatPage s.part g else ([], c)
    let plain := slotBytes blocks g
    let enc := if c.declFlag s.part 3 then
        (c.takeNonces s.part 18).map (fun x =>
          (sealSlot c.deviceId s.requestId s.part 4 x.1 x.2.1 g blocks plain, some (x.1.epoch, x.2.1), x.2.2))
      else some (plain, none, c)
    match enc with
    | none => (false, s, c)
    | some (bytes, ep, c) =>
      let (ok, c) := c.bulkStart port w true off bytes.length bytes (.swapOut s.requestId) (32 * (off / 64))
      let x : SwapPage := { img := g, port := port, window := w, offset := off, inHost := false, reading := false,
                            pleated := pl, again := none, epoch := ep, headed := false, left := [], want := [], slot := [] }
      (ok, if ok then { s with swapped := s.swapped ++ [x] } else s, c)

/-- R182, R188: eviction by swap: shared references are released, then each unshared page goes to T4, those
of the short quadrant first, then the rest by quadrant and layer, up to the first whose move does not start (R184). A
recompute that had started starts again. -/
def Chip.swapVictim (c : Chip) (s : Seq) (q : Nat) (port w : Nat) : Chip :=
  let (s, c) := c.countEviction s
  let mine := c.unsharedRefs s
  let shared := s.pages.filter (fun r => !mine.contains r)
  let c := c.releaseAll s.part shared
  let s := { s with pages := mine, started := false }
  let rest := fun (k : Nat) => (upTo 256).foldl (fun (l : List PageRef) y =>
    l ++ mine.filter (fun r => r.quad == k && r.layer == y)) []
  let order := rest q ++ (((upTo 4).filter (fun k => k != q)).map rest).flatten
  let (ok, s, c) := order.foldl (fun (a : Bool × Seq × Chip) r => if a.1 then a.2.2.swapPage a.2.1 port w r else a) (true, s, c)
  if ok then c.setSeq s else (c.bump (Reg.kvPressCnt 10)).dropRest s

/-- R178, R182: a victim evicted under its partition's policy. -/
def Chip.evict (c : Chip) (s : Seq) (q : Nat) : Chip :=
  match (if c.declFlag s.part 1 then c.swapWindow s.part else none) with
  | some (port, w) => c.swapVictim s q port w
  | none => c.dropVictim s

/-! Victims and growth (R174 to R180). -/

/-- R176: the contracted priority class of a sequence's customer. -/
def Chip.priority (c : Chip) (s : Seq) : Nat := fieldOf (c.applied (Reg.tenPolicy s.customer)) 7 5

/-- R176: whether a candidate ranks before another. -/
def Chip.ranksBefore (c : Chip) (a b : Seq) : Bool :=
  let pa := c.priority a; let pb := c.priority b
  if pa ≠ pb then decide (pa < pb)
  else if a.lastCommit ≠ b.lastCommit then decide (a.lastCommit < b.lastCommit)
  else
    let ua := (c.unsharedRefs a).length; let ub := (c.unsharedRefs b).length
    if ua ≠ ub then decide (ua < ub) else decide (a.slot < b.slot)

/-- R175: `pick_victim`. -/
def Chip.pickVictim (c : Chip) (g q part : Nat) (granted : List Nat) : Option Seq :=
  let lim := c.fld (Reg.kvPartPressure part) 3 0
  c.work.seqs.foldl (fun (best : Option Seq) s =>
    if s.part != part || s.requestId == g || s.running || granted.contains s.requestId ||
        s.phase == .hold || (c.moveSrc s.requestId).isSome || decide (lim ≤ s.evictions) ||
        !(c.unsharedRefs s).any (fun r => r.quad == q) || !s.swapped.isEmpty then best
    else match best with
      | none => some s
      | some b => if c.ranksBefore s b then some s else best) none

/-- The frames of a quadrant that swap-outs under way will free. -/
def Chip.swapPending (c : Chip) (part q : Nat) : Nat :=
  sumN ((c.work.seqs.filter (fun s => s.part == part)).map (fun s =>
    (s.pages.filter (fun r => r.quad == q && s.swapped.any (fun x =>
      !x.inHost && x.img.draft == r.draft && x.img.layer == r.layer && x.img.posBase == r.posBase))).length))

/-- R175: `grow` in one quadrant: reclaims and evictions until the need is met, or no victim is
left (false). -/
def growQuad (g part q need : Nat) (granted : List Nat) : Nat → Chip → Bool × Chip
  | 0, c => (false, c)
  | k + 1, c =>
    if need ≤ c.freeCount part q then (true, c)
    else if 0 < c.retainedCount part q then growQuad g part q need granted k (c.reclaim part q)
    else if need ≤ c.freeCount part q + c.swapPending part q then (true, c)
    else
      match c.pickVictim g q part granted with
      | none => (false, c)
      | some v => growQuad g part q need granted k (c.evict v q)

/-- What a growth request comes to. -/
inductive GrowRes where
  | got | wait | short | alone
  deriving DecidableEq, Repr

/-- R180: whether no other sequence of the partition holds pages in a quadrant that is short. -/
def Chip.aloneIn (c : Chip) (s : Seq) (need : List PageRef) : Bool :=
  (upTo 4).any (fun q => decide (c.freeCount s.part q + c.retainedCount s.part q < needIn need q) &&
    !(c.work.seqs.any (fun o => o.part == s.part && o.requestId != s.requestId && o.pages.any (fun r => r.quad == q))))

/-- R175: the growth procedure; on success the pages are OPEN and the sequence holds them. -/
def Chip.grow (c : Chip) (s : Seq) (need : List PageRef) (granted : List Nat) : GrowRes × Seq × Chip :=
  let fuel := c.work.frames.length + c.work.seqs.length + 1
  let (ok, c) := (upTo 4).foldl (fun (a : Bool × Chip) q =>
    if a.1 then growQuad s.requestId s.part q (needIn need q) granted fuel a.2 else a) (true, c)
  if !ok then (if c.aloneIn s need then .alone else .short, s, c)
  else if (upTo 4).all (fun q => decide (needIn need q ≤ c.freeCount s.part q)) then
    let (s, c) := c.takePages s need
    (.got, s, c)
  else (.wait, s, c)

/-- R179: a sequence pauses itself, or stays paused after a retry that fails. -/
def Chip.selfPause (c : Chip) (s : Seq) : Chip :=
  if s.paused then c.setSeq s
  else ((c.setSeq { s with paused := true }).bump (Reg.kvPressCnt 6)).log
    { code := 0x0A05, refKind := 3, ref := s.slot, part := s.part }

/-! Bringing pages back (R185). -/

/-- R182, R185: the completion of a swap write: the frame is freed at the flip; one that another sequence attached in
the meantime stays with that sequence (R145). -/
def Chip.swapOutDone (c : Chip) (req item : Nat) : Chip :=
  match c.seq req with
  | none => c
  | some s =>
    match s.swapped.find? (fun x => x.place == item / 32) with
    | none => c
    | some x =>
      let refs := s.pages.filter x.isPage
      let c := refs.foldl (fun c r => match c.frameOf s.part r with
        | some f => if 1 < f.refs then c.setFrame { f with refs := f.refs - 1 } else c.freeFrame f
        | none => c) c
      let s := { s with pages := s.pages.filter (fun r => !refs.contains r),
                        swapped := updWhere (fun y => y.place == x.place) (fun y => { y with inHost := true }) s.swapped }
      ((c.setSeq s).bump (Reg.kvPressCnt 8)).swapOutOver s

/-- R364: one unit at rest decrypted; none when its record names another nonce or its tag fails. -/
def openUnit (dev req part tier : Nat) (k : KeySlot) (nonce : Nat) (g : PageImg) (u : Nat × Nat × Nat × Nat)
    (ct rec_ : List Byte) : Option (List Byte) :=
  let iv := restIv dev nonce
  let aad := restAad req part k.epoch u.1 g.layer g.draft u.2.1 g.posBase tier ct.length
  let pt := (gcmSeal (keyBytes k) iv aad ct).1
  if rec_ == leBytes nonce 8 ++ leBytes k.epoch 1 ++ List.replicate 7 0#8 ++ (gcmSeal (keyBytes k) iv aad pt).2 then some pt
  else none

/-- R364: the units of a slot decrypted in order: the slot with its plain bytes, and the units that failed. -/
def openUnits (dev req part tier : Nat) (k : KeySlot) (nonce recs : Nat) (g : PageImg) (us : List ((Nat × Nat × Nat × Nat) × Nat))
    (bs : List Byte) : List Byte × Nat :=
  us.foldl (fun (a : List Byte × Nat) u =>
    let (kind, blk, off, len) := u.1
    match openUnit dev req part tier k (nonce + u.2) g (kind, blk, off, len) ((a.1.drop off).take len)
        ((a.1.drop (recs + 32 * u.2)).take 32) with
    | some pt => (a.1.take off ++ pt ++ a.1.drop (off + len), a.2)
    | none => (a.1, a.2 + 1)) (bs, 0)

/-- R364: a slot read back from T4 made plain: the leading record first, since it gives the lengths of the blocks. -/
def openSlot (dev req part : Nat) (k : KeySlot) (nonce : Nat) (g : PageImg) (pleated : Bool) (bs : List Byte) : List Byte × Nat :=
  let recs := 65664 + scaleFrameBytes g.fmt
  let head := if pleated then openUnits dev req part 4 k nonce recs g [((1, 0, 0, 128), 0)] bs else (bs, 0)
  let blocks := if pleated then (upTo 16).map (fun i =>
      let w := BitVec.ofNat 64 (natOfLe ((head.1.drop (8 * i)).take 8))
      (w, List.replicate (pleatHdrOf w).codedLen (0#8 : Byte))) else []
  let us := (pageUnits blocks g.fmt).zipIdx
  let (out, bad) := openUnits dev req part 4 k nonce recs g (if pleated then us.drop 1 else us) head.1
  (out, head.2 + bad)

/-- The 16 header words and coded blocks of a plain page slot. -/
def slotBlocks (bs : List Byte) : List (W64 × List Byte) :=
  (upTo 16).map (fun k =>
    let w := BitVec.ofNat 64 (natOfLe ((bs.drop (8 * k)).take 8))
    (w, (bs.drop (128 + 4096 * k)).take (pleatHdrOf w).codedLen))

/-- R112, R244: the element and scale frames of a plain page slot; else the damaged block and its cause. -/
def Chip.slotFrames (c : Chip) (p : Nat) (g : PageImg) (pleated : Bool) (bs : List Byte) : Except (Nat × Nat) Mem :=
  let scale := (bs.drop 65664).take (scaleFrameBytes g.fmt)
  let elem : Except (Nat × Nat) (List Byte) := if !pleated then .ok ((bs.drop 128).take 65536)
    else match c.model p g.draft with
      | none => .error (0, 1)
      | some m => expandPage (imgPleat m) g.fmt (slotBlocks bs)
  match elem with
  | .ok e => .ok (memWriteBytes (memWriteBytes [] 0 e) 65536 scale)
  | .error e => .error e

/-- R126, R136: a block that an MV channel found damaged, the first time; it is read again. The record names the lowest MV
channel that the partition owns, and `PARAM1` is as for a port's expander (log entry 64). -/
def Chip.mvDamaged (c : Chip) (part cause addr : Nat) : Chip :=
  let ch := ((upTo 32).find? (fun i => c.fld (Reg.movStnCap i) 39 35 == part)).getD 0
  (((c.bump (Reg.movPlt 1)).bump (Reg.movPlt 2)).log
    { code := 0x2005, domain := some 1, refKind := 3, ref := 512 + ch, part := part, param1 := cause * 2 ^ 60 + addr })

/-- R127, R136: a refetched block that an MV channel found damaged again. -/
def Chip.mvDamagedAgain (c : Chip) : Chip := (c.bump (Reg.movPlt 1)).bump (Reg.movPlt 3)

/-- R185, R364: the pages of a sequence in T4 are lost, with the frames taken for them; those homed in T1 stay, and the rest is
rebuilt by recompute. A move to T4 that is under way fails (R184). -/
def Chip.swapLost (c : Chip) (s : Seq) : Chip :=
  let bulks := dropWhere (fun (b : Bulk) => b.owner == .swapOut s.requestId || b.owner == .swapIn s.requestId) c.hl.bulks
  let c := { c with hl := { c.hl with bulks := bulks } }
  let (go, keep) := s.pages.partition (fun r => s.swapped.any (fun x => x.inHost && x.isPage r))
  let c := c.releaseAll s.part go
  let s2 := { s with pages := keep, swapped := [], recompute := true, started := false }
  let out := (s.swapped.filter (fun x => !x.inHost)).length
  if out = 0 then c.setSeq s2 else (c.bumpBy (Reg.kvPressCnt 10) out).dropRest s2

/-! A slot read back in pieces (R112): 0 the header record, 1 the unit records, 2 to 17 the blocks, 18 the scale frame, and
19 an unpleated slot whole. -/

/-- R112, R244, R364: offset and length of a piece of a page's slot; `hs` its header words, `size` that of an unpleated slot. -/
def SwapPage.piece (x : SwapPage) (hs : List W64) (size k : Nat) : Nat × Nat :=
  if k = 0 then (0, 128)
  else if k = 1 then (65664 + scaleFrameBytes x.img.fmt, 576)
  else if k < 18 then (128 + 4096 * (k - 2), min 4096 (64 * cdiv (pleatHdrOf (hs.getD (k - 2) 0)).codedLen 64))
  else if k = 18 then (65664, scaleFrameBytes x.img.fmt)
  else (0, size)

/-- R126: the pieces that a read of a page begins with, and those that follow the header record. -/
def SwapPage.start (x : SwapPage) (want : List Nat) : SwapPage :=
  { x with reading := true, headed := !x.pleated, want := want,
           left := if !x.pleated then [19] else if x.epoch.isSome then [0, 1] else [0] }

/-- R112: the reads of the pieces that a page waits for; false when the window refuses one. -/
def Chip.readPieces (c : Chip) (s : Seq) (x : SwapPage) (hs : List W64) : Bool × Chip :=
  x.left.foldl (fun (a : Bool × Chip) k =>
    let p := x.piece hs (a.2.t4Slot s.part) k
    if a.1 then a.2.bulkStart x.port x.window false (x.offset + p.1) p.2 [] (.swapIn s.requestId) (32 * x.place + k) else a)
    (true, c)

/-- R185, R387: reads of pages started; where the window refuses one, what T4 holds is lost to the sequence (DEDUCED, log
entry 100). -/
def Chip.readPages (c : Chip) (s : Seq) (xs : List (SwapPage × List W64)) : Chip :=
  let s := xs.foldl (fun s x => { s with swapped := updWhere (fun y => y.place == x.1.place) (fun _ => x.1) s.swapped }) s
  let (ok, c) := xs.foldl (fun (a : Bool × Chip) x => if a.1 then a.2.readPieces s x.1 x.2 else a) (true, c.setSeq s)
  if ok then c else c.swapLost s

/-- R364: units at rest that failed their check: each counted and logged, and each an uncorrectable tier error (R258). -/
def Chip.unitsFailed (c : Chip) (part req bad : Nat) : Chip :=
  (upTo bad).foldl (fun c _ =>
    let c := (c.bump (Reg.rmaCnt 17)).log { code := 0x0E06, refKind := 1, ref := req, part := part }
    (c.bump (Reg.movCnt 13)).log { code := 0x0802, refKind := 1, ref := req, part := part }) c

/-- R364: units of a slot that failed their check: the pages in T4 are lost. -/
def Chip.swapUnitsBad (c : Chip) (s : Seq) (bad : Nat) : Chip := (c.unitsFailed s.part s.requestId bad).swapLost s

/-- R112, R364: the header words of a slot whose header record and unit records are there, and the units that failed. -/
def Chip.swapHead (c : Chip) (s : Seq) (x : SwapPage) : List W64 × Nat :=
  let words := fun (bs : List Byte) => (upTo 16).map (fun i => BitVec.ofNat 64 (natOfLe ((bs.drop (8 * i)).take 8)))
  match x.epoch with
  | none => (words x.slot, 0)
  | some (e, n) =>
    match c.keyOf s.part e with
    | none => ([], 1)
    | some k =>
      let r := openUnits c.deviceId s.requestId s.part 4 k n (65664 + scaleFrameBytes x.img.fmt) x.img [((1, 0, 0, 128), 0)] x.slot
      (words r.1, r.2)

/-- R182, R186: the swap of a sequence is over. The references that it released are attached again, and the sequence is
RECOMPUTE_PENDING where a page is still missing (DEDUCED, log entry 100). -/
def Chip.swapOver (c : Chip) (s : Seq) : Chip :=
  let s := { s with swapped := [] }
  if s.recompute then c.setSeq s
  else
    let (_, s, c) := c.attachPrefix s s.table s.c
    let miss := decide (c.missingStart s false s.c < s.c) || decide (c.missingStart s true s.cd < s.cd)
    c.setSeq { s with recompute := miss, started := false }

/-- R185: a page is home again; with the last one the swap is over. -/
def Chip.swapHome (c : Chip) (s : Seq) (x : SwapPage) (bytes : Mem) : Chip :=
  let (ps, c) := s.pages.foldl (fun (a : List PageRef × Chip) r =>
    if x.isPage r then
      match a.2.frameOf s.part r with
      | some f =>
        let f := { f with state := 2, fill := x.img.fill, pad := x.img.pad, bytes := bytes }
        if x.img.sealed_ then
          let (r, c) := a.2.sealPage s r f
          (a.1 ++ [r], c)
        else (a.1 ++ [r], a.2.setFrame f)
      | none => a
    else (a.1 ++ [r], a.2)) ([], c.bump (Reg.kvPressCnt 9))
  let s := { s with pages := ps, swapped := updWhere (fun y => y.place == x.place) (fun y => { y with reading := false }) s.swapped }
  let done := s.swapped.all (fun y => y.inHost && !y.reading)
  if done then c.swapOver s else c.setSeq s

/-- R126, R185, R364: a page of a swapped sequence is read whole. The second component tells that its request ends with
ST_BLOCK_DAMAGED: a block was damaged twice (R127). -/
def Chip.swapWhole (c : Chip) (s : Seq) (x : SwapPage) : Bool × Chip :=
  let (plain, bad) := match x.epoch with
    | none => (x.slot, 0)
    | some (e, n) =>
      match c.keyOf s.part e with
      | none => (x.slot, 1)
      | some k => openSlot c.deviceId s.requestId s.part k n x.img x.pleated x.slot
  if bad ≠ 0 then (false, c.swapUnitsBad s bad)
  else
    let decoded := fun (c : Chip) (upto : Option Nat) =>
      if x.pleated then c.bumpBy (Reg.movPlt 0) (codedBetween ((slotBlocks plain).map Prod.fst) x.again upto) else c
    match c.slotFrames s.part x.img x.pleated plain with
    | .ok bytes => (false, (decoded c none).swapHome s x bytes)
    | .error e =>
      if x.again = some e.1 then (true, c.mvDamagedAgain)
      else
        let c := (decoded c (some e.1)).mvDamaged s.part e.2 (x.offset + 128 + 4096 * e.1)
        (false, c.readPages s [({ x with again := some e.1 }.start [2 + e.1], [])])

/-- R112, R126, R185, R364: a piece of a page of a swapped sequence comes back. -/
def Chip.swapInDone (c : Chip) (req item : Nat) (data : List Byte) : Bool × Chip :=
  match c.seq req with
  | none => (false, c)
  | some s =>
    match s.swapped.find? (fun x => x.place == item / 32) with
    | none => (false, c)
    | some x =>
      let off := (x.piece [] (c.t4Slot s.part) (item % 32)).1
      let x := { x with left := dropWhere (fun k => k == item % 32) x.left,
                        slot := (x.slot ++ List.replicate (off - x.slot.length) 0#8).take off ++ data ++ x.slot.drop (off + data.length) }
      let put := fun (y : SwapPage) => c.setSeq { s with swapped := updWhere (fun z => z.place == y.place) (fun _ => y) s.swapped }
      if !x.left.isEmpty then (false, put x)
      else if !x.headed then
        let (hs, bad) := c.swapHead s x
        if bad ≠ 0 then (false, c.swapUnitsBad s bad)
        else (false, c.readPages s [({ x with headed := true, left := x.want }, hs)])
      else (put x).swapWhole s x

/-- R185, R386: every sequence swapped to a window loses its pages there. -/
def Chip.loseWindow (c : Chip) (port w : Nat) : Chip :=
  (c.work.seqs.filter (fun s => s.swapped.any (fun x => x.port == port && x.window == w))).foldl
    (fun c s => c.swapLost s) c

end Sys2Proof.Machine
end

