-- ==== Sys2Proof/Machine/Images.lean ====
section
/-!
DEFINITION. The sleeve image (R244, R245): its layout, and how it rests in T2 (R364).
-/
namespace Sys2Proof.Machine

/-! The sleeve image (R244, R245). -/

/-- Whether a partition's frame size: the bytes of a page slot in a sleeve image. -/
def Chip.slotSize (c : Chip) (p : Nat) : Nat := 128 + frameBytes (c.part p).base (c.part p).draft

/-- R244: the offset of the first page slot. -/
def slotsStart (committed pages : Nat) : Nat :=
  roundUp (128 + roundUp (4 * (committed + 1)) 64 + roundUp (8 * pages) 64) 4096

/-- R244, R364: the bytes of a sleeve image, with its tag array when it is encrypted at rest. -/
def Chip.sleeveBytes (c : Chip) (p committed pages : Nat) (enc : Bool) : Nat :=
  let plain := slotsStart committed pages + pages * c.slotSize p
  if enc then
    roundUp plain 4096 + 32 * (cdiv (slotsStart committed pages) 4096 + 18 * pages)
  else plain

/-- R245: the sleeve record; the layers are those that the sleeve has pages of. -/
def sleeveRecord (s : Seq) (ttl sent : Nat) : List W64 :=
  let d := s.draft
  let layers := fun (draft : Bool) => (((s.pages.filter (fun r => r.draft == draft)).map PageRef.layer).eraseDups).length
  let mode := match d.mode with | .active => 0 | .disabled => 1 | .inactive => 2
  [BitVec.ofNat 64 s.requestId, wordOf [(63, 48, s.placement), (47, 44, s.part)],
   wordOf [(63, 32, s.c), (31, 0, s.cd)], wordOf [(63, 32, s.adapterVer)],
   wordOf [(63, 60, d.kCur), (59, 58, mode), (57, 54, d.rejectRun), (53, 50, d.acceptRun),
     (49, 42, d.winSteps), (41, 30, d.winProp), (29, 18, d.winAcc), (17, 2, d.sinceDis)],
   wordOf [(63, 32, ttl), (31, 16, layers false), (15, 8, layers true)],
   wordOf [(63, 32, s.pages.length)], BitVec.ofNat 64 sent,
   s.samp.getD 0 0#64, s.samp.getD 1 0#64, s.samp.getD 2 0#64, s.samp.getD 3 0#64,
   0#64, 0#64, 0#64, 0#64]

/-- R245: the draft state that word 4 holds. -/
def draftOfWord (w : W64) : DraftState :=
  let m := fieldOf w 59 58
  ⟨if m = 0 then .active else if m = 1 then .disabled else .inactive, fieldOf w 63 60, fieldOf w 57 54,
   fieldOf w 53 50, fieldOf w 49 42, fieldOf w 41 30, fieldOf w 29 18, fieldOf w 17 2⟩

/-- R244: a position table entry. -/
def posWord (e : PosEnt) : Nat := e.tok + (if e.gen then 2 ^ 30 else 0) + (if e.pad then 2 ^ 31 else 0)

/-- R244: the pages of a sequence in directory order: base layers, then draft layers, each in
ascending `POS_BASE`. -/
def dirOrder (l : List PageRef) : List PageRef :=
  let key := fun (r : PageRef) => ((bitN r.draft) * 256 + r.layer) * 2 ^ 20 + r.posBase
  l.foldr (fun r acc =>
    let (a, b) := (acc.takeWhile (fun x => decide (key x < key r)), acc.dropWhile (fun x => decide (key x < key r)))
    a ++ r :: b) []

/-- R244: the directory entry of a page. -/
def PageImg.dirWord (g : PageImg) : W64 :=
  wordOf [(63, 56, g.layer), (55, 55, bitN g.draft), (51, 48, g.fmt), (47, 39, g.fill), (38, 19, g.posBase)]

/-- R244: the leading part of a sleeve image: record, position table up to the pending token, page directory. -/
def headBytes (s : Seq) (dir : List W64) (ttl sent : Nat) : List Byte :=
  let tab := padTo 64 (((upTo (s.c + 1)).map (fun i => leBytes (((s.table[i]?).map posWord).getD 0) 4)).flatten)
  ((sleeveRecord s ttl sent).map (fun w => leBytes w.toNat 8)).flatten ++ tab ++ padTo 64 ((dir.map (fun w => leBytes w.toNat 8)).flatten)

/-- R244: the leading part of the image of a resident sleeve. -/
def Chip.sleeveHead (c : Chip) (s : Seq) (ttl sent : Nat) : List Byte :=
  headBytes s ((dirOrder s.pages).map (fun r => ((c.frameOf s.part r).map (fun f => (c.pageImg s.part f).dirWord)).getD 0)) ttl sent

/-! A sleeve at rest (R244, R364). -/

/-- R364: a unit of data at rest: the page it is of, its kind, block, offset and length. -/
abbrev RestUnit := PageImg × Nat × Nat × Nat × Nat

/-- R364: the units of the leading part: stretches of 4,096 bytes up to the first page slot. -/
def leadUnits (start : Nat) : List RestUnit :=
  (upTo (start / 4096)).map (fun k => (⟨false, 0, 0, 0, 0, 0, false, [], []⟩, 0, k, 4096 * k, 4096))

/-- R112, R364: the units of a page in its slot at `o`; a pleated page's blocks have the lengths given. -/
def PageImg.units (g : PageImg) (pleated : Bool) (o : Nat) (lens : List Nat) : List RestUnit :=
  (if pleated then [(g, 1, 0, o, 128)] else []) ++
    (upTo 16).map (fun k => (g, 2, k, o + 128 + 4096 * k, if pleated then min 4096 (lens.getD k 0) else 4096)) ++
    (if g.fmt = 2 then [] else [(g, 3, 0, o + 65664, scaleFrameBytes g.fmt)])

/-- R244: the bytes of a plain sleeve image. -/
def sleeveImage (s : Seq) (ttl start slot : Nat) (pages : List PageImg) : Mem :=
  let refs := pages.map (fun g => (⟨g.draft, g.layer, g.posBase, 0, 0⟩ : PageRef))
  let head := headBytes { s with pages := refs } (pages.map PageImg.dirWord) ttl 0
  pages.zipIdx.foldl (fun m g => memWriteBytes m (start + g.2 * slot) (slotBytes g.1.pleats g.1)) (memWriteBytes [] 0 head)

/-- R364: an image sealed unit by unit, its unit records in the tag array at `tags`. -/
def sealImage (dev req part : Nat) (k : KeySlot) (nonce tags : Nat) (us : List RestUnit) (m : Mem) : Mem :=
  us.zipIdx.foldl (fun m u =>
    let (g, kind, blk, off, len) := u.1
    let x := gcmSeal (keyBytes k) (restIv dev (nonce + u.2))
      (restAad req part k.epoch kind g.layer g.draft blk g.posBase 2 len) (memReadBytes m off len)
    memWriteBytes (memWriteBytes m off x.1) (tags + 32 * u.2)
      (leBytes (nonce + u.2) 8 ++ leBytes k.epoch 1 ++ List.replicate 7 0#8 ++ x.2)) m

/-- R364: an image as it is opened: its bytes so far, the units seen, and those that failed. -/
structure Opening where
  mem : Mem
  seen : Nat
  bad : Nat
  deriving DecidableEq, Repr

/-- R364: one unit of an image decrypted and checked. -/
def Opening.unit (a : Opening) (dev req part : Nat) (k : KeySlot) (nonce tags : Nat) (u : RestUnit) : Opening :=
  let (g, kind, blk, off, len) := u
  match openUnit dev req part 2 k (nonce + a.seen) g (kind, blk, off, len) (memReadBytes a.mem off len)
      (memReadBytes a.mem (tags + 32 * a.seen) 32) with
  | some pt => ⟨memWriteBytes a.mem off pt, a.seen + 1, a.bad⟩
  | none => { a with seen := a.seen + 1, bad := a.bad + 1 }

/-- The 16 header words of a plain page slot of an image. -/
def imageHdrs (m : Mem) (o : Nat) : List W64 :=
  (upTo 16).map (fun k => BitVec.ofNat 64 (natOfLe (memReadBytes m (o + 8 * k) 8)))

/-- R364: the units of a page of an image: the header record first, since it gives the lengths of the blocks; where it fails, its
blocks are not read. -/
def Opening.page (a : Opening) (dev req part : Nat) (k : KeySlot) (nonce tags : Nat) (g : PageImg) (pleated : Bool) (o : Nat) :
    Opening :=
  let us := g.units pleated o []
  let h := if pleated then (us.take 1).foldl (fun a u => a.unit dev req part k nonce tags u) a else a
  if h.bad ≠ a.bad then { h with seen := a.seen + us.length }
  else
    let lens := (imageHdrs h.mem o).map (fun w => (pleatHdrOf w).codedLen)
    ((g.units pleated o lens).drop (if pleated then 1 else 0)).foldl (fun a u => a.unit dev req part k nonce tags u) h

/-- R244: where the page slots of a stored sleeve begin. -/
def Stored.start (st : Stored) : Nat := slotsStart st.seq.c st.pages.length

/-- R364: a stored sleeve made plain, and the units that failed: all of them when the key epoch is gone. -/
def Chip.openStored (c : Chip) (st : Stored) : Mem × Nat :=
  match st.epoch with
  | none => (st.image, 0)
  | some (e, n) =>
    let units := st.start / 4096 + sumN ((st.pages.zip st.pleated).map (fun g => (g.1.units g.2 0 []).length))
    match c.keyOf st.seq.part e with
    | none => (st.image, units)
    | some k =>
      let tags := roundUp (st.start + st.pages.length * st.slot) 4096
      let a := (leadUnits st.start).foldl (fun a u => a.unit c.deviceId st.seq.requestId st.seq.part k n tags u) ⟨st.image, 0, 0⟩
      let a := ((st.pages.zip st.pleated).zipIdx).foldl (fun (a : Opening) g =>
        a.page c.deviceId st.seq.requestId st.seq.part k n tags g.1.1 g.1.2 (st.start + g.2 * st.slot)) a
      (a.mem, a.bad)

/-- R112, R244: the pages of a plain stored image. -/
def Stored.imgs (st : Stored) (m : Mem) : List PageImg :=
  ((st.pages.zip st.pleated).zipIdx).map (fun g =>
    let o := st.start + g.2 * st.slot
    let scale := memReadBytes m (o + 65664) (scaleFrameBytes g.1.1.fmt)
    if g.1.2 then
      { g.1.1 with pleats := (imageHdrs m o).zipIdx.map (fun w => (w.1, memReadBytes m (o + 128 + 4096 * w.2) (pleatHdrOf w.1).codedLen)),
                   bytes := memWriteBytes [] 65536 scale }
    else { g.1.1 with bytes := memWriteBytes (memWriteBytes [] 0 (memReadBytes m (o + 128) 65536)) 65536 scale })

/-- R258, R364: whether every unit and every line of a sleeve at rest can be read. -/
def Chip.storedOk (c : Chip) (st : Stored) : Bool := (c.openStored st).2 == 0 && c.storedLines st == 0

/-- R258, R364: the failures that reading a sleeve at rest finds are counted and logged: units, and marked lines. -/
def Chip.countFaults (c : Chip) (st : Stored) : Chip :=
  (upTo (c.storedLines st)).foldl (fun c _ =>
    ((c.bump (Reg.movCnt 13)).eccBad 2).log { code := 0x0802, refKind := 1, ref := st.seq.requestId, part := st.seq.part })
    (c.unitsFailed st.seq.part st.seq.requestId (c.openStored st).2)

end Sys2Proof.Machine
end

