-- ==== Sys2Proof/Machine/Collars.lean ====
section
/-!
DEFINITION. Collars (R211 to R214), the token log and its classes, building a sequence from a collar
(R248, R263), reports to an anchor (R248, R263), and storing a paused sleeve (R244, R266).
-/
namespace Sys2Proof.Machine

/-- A live collar. -/
def Chip.collar (c : Chip) (req : Nat) : Option Collar := c.work.collars.find? (fun k => k.img.requestId == req)

/-- A collar replaced. -/
def Chip.setCollar (c : Chip) (k : Collar) : Chip :=
  let l := updWhere (fun (x : Collar) => x.img.requestId == k.img.requestId) (fun _ => k) c.work.collars
  c.onWork (fun w => { w with collars := l })

/-- The header of a collar changed. -/
def Collar.onImg (k : Collar) (f : CollarImg → CollarImg) : Collar := { k with img := f k.img }

/-- The collar region as the applied image declares it and the device carved it (R211, R494):
`COLLAR_SLOTS`, and the token-log area in 64-byte units. -/
def Chip.collarRegion (c : Chip) : Nat × Nat :=
  match c.boot.img with
  | some i => if c.board.collarOk then (i.composition.collarSlots, i.composition.collarLogMib * 16384) else (0, 0)
  | none => (0, 0)

/-- R211: the ranges of a collar in the region: its header and class runs, and its token log. -/
def Chip.collarRanges (c : Chip) (k : Collar) : List (Nat × Nat) :=
  [(1280 * k.cslot, 1280), (1280 * c.collarRegion.1 + 64 * k.logOff, 64 * k.logUnits)]

/-- R212: `TOKEN_LOG`: the place of a collar's token log in the region, in 64-byte units. -/
def Chip.logPlace (c : Chip) (k : Collar) : Nat := 20 * c.collarRegion.1 + k.logOff

/-- Whether the collar region lies in T2. -/
def Chip.collarsInT2 (c : Chip) : Bool :=
  match c.boot.img with
  | some i => i.composition.collarTier == 2
  | none => false

/-- R495: a collar written whole clears the marks of its lines. -/
def Chip.collarWritten (c : Chip) (k : Collar) : Chip :=
  if c.collarsInT2 then (c.collarRanges k).foldl (fun c r => c.clearMarks 2 r.1 r.2) c else c

/-- R211: the 64-byte units of a token log of `n` entries. -/
def logUnitsOf (n : Nat) : Nat := cdiv (4 * n) 64

/-- R211: a free run of units in the token-log area, the lowest one (log entry 14). -/
def Chip.allocLog (c : Chip) (units : Nat) : Option Nat :=
  let used := c.work.collars.map (fun k => (k.logOff, k.logUnits))
  let cands := 0 :: used.map (fun u => u.1 + u.2)
  let ok := fun (o : Nat) => decide (o + units ≤ c.collarRegion.2) &&
    used.all (fun u => decide (u.1 + u.2 ≤ o) || decide (o + units ≤ u.1))
  (cands.filter ok).foldl (fun (b : Option Nat) o => match b with
    | none => some o
    | some x => some (min x o)) none

/-- R214: the next local number whose request ID is not live; `k` bounds the skips. -/
def Chip.nextLocal (c : Chip) : Nat → Nat → Nat
  | 0, n => n
  | k + 1, n =>
    let m := wrapSuccSkip0 48 n
    if (c.collar (c.deviceId * 2 ^ 48 + m)).isSome then c.nextLocal k m else m

/-- R213: the class recorded for a position; positions beyond the runs are of the prompt class. -/
def classAt (runs : List (Nat × Bool)) (p : Nat) : Bool :=
  (runs.foldl (fun (b : Bool) r => if r.1 ≤ p then r.2 else b) false)

/-- R213: a run appended when the class of a newly committed position differs from the last run's. -/
def addRun (runs : List (Nat × Bool)) (p : Nat) (gen : Bool) : List (Nat × Bool) :=
  match runs.getLast? with
  | some r => if r.2 == gen then runs else runs ++ [(p, gen)]
  | none => [(p, gen)]

/-- R14, R217: the statuses of R216 for a partition that admits nothing. -/
def Chip.partRefusal (c : Chip) (p : Nat) : Nat :=
  let s := c.partState p
  if s = 2 ∨ s = 3 then stOk
  else if s = 4 then stDegraded
  else if s = 5 then stWeightLost
  else stNotReady

/-- R8, R10: whether the role accepts a prompt phase, or a decode phase. -/
def Chip.roleAccepts (c : Chip) (prompt : Bool) : Bool :=
  if prompt then c.role == 1 || c.role == 4 else c.role == 2 || c.role == 4

/-- `PART_SPEC_CTRL` read (R206). -/
def Chip.specCtrl (c : Chip) (p : Nat) : SpecCtrl :=
  let w := c.reg (Reg.partSpecCtrl p)
  ⟨fieldOf w 47 32, fieldOf w 31 24, fieldOf w 23 16, fieldOf w 15 12, fieldOf w 11 8, fieldOf w 7 4,
   min (fieldOf w 3 0) (fieldOf w 7 4)⟩

/-- R149, R191, R207: the sequence of a placement built from its collar, in a slot. A collar with
committed positions is rebuilt by recompute (R186) unless its sleeve is restored. -/
def Chip.seqOf (c : Chip) (m : CollarImg) (prompt : Bool) (restore : Bool) (slot anchor silence : Nat) : Seq :=
  let n := m.log.length
  let known := if prompt then n else min n (m.committed + 1)
  let table := ((m.log.take known).zipIdx).map (fun e =>
    (⟨e.1.1, if e.2 < m.committed then classAt m.runs e.2 else !prompt, e.1.2⟩ : PosEnt))
  let gens := if m.lastEmitted = 0xFFFFFFFF then 0 else m.lastEmitted + 1
  { requestId := m.requestId, anchor := anchor, placement := m.placement, part := m.part, slot := slot,
    customer := m.customer, adapter := m.adapter, adapterVer := m.adapterVer, onePass := m.onePass,
    keep := m.keep, stopEos := m.stopEos, stop := m.stop.take m.nStop, maxNew := m.maxNew + (n - known), samp := m.samp,
    table := table, c := m.committed, cd := 0,
    emitted := if prompt then gens else gens - (n - known),
    phase := if restore then .restoring else if prompt then .prompt else .decode,
    draft := draftInit (c.specCtrl m.part) (bitOf (m.samp.getD 2 0) 22),
    pages := [], swapped := [], evictions := 0, lastCommit := c.time, paused := false,
    recompute := !restore && decide (0 < m.committed), started := false, ra := 0, rd := 0, running := false,
    silenceMs := silence, progress := true, pausePend := false, cancelPend := false, firstChunk := decide (m.committed = 0),
    attached := 0, toPrompt := prompt, offered := false }

/-! Reports (R248, R263, R264). -/

/-- A report of a sequence to an anchor on another device, with `PIN` 1 (R263). After a `KIND` 1 report the next heartbeat
asks for a commit since it. -/
def Chip.sendReport (c : Chip) (s : Seq) (kind status first next : Nat) (toks : List (Nat × Bool))
    (values : List W32) : Chip :=
  let b : ReportBody :=
    { common := { requestId := s.requestId, placement := s.placement, moveId := 0, rsvd := 0 },
      kind := kind, status := status, firstIndex := first, committed := s.c, next := next, tokens := toks,
      values := values, rsvd := 0 }
  let (id, c) := c.nextMsgId
  let h := { c.header s.anchor 0 id 0 (.phaseReport b) with pin := true }
  let keep := c.work.reports.filter (fun r => c.work.seqs.any (fun x => x.requestId == r.2) || (c.stored? r.2).isSome)
  let c := { c with work := { c.work with reports := keep ++ [(id, s.requestId)] } }
  let c := if kind = 1 then c.onWork (fun w =>
      { w with seqs := updWhere (fun x => x.requestId == s.requestId) (fun x => { x with progress := false }) w.seqs }) else c
  c.sendPkt (.part s.part) ⟨h, .phaseReport b⟩

/-- FAB_PKT_PHASE_CTRL to a node. -/
def Chip.sendCtrl (c : Chip) (node req placement action status : Nat) : Chip :=
  (c.sendNew .device node 0 (.phaseCtrl
    { common := { requestId := req, placement := placement, moveId := 0, rsvd := 0 }, action := action,
      status := status, rsvd := 0 })).2

/-! Storing a paused sleeve (R251, R266, R364). -/

/-- R266: whether a partition's T2 share has room for a sleeve. -/
def Chip.t2Room (c : Chip) (p bytes : Nat) : Bool :=
  match c.decl p with
  | some d => c.domUp 5 && c.board.t2Ok.getD p false && decide ((c.part p).t2Used + bytes ≤ d.t2Mib * 2 ^ 20)
  | none => false

/-- R267, R271: TTL_FULL of a partition, in ms. -/
def Chip.fullTtl (c : Chip) (p : Nat) : Nat := c.fld (Reg.movPartTier p) 16 0 * 1000

/-- R364: the units of a sleeve: the stretches of its leading part, then those of each page. -/
def storedUnits (start slot : Nat) (pages : List PageImg) : List RestUnit :=
  leadUnits start ++ (pages.zipIdx.map (fun g =>
    g.1.units (!g.1.pleats.isEmpty) (start + g.2 * slot) (g.1.pleats.map (fun b => b.2.length)))).flatten

/-- R244, R364: a sleeve put at rest in the T2 share of a partition, laid out as its image and, with encryption on, sealed
unit by unit; none when there is no room or no key or nonce. -/
def Chip.putStored (c : Chip) (s : Seq) (pages : List PageImg) (ttl : Nat) : Option Chip :=
  let enc := c.declFlag s.part 3
  let bytes := c.sleeveBytes s.part s.c pages.length enc
  if !c.t2Room s.part bytes then none
  else
    let slot := c.slotSize s.part
    let start := slotsStart s.c pages.length
    let tags := roundUp (start + pages.length * slot) 4096
    let us := storedUnits start slot pages
    let plain := sleeveImage s ttl start slot pages
    let keyed := if enc then (c.takeNonces s.part us.length).map (fun x =>
        (sealImage c.deviceId s.requestId s.part x.1 x.2.1 tags us plain, some (x.1.epoch, x.2.1), x.2.2))
      else some (plain, none, c)
    keyed.map (fun x =>
      let c := x.2.2
      let p := c.part s.part
      let st : Stored := { seq := { s with pages := [], swapped := [], running := false },
                           pages := pages.map (fun g => { g with bytes := [], pleats := [] }),
                           pleated := pages.map (fun g => !g.pleats.isEmpty), slot := slot, image := x.1,
                           runs := c.t2Runs s.part bytes, bytes := bytes,
                           epoch := x.2.1, ttl := ttl, since := c.time }
      ((st.runs.foldl (fun c r => c.clearMarks 2 r.1 r.2) c).setPart s.part { p with t2Used := p.t2Used + bytes }).onWork (fun w => { w with stored := w.stored ++ [st] }))

/-- R251, R266: a resident sleeve stored in the device's own T2 share by a local move. -/
def Chip.storeLocal (c : Chip) (s : Seq) : Option Chip :=
  let (imgs, c) := ((dirOrder s.pages).filterMap (fun r => (c.frameOf s.part r).map (c.pageImg s.part))).foldl
    (fun (a : List PageImg × Chip) g =>
      if a.2.kvPleats s.part g.fmt g.draft then
        let (bs, c) := a.2.pleatPage s.part g
        (a.1 ++ [g.rest bs], c)
      else (a.1 ++ [g], a.2)) ([], c)
  (c.putStored s imgs (c.fullTtl s.part)).map (fun c =>
    let c := (c.releaseAll s.part s.pages).dequeueSeq s.requestId
    let c := c.onWork (fun w => { w with seqs := dropWhere (fun t => t.requestId == s.requestId) w.seqs })
    (((c.bump (Reg.movCnt 0)).bump (Reg.movCnt 1)).bumpBy (Reg.movCnt 3) (c.sleeveBytes s.part s.c imgs.length false)).bump
      (Reg.movCnt 14))

/-- The anchor of a paused sleeve learns where its home is now, or that only the summary remains: on
this device at once, else by a report of `KIND` 2 or 4. -/
def Chip.reportHome (c : Chip) (s : Seq) (dropped : Bool) : Chip :=
  if s.anchor = c.deviceId then
    match c.collar s.requestId with
    | some k =>
      if k.img.placement = s.placement then
        c.setCollar (k.onImg (fun m =>
          if dropped then { m with summaryOnly := true } else { m with homeDevice := c.deviceId }))
      else c
    | none => c
  else c.sendReport s (if dropped then 4 else 2) stOk 0 0 [] []

/-- R266: the sleeve dropped to its summary. -/
def Chip.dropPaused (c : Chip) (s : Seq) (log : Bool) : Chip :=
  let c := (c.releaseSleeve s.requestId).bump (Reg.movCnt 15)
  let c := if log then c.log { code := 0x0806, refKind := 1, ref := s.requestId, part := s.part } else c
  c.reportHome s true

/-- R251, R266: the local move of a paused sleeve to the home's own share completes; without room the
sleeve is dropped. -/
def Chip.localStored (c : Chip) (s : Seq) : Chip :=
  match c.storeLocal s with
  | some c => c.reportHome s false
  | none => c.dropPaused s true

/-- R266: the home's own share is the last store of the table: the local move starts, or the sleeve is
dropped when the share lacks room. -/
def Chip.storeOrDrop (c : Chip) (s : Seq) : Chip :=
  if c.t2Room s.part (c.sleeveBytes s.part s.c s.pages.length (c.declFlag s.part 3)) then c else c.dropPaused s true

/-- R248, R249: the OFFER of a move to its destination, under a new `MOVE_ID`. -/
def Chip.sendOffer (c : Chip) (m : MoveSrc) (s : Seq) (pages ttl : Nat) : Chip :=
  let meas := fun (d : PartDecl) => (d.baseMeas, d.draftMeas)
  let (bm, dm) := ((c.decl s.part).map meas).getD (0, 0)
  let b : OfferBody :=
    { common := m.common, kind := m.kind, commitWait := c.fld Reg.movTimers 31 16, silenceMs := s.silenceMs,
      adapter := s.adapter, adapterVer := s.adapterVer, ttlLeftMs := ttl, pages := pages,
      baseMeas := bm, draftMeas := dm, rsvd := 0 }
  (c.sendNew (.part s.part) m.dest 0 (.moveOffer b)).2

/-- R249: a move starts at its source: the record is OFFERED to the first target. -/
def Chip.startMove (c : Chip) (s : Seq) (kind placement total pages ttl : Nat) (targets : List Nat) : Option Chip :=
  match targets with
  | [] => none
  | d :: rest =>
    let id := wrapSucc 32 c.work.moveId
    let m : MoveSrc :=
      { moveId := id, requestId := s.requestId, placement := placement, part := s.part, kind := kind, dest := d,
        left := rest, state := 1, region := 0, offset := 0, bytes := 0, total := total, sentPages := [], ready := false,
        acked := false, empty0 := false, resends := 0 }
    let c := c.onWork (fun w => { w with moveId := id, src := w.src ++ [m] })
    some ((c.bump (Reg.movCnt 0)).sendOffer m s pages ttl)

/-- R266: the home of a sleeve that enters PAUSED stores it by its partition's `PAUSE_TARGET`. -/
def Chip.pauseStore (c : Chip) (s : Seq) : Chip :=
  let s := { s with phase := .hold, running := false, pausePend := false, paused := false }
  let c := (c.setSeq s).dequeueSeq s.requestId
  let t := c.fld (Reg.movPartTier s.part) 21 20
  if t = 2 then c.dropPaused s false
  else if t = 1 then
    let caches := ((c.decl s.part).map PartDecl.caches).getD []
    match c.startMove s 1 s.placement s.c s.pages.length (c.fld (Reg.movPartTier s.part) 16 0 * 1000)
        (caches.filter (fun d => d != c.deviceId)) with
    | some c => c
    | none => c.storeOrDrop s
  else c.storeOrDrop s

end Sys2Proof.Machine
end

