-- ==== Sys2Proof/Machine/Anchor.lean ====
section
/-!
DEFINITION. The anchor of a request (R12 to R21, R225 to R233, R238, R239, R263, R264, R381 to R383):
its lifecycle, the placing of its phases, the emission of its tokens, and its ending.
-/
namespace Sys2Proof.Machine

/-! Latency histograms (R238, R239). -/

/-- R239: `bin`. -/
def histBin (v base : Nat) : Nat :=
  if v < 2 ^ base then 0
  else
    let p := Nat.log2 v
    if base + 15 ≤ p then 31
    else
      let n := if 15 ≤ p then v / 2 ^ (p - 15) else v * 2 ^ (15 - p)
      1 + 2 * (p - base) + bitN (decide (0xB505 ≤ n))

/-! The lifecycle states (R212). -/

/-- ADMITTED. -/
def lcAdmitted : Nat := 0
/-- PREFILL. -/
def lcPrefill : Nat := 1
/-- HANDOFF. -/
def lcHandoff : Nat := 2
/-- DECODE. -/
def lcDecode : Nat := 3
/-- PAUSED. -/
def lcPaused : Nat := 4
/-- DONE. -/
def lcDone : Nat := 5
/-- ENDED. -/
def lcEnded : Nat := 6

/-- R238: what the sending of an HL_MSG_TOKENS of `n` tokens enters. -/
def Chip.enterLatency (c : Chip) (k : Collar) (n : Nat) : Chip :=
  if k.first then
    if k.img.lcState = lcPaused ∨ k.img.lcState = lcEnded then c
    else c.bump (Reg.tenHist k.img.customer (histBin (c.time - k.img.startTime) 14))
  else c.bumpBy (Reg.tenHist k.img.customer (32 + histBin ((c.time - k.img.lastEmitTime) / n) 9)) n

/-- A collar in a lifecycle state. -/
def Collar.setLc (k : Collar) (n : Nat) : Collar := k.onImg (fun m => { m with lcState := n })

/-- The generated tokens emitted so far. -/
def Collar.emitted (k : Collar) : Nat := if k.img.lastEmitted = 0xFFFFFFFF then 0 else k.img.lastEmitted + 1

/-- The collar's placement number advanced (R20). -/
def Collar.nextPlacement (k : Collar) : Collar := k.onImg (fun m => { m with placement := wrapSucc 16 m.placement })

/-- No placement is under way. -/
def PlaceRec.idle : PlaceRec := { node := none, waiting := false, left := [], holder := none, skip := none, msg := 0 }

/-! Emission (R381, R382). -/

/-- R381: whether a ring entry owes the host anything. -/
def owes (k : Collar) (e : RingEnt) : Bool :=
  !e.ack.isEmpty || decide (k.sent < k.emitted) || e.result || e.ended

/-- R382: the tokens of the next HL_MSG_TOKENS: how many, whether the last one is final, and whether
they follow a resume. -/
def nextTokens (k : Collar) : Nat × Bool × Bool :=
  let room := min 9 (k.emitted - k.sent)
  let after := k.resumeAt.filter (fun b => decide (k.sent < b.1))
  match after with
  | [] => (room, k.final && k.sent + room == k.emitted, k.resumeAt.any (fun b => decide (b.1 ≤ k.sent)))
  | b :: _ =>
    let n := min room (b.1 - k.sent)
    (n, b.2 && k.sent + n == b.1, k.resumeAt.any (fun x => decide (x.1 ≤ k.sent)))

/-- R382: the message an entry sends next, with the entry after it. -/
def Chip.emitOne (c : Chip) (p : Nat) (k : Collar) (e : RingEnt) : RingEnt × Chip :=
  match e.ack with
  | (tag, status) :: rest => ({ e with ack := rest }, c.hlSend p 2 (.ack tag k.img.requestId status 0))
  | [] =>
    if k.sent < k.emitted then
      let (n, fin, aft) := nextTokens k
      let c := c.hlSend p 2 (.tokens k.img.requestId k.img.hostTag k.sent ((k.gens.drop k.sent).take n) fin aft)
      let c := (c.enterLatency k n).bumpBy (Reg.reqCnt 5) n
      let k := ({ k with sent := k.sent + n, first := false } : Collar).onImg (fun m => { m with lastEmitTime := c.time })
      (e, c.setCollar k)
    else if e.result then
      ({ e with result := false }, c.hlSend p 2 (.result k.img.requestId k.img.hostTag k.values))
    else
      ({ e with ended := false }, c.hlSend p 2 (.ended k.img.requestId k.img.hostTag k.img.endStatus k.emitted))

/-- R382: one turn of a port's HC2 sender. A message of the class that waits for credit holds the
sender, and a port that is not ACTIVE sends nothing (R384). -/
def hc2Emit (c : Chip) (p : Nat) : Chip :=
  if c.hlState p != 3 || (c.hlPort p).link.out.any (fun o => o.tc == 2) then c
  else
    match (c.hlPort p).ring with
    | [] => c
    | e :: rest =>
      let c := c.setHlPort p { c.hlPort p with ring := rest }
      match c.collar e.requestId with
      | none => c
      | some k =>
        if owes k e then
          let (e, c) := c.emitOne p k e
          match c.collar e.requestId with
          | none => c
          | some k =>
            let r := c.hlPort p
            if owes k e then c.setHlPort p { r with ring := r.ring ++ [e] } else c
        else c

/-! Ending a request (R230). -/

/-- R211, R219: the collar leaves the device with its reference to its adapter version. -/
def Chip.freeCollar (c : Chip) (req : Nat) : Chip :=
  let c := match c.collar req with
    | some k => c.unrefAdapter k.img.part k.img.adapter k.img.adapterVer
    | none => c
  c.onWork (fun w => { w with collars := dropWhere (fun (k : Collar) => k.img.requestId == req) w.collars,
                              slotWait := dropWhere (fun r => r == req) w.slotWait })

/-- R264, R268: every place that runs a phase of the request or holds its sleeve lets it go. -/
def Chip.dismiss (c : Chip) (k : Collar) (status : Nat) : Chip :=
  let req := k.img.requestId
  let c := c.purge req status
  let c := c.onWork (fun w => { w with pulls := dropWhere (fun (p : Pull) => p.requestId == req) w.pulls,
                                       slotWait := dropWhere (fun r => r == req) w.slotWait })
  let c := match k.place.node with
    | some d => if d = c.deviceId then c else c.sendCtrl d req k.img.placement 0 status
    | none => c
  let holder := if k.img.lcState = lcPaused ∧ !k.img.summaryOnly then some k.img.homeDevice else k.place.holder
  match holder with
  | some d => if d = c.deviceId ∨ k.place.node = some d then c else c.sendCtrl d req k.img.placement 0 status
  | none => c

/-- R230, R241: the request is ENDED with a status: counted, an error logged, its adapter reference
given back (R219). -/
def Chip.countEnd (c : Chip) (k : Collar) (status : Nat) : Chip :=
  if status = stOk then c.bump (Reg.reqCnt 2)
  else if status = stAborted then c.bump (Reg.reqCnt 4)
  else (c.bump (Reg.reqCnt 3)).log
    { code := 0x040D, refKind := 1, ref := k.img.requestId, part := k.img.part, param0 := status }

/-- R230: the collar of an ENDED request. -/
def Collar.asEnded (k : Collar) (status : Nat) : Collar :=
  { (k.onImg (fun m => { m with lcState := lcEnded, endStatus := status })) with
    place := .idle, pausing := false, rebuild := false, silence := false, ahead := [] }

/-- R230: the request is ENDED, and its ring entry owes HL_MSG_ENDED. -/
def Chip.finish (c : Chip) (k : Collar) (status : Nat) : Chip :=
  ((c.setCollar (k.asEnded status)).countEnd k status).ringUpd k.img.port k.img.requestId
    (fun e => { e with ended := true })

/-- An active or paused request ends: its phases elsewhere are released first. -/
def Chip.endReq (c : Chip) (req status : Nat) : Chip :=
  match c.collar req with
  | none => c
  | some k => if k.img.lcState = lcEnded then c else (c.dismiss k status).finish k status

/-- R258, R495: a collar that is read and whose lines return an uncorrectable error is lost: its request ends with
ST_STATE_LOST (log entry 104: when a collar is read). -/
def Chip.readCollar (c : Chip) (req : Nat) : Chip :=
  match c.collar req with
  | none => c
  | some k =>
    if c.collarsInT2 && (c.collarRanges k).any (fun r => c.lineBad 2 r.1 r.2) then
      (((c.bump (Reg.movCnt 13)).eccBad 2).log { code := 0x0802, refKind := 1, ref := req, part := k.img.part }).endReq req stStateLost
    else c

/-- R230, R375, R385: a request of a port whose session is over ends with ST_LINK_DOWN and no message;
its collar is freed at once. -/
def Chip.endLinkDown (c : Chip) (k : Collar) : Chip :=
  let c := if k.img.lcState = lcEnded then c else (c.dismiss k stLinkDown).countEnd k stLinkDown
  (c.ringDrop k.img.port k.img.requestId).freeCollar k.img.requestId

/-- The live requests of a port that are not ENDED. -/
def Chip.portCollars (c : Chip) (p : Nat) : List Collar := c.work.collars.filter (fun k => k.img.port == p)

/-- R231, R266: the request enters PAUSED. -/
def Chip.enterPaused (c : Chip) (k : Collar) : Chip :=
  (c.setCollar { (k.setLc lcPaused) with pausing := false, silence := false, rebuild := false, ahead := [],
                                         place := .idle }).bump (Reg.reqCnt 9)

/-! Placing a phase (R14, R233, R248). -/

/-- The targets of a phase in the order of R14: this device first when its role accepts the phase. -/
def Chip.targets (c : Chip) (part : Nat) (prompt : Bool) (skip : Option Nat) : List Nat :=
  let list := ((c.decl part).map (fun d => if prompt then d.prompts else d.gens)).getD []
  let self := if c.roleAccepts prompt then [c.deviceId] else []
  (self ++ list.filter (fun d => d != c.deviceId)).filter (fun d => some d != skip)

/-- R233: the placements an admission point may hold. -/
def Chip.placeMax (c : Chip) (part : Nat) : Nat := c.fld (Reg.partAdmitCtrl part) 63 48

/-- R233, R260: the placements an admission point holds, those reserved for handoffs among them. -/
def Chip.pointLoad (c : Chip) (part engine : Nat) : Nat :=
  let decode := ((c.plan part false 1).map PlanD.engine).getD 0
  (c.point part engine).size +
    (if engine = decode then (c.work.dst.filter (fun d => d.part == part && d.kind == 0)).length else 0)

/-- R10, R216, R233: the status with which this device answers a placement; ST_OK accepts it. -/
def Chip.placeStatus (c : Chip) (part engine : Nat) (prompt : Bool) : Nat :=
  if !c.roleAccepts prompt then stUnsupported
  else if c.partRefusal part ≠ stOk then c.partRefusal part
  else if c.placeMax part ≤ c.pointLoad part engine then stPartFull
  else if !c.work.slotWait.isEmpty || c.freeSlot.isNone then stPartFull
  else stOk

/-- R233: a placement refused for want of a slot is counted. -/
def Chip.countSlot (c : Chip) : Chip :=
  if !c.work.slotWait.isEmpty || c.freeSlot.isNone then c.bump (Reg.reqCnt 11) else c

/-- R219, R248: whether the device holds the version a request is bound to. -/
def Chip.holdsVersion (c : Chip) (part adapter ver : Nat) : Bool :=
  ver == 0 || (c.versionSlot part adapter ver).isSome

/-- R207, R248, R268: a placement accepted on this device: the sequence takes its slot and joins its
admission point, or starts the restore of its sleeve. -/
def Chip.acceptPlace (c : Chip) (m : CollarImg) (prompt : Bool) (holder : Option Nat) (anchor silence : Nat) : Chip :=
  match c.freeSlot with
  | none => c
  | some slot =>
    let c := match (c.moveSrc m.requestId).filter (fun x => x.kind == 1) with
      | some x => c.abortMove x stAborted
      | none => c
    let c := match c.seq m.requestId with
      | some s => if s.phase == SeqPhase.hold && holder == some c.deviceId then (c.storeLocal s).getD c else c
      | none => c
    let c := c.releaseSleeve m.requestId
    let here := (c.stored? m.requestId).isSome
    let restore := match holder with
      | some d => d != c.deviceId || here
      | none => false
    let s := c.seqOf m prompt restore slot anchor silence
    let c := (c.onWork (fun w => { w with seqs := w.seqs ++ [s] })).refAdapter m.part m.adapter m.adapterVer
    if restore then
      match holder with
      | some d =>
        if d = c.deviceId then c
        else
          let ms := c.fld (Reg.movPartTier m.part) 35 28
          let c := c.onWork (fun w => { w with pulls := w.pulls ++
            [({ requestId := m.requestId, placement := m.placement, holder := d, part := m.part } : Pull)] })
          (c.sendNew (.part m.part) d 0 (.movePull
            { common := { requestId := m.requestId, placement := m.placement, moveId := 0, rsvd := 0 },
              deadline := ms * 225000, rsvd := 0 })).2
      | none => c
    else c.enqueueSeq s false

/-- The engine of the work a placed phase queues for. -/
def Chip.phaseEngine (c : Chip) (m : CollarImg) (prompt : Bool) : Nat :=
  let s := c.seqOf m prompt false 0 0 0
  c.seqEngine s

/-- R248: FAB_PKT_PHASE_PLACE of a collar to a node, in packets of at most 4,096 payload bytes. -/
def Chip.sendPlace (c : Chip) (k : Collar) (node : Nat) : Chip :=
  let p : PlacedPhase :=
    { source := if k.place.holder.isSome then 2 else 0, holder := k.place.holder.getD 0, silenceMs := c.fld Reg.movPhaseTimers 15 0,
      tokenLog := c.logPlace k, collar := k.img }
  let bs := placeBytes p
  let bodies := ((chunksOf 4072 (bs.length + 1) bs).zipIdx).map (fun x => FabBody.phasePlace
    { common := { requestId := k.img.requestId, placement := k.img.placement, moveId := 0, rsvd := 0 }, pktIndex := x.2, data := x.1,
      rsvd := 0 })
  let (id, c) := c.nextMsgId
  let c := c.sendPkts (.part k.img.part) (c.header node 1 id 0 (bodies.headD .ccEcho)) none bodies
  match c.collar k.img.requestId with
  | some k => c.setCollar { k with place := { k.place with msg := id } }
  | none => c

/-- R14: try the targets that are left until one accepts here or is asked; when every entry has
refused, the request ends with ST_PARTITION_FULL. -/
def placeNext : Nat → Chip → Nat → Chip
  | 0, c, _ => c
  | fuel + 1, c, req =>
    match c.collar req with
    | none => c
    | some k =>
      match k.place.left with
      | [] => c.endReq req stPartFull
      | d :: rest =>
        let k := { k with place := { k.place with left := rest, node := none, waiting := false } }
        if d = c.deviceId then
          let st := c.placeStatus k.img.part (c.phaseEngine k.img k.prefill) k.prefill
          if st = stOk then
            let k := { (if k.place.holder.isSome then k else k.onImg (fun m => { m with homeDevice := d })) with
                       place := { k.place with node := some d, left := [] }, silence := false }
            let c := (c.setCollar k).acceptPlace k.img k.prefill k.place.holder d (c.fld Reg.movPhaseTimers 15 0)
            match (c.seq req).filter (fun _ => k.pausing) with
            | some s => c.setSeq { s with pausePend := true }
            | none => c
          else
            let c := if st = stPartFull then c.countSlot else c
            placeNext fuel (c.setCollar k) req
        else
          (c.setCollar { k with place := { k.place with node := some d, waiting := true } }).sendPlace
            { k with place := { k.place with node := some d, waiting := true } } d

/-- R14: place the phase of a request: its prompt phase while its prompt pass has still to sample. -/
def Chip.placePhase (c : Chip) (req : Nat) (holder skip : Option Nat) : Chip :=
  let c := c.readCollar req
  match (c.collar req).filter (fun k => decide (k.img.lcState < lcPaused)) with
  | none => c
  | some k =>
    let l := c.targets k.img.part k.prefill skip
    placeNext (l.length + 1)
      (c.setCollar { k with place := { node := none, waiting := false, left := l, holder := holder, skip := skip, msg := 0 } }) req

/-- R14: the target asked has refused: the next one is tried. -/
def Chip.placeRefused (c : Chip) (k : Collar) : Chip :=
  placeNext (k.place.left.length + 1) (c.setCollar { k with place := { k.place with waiting := false } }) k.img.requestId

/-- R181, R263, R218: the phase is placed again with a new placement number. -/
def Chip.replace (c : Chip) (k : Collar) (skip : Option Nat) : Chip :=
  let k := { k.nextPlacement with silence := false, rebuild := false }
  let k := if k.img.lcState = lcHandoff then k.setLc lcDecode else k
  (c.setCollar k).placePhase k.img.requestId none skip

/-- R241, R263: the anchor's silence timer expires. A pause that waits goes on waiting, on the node that takes the phase. -/
def silenceLimit (c : Chip) (req : Nat) : Chip :=
  match c.collar req with
  | none => c
  | some k =>
    if k.silence && decide (k.img.lcState ≤ lcDecode) then
      match k.place.node with
      | some d =>
        let c := c.sendCtrl d req k.img.placement 0 stTimeout
        let c := if k.img.lcState = lcDecode then c.bump (Reg.reqCnt 6) else c
        (c.log { code := 0x040C, refKind := 1, ref := req, part := k.img.part }).replace k (some d)
      | none => c
    else c

/-! Tokens (R21, R228, R229). -/

/-- R229: the status with which a token stops its request; none when it does not. `last` says that
`MAX_NEW` allows no more, `atEnd` that its position is `CTX_LIMIT` - 1. -/
def stopOf (stop : List Nat) (eos : Option Nat) (tok : Nat) (last atEnd : Bool) : Option Nat :=
  if stop.contains tok || eos == some tok || last then some stOk
  else if atEnd then some stContext else none

/-- R213: newly committed positions take their classes in the run list. -/
def commitRuns (runs : List (Nat × Bool)) (oldC newC : Nat) (gen : Bool) : List (Nat × Bool) :=
  if oldC < newC then addRun runs oldC gen else runs

/-- R21, R228: one token emitted: written to the log, entered into the ring entry, and checked
against R229. -/
def Chip.emitToken (c : Chip) (k : Collar) (t : Nat × Bool) : Option Nat × Collar :=
  let m := k.img
  let pos := m.log.length
  let eos := if m.stopEos then (c.model m.part false).map ModelImage.eosToken else none
  let lim := c.ctxLimit m.part
  let st := stopOf (m.stop.take m.nStop) eos t.1 (m.maxNew ≤ 1) (pos + 1 == lim)
  let m := { m with log := m.log ++ [(t.1, false)], lastEmitted := k.emitted, maxNew := m.maxNew - 1,
                    committed := pos, runs := commitRuns m.runs m.committed pos (!k.prefill) }
  (st, { k with img := m, gens := k.gens ++ [t], prefill := false })

/-- R21: what became of a reported token. -/
inductive TokRes where
  | fine | stopped (status : Nat) | mismatch
  deriving DecidableEq, Repr

/-- R21: tokens that wait above the next index are emitted as soon as every lower one is. -/
def drainAhead : Nat → Chip → Collar → TokRes × Collar
  | 0, _, k => (.fine, k)
  | n + 1, c, k =>
    match k.ahead.find? (fun a => a.1 == k.emitted) with
    | none => (.fine, k)
    | some a =>
      let k := { k with ahead := dropWhere (fun b => b.1 == a.1) k.ahead }
      match c.emitToken k a.2 with
      | (some st, k) => (.stopped st, k)
      | (none, k) => drainAhead n c k

/-- R21: one reported token: compared, emitted, or kept until its turn. -/
def Chip.reportToken (c : Chip) (k : Collar) (i : Nat) (t : Nat × Bool) : TokRes × Collar × Chip :=
  if i < k.emitted then
    let c := c.bump (Reg.reqCnt 8)
    if (k.gens.getD i (0, false)).1 = t.1 then (.fine, k, c) else (.mismatch, k, c)
  else if i = k.emitted then
    match c.emitToken k t with
    | (some st, k) => (.stopped st, k, c)
    | (none, k) =>
      let (r, k) := drainAhead k.ahead.length c k
      (r, k, c)
  else (.fine, { k with ahead := dropWhere (fun b => b.1 == i) k.ahead ++ [(i, t)] }, c)

/-- The tokens of a report, in index order, up to the one that stops the request. -/
def Chip.reportTokens (c : Chip) (k : Collar) : Nat → List (Nat × Bool) → TokRes × Collar × Chip
  | _, [] => (.fine, k, c)
  | i, t :: ts =>
    match c.reportToken k i t with
    | (.fine, k, c) => c.reportTokens k (i + 1) ts
    | r => r

/-- R229: a stopped request: DONE, or PAUSED under `KEEP` when it would end with ST_OK. -/
def Chip.stopReq (c : Chip) (k : Collar) (status : Nat) : Chip :=
  let k := { k with final := true, endWith := status, ahead := [], silence := false }
  let c := c.ringUpd k.img.port k.img.requestId id
  if k.img.keep && status == stOk then c.enterPaused k else c.setCollar { (k.setLc lcDone) with pausing := false }

/-- R21, R228, R229: tokens reported for the current placement of a request. -/
def Chip.anchorTokens (c : Chip) (req first : Nat) (toks : List (Nat × Bool)) : Chip :=
  let c := c.readCollar req
  match (c.collar req).filter (fun k => k.img.lcState != lcEnded) with
  | none => c
  | some k =>
    match c.reportTokens k first toks with
    | (.fine, k, c) =>
      let c := c.setCollar k
      if k.sent < k.emitted then c.ringUpd k.img.port req id else c
    | (.stopped st, k, c) => c.stopReq k st
    | (.mismatch, k, c) => (c.setCollar k).endReq req stRecompute

/-- R213: positions of the prompt class committed by a prompt pass that has not sampled yet. -/
def Chip.anchorCommitted (c : Chip) (req n : Nat) : Chip :=
  match c.collar req with
  | none => c
  | some k =>
    if k.prefill && decide (k.img.committed < n) && decide (n ≤ k.img.log.length) then
      c.setCollar (k.onImg (fun m => { m with committed := n, runs := commitRuns m.runs m.committed n false }))
    else c

/-- R229: the values of a one-pass request; it enters DONE. -/
def Chip.anchorResult (c : Chip) (req : Nat) (values : List W32) : Chip :=
  match c.collar req with
  | none => c
  | some k =>
    let k := { k with values := values, endWith := stOk, pausing := false, silence := false }
    let c := c.ringUpd k.img.port req (fun e => { e with result := true })
    if k.img.keep then c.enterPaused k else c.setCollar (k.setLc lcDone)

/-- R231: the home has freed the sleeve of a request in DONE: it ends. -/
def Chip.anchorFreed (c : Chip) (req : Nat) : Chip :=
  match c.collar req with
  | none => c
  | some k => if k.img.lcState = lcDone then c.finish k k.endWith else c

/-! Requests from the host (R225 to R231). -/

/-- R215: whether a port holds `ACCESS` for a partition. -/
def Chip.hasAccess (c : Chip) (port part : Nat) : Bool :=
  c.isOwner port || (c.reg (Reg.secHostAccess part)).toNat.testBit (2 * port)

/-- R215: whether a port holds `ADAPTER_ADMIN` for a partition. -/
def Chip.hasAdmin (c : Chip) (port part : Nat) : Bool :=
  c.isOwner port || (c.reg (Reg.secHostAccess part)).toNat.testBit (2 * port + 1)

/-- R222: the version an admission binds, or the status that refuses it. -/
def Chip.bindAdapter (c : Chip) (part adapter : Nat) : Nat × Nat :=
  if adapter = 0xFFFF then (stOk, 0)
  else
    match c.adapterSlots part adapter [2] with
    | s :: _ =>
      if c.work.lostSlots.contains s then (stWeightLost, 0)
      else (stOk, c.fld (Reg.adapterSlot s 0) 63 32)
    | [] =>
      if !(c.adapterSlots part adapter [3]).isEmpty ||
          c.work.installs.any (fun i => i.part == part && i.adapter == adapter && i.drained) then (stBusy, 0)
      else (stAdapterUnknown, 0)

/-- R224, R196: whether the body of an admission breaks its rules, given the vocabulary size. -/
def admitBad (b : AdmitBody) (vocab : Option Nat) : Bool :=
  b.rsvd != 0 || b.customer ≥ 4096 || decide (8 < b.nStop) || b.promptLen == 0 || decide (2 ^ 20 < b.promptLen) ||
    (if b.onePass then b.maxNew != 0 else b.maxNew == 0 || decide (2 ^ 20 ≤ b.maxNew)) ||
    (b.stop.drop b.nStop).any (fun t => t != 0) || b.prompt.length != b.promptLen ||
    b.prompt.any (fun t => t.rsvd != 0) ||
    sampleBad (sampleBlockOf (b.samp.getD 0 0#64) (b.samp.getD 1 0#64) (b.samp.getD 2 0#64) (b.samp.getD 3 0#64)) ||
    (match vocab with | some v => b.prompt.any (fun t => decide (v ≤ t.tok)) | none => false)

/-- R225: the checks of an admission, in order. -/
def Chip.admitStatus (c : Chip) (port : Nat) (b : AdmitBody) : Nat :=
  let m := c.model b.part false
  let pol := c.applied (Reg.tenPolicy b.customer)
  let lim := c.ctxLimit b.part
  let plan6 := c.plan b.part false 6
  if c.boot.img.isNone then stNotReady
  else if admitBad b (m.map ModelImage.vocab) then stMalformed
  else if !c.hasAccess port b.part then stDenied
  else if c.partRefusal b.part ≠ stOk then c.partRefusal b.part
  else if b.onePass && plan6.isNone then stUnsupported
  else if (if b.onePass then decide (lim < b.promptLen) else decide (lim ≤ b.promptLen)) then stContext
  else if b.onePass && (c.layers b.part false).any (fun l => l.mask == 2) &&
      decide (((plan6.map PlanD.maxBands).getD 0) * 128 < b.promptLen) then stContext
  else if !bitOf pol 0 || !(fieldOf pol 63 48).testBit b.part then stDenied
  else if (c.bindAdapter b.part b.adapter).1 ≠ stOk then (c.bindAdapter b.part b.adapter).1
  else if fieldOf pol 47 32 ≤ (c.work.collars.filter (fun k =>
      k.img.customer == b.customer && k.img.lcState == lcAdmitted)).length then stBudget
  else if c.collarRegion.1 ≤ c.work.collars.length ||
      (c.allocLog (logUnitsOf (min (b.promptLen + b.maxNew) lim))).isNone then stNoSlot
  else stOk

/-- R225: the collar an accepted admission writes. -/
def Chip.newCollar (c : Chip) (port : Nat) (b : AdmitBody) (req ver off units : Nat) : Collar :=
  { img :=
      { requestId := req, hostTag := b.hostTag, part := b.part, customer := b.customer, adapter := b.adapter,
        adapterVer := ver, lcState := lcAdmitted, onePass := b.onePass, keep := b.keep, stopEos := b.stopEos,
        summaryOnly := false, port := port, nStop := b.nStop, placement := 0, homeDevice := c.deviceId,
        endStatus := 0, committed := 0, lastEmitted := 0xFFFFFFFF, maxNew := b.maxNew, promptLen := b.promptLen,
        startTime := c.time, lastEmitTime := 0, samp := b.samp, stop := b.stop, runs := [(0, false)],
        log := b.prompt.map (fun t => (t.tok, t.pad)) },
    cslot := (leastFree c.collarRegion.1 (c.work.collars.map Collar.cslot)).getD 0, logOff := off, logUnits := units, ahead := [], place := .idle, pausing := false, rebuild := false,
    silence := false, first := true, resumeAt := [], prefill := true, endWith := 0, sent := 0, final := false,
    values := [], gens := [] }

/-- R369, R381: the ACK of an admit or a resume that names a collar: the collar's entry of its port's ring owes it. -/
def Chip.oweAck (c : Chip) (port req tag status : Nat) : Chip :=
  c.ringUpd port req (fun e => { e with ack := e.ack ++ [(tag, status)] })

/-- HL_MSG_ADMIT (R225). -/
def admitHost (c : Chip) (port : Nat) (b : AdmitBody) : Chip :=
  let st := c.admitStatus port b
  if st ≠ stOk then (c.bump (Reg.reqCnt 1)).ackIn port 2 b.hostTag 0 st 0
  else
    let lim := c.ctxLimit b.part
    let units := logUnitsOf (min (b.promptLen + b.maxNew) lim)
    let off := (c.allocLog units).getD 0
    let n := c.nextLocal (c.work.collars.length + 1) c.work.localNum
    let req := c.deviceId * 2 ^ 48 + n
    let ver := (c.bindAdapter b.part b.adapter).2
    let k := c.newCollar port b req ver off units
    let c := (c.onWork (fun w => { w with localNum := n, collars := w.collars ++ [k] })).collarWritten k
    let c := (c.refAdapter b.part b.adapter ver).bump (Reg.reqCnt 0)
    (c.oweAck port req b.hostTag stOk).placePhase req none none

/-- R226, R378: whether a port may control a request: the owner port, or the port that admitted it while it has `ACCESS`. -/
def Chip.mayControl (c : Chip) (port : Nat) (k : Collar) : Bool :=
  c.isOwner port || (k.img.port == port && c.hasAccess port k.img.part)

/-- A request-control message answered: on the live collar it names and its port may control, else
ST_ACCESS_DENIED (R226), in the class of its ACK (R369). -/
def Chip.onCollar (c : Chip) (port hc tag req : Nat) (f : Chip → Collar → Chip) : Chip :=
  match c.collar req with
  | some k =>
    if c.mayControl port k then
      let c := c.readCollar req
      f c ((c.collar req).getD k)
    else c.ackIn port hc tag req stDenied 0
  | none => c.ackIn port hc tag req stDenied 0

/-- R227: the class runs a resume needs. -/
def runsNeeded (k : Collar) (prefill : Bool) : Nat :=
  let lastGen := ((k.img.runs.getLast?).map Prod.snd).getD false
  if prefill then (if lastGen then 2 else 1) else if lastGen then 0 else 1

/-- R227: the checks of a resume of a PAUSED request, in order. -/
def Chip.resumeStatus (c : Chip) (k : Collar) (b : ResumeBody) (prefill : Bool) : Nat :=
  let m := k.img
  let lim := c.ctxLimit m.part
  if c.partRefusal m.part = stOk ∧ lim ≤ m.log.length + b.nAppend then stContext
  else if 256 < m.runs.length + runsNeeded k prefill then stContext
  else if c.partRefusal m.part ≠ stOk then c.partRefusal m.part
  else if !c.holdsVersion m.part m.adapter m.adapterVer then stNotReady
  else if (c.allocLog (logUnitsOf (min (m.log.length + b.nAppend + b.maxNew) lim))).isNone then stNoSlot
  else stOk

/-- R226: whether a resume body breaks its rules. -/
def resumeBad (b : ResumeBody) : Bool :=
  b.rsvd != 0 || decide (2 ^ 20 < b.nAppend) || b.maxNew == 0 || decide (2 ^ 20 ≤ b.maxNew) ||
    b.append.length != b.nAppend || b.append.any (fun t => t.rsvd != 0)

/-- HL_MSG_RESUME (R227, R231). R378: its ACK goes to the collar's port; one that names no collar its sender may control is answered
to its sender. -/
def resume (c : Chip) (port : Nat) (b : ResumeBody) : Chip :=
  if resumeBad b && !(c.collar b.requestId).any (c.mayControl port) then c.ackIn port 2 b.hostTag b.requestId stMalformed 0
  else c.onCollar port 2 b.hostTag b.requestId (fun c k =>
    let no := fun (c : Chip) (st : Nat) => c.oweAck k.img.port b.requestId b.hostTag st
    if resumeBad b then no c stMalformed
    else if k.img.lcState ≠ lcPaused then no c stBusy
    else
      let prefill := decide (0 < b.nAppend) || k.img.summaryOnly || k.prefill
      let st := c.resumeStatus k b prefill
      if st ≠ stOk then no c st
      else
        let m := k.img
        let lim := c.ctxLimit m.part
        let units := logUnitsOf (min (m.log.length + b.nAppend + b.maxNew) lim)
        let off := (c.allocLog units).getD 0
        let pend := if prefill && !k.prefill then 1 else 0
        let m2 := { m with log := m.log ++ b.append.map (fun t => (t.tok, t.pad)), maxNew := b.maxNew,
                           startTime := c.time, promptLen := m.promptLen + b.nAppend + pend,
                           lcState := if prefill then lcPrefill else lcDecode, summaryOnly := false }
        let k2 := ({ k with img := m2, logOff := off, logUnits := units, first := true, prefill := prefill,
                            resumeAt := k.resumeAt ++ [(k.emitted, k.final)], final := false } : Collar).nextPlacement
        let c := ((c.setCollar k2).collarWritten k2).oweAck m.port m.requestId b.hostTag stOk
        c.placePhase m.requestId (if m.summaryOnly then none else some m.homeDevice) none)

/-- HL_MSG_QUERY (R231): answered with HL_MSG_STATE. -/
def query (c : Chip) (port : Nat) (b : ReqBody) : Chip :=
  c.onCollar port 0 b.hostTag b.requestId (fun c k =>
    let m := k.img
    c.hlSend port 0 (.state b.hostTag m.requestId m.lcState m.summaryOnly m.endStatus m.placement m.homeDevice
      m.committed m.lastEmitted))

/-- Whether a running step works on the request here, so that a pause, or a cancel in DECODE or in a
recompute, waits for its COMMIT (R188, R205). -/
def Chip.runningHere (c : Chip) (req : Nat) : Option Seq := (c.seq req).bind (fun s => if s.running then some s else none)

/-- R188, R205: whether a cancel waits for the COMMIT of the step that runs a sequence: that of a speculative round or of
a recompute. -/
def Chip.cancelWaits (c : Chip) (s : Seq) : Bool :=
  s.running && (c.work.steps.any (fun t => t.segs.any (fun g => g.requestId == s.requestId && (g.work == Work.round || g.work == Work.recompute))))

/-- HL_MSG_CANCEL (R231). -/
def cancel (c : Chip) (port : Nat) (b : ReqBody) : Chip :=
  c.onCollar port 0 b.hostTag b.requestId (fun c k =>
    let c := c.ack port b.hostTag b.requestId stOk 0
    if lcDone ≤ k.img.lcState then c
    else
      match c.runningHere b.requestId with
      | some s =>
        if c.cancelWaits s then c.setSeq { s with cancelPend := true }
        else c.endReq b.requestId stAborted
      | none => c.endReq b.requestId stAborted)

/-- R231, R266: a request with no sleeve anywhere is PAUSED as a summary. -/
def Chip.pauseBare (c : Chip) (k : Collar) : Chip :=
  let c := c.dismiss k stOk
  c.enterPaused (k.onImg (fun m => { m with summaryOnly := true }))

/-- R231, R247: a pause of a request whose phase runs on this device: at once, or with the running
step's COMMIT or the end of a restore; while its handoff is offered, with the next COMMIT of its prompt pass, or with the
move's end once that pass is over. -/
def Chip.pauseHere (c : Chip) (k : Collar) (s : Seq) : Chip :=
  if s.running || s.phase == .restoring then
    (c.setSeq { s with pausePend := true }).setCollar { k with pausing := true }
  else if (c.moveSrc s.requestId).isSome then
    (c.setSeq { s with pausePend := s.phase != SeqPhase.hold }).setCollar { k with pausing := true }
  else
    -- the sleeve is stored; the request is PAUSED
    (c.enterPaused k).pauseStore s

/-- HL_MSG_PAUSE (R231). -/
def pause (c : Chip) (port : Nat) (b : ReqBody) : Chip :=
  c.onCollar port 0 b.hostTag b.requestId (fun c k =>
    let c := c.ack port b.hostTag b.requestId stOk 0
    if lcPaused ≤ k.img.lcState || k.pausing then c
    else if k.img.lcState = lcAdmitted then c.pauseBare k
    else
      match c.seq b.requestId with
      | some s => c.pauseHere k s
      | none =>
        match k.place.node with
        | some d =>
          if k.place.waiting then
            if k.place.holder.isSome then c.enterPaused k else c.pauseBare k
          else if d = c.deviceId then c.pauseBare k
          else (c.setCollar { k with pausing := true }).sendCtrl d b.requestId k.img.placement 1 stOk
        | none => c.pauseBare k)

/-! Reports (R20, R21, R263, R264). -/

/-- R262: the anchor handles a prompt node's report of token 0. -/
def Chip.promptDone (c : Chip) (k : Collar) (src next : Nat) : Chip :=
  if next = 2 then
    let k := (k.nextPlacement).setLc lcHandoff
    (c.setCollar k).sendCtrl src k.img.requestId k.img.placement 2 stOk
  else c.setCollar (k.setLc lcDecode)

/-- R264: whether a report is a repeated copy of a `NEXT` 2 report. -/
def repeatedNext (k : Collar) (b : ReportBody) : Bool :=
  b.kind == 1 && b.next == 2 && wrapSucc 16 b.common.placement == k.img.placement &&
    (k.img.lcState == lcHandoff || k.img.lcState == lcDecode)

/-- R263: a report of the current placement restarts the silence timer, except a heartbeat with
ST_BUSY, and except while a token gap is open (R21). -/
def Chip.heard (c : Chip) (req : Nat) (b : ReportBody) : Chip :=
  match c.collar req with
  | none => c
  | some k =>
    let other := match k.place.node with | some d => d != c.deviceId | none => false
    if (b.kind == 0 && b.status == stBusy) || !k.ahead.isEmpty || lcPaused ≤ k.img.lcState || k.place.waiting ||
        !other || k.img.placement != b.common.placement then c
    else c.setCollar { k with silence := true }

/-- R262, R266, R268: a node has become home of the sleeve. -/
def Chip.homeTaken (c : Chip) (k : Collar) (src : Nat) : Chip :=
  let paused := k.img.lcState = lcPaused
  let k := k.onImg (fun m => { m with homeDevice := src })
  if paused then c.setCollar k
  else
    let moved := k.img.lcState = lcHandoff
    let k := { (if moved then k.setLc lcDecode else k) with
               place := { k.place with node := some src, holder := none }, silence := src != c.deviceId }
    let c := c.setCollar k
    if k.pausing && moved then
      if src = c.deviceId then
        match c.seq k.img.requestId with
        | some s => c.pauseHere k s
        | none => c
      else c.sendCtrl src k.img.requestId k.img.placement 1 stOk
    else c

/-- R181, R248, R260, R263: a report of the current placement of an active request. A node that gives up its phase for want of frames
(R181) and a source of a handoff that no target takes (R260) send the same report: in DECODE the phase is placed again, before it
the request ends (DEDUCED, log entry 101). -/
def Chip.takeReport (c : Chip) (k : Collar) (src : Nat) (b : ReportBody) : Chip :=
  let req := k.img.requestId
  if k.place.waiting ∧ k.place.node = some src ∧ b.kind = 5 then c.placeRefused k
  else if b.kind = 0 then
    if k.place.waiting then
      let k := { k with place := { k.place with waiting := false, left := [] }, silence := true }
      let k := if k.place.holder.isSome then k else k.onImg (fun m => { m with homeDevice := src })
      let c := c.setCollar (if k.img.lcState = lcAdmitted then k.setLc lcPrefill else k)
      if k.pausing then c.sendCtrl src req k.img.placement 1 stOk else c
    else c.anchorCommitted req b.committed
  else if b.kind = 1 then
    let pre := k.prefill
    let c := c.anchorTokens req b.firstIndex b.tokens
    match c.collar req with
    | none => c
    | some k =>
      if pre && decide (k.img.lcState = lcPrefill) && b.next != 0 then c.promptDone k src b.next
      else if pre && b.next == 2 then
        -- token 0 stopped the request: the source frees the sleeve when it is told
        c.sendCtrl src req k.img.placement 0 stOk
      else c
  else if b.kind = 2 then c.homeTaken k src
  else if b.kind = 3 then c.anchorFreed req
  else if b.kind = 4 then
    if k.img.lcState = lcPaused then c.setCollar (k.onImg (fun m => { m with summaryOnly := true })) else c
  else if b.kind = 5 then
    if k.img.lcState = lcPaused ∨ lcDone ≤ k.img.lcState then c
    else if b.status = stOk then c.enterPaused k
    else if b.status = stPartFull ∧ k.img.lcState = lcDecode then c.replace k (some src)
    else if b.status = stReset then c.replace k none
    else c.endReq req b.status
  else c.anchorResult req b.values

/-- FAB_PKT_PHASE_REPORT at the anchor (R20, R21, R263, R264). -/
def phaseReport (c : Chip) (h : FabHdr) (b : ReportBody) : Chip :=
  let req := b.common.requestId
  let b := { b with status := statusOf b.status }
  let running := b.kind == 0 || b.kind == 1 || b.kind == 6
  match c.collar req with
  | none => if running then c.sendCtrl h.src req b.common.placement 0 stOk else c
  | some k =>
    if k.img.placement ≠ b.common.placement then
      if repeatedNext k b then
        let c := c.sendCtrl h.src req k.img.placement 2 stOk
        c.anchorTokens req b.firstIndex b.tokens
      else
        let c := c.bump (Reg.reqCnt 7)
        if running then c.sendCtrl h.src req b.common.placement 0 stOk else c
    else if running && (k.img.lcState == lcPaused || k.img.lcState == lcEnded) then
      c.sendCtrl h.src req b.common.placement 0 stOk
    else if k.img.lcState = lcEnded then c
    else (c.takeReport k h.src b).heard req b

end Sys2Proof.Machine
end

