-- ==== Sys2Proof/Machine/Rma.lean ====
section
/-!
DEFINITION. The remote memory engine as a sender (R341 to R363): the places of the tiers, grants and
their revocation, issuing and settling operations, timeouts and retries, keys, and work request
lists.
-/
namespace Sys2Proof.Machine

/-! Tier addresses (R342; log entry 16: where the shares lie). -/

/-- The bytes of one bonded stack. -/
def stackBytes : Nat := 48 * 2 ^ 30

/-- The bytes of the hub's T1 share in each stack (R211). -/
def hubShare : Nat := 2 ^ 30

/-- The T1 share of a partition in a quadrant: address and bytes. -/
def Chip.t1Share (c : Chip) (p q : Nat) : Nat × Nat :=
  let mib := fun (k : Nat) => match c.decl k with
    | some d => if d.quadMask.testBit q then d.t1Mib.getD q 0 else 0
    | none => 0
  (q * stackBytes + hubShare + 2 ^ 20 * sumN ((upTo p).map mib), 2 ^ 20 * mib p)

/-- R342: whether a range lies in a partition's share of a tier. -/
def Chip.inShare (c : Chip) (p tier base len : Nat) : Bool :=
  let fits := fun (s : Nat × Nat) => decide (s.1 ≤ base) && decide (base + len ≤ s.1 + s.2)
  if tier = 1 then (upTo 4).any (fun q => fits (c.t1Share p q))
  else if tier = 2 then fits (c.t2Share p) else false

/-- R343: whether the power domains of a range of a tier are UP. -/
def Chip.tierUp (c : Chip) (tier addr len : Nat) : Bool :=
  if tier = 2 then c.domUp 5
  else (upTo 4).all (fun q => c.domUp (16 + q) || decide (addr + len ≤ q * stackBytes) || decide ((q + 1) * stackBytes ≤ addr))

/-- The memory of a tier. -/
def Chip.tier (c : Chip) (tier : Nat) : Mem := if tier = 2 then c.work.t2 else c.work.t1

/-- The memory of a tier replaced. -/
def Chip.setTier (c : Chip) (tier : Nat) (m : Mem) : Chip :=
  c.onWork (fun w => if tier = 2 then { w with t2 := m } else { w with t1 := m })

/-- A region of the table (R342). -/
structure Region where
  valid  : Bool
  tier   : Nat
  encOnly : Bool
  move   : Bool
  part   : Nat
  base   : Nat
  length : Nat
  deriving DecidableEq, Repr

/-- R342: the words of a region read. -/
def regionOf (w0 w1 : W64) : Region :=
  ⟨bitOf w0 63, fieldOf w0 62 61, bitOf w0 60, bitOf w0 59, fieldOf w0 58 55, fieldOf w0 47 0, fieldOf w1 47 0⟩

/-- A region of this device. -/
def Chip.region (c : Chip) (r : Nat) : Region := regionOf (c.reg (Reg.rmaRegion r 0)) (c.reg (Reg.rmaRegion r 1))

/-- Bytes of a region. -/
def Chip.regionRead (c : Chip) (g : Region) (off len : Nat) : List Byte :=
  memReadBytes (c.tier g.tier) (g.base + off) len

/-- Bytes written to a region. -/
def Chip.regionWrite (c : Chip) (g : Region) (off : Nat) (bs : List Byte) : Chip :=
  (c.clearMarks g.tier (g.base + off) bs.length).setTier g.tier (memWriteBytes (c.tier g.tier) (g.base + off) bs)

/-- R258, R343: an uncorrectable error of a tier under a region. -/
def Chip.tierBad (c : Chip) (r : Nat) : Chip :=
  ((c.bump (Reg.movCnt 13)).eccBad (c.region r).tier).log
    { code := 0x0802, refKind := 2, ref := c.deviceId * 2 ^ 48 + r * 2 ^ 36, part := (c.region r).part }

/-- R495: whether a range of a region touches a marked line. -/
def Chip.regionBad (c : Chip) (r off len : Nat) : Bool :=
  let g := c.region r
  c.lineBad g.tier (g.base + off) len

/-! Grants (R344, R345). -/

/-- Word 0 of a grant. -/
def Chip.grant (c : Chip) (g : Nat) : W64 := c.reg (Reg.rmaGrant g 0)

/-- The grants for (target, region) in one of some states. -/
def Chip.grantsFor (c : Chip) (target region : Nat) (states : List Nat) : List Nat :=
  (c.regs.filter (fun e => decide (0xE10000 ≤ e.1) && decide (e.1 < 0xE20000) && e.1 % 16 == 0 &&
    states.contains (fieldOf e.2 63 62) && fieldOf e.2 31 16 == target && fieldOf e.2 43 32 == region)).map
    (fun e => (e.1 - 0xE10000) / 16)

/-- R345: the grant that serves (target, region), or the status that refuses. -/
def Chip.findGrant (c : Chip) (target region : Nat) : Nat × Nat :=
  match c.grantsFor target region [1] with
  | g :: _ => (stOk, g)
  | [] => if (c.grantsFor target region [2, 3]).isEmpty then (stDenied, 0) else (stRevoked, 0)

/-- R344: the bit of word 0 that permits an operation. -/
def opPerm : OpKind → Nat
  | .load => 61 | .read => 61 | .store => 60 | .write => 60 | .atomic => 59 | .scatter => 59 | .cancel => 60 | .embRead => 61

/-- R345: the checks of a grant chosen by its index. -/
def Chip.grantStatus (c : Chip) (g part : Nat) (k : OpKind) : Nat :=
  let w := c.grant g
  let st := fieldOf w 63 62
  if st = 2 ∨ st = 3 then stRevoked
  else if st ≠ 1 then stDenied
  else if !(fieldOf w 15 0).testBit part then stDenied
  else if !bitOf w (opPerm k) then stDenied
  else stOk

/-- R347: whether the size and alignment of an operation are right. -/
def sizeOk (k : OpKind) (op off len : Nat) (enc : Bool) : Bool :=
  let lim := if enc then 16580608 else 16711680
  match k with
  | .load => off % 64 == 0
  | .store => decide (1 ≤ len) && decide (len ≤ 64)
  | .read => decide (1 ≤ len) && decide (len ≤ lim)
  | .write => decide (1 ≤ len) && decide (len ≤ lim)
  | .atomic => if op = 0 then off % 4 == 0 else if op = 3 then off % 16 == 0 else off % 8 == 0
  | _ => true

/-! Encryption (R363). -/

/-- R363: the status with which an encrypted send of `n` packets is refused here. -/
def Chip.encStatus (c : Chip) (pe : Option (Nat × Nat)) (n : Nat) : Nat :=
  match pe with
  | none => stOk
  | some (p, e) =>
    if !c.domUp 7 then stOffline
    else if (c.keyOf p e).isNone || !c.noncesLeft p e n then stDenied else stOk

/-! Sending (R347, R350). -/

/-- R350: the packets of a write: pieces cut to the data a packet carries. -/
def writePieces (lim : Nat) (parts : List (Nat × List Byte)) : List (Nat × List Byte) :=
  (parts.map (fun p =>
    ((chunksOf lim (p.2.length + 1) p.2).zipIdx).map (fun x => (p.1 + x.2 * lim, x.1)))).flatten

/-- R318: the class of an operation's packets by what it carries: sleeve and page data of moves in TC 1, second-source reads and
migration copies in TC 3, other memory traffic in TC 2. -/
def ownerTc : OpOwner → Nat
  | .move _ => 1
  | .second => 3
  | .migrate _ => 3
  | _ => 2

/-- R287, R350: the packet bodies of a pending operation. -/
def opBodies (o : PendOp) : List FabBody :=
  let extra := if o.enc.isSome then 32 else 0
  match o.kind, o.body with
  | .write, _ => ((writePieces (4080 - extra) o.parts).zipIdx).map (fun x =>
      .write { region := o.region, trigEn := o.trigger.isSome, pktIndex := x.2, trigger := o.trigger.getD 0, dstOffset := x.1.1,
               data := x.1.2, rsvd := 0 })
  | _, .embScatter b => (scatterPkts (4096 - extra) b).map .embScatter
  | _, b => [b]

/-- The packets of a pending operation leave for the target. R363: where an operation sent again can no longer be encrypted,
nothing leaves, and its timer ends it. -/
def Chip.sendOp (c : Chip) (o : PendOp) : Chip :=
  let bs := opBodies o
  if o.kind = .cancel then c.sendPkts (.part o.part) (c.header o.target 0 o.msgId 0 o.body) none bs
  else if c.encStatus o.enc bs.length ≠ stOk then c
  else c.sendPkts (.part o.part) (c.header o.target (ownerTc o.owner) o.msgId 0 (bs.headD o.body)) o.enc bs

/-- A pending operation by its message number. -/
def Chip.op? (c : Chip) (id : Nat) : Option PendOp := c.rma.ops.find? (fun o => o.msgId == id)

/-- A pending operation replaced. -/
def Chip.setOp (c : Chip) (o : PendOp) : Chip :=
  { c with rma := { c.rma with ops := updWhere (fun x => x.msgId == o.msgId) (fun _ => o) c.rma.ops } }

/-- A pending operation removed. -/
def Chip.dropOp (c : Chip) (id : Nat) : Chip :=
  { c with rma := { c.rma with ops := dropWhere (fun x => x.msgId == id) c.rma.ops } }

/-- The grant's count of unsettled operations (R356). -/
def Chip.unsettledOf (c : Chip) (g : Nat) : Nat := (assocGet c.rma.unsettled g).getD 0

/-- R356 step 3: a revocation completes when nothing is outstanding. -/
def Chip.revokeDone (c : Chip) (g : Nat) : Chip :=
  let w := c.grant g
  if fieldOf w 63 62 = 2 ∧ c.fld (Reg.rmaGrant g 1) 63 32 = 0 then
    let n := c.unsettledOf g
    let st := if n = 0 then stOk else stTimeout
    let rev := c.fld (Reg.rmaGrant g 1) 15 0
    let c := (c.setFld (Reg.rmaGrant g 0) 63 62 3).setFld (Reg.rmaGrant g 1) 31 16 st
    let c := { c with rma := { c.rma with unsettled := assocDel c.rma.unsettled g } }
    let c := (c.bump (Reg.rmaCnt 13)).log
      { code := 0x0E03, param0 := st, refKind := 2, ref := fieldOf w 31 16 * 2 ^ 48 + fieldOf w 43 32 * 2 ^ 36 }
    if rev = c.deviceId ∨ rev = 0xFFFF then c
    else (c.sendNew .device rev 0 (.revokeDone
      { target := fieldOf w 31 16, region := fieldOf w 43 32, status := st, unsettled := n, rsvd := 0 })).2
  else c

/-- R355: an operation under a grant settles. -/
def Chip.settle (c : Chip) (g : Nat) (unsettled : Bool) : Chip :=
  let c := c.setFld (Reg.rmaGrant g 1) 63 32 (c.fld (Reg.rmaGrant g 1) 63 32 - 1)
  let c := if unsettled then
      { c with rma := { c.rma with unsettled := assocPut c.rma.unsettled g (c.unsettledOf g + 1) } }
    else c
  c.revokeDone g

/-- R345, R347, R363: the checks of an operation of `n` packets under a grant, in order. -/
def Chip.opStatus (c : Chip) (g part : Nat) (k : OpKind) (op off len n : Nat) : Nat :=
  let w := c.grant g
  let enc := if bitOf w 58 then some (part, fieldOf w 57 50) else none
  let st := c.grantStatus g part k
  if st ≠ stOk then st
  else if !sizeOk k op off len enc.isSome then stMalformed
  else if !c.fabricUp then stOffline
  else c.encStatus enc n

/-- R345, R347: an operation refused by the sender's checks is counted; its status. Otherwise it is
issued: counted, outstanding under its grant, and sent. -/
def Chip.issue (c : Chip) (g part : Nat) (k : OpKind) (op off len : Nat) (body : FabBody)
    (parts : List (Nat × List Byte)) (trigger : Option Nat) (loc : Nat × Nat) (owner : OpOwner) : Nat × Chip :=
  let n := match k, body with
    | .write, _ => (writePieces 4048 parts).length
    | _, .embScatter b => (scatterPkts 4064 b).length
    | _, _ => 1
  let st := c.opStatus g part k op off len n
  if st ≠ stOk then (st, c.bump (Reg.rmaCnt 2))
  else
    let w := c.grant g
    let (id, c) := c.nextMsgId
    let needSeq := k = .atomic ∨ k = .scatter
    let seq := if needSeq then wrapSucc 32 c.rma.seq else c.rma.seq
    let tag := if k = .read then wrapSucc 32 c.rma.readTag else c.rma.readTag
    let tgt := (assocGet c.rma.tgtEpoch (fieldOf w 31 16)).getD 0
    let body := match body with
      | .atomic b => .atomic { b with seq := seq, try_ := 0, tgtEpoch := tgt }
      | .embScatter b => .embScatter { b with seq := seq }
      | .read b => .read { b with readTag := tag }
      | b => b
    let o : PendOp :=
      { kind := k, target := fieldOf w 31 16, region := fieldOf w 43 32, offset := off, length := len, part := part,
        grant := g, msgId := id, seq := seq, try_ := 0, sends := 1, busy := 0, hold := false,
        enc := if bitOf w 58 then some (part, fieldOf w 57 50) else none, body := body, parts := parts,
        trigger := trigger, readTag := tag, locReg := loc.1, locOff := loc.2, issued := c.time, owner := owner }
    let c := { c with rma := { c.rma with seq := seq, readTag := tag, ops := c.rma.ops ++ [o] } }
    let c := c.setFld (Reg.rmaGrant g 1) 63 32 (c.fld (Reg.rmaGrant g 1) 63 32 + 1)
    (stOk, (c.bump (Reg.rmaCnt 0)).sendOp o)

/-- What a finished operation gives its issuer: the operation, its status and its data. -/
structure OpEnd where
  op     : PendOp
  status : Nat
  data   : List Byte
  deriving DecidableEq, Repr

/-- R355: an operation ends: it leaves the table and settles. -/
def Chip.endOp (c : Chip) (o : PendOp) (status : Nat) (data : List Byte) : List OpEnd × Chip :=
  ([⟨o, status, data⟩], (c.dropOp o.msgId).settle o.grant false)

/-- R352: a store or write is cancelled: its issuer sees the status now, and the cancel takes its
place until it settles. -/
def Chip.cancelOp (c : Chip) (o : PendOp) (status : Nat) : List OpEnd × Chip :=
  let (id, c) := (c.dropOp o.msgId).nextMsgId
  let k : PendOp := { o with kind := .cancel, msgId := id, sends := 1, busy := 0, hold := false,
                             body := .cancel { cancelId := o.msgId, rsvd := 0 }, parts := [], owner := .none }
  let c := { c with rma := { c.rma with ops := c.rma.ops ++ [k] } }
  ([⟨o, status, []⟩], (c.bump (Reg.rmaCnt 11)).sendOp k)

/-- R351: the sends an operation may make. -/
def Chip.tries (c : Chip) : Nat := c.fld Reg.rmaTimers 62 60

/-- The `TRY` of a request body set. -/
def bodyTry (b : FabBody) (t : Nat) : FabBody :=
  match b with
  | .atomic a => .atomic { a with try_ := t }
  | b => b

/-- R353: an atomic or scatter-add ends with its outcome unknown. -/
def Chip.outcomeUnknown (c : Chip) (o : PendOp) : List OpEnd × Chip :=
  let c := (c.bump (Reg.rmaCnt 7)).log
    { code := 0x0E02, refKind := 2, part := o.part, ref := o.target * 2 ^ 48 + o.region * 2 ^ 36 }
  c.endOp o stAtomicUnknown []

/-- R351, R353: no answer came in time: the operation is sent again, or ends. -/
def Chip.opTimeout (c : Chip) (o : PendOp) : List OpEnd × Chip :=
  match o.kind with
  | .store => c.cancelOp o stTimeout
  | .write => c.cancelOp o stTimeout
  | .read =>
    if o.sends < c.tries then
      let tag := wrapSucc 32 c.rma.readTag
      let body := match o.body with
        | .read b => .read { b with readTag := tag }
        | b => b
      let o := { o with sends := o.sends + 1, readTag := tag, body := body }
      let c := { c with rma := { c.rma with readTag := tag } }
      ([], (c.setOp o).sendOp o)
    else c.endOp o stTimeout []
  | .load =>
    if o.sends < c.tries then
      let o := { o with sends := o.sends + 1 }
      ([], (c.setOp o).sendOp o)
    else c.endOp o stTimeout []
  | .embRead =>
    if o.sends < c.tries then
      let o := { o with sends := o.sends + 1 }
      ([], (c.setOp o).sendOp o)
    else c.endOp o stTimeout []
  | .cancel =>
    if o.sends < c.tries then
      let o := { o with sends := o.sends + 1 }
      ([], (c.setOp o).sendOp o)
    else ([], (c.dropOp o.msgId).settle o.grant true)
  | _ =>
    if o.sends < c.tries then
      let o := { o with sends := o.sends + 1, try_ := o.try_ + 1, body := bodyTry o.body (o.try_ + 1) }
      ([], ((c.setOp o).bump (Reg.rmaCnt 3)).sendOp o)
    else c.outcomeUnknown o

/-- R351: ST_BUSY: the operation waits for RMA_BUSY_BACKOFF, or ends after 16 such resends. -/
def Chip.opBusy (c : Chip) (o : PendOp) : List OpEnd × Chip :=
  if o.busy < 16 then ([], c.setOp { o with hold := true })
  else if o.kind = .cancel then ([], (c.dropOp o.msgId).settle o.grant true)
  else c.endOp o stBusy []

/-- RMA_BUSY_BACKOFF (R351, R365). -/
def Chip.opBackoff (c : Chip) (o : PendOp) : Chip :=
  if o.hold then
    let o := { o with hold := false, busy := o.busy + 1 }
    let c := if o.kind = .atomic ∨ o.kind = .scatter then c.bump (Reg.rmaCnt 3) else c
    (c.setOp o).sendOp o
  else c

/-- R353, R354: ST_DOMAIN_RESET: reissued under a new `SEQ` when no copy can have been applied. -/
def Chip.opReset (c : Chip) (o : PendOp) (epoch : Nat) : List OpEnd × Chip :=
  if o.sends = 1 ∧ o.busy = 0 then
    let seq := wrapSucc 32 c.rma.seq
    let body := match o.body with
      | .atomic b => .atomic { b with seq := seq, try_ := 0, tgtEpoch := epoch }
      | .embScatter b => .embScatter { b with seq := seq }
      | b => b
    let o := { o with seq := seq, try_ := 0, body := body }
    let c := { c with rma := { c.rma with seq := seq,
                                          tgtEpoch := if epoch = 0 then c.rma.tgtEpoch else assocPut c.rma.tgtEpoch o.target epoch } }
    ([], (c.setOp o).sendOp o)
  else c.outcomeUnknown o

/-- A late reply: for nothing pending (R353, R358). -/
def Chip.lateReply (c : Chip) : Chip := c.bump (Reg.rmaCnt 8)

/-- R352: the pending cancel of a message. -/
def Chip.cancelOf (c : Chip) (id : Nat) : Option PendOp :=
  c.rma.ops.find? (fun o => o.kind == .cancel && o.body == .cancel { cancelId := id, rsvd := 0 })

/-- FAB_PKT_LOAD_REPLY, FAB_PKT_STORE_ACK and FAB_PKT_WRITE_ACK at the requester (R347, R355): the acknowledgement of a store or
write that is being cancelled settles it. -/
def Chip.plainReply (c : Chip) (id : Nat) (k : OpKind) (status : Nat) (data : List Byte) : List OpEnd × Chip :=
  match c.op? id with
  | some o => if o.kind = k then c.endOp o status data else ([], c.lateReply)
  | none =>
    match (c.cancelOf id).filter (fun _ => k != .load) with
    | some o => ([], (c.lateReply.dropOp o.msgId).settle o.grant false)
    | none => ([], c.lateReply)

/-- The reply to an atomic or a scatter-add (R353): matched by `SEQ`, whichever device sends it (a combining seam answers a
constituent, R332). -/
def Chip.seqReply (c : Chip) (k : OpKind) (seq status epoch : Nat) (data : List Byte) : List OpEnd × Chip :=
  match c.rma.ops.find? (fun o => o.kind == k && o.seq == seq) with
  | none => ([], c.lateReply)
  | some o =>
    if status = stBusy then c.opBusy o
    else if status = stReset then c.opReset o epoch
    else
      let c := if k = .atomic ∧ epoch ≠ 0 then
          { c with rma := { c.rma with tgtEpoch := assocPut c.rma.tgtEpoch o.target epoch } }
        else c
      c.endOp o status data

/-- FAB_PKT_CANCEL_ACK (R352, R355). -/
def Chip.cancelReply (c : Chip) (cancelId status : Nat) : Chip :=
  match c.cancelOf cancelId with
  | none => c.lateReply
  | some o => if status = stBusy then (c.opBusy o).2 else (c.dropOp o.msgId).settle o.grant false

/-- FAB_PKT_NACK of a remote operation (R320, R353, R358, R363). ST_STALE_MAP and ST_LINK_DOWN leave
the operation to its timer, which sends it again through the tables of that time. ST_ACCESS_DENIED of an encrypted packet
cancels the message whatever its kind (R363). -/
def Chip.opNack (c : Chip) (o : PendOp) (status : Nat) : List OpEnd × Chip :=
  match o.kind with
  | .store => if status = stStaleMap ∨ status = stLinkDown then ([], c) else c.cancelOp o status
  | .write => if status = stStaleMap ∨ status = stLinkDown then ([], c) else c.cancelOp o status
  | _ =>
    if status = stTimeout then c.opTimeout o
    else if status = stBusy then c.opBusy o
    else if status = stStaleMap ∨ status = stLinkDown then ([], c)
    else if o.kind = .cancel then ([], c)
    else if status = stDenied ∧ o.enc.isSome then c.cancelOp o stDenied
    else if o.sends = 1 ∨ o.kind = .load ∨ o.kind = .read ∨ o.kind = .embRead then c.endOp o status []
    else c.outcomeUnknown o

/-! Reassembly (R357, R358). -/

/-- The context of a message. -/
def Chip.ctx? (c : Chip) (src id : Nat) : Option RmaCtx := c.rma.ctxs.find? (fun x => x.src == src && x.msgId == id)

/-- A context replaced, or added. -/
def Chip.setCtx (c : Chip) (x : RmaCtx) : Chip :=
  let l := c.rma.ctxs
  let l := if l.any (fun y => y.src == x.src && y.msgId == x.msgId) then
      updWhere (fun y => y.src == x.src && y.msgId == x.msgId) (fun _ => x) l
    else l ++ [x]
  { c with rma := { c.rma with ctxs := l } }

/-- A context released. -/
def Chip.dropCtx (c : Chip) (src id : Nat) : Chip :=
  { c with rma := { c.rma with ctxs := dropWhere (fun y => y.src == src && y.msgId == id) c.rma.ctxs } }

/-- What a packet of a message finds (R358). -/
inductive Reassembly where
  | duplicate
  | noRoom
  | more (x : RmaCtx)
  | whole (x : RmaCtx)
  deriving DecidableEq, Repr

/-- R357, R358: a packet of `data` bytes at offset `low` that met status `st` joins its message. `keep` is what the context holds of
it: nothing of a write or of read data, which are placed at once. -/
def Chip.reassemble (c : Chip) (h : FabHdr) (idx low data st : Nat) (keep : List Byte) : Reassembly :=
  let new : RmaCtx := { src := h.src, msgId := h.msgId, kind := h.pktType, region := 0, buf := [], bits := 0, count := 0, first := stOk,
                        low := low, bytes := 0 }
  let add := fun (x : RmaCtx) =>
    let y := { x with bits := x.bits ||| 2 ^ idx, count := x.count + h.payLen,
                      buf := if keep.isEmpty then x.buf else assocPut x.buf h.msgOffset keep,
                      first := if x.first = stOk then st else x.first, low := min x.low low, bytes := x.bytes + data }
    if y.count = h.totalLen then Reassembly.whole y else Reassembly.more y
  match c.ctx? h.src h.msgId with
  | some x => if x.bits.testBit idx then .duplicate else add x
  | none =>
    if h.payLen = h.totalLen then add new
    else if c.rma.ctxs.length < 8192 then add new
    else .noRoom

/-- R248, R358: what a context holds of a whole message, in the order of the packets' offsets. -/
def ctxBody (x : RmaCtx) : List Byte := (x.buf.map Prod.snd).flatten

/-! Grant writes (R344, R356). -/

/-- R344: the writable bits of word 0. -/
def grantMask (v : W64) : W64 := v &&& 0xFFFC0FFFFFFFFFFF#64

/-- R344: whether a write of word 0 is one of the transitions accepted. -/
def Chip.grantAccepts (c : Chip) (g : Nat) (v : W64) : Bool :=
  let w := c.grant g
  let a := fieldOf w 63 62
  let b := fieldOf v 63 62
  let step := ((a == 0 || a == 3) && b == 1) || (a == 1 && b == 2 && fieldOf w 61 0 == fieldOf (grantMask v) 61 0) || (a == 3 && b == 0)
  let clash := (b == 1 || b == 2) &&
    (c.grantsFor (fieldOf v 31 16) (fieldOf v 43 32) [1, 2]).any (fun h => h != g)
  step && !clash

/-- R344, R356: a write of word 0 by owner software (`dev` this device) or the fabric manager; whether
it was accepted. -/
def grantWrite (c : Chip) (g : Nat) (v : W64) (dev : Nat) : Bool × Chip :=
  if c.grantAccepts g v then
    let c := c.setReg (Reg.rmaGrant g 0) (grantMask v)
    if fieldOf v 63 62 = 2 then (true, (c.setFld (Reg.rmaGrant g 1) 15 0 dev).revokeDone g) else (true, c)
  else (false, c.log (refused 0x0E01 (Reg.rmaGrant g 0)))

/-! Keys (R362). -/

/-- R362: an install: the slot of that epoch, a free slot, or the older of the two. -/
def Chip.keyInstall (c : Chip) (p e : Nat) : Chip :=
  let mine := c.rma.keys.filter (fun k => k.part == p)
  let other := c.rma.keys.filter (fun k => k.part != p)
  let keep := mine.filter (fun k => k.epoch != e)
  let keep := if keep.length < 2 then keep else keep.filter (fun k => !(keep.all (fun j => decide (k.order ≤ j.order))))
  let n := c.rma.keyOrder + 1
  let k : KeySlot := { part := p, epoch := e, key := c.rma.keyData, order := n }
  { c with rma := { c.rma with keys := other ++ keep ++ [k], keyOrder := n } }

/-- R362: a write of RMA_KEY_SEL by owner software. -/
def Chip.keySelect (c : Chip) (v : W64) : Chip :=
  let p := fieldOf v 3 0
  let e := fieldOf v 11 4
  if bitOf v 63 then c.keyInstall p e
  else if bitOf v 62 then
    { c with rma := { c.rma with keys := dropWhere (fun k => k.part == p && k.epoch == e) c.rma.keys } }
  else c

/-! Work request lists (R359 to R361). -/

/-- Word `w` of entry `e` of list `l`. -/
def Chip.wlWord (c : Chip) (l e w : Nat) : W64 := rfGet (fun _ => 0#64) c.rma.lists (l * 256 + e * 4 + w)

/-- What is left to do with the lists. -/
inductive WlTask where
  | run (l : Nat)
  | advance (l n : Nat)
  | done (l e status : Nat)
  deriving DecidableEq, Repr

/-- R361: a list halts at an entry. -/
def Chip.wlHalt (c : Chip) (l e status : Nat) : Chip :=
  let c := c.setFld (Reg.rmaWlHdr l 0) 63 62 2
  (c.setFlds (Reg.rmaWlHdr l 1) [(63, 48, status), (47, 42, e)]).log
    { code := 0x0E05, refKind := 3, ref := Reg.rmaWlHdr l 0, part := c.fld (Reg.rmaWlHdr l 0) 61 58, param0 := status,
      param1 := e }

/-- R360: whether an entry is well formed: its `OP`, its reserved fields, its local range. -/
def Chip.wlBad (c : Chip) (w0 w1 w2 w3 : W64) : Bool :=
  let op := fieldOf w0 31 28
  let g := c.region (fieldOf w2 59 48)
  let len := fieldOf w3 63 40
  decide (4 < op) || fieldOf w0 1 0 != 0 || fieldOf w1 63 60 != 0 || fieldOf w3 39 0 != 0 ||
    ((op == 1 || op == 2) && (fieldOf w2 63 60 != 0 || !g.valid || decide (g.length < fieldOf w2 47 0 + len)))

/-- R360, R361: an entry's operation issued; its status when it ends at once. -/
def Chip.wlIssue (c : Chip) (l e : Nat) : Option Nat × List WlTask × Chip :=
  let w0 := c.wlWord l e 0; let w1 := c.wlWord l e 1; let w2 := c.wlWord l e 2; let w3 := c.wlWord l e 3
  let op := fieldOf w0 31 28
  let part := c.fld (Reg.rmaWlHdr l 0) 61 58
  let g := fieldOf w0 27 16
  let off := fieldOf w1 47 0
  let len := fieldOf w3 63 40
  let loc := c.region (fieldOf w2 59 48)
  let lo := fieldOf w2 47 0
  let c := c.bump (Reg.rmaCnt 16)
  if op = 0 then (some stOk, [], c)
  else if op = 4 then (some stOk, [.advance (fieldOf w1 59 48) 1], c)
  else if op = 3 then
    let b : AtomicBody :=
      { region := fieldOf (c.grant g) 43 32, op := 1, try_ := 0, seq := 0, offset := off, tgtEpoch := 0, a0 := w2,
        a1 := 0#64, b0 := 0#64, b1 := 0#64, rsvd := 0 }
    let (st, c) := c.issue g part .atomic 1 off 8 (.atomic b) [] none (0, 0) (.list l e)
    (if st = stOk then none else some st, [], c)
  else if op = 1 then
    if !c.tierUp loc.tier (loc.base + lo) len then (some stOffline, [], c)
    else if c.lineBad loc.tier (loc.base + lo) len then (some stUncorrectable, [], c.tierBad (fieldOf w2 59 48))
    else
      let trig := if bitOf w0 2 then some (fieldOf w1 59 48) else none
      let (st, c) := c.issue g part .write 0 off len (.raw []) [(off, c.regionRead loc lo len)] trig (0, 0) (.list l e)
      (if st = stOk then none else some st, [], c)
  else
    let b : ReadBody :=
      { region := fieldOf (c.grant g) 43 32, readTag := 0, offset := off, length := len, rsvd := 0 }
    let (st, c) := c.issue g part .read 0 off len (.read b) [] none (fieldOf w2 59 48, lo) (.list l e)
    (if st = stOk then none else some st, [], c)

/-- R361: whether the entry at `HEAD` may issue. -/
def Chip.wlReady (c : Chip) (l : Nat) : Bool :=
  let h := c.reg (Reg.rmaWlHdr l 0)
  let e := fieldOf h 50 44
  fieldOf h 63 62 == 1 && decide (e < fieldOf h 57 51) &&
    atOrBefore 32 (fieldOf (c.wlWord l e 0) 63 32) (fieldOf h 31 0)

/-- R361: one task. -/
def Chip.wlStep (c : Chip) : WlTask → List WlTask × Chip
  | .run l =>
    if c.wlReady l then
      let e := c.fld (Reg.rmaWlHdr l 0) 50 44
      if c.wlBad (c.wlWord l e 0) (c.wlWord l e 1) (c.wlWord l e 2) (c.wlWord l e 3) then ([], c.wlHalt l e stMalformed)
      else
        let c := c.setFld (Reg.rmaWlHdr l 0) 50 44 (e + 1)
        let (st, more, c) := c.wlIssue l e
        (more ++ (match st with | some s => [.done l e s] | none => []) ++ [.run l], c)
    else ([], c)
  | .advance l n =>
    let c := c.setFld (Reg.rmaWlHdr l 0) 31 0 ((c.fld (Reg.rmaWlHdr l 0) 31 0 + n) % 2 ^ 32)
    ([.run l], c)
  | .done l e status =>
    let c := c.wrapInc (Reg.rmaWlHdr l 1) 31 0
    if status ≠ stOk then ([], if c.fld (Reg.rmaWlHdr l 0) 63 62 = 2 then c else c.wlHalt l e status)
    else
      let w0 := c.wlWord l e 0
      let h := c.reg (Reg.rmaWlHdr l 0)
      let busy := c.rma.ops.any (fun o => match o.owner with | .list k _ => k == l | _ => false)
      let c := if fieldOf h 63 62 = 1 ∧ fieldOf h 57 51 ≤ fieldOf h 50 44 ∧ !busy then c.setFld (Reg.rmaWlHdr l 0) 63 62 0 else c
      (if bitOf w0 3 then [.advance (fieldOf w0 15 4) 1] else [], c)

/-- R361: tasks run in order until none is left; `fuel` bounds the entries of all lists. -/
def wlRun : Nat → List WlTask → Chip → Chip
  | 0, _, c => c
  | _ + 1, [], c => c
  | n + 1, t :: ts, c =>
    let (more, c) := c.wlStep t
    wlRun n (more ++ ts) c

/-- R361: run tasks. -/
def Chip.wlTasks (c : Chip) (l : List WlTask) : Chip := wlRun 2000000 l c

/-- R361: a counter advanced. -/
def Chip.wlAdvance (c : Chip) (l n : Nat) : Chip := c.wlTasks [.advance l n]

/-- R359: whether a list is reserved for the state mover and the embedding station. -/
def Chip.wlReserved (c : Chip) (l : Nat) : Bool :=
  match c.boot.img with
  | some i => decide (l < i.composition.listsInternal)
  | none => false

/-- R359: a write of a list's header word 0 by owner software. -/
def wlHdrWrite (c : Chip) (l : Nat) (v : W64) : Chip :=
  let off := Reg.rmaWlHdr l 0
  let armed := c.fld off 63 62 == 1
  let st := fieldOf v 63 62
  if c.wlReserved l || (armed && st != 0) then c.log (refused 0x0E01 off)
  else if armed then c.setFld off 63 62 0
  else
    let c := c.setFlds off [(61, 58, fieldOf v 61 58), (57, 51, clampN 1 64 (fieldOf v 57 51))]
    if st = 1 then (c.setFlds off [(63, 62, 1), (50, 44, 0)]).wlTasks [.run l]
    else if st = 3 then c else c.setFld off 63 62 st

/-- R360: a write of an entry word of the selected list by owner software. -/
def wlEntryWrite (c : Chip) (e w : Nat) (v : W64) : Chip :=
  let l := c.fld Reg.rmaWlSelect 11 0
  if c.wlReserved l || c.fld (Reg.rmaWlHdr l 0) 63 62 == 1 then c.log (refused 0x0E01 (Reg.rmaWlWindow e w))
  else { c with rma := { c.rma with lists := rfSet c.rma.lists (l * 256 + e * 4 + w) v } }

/-- R361: a write of RMA_WL_ADVANCE by owner software. -/
def wlAdvanceWrite (c : Chip) (v : W64) : Chip :=
  if bitOf v 63 then c.wlAdvance (fieldOf v 11 0) (fieldOf v 47 16) else c

end Sys2Proof.Machine
end

