-- ==== Sys2Proof/Machine/Moves.lean ====
section
/-!
DEFINITION. The state mover (R244 to R252, R260 to R268): both sides of a move, handoffs, pause stores,
restores, the phases this device runs for other anchors, and the move and phase timers.
-/
namespace Sys2Proof.Machine

/-! Ends seen from a node. -/

/-- A request whose phase runs here ends with a status: at its anchor at once, or by a report of
`KIND` 5 with the sleeve released (R217, R218, R260). -/
def Chip.failSeq (c : Chip) (s : Seq) (status : Nat) : Chip :=
  if s.anchor = c.deviceId then c.endReq s.requestId status
  else (c.sendReport s 5 status 0 0 [] []).purge s.requestId status

/-- R127, R258, R289: the requests whose step needs a block or a bag end with a status; the step goes on without them. -/
def Chip.endSegs (c : Chip) (t : Step) (status : Nat) : Chip :=
  (t.segs.filterMap (fun g => c.seq g.requestId)).foldl (fun c s => c.failSeq s status) c

/-- R180, R181: a sequence releases every page and gives up its placement. -/
def Chip.giveUp (c : Chip) (s : Seq) : Chip :=
  let c := c.log { code := 0x0A06, refKind := 3, ref := s.slot, part := s.part }
  if s.anchor = c.deviceId then
    let c := c.purge s.requestId stPartFull
    match c.collar s.requestId with
    | some k => c.replace k (some c.deviceId)
    | none => c
  else c.failSeq s stPartFull

/-- R231, R263: a pause takes effect at the node that runs the phase: the anchor learns it, and the
sleeve is stored (R266). -/
def Chip.pauseNow (c : Chip) (s : Seq) : Chip :=
  if s.anchor = c.deviceId then
    match c.collar s.requestId with
    | some k => (c.enterPaused k).pauseStore s
    | none => c.purge s.requestId stOk
  else (c.sendReport s 5 stOk 0 0 [] []).pauseStore s

/-! The layout of a sleeve image as its pages are sent (R244, R261). -/

/-- R244: the pages of a sleeve of `n` committed positions of the base model, and of the draft model
where it keeps pages, in directory order. -/
def Chip.imagePages (c : Chip) (p n : Nat) (draft : Bool) : List (Bool × Nat × Nat) :=
  ((if draft then [false, true] else [false]).map (fun d => (((c.layers p d).zipIdx).map (fun l =>
    let t := kvTpp l.1
    (upTo (cdiv n t)).map (fun i => (d, l.2, i * t)))).flatten)).flatten

/-- The pages that `n` positions take in a list of layers. -/
def pageCount (ls : List KvLayer) (n : Nat) : Nat := sumN (ls.map (fun l => cdiv n (kvTpp l)))

/-- The most positions, in steps of 16, whose sleeve has at most `pages` pages in a list of layers. -/
def mostPositions (ls : List KvLayer) (pages : Nat) : Nat :=
  16 * (((upTo 65537).find? (fun k => decide (pages < pageCount ls (16 * k + 1)))).getD 65536)

/-- The most positions whose sleeve holds a given number of pages, and whether draft pages are among
them: the destination of a handoff finds the shape of the sleeve from `PAGES`. -/
def Chip.lenOfPages (c : Chip) (p pages : Nat) : Option (Nat × Bool) :=
  let base := c.layers p false
  let both := base ++ c.layers p true
  let nb := mostPositions both pages
  let n := mostPositions base pages
  if pageCount both nb = pages then some (nb, true)
  else if pageCount base n = pages then some (n, false)
  else none

/-- R131, R244: a page laid out in its slot at an image offset: the pieces that are sent. -/
def Chip.slotPieces (c : Chip) (p : Nat) (g : PageImg) (o : Nat) : List (Nat × List Byte) × Chip :=
  let scale := memReadBytes g.bytes 65536 (scaleFrameBytes g.fmt)
  if c.kvPleats p g.fmt g.draft then
    let (bs, c) := c.pleatPage p g
    ([(o, (bs.map (fun b => leBytes b.1.toNat 8)).flatten)] ++
      (bs.zipIdx).map (fun b => (o + 128 + 4096 * b.2, b.1.2)) ++
      (if scale.isEmpty then [] else [(o + 65664, scale)]), c)
  else ([(o + 128, memReadBytes g.bytes 0 65536 ++ scale)], c)

/-- The pieces of several pages, each at its slot. -/
def Chip.pagePieces (c : Chip) (p start : Nat) (gs : List (Nat × PageImg)) : List (Nat × List Byte) × Chip :=
  gs.foldl (fun (a : List (Nat × List Byte) × Chip) g =>
    let (ps, c) := a.2.slotPieces p g.2 (start + g.1 * c.slotSize p)
    (a.1 ++ ps, c)) ([], c)

/-- R261: one data message of a move: a remote write into the range the destination reserved. A write
refused by the sender's checks fails the move (`false`). -/
def Chip.moveWrite (c : Chip) (m : MoveSrc) (pieces : List (Nat × List Byte)) : Bool × MoveSrc × Chip :=
  let len := sumN (pieces.map (fun p => p.2.length))
  let at_ := pieces.map (fun p => (m.offset + p.1, p.2))
  let low := ((at_.head?).map Prod.fst).getD m.offset
  let (st, g) := c.findGrant m.dest m.region
  if st ≠ stOk then (false, m, c.bump (Reg.rmaCnt 2))
  else
    let (st, c) := c.issue g m.part .write 0 low len (.raw []) at_ none (0, 0) (.move m.moveId)
    if st ≠ stOk then (false, m, c)
    else (true, { m with bytes := m.bytes + len }, c.bumpBy (Reg.movCnt 3) len)

/-- R261: pages sent in messages of at most 128 page slots of one layer. -/
def Chip.sendPages (c : Chip) (m : MoveSrc) (start : Nat) (gs : List (Nat × PageImg)) : Bool × MoveSrc × Chip :=
  let layers := gs.splitBy (fun a b => a.2.draft == b.2.draft && a.2.layer == b.2.layer)
  ((layers.map (fun l => chunksOf 128 (l.length + 1) l)).flatten).foldl (fun (a : Bool × MoveSrc × Chip) l =>
    if a.1 then
      let (ps, c) := a.2.2.pagePieces m.part start l
      c.moveWrite a.2.1 ps
    else a) (true, m, c)

/-- R261: the layers whose every ST stream has completed in the step that runs a request, with the positions it writes. -/
def Chip.writtenLayers (c : Chip) (req : Nat) : List (Bool × Nat × Nat × Nat) :=
  ((c.work.steps.filter (fun t => !t.abandoned)).map (fun t =>
    match c.passPlan t, t.segs.find? (fun g => g.requestId == req) with
    | some pl, some g => ((pl.keys).filter (fun e => kvLayerDone pl t e)).map (fun e =>
        (t.passPlan.2, keyLayer e, g.start, g.start + g.rows.length))
    | _, _ => [])).flatten

/-- The pages of a resident sequence that may be sent now and were not, with their slots: those wholly
committed, those that end in the running step and whose layer it has written (R261), or all of them once the datum is
final. A page is sent once, whatever frame holds it. -/
def Chip.unsentPages (c : Chip) (m : MoveSrc) (s : Seq) : List (Nat × PageRef) :=
  let order := c.imagePages s.part m.total (c.drafts s)
  let list := if m.kind = 0 then order else (dirOrder s.pages).map (fun r => (r.draft, r.layer, r.posBase))
  (dirOrder s.pages).filterMap (fun r =>
    if m.sentPages.any (fun q => q.draft == r.draft && q.layer == r.layer && q.posBase == r.posBase) then none
    else
      let stop := r.posBase + kvTpp (c.layer s.part r.draft r.layer)
      let done := (c.writtenLayers s.requestId).any (fun w => w.1 == r.draft && w.2.1 == r.layer && decide (w.2.2.1 < stop) &&
        decide (stop ≤ w.2.2.2))
      let full := match c.frameOf s.part r with
        | some f => f.state == 3
        | none => false
      if full || done || m.ready then
        (findIdx1 (fun k => k == (r.draft, r.layer, r.posBase)) list).map (fun x => (x.1, r))
      else none)

/-- R244: the offset of the first page slot of a move's image, and the number of pages in it. -/
def Chip.moveStart (c : Chip) (m : MoveSrc) (pages : Nat) : Nat :=
  let dr := ((c.seq m.requestId).map c.drafts).getD false
  slotsStart m.total (if m.kind = 0 then (c.imagePages m.part m.total dr).length else pages)

/-- R249, R261: send what may be sent of a resident sleeve. -/
def Chip.pushPages (c : Chip) (m : MoveSrc) (s : Seq) (refs : List (Nat × PageRef)) : Bool × MoveSrc × Chip :=
  let gs := refs.filterMap (fun x => (c.frameOf s.part x.2).map (fun f =>
    let g := c.pageImg s.part f
    (x.1, if f.state = 1 then { g with fill := kvTpp (c.layer s.part f.draft f.layer), bytes := f.bytes } else g)))
  let (ok, m, c) := c.sendPages m (c.moveStart m s.pages.length) gs
  (ok, { m with sentPages := m.sentPages ++ refs.map Prod.snd }, c)

/-- R249, R364: a move of a sleeve at rest sends every page, as it is decrypted. -/
def Chip.pushStored (c : Chip) (m : MoveSrc) (st : Stored) : Bool × MoveSrc × Chip :=
  c.sendPages m (c.moveStart m st.pages.length) (((st.imgs (c.openStored st).1).zipIdx).map (fun x => (x.2, x.1)))

/-- R258, R267, R364: a sleeve at rest whose units or lines fail is reduced to its summary. -/
def Chip.storedBad (c : Chip) (st : Stored) : Chip :=
  ((c.countFaults st).dropStored st.seq.requestId).reportHome st.seq true

/-! The source of a move (R249). -/

/-- R260: no target takes the handoff: ST_PARTITION_FULL, which ends the request; a pause that waited
for the handoff takes effect here, where the sleeve is home, with the COMMIT of a step that runs. -/
def Chip.handoffFailed (c : Chip) (s : Seq) : Chip :=
  let pausing := s.pausePend || (match c.collar s.requestId with
    | some k => k.pausing && s.anchor == c.deviceId
    | none => false)
  if !pausing then c.failSeq s stPartFull else if s.running then c else c.pauseNow s

/-- R248, R267: the TTL that a moved sleeve still has, in ms: what is left of a stored sleeve's, and all of it for one
that is not stored yet. -/
def Chip.ttlLeft (c : Chip) (s : Seq) : Nat :=
  match c.stored? s.requestId with
  | some st => st.ttl - (c.time - st.since) / 225000
  | none => c.fullTtl s.part

/-- R249: the next target of a move, or its fallback. -/
def Chip.moveNext (c : Chip) (m : MoveSrc) : Chip :=
  match c.seq m.requestId with
  | none => c
  | some s =>
    if m.kind = 0 then
      let waits := match c.collar m.requestId with
        | some k => k.pausing && s.anchor == c.deviceId
        | none => false
      if (waits || s.pausePend) && !s.running then c.pauseNow s
      else
        let pages := (c.imagePages m.part m.total (c.drafts s)).length
        match c.startMove s 0 m.placement m.total pages 0 m.left with
        | some c =>
          -- the new record keeps what the old one knew of the datum
          let keep := fun (x : MoveSrc) => { x with ready := m.ready, acked := m.acked, resends := m.resends, empty0 := m.empty0 }
          c.onWork (fun w => { w with src := updWhere (fun x => x.requestId == m.requestId && x.state == 1) keep w.src })
        | none => c.handoffFailed s
    else if m.kind = 1 then
      match c.startMove s 1 m.placement m.total s.pages.length (c.ttlLeft s) m.left with
      | some c => c
      | none => c.storeOrDrop s
    else c

/-- R249: the source goes back to HOME, tells the destination, and tries the next target. -/
def Chip.moveFail (c : Chip) (m : MoveSrc) (status : Nat) : Chip := (c.abortMove m status).moveNext m

/-- R249: send what can be sent in SENDING; a write that fails ends the attempt. -/
def Chip.moveData (c : Chip) (m : MoveSrc) : Chip :=
  let res := match c.seq m.requestId with
    | some s => some (c.pushPages m s (c.unsentPages m s))
    | none => (c.stored? m.requestId).bind (fun st => if c.storedOk st then some (c.pushStored m st) else none)
  match res with
  | none =>
    match (c.stored? m.requestId).filter (fun _ => (c.seq m.requestId).isNone) with
    | some st => (c.abortMove m stStateLost).storedBad st
    | none => c
  | some (true, m, c) => c.setMoveSrc m
  | some (false, m, c) => c.moveFail m stTimeout

/-- FAB_PKT_MOVE_REPLY (R249). -/
def moveReply (c : Chip) (h : FabHdr) (b : MoveReplyBody) : Chip :=
  match c.work.src.find? (fun m => m.moveId == b.common.moveId && m.dest == h.src) with
  | none => c
  | some m =>
    if m.state ≠ 1 then c
    else if statusOf b.status = stOk then
      let m := { m with state := 2, region := b.rxRegion % 4096, offset := b.rxOffset,
                        ready := m.ready || m.kind != 0, acked := m.acked || m.kind != 0 }
      (c.setMoveSrc m).moveData m
    else
      ((c.dropMoveSrc m.moveId).bump (Reg.movCnt 2)).moveNext m

/-- R245: the leading part of the image of a move. -/
def Chip.moveHead (c : Chip) (m : MoveSrc) : List Byte :=
  match c.seq m.requestId with
  | some s => c.sleeveHead { s with placement := m.placement } (if m.kind = 0 then 0 else c.ttlLeft s) m.bytes
  | none =>
    match c.stored? m.requestId with
    | some st =>
      headBytes { st.seq with placement := m.placement, pages := st.pages.map (fun g => ⟨g.draft, g.layer, g.posBase, 0, 0⟩) }
        (st.pages.map PageImg.dirWord) (c.ttlLeft st.seq) m.bytes
    | none => []

/-- MOVE_DATA_SENT (R249, R262): the datum is final and all its data has been sent: the last message
goes, and the source waits for the acknowledgement. -/
def moveDataSent (c : Chip) (req : Nat) : Chip :=
  match c.moveSrc req with
  | none => c
  | some m =>
    if m.state = 2 ∧ m.ready ∧ m.acked then
      let head := c.moveHead m
      let (ok, _, c) := c.moveWrite m [(0, head)]
      if ok then c.setMoveSrc { m with state := 3 } else c.moveFail m stTimeout
    else c

/-- R249: FAB_PKT_MOVE_COMMIT of a move. -/
def Chip.sendCommit (c : Chip) (m : MoveSrc) : Chip :=
  (c.sendNew (.part m.part) m.dest 0 (.moveCommit { common := m.common, rsvd := 0 })).2

/-- FAB_PKT_MOVE_ACK (R249): the home flips, COMMIT is sent, and the copy is released. -/
def moveAck (c : Chip) (h : FabHdr) (b : MoveAckBody) : Chip :=
  match c.work.src.find? (fun m => m.moveId == b.common.moveId && m.dest == h.src) with
  | none => c
  | some m =>
    if m.state = 4 then c.sendCommit m
    else if m.state = 3 then
      let anchor := ((c.seq m.requestId).map Seq.anchor).getD (((c.stored? m.requestId).map (fun s => s.seq.anchor)).getD 0)
      let c := ((c.setMoveSrc { m with state := 4 }).bump (Reg.movCnt 1)).sendCommit m
      let c := (c.releaseSleeve m.requestId).dropStored m.requestId
      if m.kind = 0 ∧ anchor = c.deviceId then
        match c.collar m.requestId with
        | some k => if k.img.placement = m.placement then c.homeTaken k m.dest else c
        | none => c
      else c
    else c

/-- FAB_PKT_MOVE_QUERY (R249). -/
def moveQuery (c : Chip) (h : FabHdr) (b : MoveBareBody) : Chip :=
  let answer := fun (c : Chip) (n : Nat) =>
    (c.sendNew .device h.src 0 (.moveAnswer { common := { b.common with rsvd := 0 }, answer := n, rsvd := 0 })).2
  match c.work.src.find? (fun m => m.moveId == b.common.moveId && m.dest == h.src) with
  | none => answer c 2
  | some m => if m.state = 4 then (answer c 1).sendCommit m else answer c 0

/-- MOVE_RECORD_EXPIRES (R249). -/
def moveRecordExpires (c : Chip) (id : Nat) : Chip :=
  match c.work.src.find? (fun m => m.moveId == id) with
  | some m => if m.state = 4 then c.dropMoveSrc id else c
  | none => c

/-- R249: a data write of a move ended. -/
def moveOpEnd (c : Chip) (id status : Nat) : Chip :=
  if status = stOk then c
  else
    match c.work.src.find? (fun m => m.moveId == id) with
    | some m => if m.state = 2 ∨ m.state = 3 then c.moveFail m stTimeout else c
    | none => c

/-- MOVE_OFFER_WAIT (R248, R252): no answer counts as a refusal with ST_FABRIC_TIMEOUT, of a placement
(with a new placement number) or of an OFFER. -/
def moveOfferWait (c : Chip) (req : Nat) : Chip :=
  let c := match c.collar req with
    | some k => if k.place.waiting then c.placeRefused k.nextPlacement else c
    | none => c
  match c.moveSrc req with
  | some m => if m.state = 1 then (((c.dropMoveSrc m.moveId)).bump (Reg.movCnt 2)).moveNext m else c
  | none => c

/-- R262: the report of token 0 of a source that is not the anchor. -/
def Chip.reportToken0 (c : Chip) (s : Seq) (next : Nat) : Chip :=
  let t := ((s.table.getLast?).map PosEnt.tok).getD 0
  let empty := ((c.moveSrc s.requestId).map MoveSrc.empty0).getD false
  c.sendReport s 1 stOk (s.emitted - 1) next [(t, empty)] []

/-- MOVE_ACK_WAIT (R252, R262). -/
def moveAckWait (c : Chip) (id : Nat) : Chip :=
  match c.work.src.find? (fun m => m.moveId == id) with
  | none => c
  | some m =>
    if m.state = 3 then c.moveFail m stTimeout
    else if m.state ≤ 2 ∧ m.ready ∧ !m.acked then
      match c.seq m.requestId with
      | some s =>
        if m.resends + 1 < c.fld Reg.rmaTimers 62 60 then
          (c.setMoveSrc { m with resends := m.resends + 1 }).reportToken0 s 2
        else
          let c := (c.abortMove m stTimeout).releaseSleeve m.requestId
          (c.bump (Reg.movCnt 18)).log { code := 0x0805, refKind := 1, ref := m.requestId, part := m.part }
      | none => c
    else c

/-- R260: the offer of a handoff of a sleeve that will have `n` committed positions. -/
def Chip.offerHandoff (c : Chip) (s : Seq) (n : Nat) : Chip :=
  let gens := (((c.decl s.part).map PartDecl.gens).getD []).filter (fun d => d != c.deviceId)
  match c.startMove s 0 (wrapSucc 16 s.placement) n (c.imagePages s.part n (c.drafts s)).length 0 gens with
  | some c => c
  | none => c.handoffFailed s

/-- R261: the ST streams of a layer have completed, or a prompt step has committed: the pages that may go now go. -/
def Chip.handoffCommit (c : Chip) (req : Nat) : Chip :=
  match c.moveSrc req with
  | some m => if m.kind = 0 ∧ m.state = 2 then c.moveData m else c
  | none => c

/-- R262: after the last prompt step's COMMIT the datum is final; `empty0` is `EMPTY_ROW` of token 0 (R228). -/
def Chip.handoffReady (c : Chip) (req : Nat) (empty0 : Bool) : Chip :=
  match c.moveSrc req, c.seq req with
  | some m, some s =>
    let m := { m with ready := true, acked := s.anchor == c.deviceId, empty0 := empty0 }
    let c := c.setMoveSrc m
    if m.state = 2 then c.moveData m else c
  | _, _ => c

/-! The destination of a move (R250). -/

/-- R250: a destination record. -/
def Chip.moveDst (c : Chip) (src id : Nat) : Option MoveDst :=
  c.work.dst.find? (fun d => d.source == src && d.moveId == id)

/-- A destination record replaced. -/
def Chip.setMoveDst (c : Chip) (d : MoveDst) : Chip :=
  c.onWork (fun w => { w with dst := updWhere (fun x => x.source == d.source && x.moveId == d.moveId) (fun _ => d) w.dst })

/-- R342: the move window of a partition. -/
def Chip.moveWindow (c : Chip) (p : Nat) : Option Nat :=
  ((c.regs.filter (fun e => decide (0xE00000 ≤ e.1) && decide (e.1 < 0xE10000) && e.1 % 16 == 0 && bitOf e.2 63 &&
    bitOf e.2 59 && fieldOf e.2 58 55 == p)).map (fun e => (e.1 - 0xE00000) / 16)).head?

/-- R342: a free range of `size` bytes of a move window, the lowest one (log entry 14). -/
def Chip.carveRange (c : Chip) (region size : Nat) : Option Nat :=
  let used := (c.work.dst.filter (fun d => d.region == region)).map (fun d => (d.offset, d.size))
  let cands := 0 :: used.map (fun u => roundUp (u.1 + u.2) 4096)
  let ok := fun (o : Nat) => decide (o + size ≤ (c.region region).length) &&
    used.all (fun u => decide (u.1 + u.2 ≤ o) || decide (o + size ≤ u.1))
  (cands.filter ok).foldl (fun (b : Option Nat) o => match b with
    | none => some o
    | some x => some (min x o)) none

/-- R250: the partitions whose images measure as the OFFER says, in ascending number. -/
def Chip.matching (c : Chip) (b : OfferBody) : List Nat :=
  (upTo 16).filter (fun p => (c.partState p == 2 || c.partState p == 3) &&
    (match c.decl p with
     | some d => d.baseMeas == b.baseMeas && d.draftMeas == b.draftMeas
     | none => false))

/-- R219, R223: a version staged from the source device's slot: a read-only copy in the lowest free slot,
which is freed with its last reference (log entry 18). Its customer and rank are those of the request `req` that binds
it. -/
def Chip.stageAdapter (c : Chip) (p adapter ver req : Nat) : Option Chip :=
  if c.holdsVersion p adapter ver then some c
  else
    match (upTo 1024).find? (fun s => c.slotState s == 0) with
    | none => none
    | some s =>
      let t := Config.handoffTerms req
      let c := c.setReg (Reg.adapterSlot s 0) (wordOf [(63, 32, ver), (31, 16, adapter), (15, 4, t.customer % 4096), (3, 0, p)])
      some (c.setReg (Reg.adapterSlot s 1) (wordOf [(63, 61, 4), (60, 55, 1 + t.rank % 32)]))

/-- R250: the pages a handoff or a restore takes here. -/
def Chip.dstPages (c : Chip) (p slot n : Nat) (draft : Bool) : List PageRef :=
  (c.imagePages p n draft).map (fun g =>
    ⟨g.1, g.2.1, g.2.2, c.pageQuad p slot g.2.1 (g.2.2 / kvTpp (c.layer p g.1 g.2.1)), 0⟩)

/-- The positions and the models of a sleeve that an OFFER announces. A restore knows its sequence; a
pause store may lack draft pages, and takes the most positions that its pages allow. -/
def Chip.offerShape (c : Chip) (p : Nat) (b : OfferBody) : Option (Nat × Bool) :=
  if b.kind = 1 then some (mostPositions (c.layers p false) b.pages, false)
  else if b.kind = 2 then (c.seq b.common.requestId).map (fun s => (s.c, c.drafts s))
  else c.lenOfPages p b.pages

/-- R15, R250, R260, R266: the status with which a partition answers an OFFER. -/
def Chip.offerStatus (c : Chip) (p : Nat) (b : OfferBody) : Nat :=
  match c.offerShape p b with
  | none => if b.kind = 2 then stUnsupported else stMalformed
  | some (n, dr) =>
    if b.kind = 1 then
      if c.t2Room p (c.sleeveBytes p n b.pages (c.declFlag p 3)) then stOk else stPartFull
    else if b.kind = 0 then
      let engine := ((c.plan p false 1).map PlanD.engine).getD 0
      if b.adapterVer ≠ 0 ∧ (c.stageAdapter p b.adapter b.adapterVer b.common.requestId).isNone then stAdapterUnknown
      else if c.placeMax p ≤ c.pointLoad p engine then stPartFull
      else
        match (if c.work.slotWait.isEmpty then c.freeSlot else none) with
        | none => stPartFull
        | some slot => if c.fitsFree p (c.dstPages p slot n dr) then stOk else stPartFull
    else
      match c.seq b.common.requestId with
      | none => stUnsupported
      | some s => if c.fitsFree p (c.dstPages p s.slot n dr) then stOk else stPartFull

/-- R250: the partition that takes a move, or the status that refuses it. -/
def Chip.offerPart (c : Chip) (h : FabHdr) (b : OfferBody) : Nat × Nat :=
  if b.kind = 2 then
    match c.work.pulls.find? (fun p => p.requestId == b.common.requestId && p.holder == h.src &&
        p.placement == b.common.placement) with
    | some p => (c.offerStatus p.part b, p.part)
    | none => (stUnsupported, 0)
  else if b.kind = 0 && !c.roleAccepts false then (stUnsupported, 0)
  else if b.kind = 1 && c.role != 3 then (stUnsupported, 0)
  else
    match c.matching b with
    | [] => (stUnsupported, 0)
    | p :: ps =>
      match (p :: ps).find? (fun q => c.offerStatus q b == stOk) with
      | some q => (stOk, q)
      | none => (c.offerStatus p b, p)

/-- R250: an OFFER accepted: frames, slot and range reserved. -/
def Chip.acceptOffer (c : Chip) (h : FabHdr) (b : OfferBody) (p region offset size n : Nat) (dr : Bool) : Chip :=
  let c := if b.kind = 0 then ((c.stageAdapter p b.adapter b.adapterVer b.common.requestId).getD c).refAdapter p b.adapter b.adapterVer else c
  let slot := if b.kind = 1 then 65536
    else if b.kind = 2 then ((c.seq b.common.requestId).map Seq.slot).getD 65536 else c.freeSlot.getD 65536
  let (refs, c) := if b.kind = 1 then ([], c)
    else (c.dstPages p slot n dr).foldl (fun (a : List PageRef × Chip) r =>
      match a.2.openPage p slot r (c.layer p r.draft r.layer).fmt with
      | some (r, c) => (a.1 ++ [r], c)
      | none => a) ([], c)
  let d : MoveDst :=
    { source := h.src, moveId := b.common.moveId, requestId := b.common.requestId,
      placement := b.common.placement, part := p, kind := b.kind, state := 1, slot := slot, region := region,
      offset := offset, size := size, pages := b.pages, ttlMs := b.ttlLeftMs, adapter := b.adapter,
      adapterVer := b.adapterVer, silenceMs := b.silenceMs, queries := 0, bytes := 0, head := 0, refs := refs, bad := none }
  c.onWork (fun w => { w with dst := w.dst ++ [d] })

/-- R248: FAB_PKT_MOVE_REPLY. -/
def Chip.sendReply (c : Chip) (h : FabHdr) (m : MoveCommon) (status region offset : Nat) : Chip :=
  (c.sendNew .device h.src 0 (.moveReply
    { common := { m with rsvd := 0 }, status := status, rxRegion := region, rxOffset := offset, rsvd := 0 })).2

/-- FAB_PKT_MOVE_OFFER (R250). -/
def moveOffer (c : Chip) (h : FabHdr) (b : OfferBody) : Chip :=
  let (st, p) := c.offerPart h b
  if st ≠ stOk then
    let c := if st = stPartFull ∧ b.kind = 0 then c.countSlot else c
    c.sendReply h b.common st 0 0
  else
    let (n, dr) := (c.offerShape p b).getD (0, false)
    let size := slotsStart n b.pages + b.pages * c.slotSize p
    match c.moveWindow p with
    | none => c.sendReply h b.common stPartFull 0 0
    | some r =>
      match c.carveRange r size with
      | none => c.sendReply h b.common stPartFull 0 0
      | some o => (c.acceptOffer h b p r o size n dr).sendReply h b.common stOk r o

/-- R250: DISCARDED: what was reserved is freed. -/
def Chip.discardMove (c : Chip) (d : MoveDst) : Chip :=
  let c := d.refs.foldl (fun c r => match c.frameOf d.part r with
    | some f => c.freeFrame f
    | none => c) c
  let c := c.onWork (fun w => { w with dst := dropWhere (fun x => x.source == d.source && x.moveId == d.moveId) w.dst })
  let c := if d.kind = 0 then c.unrefAdapter d.part d.adapter d.adapterVer else c
  (c.bump (Reg.movCnt 6)).log { code := 0x0803, refKind := 1, ref := d.requestId, part := d.part }

/-- R248: the common bytes that name a move at its destination. -/
def MoveDst.common (d : MoveDst) : MoveCommon :=
  { requestId := d.requestId, placement := d.placement, moveId := d.moveId, rsvd := 0 }

/-- R250: FAB_PKT_MOVE_ACK. -/
def Chip.sendMoveAck (c : Chip) (d : MoveDst) : Chip :=
  (c.sendNew (.part d.part) d.source 0 (.moveAck { common := d.common, bytes := d.bytes, phase := 0, rsvd := 0 })).2

/-- R250: the bytes of the image received. -/
def Chip.rxBytes (c : Chip) (d : MoveDst) (off len : Nat) : List Byte :=
  c.regionRead (c.region d.region) (d.offset + off) len

/-- R245: a word of the sleeve record received. -/
def Chip.rxWord (c : Chip) (d : MoveDst) (i : Nat) : W64 := BitVec.ofNat 64 (natOfLe (c.rxBytes d (8 * i) 8))

/-- R244: the position table received. -/
def Chip.rxTable (c : Chip) (d : MoveDst) (n : Nat) : List PosEnt :=
  (upTo (n + 1)).map (fun i =>
    let v := natOfLe (c.rxBytes d (128 + 4 * i) 4)
    ⟨v % 2 ^ 24, v.testBit 30, v.testBit 31⟩)

/-- R244: the page directory received: (draft, layer, format, fill, `POS_BASE`). -/
def Chip.rxDir (c : Chip) (d : MoveDst) (n : Nat) : List (Bool × Nat × Nat × Nat × Nat) :=
  (upTo d.pages).map (fun i =>
    let w := BitVec.ofNat 64 (natOfLe (c.rxBytes d (128 + roundUp (4 * (n + 1)) 64 + 8 * i) 8))
    (bitOf w 55, fieldOf w 63 56, fieldOf w 51 48, fieldOf w 47 39, fieldOf w 38 19))

/-- R133: the 16 header words and coded blocks of a page received. -/
def Chip.rxBlocks (c : Chip) (d : MoveDst) (n i : Nat) : List (W64 × List Byte) :=
  let o := slotsStart n d.pages + i * c.slotSize d.part
  (upTo 16).map (fun k =>
    let w := BitVec.ofNat 64 (natOfLe (c.rxBytes d (o + 8 * k) 8))
    (w, c.rxBytes d (o + 128 + 4096 * k) (pleatHdrOf w).codedLen))

/-- Whether a page received is pleated: the partition pleats its kind and some header is not zero. -/
def Chip.rxPleated (c : Chip) (d : MoveDst) (n i : Nat) (e : Bool × Nat × Nat × Nat × Nat) : Bool :=
  c.kvPleats d.part e.2.2.1 e.1 && (c.rxBlocks d n i).any (fun b => b.1 != 0#64)

/-- R134, R250: one page received; else the block of a pleat that fails its checks, and the cause. -/
def Chip.rxPage (c : Chip) (d : MoveDst) (n i : Nat) (e : Bool × Nat × Nat × Nat × Nat) (tab : List PosEnt) :
    Except (Nat × Nat) PageImg :=
  let o := slotsStart n d.pages + i * c.slotSize d.part
  let fmt := e.2.2.1
  let elem : Except (Nat × Nat) (List Byte) := if !c.rxPleated d n i e then .ok (c.rxBytes d (o + 128) 65536)
    else
      match c.model d.part e.1 with
      | none => .error (0, 1)
      | some m => expandPage (imgPleat m) fmt (c.rxBlocks d n i)
  match elem with
  | .error x => .error x
  | .ok bs =>
    let scale := c.rxBytes d (o + 65664) (scaleFrameBytes fmt)
    let t := kvTpp (c.layer d.part e.1 e.2.1)
    .ok { draft := e.1, layer := e.2.1, fmt := fmt, fill := e.2.2.2.1, posBase := e.2.2.2.2,
          pad := padBits tab e.2.2.2.2 e.2.2.2.1, sealed_ := e.2.2.2.1 == t,
          bytes := memWriteBytes (memWriteBytes [] 0 bs) 65536 scale, pleats := [] }

/-- The pages of a move received; else the first damaged block (page, block, cause). -/
def Chip.rxPages (c : Chip) (d : MoveDst) (n : Nat) : Except (Nat × Nat × Nat) (List PageImg) :=
  let tab := c.rxTable d n
  ((c.rxDir d n).zipIdx).foldl (fun (a : Except (Nat × Nat × Nat) (List PageImg)) e =>
    match a with
    | .error x => .error x
    | .ok l =>
      match c.rxPage d n e.2 e.1 tab with
      | .ok g => .ok (l ++ [g])
      | .error x => .error (e.2, x)) (.ok [])

/-- R22, R134: the pages of a move received that rest here: those that came pleated stay pleated, with their headers. -/
def Chip.rxRest (c : Chip) (d : MoveDst) (n : Nat) (gs : List PageImg) : List PageImg :=
  ((c.rxDir d n).zip gs).zipIdx.map (fun y => if c.rxPleated d n y.2 y.1.1 then y.1.2.rest (c.rxBlocks d n y.2) else y.1.2)

/-- R231, R268: a sequence whose sleeve is back goes on with its phase. -/
def Chip.resumeSeq (c : Chip) (s : Seq) : Chip :=
  let s := { s with phase := if s.toPrompt then .prompt else .decode, lastCommit := c.time, progress := true }
  let c := c.setSeq s
  if s.cancelPend then c.failSeq s stAborted
  else if s.pausePend then c.pauseNow s
  else c.enqueueSeq s false

/-- R268: a restore that cannot end: the sequence is rebuilt as for `SOURCE` 0. -/
def Chip.restoreLost (c : Chip) (s : Seq) : Chip :=
  let c := c.onWork (fun w => { w with pulls := dropWhere (fun p => p.requestId == s.requestId) w.pulls })
  c.resumeSeq { s with recompute := decide (0 < s.c), started := false, cd := 0 }

/-- R22, R134, R136: the coded blocks of a move received that MV expanders decode, from the block that was damaged before up to
a block (page, block), or to the end; a cache device only checks them. -/
def Chip.rxDecoded (c : Chip) (d : MoveDst) (n : Nat) (upto : Option (Nat × Nat)) : Nat :=
  if c.role = 3 then 0
  else
    let hs := (((c.rxDir d n).zipIdx).map (fun e =>
      if c.rxPleated d n e.2 e.1 then (c.rxBlocks d n e.2).map Prod.fst else List.replicate 16 0#64)).flatten
    codedBetween hs (d.bad.map (fun b => 16 * b.1 + b.2)) (upto.map (fun b => 16 * b.1 + b.2))

/-- R127, R258: a move whose data cannot be had here is discarded: its source stays home. The request of a restore ends
with ST_BLOCK_DAMAGED, or is rebuilt after a tier error; the source of another move does so for its own. -/
def Chip.moveSpoiled (c : Chip) (d : MoveDst) (status : Nat) : Chip :=
  let c := (c.sendNew (.part d.part) d.source 0 (.moveAbort { common := d.common, status := status, rsvd := 0 })).2
  let c := c.discardMove d
  match (if d.kind = 2 then c.seq d.requestId else none) with
  | some s => if status = stDamaged then c.failSeq s stDamaged else c.restoreLost s
  | none => c

/-- R126, R127, R134: the checks of a datum whose every message is there: it is acknowledged, or a damaged block of it is
read once more from the source. -/
def Chip.checkMove (c : Chip) (d : MoveDst) : Chip :=
  let n := fieldOf (c.rxWord d 2) 63 32
  match c.rxPages d n with
  | .ok _ =>
    let d0 := d
    let d := { d with state := 2, bad := none }
    ((c.setMoveDst d).bumpBy (Reg.movPlt 0) (c.rxDecoded d0 n none)).sendMoveAck d
  | .error (i, k, cause) =>
    if d.bad = some (i, k) then c.mvDamagedAgain.moveSpoiled d stDamaged
    else
      ((c.bumpBy (Reg.movPlt 0) (c.rxDecoded d n (some (i, k)))).setMoveDst { d with bad := some (i, k) }).mvDamaged d.part cause
        (d.offset + slotsStart n d.pages + i * c.slotSize d.part + 128 + 4096 * k)

/-- PLEAT_REFETCH_COMPLETES of a block of a move (R126, R127): its bytes and its header take their places. -/
def moveRefetched (c : Chip) (src id : Nat) (bytes : List Byte) (hdrs : List W64) (tierError : Bool) : Chip :=
  match c.moveDst src id with
  | none => c
  | some d =>
    match d.bad with
    | none => c
    | some (i, k) =>
      if tierError then
        ((c.bump (Reg.movCnt 13)).log { code := 0x0802, refKind := 1, ref := d.requestId, part := d.part }).moveSpoiled d stUncorrectable
      else
        let o := d.offset + slotsStart (fieldOf (c.rxWord d 2) 63 32) d.pages + i * c.slotSize d.part
        let c := match hdrs with
          | h :: _ => c.regionWrite (c.region d.region) (o + 8 * k) (leBytes h.toNat 8)
          | [] => c
        (c.regionWrite (c.region d.region) (o + 128 + 4096 * k) (bytes.take 4096)).checkMove d

/-- R250: a message of a move has completed. The last message is the one that writes the start of the
range; the checks run once every message is there. -/
def moveArrived (c : Chip) (src region low bytes : Nat) : Chip :=
  match c.work.dst.find? (fun d => d.source == src && d.region == region && d.state == 1 &&
      decide (d.offset ≤ low) && decide (low < d.offset + d.size)) with
  | none => c
  | some d =>
    let d := { d with bytes := d.bytes + bytes, head := if low = d.offset then bytes else d.head }
    let c := (c.setMoveDst d).bumpBy (Reg.movCnt 4) bytes
    if d.head = 0 ∨ d.bad.isSome ∨ d.bytes ≠ (c.rxWord d 7).toNat + d.head then c
    else c.checkMove d

/-- R262: a page received takes its reserved frame: sealed and indexed when full, else a TAIL. -/
def Chip.placePage (c : Chip) (s : Seq) (refs : List PageRef) (g : PageImg) : Option PageRef × Chip :=
  let held := (refs.find? (fun r => r.draft == g.draft && r.layer == g.layer && r.posBase == g.posBase)).map
    (fun r => (r, c))
  let quad := c.pageQuad s.part s.slot g.layer (g.posBase / kvTpp (c.layer s.part g.draft g.layer))
  match (match held with
    | some x => some x
    | none => c.openPage s.part s.slot ⟨g.draft, g.layer, g.posBase, quad, 0⟩ g.fmt) with
  | none => (none, c)
  | some (r, c) =>
    match c.frameOf s.part r with
    | none => (none, c)
    | some f =>
      let f := { f with state := 2, fill := g.fill, pad := g.pad, bytes := g.bytes, fmt := g.fmt, slot := s.slot }
      if g.sealed_ then
        let (r, c) := c.sealPage s r f
        (some r, c)
      else (some r, c.setFrame f)

/-- Pages placed for a sequence; frames reserved for pages that did not come are freed. -/
def Chip.placePages (c : Chip) (s : Seq) (refs : List PageRef) (gs : List PageImg) : Seq × Chip :=
  let spare := refs.filter (fun r => !gs.any (fun g => r.draft == g.draft && r.layer == g.layer && r.posBase == g.posBase))
  let c := spare.foldl (fun c r => match c.frameOf s.part r with
    | some f => c.freeFrame f
    | none => c) c
  let (ps, c) := gs.foldl (fun (a : List PageRef × Chip) g =>
    let (r, c) := a.2.placePage s refs g
    (a.1 ++ r.toList, c)) ([], c)
  ({ s with pages := ps }, c)

/-- R262, R266, R268: the destination tells the anchor that it is home. -/
def Chip.tellHome (c : Chip) (s : Seq) : Chip :=
  if s.anchor = c.deviceId then
    match c.collar s.requestId with
    | some k => if k.img.placement = s.placement then c.homeTaken k c.deviceId else c
    | none => c
  else c.sendReport s 2 stOk 0 0 [] []

/-- R203: the terms that a phase handed off to this device runs under: its collar's where this device is the anchor, else those
that no packet carries (log entry 15). -/
def Chip.phaseTerms (c : Chip) (req : Nat) : HandoffTerms :=
  match c.collar req with
  | some k =>
    let m := k.img
    { customer := m.customer, keep := m.keep, stopEos := m.stopEos, stop := m.stop.take m.nStop, maxNew := m.maxNew,
      nextIndex := if m.lastEmitted = 0xFFFFFFFF then 0 else m.lastEmitted + 1, rank := (Config.handoffTerms req).rank }
  | none => Config.handoffTerms req

/-- R262: the sequence of a handoff received. -/
def Chip.handedOff (c : Chip) (d : MoveDst) : Seq :=
  let t := c.phaseTerms d.requestId
  let n := fieldOf (c.rxWord d 2) 63 32
  { requestId := d.requestId, anchor := d.requestId / 2 ^ 48, placement := d.placement, part := d.part,
    slot := d.slot, customer := t.customer % 4096, adapter := d.adapter, adapterVer := d.adapterVer, onePass := false,
    keep := t.keep, stopEos := t.stopEos, stop := t.stop, maxNew := t.maxNew,
    samp := (upTo 4).map (fun i => c.rxWord d (8 + i)), table := c.rxTable d n, c := n,
    cd := fieldOf (c.rxWord d 2) 31 0, emitted := t.nextIndex, phase := .decode, draft := draftOfWord (c.rxWord d 4),
    pages := [], swapped := [], evictions := 0, lastCommit := c.time, paused := false, recompute := false,
    started := false, ra := 0, rd := 0, running := false, silenceMs := d.silenceMs, progress := true,
    pausePend := false, cancelPend := false, firstChunk := false, attached := 0,
    toPrompt := false, offered := false }

/-- R250, R262, R266, R268: HOME: the datum is this device's. -/
def Chip.moveHome (c : Chip) (d : MoveDst) : Chip :=
  let n := fieldOf (c.rxWord d 2) 63 32
  let pages := ((c.rxPages d n).toOption).getD []
  let drop := fun (c : Chip) =>
    c.onWork (fun w => { w with dst := dropWhere (fun x => x.source == d.source && x.moveId == d.moveId) w.dst })
  if d.kind = 0 then
    let s := c.handedOff d
    let (s, c) := c.placePages s d.refs pages
    let c := (drop c).onWork (fun w => { w with seqs := w.seqs ++ [s] })
    (c.enqueueSeq s false).tellHome s
  else if d.kind = 1 then
    let s := { c.handedOff d with phase := .hold }
    match (drop c).putStored s (c.rxRest d n pages) d.ttlMs with
    | some c => ((c.refAdapter s.part s.adapter s.adapterVer).bump (Reg.movCnt 14)).tellHome s
    | none => (drop c).reportHome s true
  else
    match c.seq d.requestId with
    | none => drop c
    | some s =>
      let s := { s with cd := fieldOf (c.rxWord d 2) 31 0, draft := draftOfWord (c.rxWord d 4) }
      let (s, c) := c.placePages s d.refs pages
      let c := (drop c).onWork (fun w => { w with pulls := dropWhere (fun p => p.requestId == d.requestId) w.pulls })
      let c := (c.setSeq s).bump (Reg.movCnt 17)
      (c.tellHome s).resumeSeq s

/-- FAB_PKT_MOVE_COMMIT (R250). -/
def moveCommit (c : Chip) (h : FabHdr) (b : MoveBareBody) : Chip :=
  match c.moveDst h.src b.common.moveId with
  | some d => if d.state = 2 then c.moveHome d else c
  | none => c

/-- FAB_PKT_MOVE_ANSWER (R250). -/
def moveAnswer (c : Chip) (h : FabHdr) (b : MoveAnswerBody) : Chip :=
  match c.moveDst h.src b.common.moveId with
  | none => c
  | some d =>
    if b.answer = 2 then c.discardMove d
    else
      let d := { d with queries := 0 }
      let c := c.setMoveDst d
      if d.state = 2 then (if b.answer = 0 then c.sendMoveAck d else c.moveHome d) else c

/-- MOVE_COMMIT_WAIT (R250). -/
def moveCommitWait (c : Chip) (src id : Nat) : Chip :=
  match c.moveDst src id with
  | none => c
  | some d =>
    if d.queries < 4 then
      let c := (c.setMoveDst { d with queries := d.queries + 1 }).bump (Reg.movCnt 5)
      (c.sendNew (.part d.part) src 0 (.moveQuery { common := d.common, rsvd := 0 })).2
    else c.discardMove d

/-! Restores (R268). -/

/-- The paused sleeve that this device holds of a request: at rest in T2, or still in T1 while it is being stored. -/
def Chip.heldSleeve (c : Chip) (req : Nat) : Option (Seq × Nat) :=
  match c.stored? req with
  | some st => some (st.seq, st.pages.length)
  | none => ((c.seq req).filter (fun s => s.phase == SeqPhase.hold && !(c.moveSrc req).any (fun m => m.kind == 0))).map (fun s => (s, s.pages.length))

/-- FAB_PKT_MOVE_PULL at the holder (R268): the sleeve is offered, or ST_STATE_LOST. A pause store that is still under way
is aborted first: its source is home (log entry 105). A PULL is served as it arrives (log entry
102); a copy of one that is being answered changes nothing. -/
def movePull (c : Chip) (h : FabHdr) (b : MovePullBody) : Chip :=
  let req := b.common.requestId
  let lost := fun (c : Chip) =>
    (c.sendNew .device h.src 0 (.moveAbort { common := { b.common with rsvd := 0 }, status := stStateLost, rsvd := 0 })).2
  match c.heldSleeve req with
  | none => lost c
  | some (s, pages) =>
    match (c.stored? req).filter (fun st => !c.storedOk st) with
    | some st =>
      let c := match c.moveSrc req with
        | some m => c.abortMove m stStateLost
        | none => c
      lost (c.storedBad st)
    | none =>
      if (c.moveSrc req).any (fun m => m.kind == 2 && m.placement == b.common.placement && m.dest == h.src) then c
      else
        let c := match c.moveSrc req with
          | some m => c.abortMove m stAborted
          | none => c
        (c.startMove s 2 b.common.placement s.c pages (c.ttlLeft s) [h.src]).getD c

/-- R268: the holder frees a sleeve whose restore missed RESTORE_MS, and reports `KIND` 4. -/
def Chip.dropHeld (c : Chip) (req : Nat) : Chip :=
  match c.stored? req, c.seq req with
  | some st, _ => (c.dropStored req).reportHome st.seq true
  | none, some s => if s.phase == SeqPhase.hold then (c.releaseSleeve req).reportHome s true else c
  | none, none => c

/-- FAB_PKT_MOVE_ABORT (R250, R268, R127). -/
def moveAbort (c : Chip) (h : FabHdr) (b : MoveAbortBody) : Chip :=
  let st := statusOf b.status
  match c.moveDst h.src b.common.moveId with
  | some d => c.discardMove d
  | none =>
    match c.work.src.find? (fun m => m.moveId == b.common.moveId && m.dest == h.src && m.state != 4) with
    | some m =>
      let c := (c.dropMoveSrc m.moveId).bump (Reg.movCnt 2)
      if m.kind = 2 ∧ st = stDeadline then
        c.dropHeld m.requestId
      else if st = stDamaged then
        match c.seq m.requestId, c.stored? m.requestId with
        | some s, _ => c.failSeq s stDamaged
        | none, some s => c.failSeq s.seq stDamaged
        | none, none => c
      else c.moveNext m
    | none =>
      match c.work.pulls.find? (fun p => p.requestId == b.common.requestId && p.holder == h.src) with
      | some p =>
        match c.seq p.requestId with
        | some s => c.restoreLost s
        | none => c
      | none =>
        if st = stDeadline then c.dropHeld b.common.requestId else c

/-- RESTORE_MS (R185, R257, R268): a restore is late: of a sleeve, or of pages in T4. -/
def restoreMs (c : Chip) (req : Nat) : Chip :=
  match c.seq req with
  | none => c
  | some s =>
    if s.phase != SeqPhase.restoring then
      (if s.swapped.any (fun x => x.reading) then (c.bump (Reg.movCnt 11)).swapLost s else c)
    else
      let c := c.bump (Reg.movCnt 11)
      let c := match c.work.pulls.find? (fun p => p.requestId == req) with
        | some p =>
          let (id, c) := match c.work.dst.find? (fun (d : MoveDst) => d.requestId == req && d.kind == 2) with
            | some d => (d.moveId, c.discardMove d)
            | none => (0, c)
          (c.sendNew (.part s.part) p.holder 0 (.moveAbort
            { common := { requestId := req, placement := p.placement, moveId := id, rsvd := 0 }, status := stDeadline,
              rsvd := 0 })).2
        | none => c.dropHeld req
      c.restoreLost s

/-- R121, R126, R136: the pages of a sleeve at rest expanded in order, with the blocks decoded counted; else the first damaged
block (page, block, cause). Its refetch reads the same bytes of T2 and finds it damaged again (DEDUCED, log entry 64). -/
def Chip.unrestAll (c : Chip) (p : Nat) (gs : List PageImg) : Except (Nat × Nat × Nat) (List PageImg) × Chip :=
  gs.zipIdx.foldl (fun (a : Except (Nat × Nat × Nat) (List PageImg) × Chip) g =>
    let count := fun (upto : Option Nat) => a.2.bumpBy (Reg.movPlt 0) (codedBetween (g.1.pleats.map Prod.fst) none upto)
    match a.1 with
    | .error e => (.error e, a.2)
    | .ok l => match a.2.unrest p g.1 with
      | .ok h => (.ok (l ++ [h]), count none)
      | .error e => (.error (g.2, e), count (some e.1))) (.ok [], c)

/-- R251, R268: a sleeve restored from this device's own T2. -/
def Chip.localRestored (c : Chip) (s : Seq) (st : Stored) : Chip :=
  let plain := (c.openStored st).1
  let need := st.pages.map (fun g =>
    (⟨g.draft, g.layer, g.posBase,
      c.pageQuad s.part s.slot g.layer (g.posBase / kvTpp (c.layer s.part g.draft g.layer)), 0⟩ : PageRef))
  if !c.storedOk st then ((c.countFaults st).dropStored s.requestId).restoreLost s
  else if c.fitsFree s.part need then
    match c.unrestAll s.part (st.imgs plain) with
    | (.ok gs, c) =>
      let (s2, c) := c.takePages { s with pages := [] } need
      let s3 := { s with cd := st.seq.cd, draft := st.seq.draft }
      let (s3, c) := c.placePages s3 s2.pages gs
      let c := (((c.dropStored s.requestId).setSeq s3).bump (Reg.movCnt 0)).bump (Reg.movCnt 1)
      (c.tellHome s3).resumeSeq s3
    | (.error (i, k, cause), c) =>
      let at_ := slotsStart s.c st.pages.length + i * c.slotSize s.part + 128 + 4096 * k
      (((c.mvDamaged s.part cause at_).mvDamagedAgain).dropStored s.requestId).failSeq s stDamaged
  else (c.dropStored s.requestId).restoreLost s

/-- LOCAL_MOVE_COMPLETES (R251): a paused sleeve is at rest, or a sleeve is restored. -/
def localMoveCompletes (c : Chip) (req : Nat) : Chip :=
  match c.seq req with
  | none => c
  | some s =>
    match s.phase with
    | .restoring =>
      match c.stored? req with
      | some st => if c.work.pulls.any (fun p => p.requestId == req) then c else c.localRestored s st
      | none => c
    | .hold => if (c.moveSrc req).isNone then c.localStored s else c
    | _ => c

/-- TTL_FULL (R267). -/
def ttlFull (c : Chip) (req : Nat) : Chip :=
  match c.stored? req, c.moveSrc req with
  | some st, none =>
    let c := (c.dropStored req).bump (Reg.movCnt 16)
    (c.log { code := 0x0807, refKind := 1, ref := req, part := st.seq.part }).reportHome st.seq true
  | _, _ => c

/-! Phases on this device for other anchors (R248, R263, R264). -/

/-- FAB_PKT_PHASE_PLACE at the node (R248). -/
def Chip.placed (c : Chip) (src : Nat) (b : PlacedPhase) : Chip :=
  let m := b.collar
  let prompt := m.lcState ≤ lcPrefill
  let st := c.placeStatus m.part (c.phaseEngine m prompt) prompt
  let st := if st = stOk ∧ !c.holdsVersion m.part m.adapter m.adapterVer then stAdapterUnknown else st
  let s := c.seqOf m prompt false 0 src b.silenceMs
  if st = stOk then
    let c := c.acceptPlace m prompt (if b.source = 2 then some b.holder else none) src b.silenceMs
    c.sendReport s 0 stOk 0 0 [] []
  else
    let c := if st = stPartFull then c.countSlot else c
    c.sendReport s 5 st 0 0 [] []

/-- FAB_PKT_PHASE_PLACE (R248, R357, R358): a packet joins its placement; a placement that is whole is acted on. One that does not have
the layout is refused (R6). -/
def phasePlace (c : Chip) (h : FabHdr) (b : PlaceBody) : Chip :=
  let k : FabPkt := ⟨h, .phasePlace b⟩
  if 4096 ≤ b.pktIndex then c.nackPkt k stMalformed
  else
    match c.reassemble h b.pktIndex 0 b.data.length stOk b.data with
    | .duplicate => c.bump (Reg.rmaCnt 9)
    | .noRoom => c.nackPkt k stBusy
    | .more x => c.setCtx x
    | .whole x =>
      let c := c.dropCtx h.src h.msgId
      match placementOf (ctxBody x) with
      | some p => c.placed h.src p
      | none => c.nackPkt k stMalformed

/-- R264: an orphan sleeve is released. -/
def Chip.releaseOrphan (c : Chip) (req part : Nat) : Chip :=
  let c := (c.purge req stReset).onWork (fun w => { w with pulls := dropWhere (fun p => p.requestId == req) w.pulls })
  (c.bump (Reg.movCnt 18)).log { code := 0x0805, refKind := 1, ref := req, part := part }

/-- FAB_PKT_PHASE_CTRL at the node (R248, R249, R264). -/
def phaseCtrl (c : Chip) (b : PhaseCtrlBody) : Chip :=
  let req := b.common.requestId
  let c := match c.work.src.find? (fun m => m.requestId == req && m.state == 4) with
    | some m => if b.action = 0 ∨ b.action = 1 then c.sendCtrl m.dest req b.common.placement b.action b.status else c
    | none => c
  if b.action = 0 then
    match c.seq req, c.stored? req with
    | some s, _ =>
      if precedes 16 b.common.placement s.placement then c
      else if statusOf b.status = stAborted ∧ c.cancelWaits s then c.setSeq { s with cancelPend := true }
      else c.releaseOrphan req s.part
    | none, some st => if precedes 16 b.common.placement st.seq.placement then c else c.releaseOrphan req st.seq.part
    | none, none => c
  else if b.action = 1 then
    match c.seq req with
    | none => c
    | some s =>
      if s.running || s.phase == .restoring || (c.moveSrc req).isSome then c.setSeq { s with pausePend := true }
      else if s.phase == .hold then c else c.pauseNow s
  else
    match c.moveSrc req with
    | some m => c.setMoveSrc { m with acked := true }
    | none => c

/-- R263: the status of a heartbeat. -/
def beatStatus (s : Seq) : Nat :=
  let waits := !s.running && !s.paused && (s.phase == .prompt || s.phase == .decode) && s.swapped.isEmpty
  if s.progress || waits then stOk else stBusy

/-- PHASE_REPORT_INTERVAL (R263). -/
def phaseReportInterval (c : Chip) (req : Nat) : Chip :=
  match c.seq req with
  | none => c
  | some s =>
    if s.anchor = c.deviceId then c
    else (c.setSeq { s with progress := false }).sendReport s 0 (beatStatus s) 0 0 [] []

/-- FAB_PKT_NACK of a phase or move packet (R14, R249, R264). -/
def phaseNack (c : Chip) (src : Nat) (b : NackBody) : Chip :=
  let st := statusOf b.status
  if b.droppedType = 0x20 then
    -- a placement that the node could not take (R248)
    match c.work.collars.find? (fun k => k.place.waiting && k.place.node == some src && k.place.msg == b.msgId) with
    | some k => c.placeRefused k
    | none => c
  else if b.droppedType = 0x21 ∧ (st = stLinkDown ∨ st = stTimeout) then
    -- a report failed: its sleeve is an orphan (R264)
    match c.work.reports.find? (fun r => r.1 == b.msgId) with
    | none => c
    | some (_, req) =>
      match c.seq req, c.stored? req with
      | some s, _ => c.releaseOrphan req s.part
      | none, some st => c.releaseOrphan req st.seq.part
      | none, none => c
  else c

end Sys2Proof.Machine
end

