-- ==== Sys2Proof/Machine/Adapters.lean ====
section
/-!
DEFINITION. Adapter slots (R219 to R223, R258): installs, drains, removals, and the loading of a
version.
-/
namespace Sys2Proof.Machine

/-- R220: whether the body of an install breaks its rules. -/
def installBad (b : AdapterBody) : Bool :=
  b.rsvd != 0 || b.adapter == 0xFFFF || decide (4096 ≤ b.customer) ||
    (if b.remove then
      b.rank != 0 || b.srcKind != 0 || b.srcDevice != 0 || b.srcRegion != 0 || b.srcOffset != 0 || b.srcLength != 0 ||
        b.measurement != 0
    else b.rank % 8 != 0 || b.rank == 0 || decide (256 < b.rank) || decide (1 < b.srcKind))

/-- R386, R387, R402: whether a source of weights may be read for a partition: a host window of a port that serves the partition,
allows reads and holds the bytes, or a pool region that an ACTIVE grant opens to it (R345). -/
def Chip.sourceStatus (c : Chip) (part kind port device region offset len : Nat) : Nat :=
  if kind = 0 then
    if decide (region < 16) && c.windowOk port region offset len false && c.fld (Reg.hlHostWin port region 0) 59 56 == part then stOk
    else stDenied
  else if kind = 1 then
    let (st, g) := c.findGrant device region
    if st ≠ stOk then st else c.grantStatus g part .read
  else stOk

/-- R221: the checks of an install, in order; then that of its host window (R386, log entry 109). Partition `FLAGS` bit 5 (the adapters mode) is not among them: with the mode
off, installs and bindings go on, and the flag acts only on `ADAPTERS_IGNORED` (R22; DESIGN CHOICE, log entry 85). -/
def Chip.installStatus (c : Chip) (port : Nat) (b : AdapterBody) : Nat :=
  let mine := c.adapterSlots b.part b.adapter [1, 2, 3, 4]
  let cur := c.adapterSlots b.part b.adapter [2]
  let free := (upTo 1024).any (fun s => c.slotState s == 0)
  if !c.hasAdmin port b.part then stPrivilege
  else if installBad b then stMalformed
  else if c.partRefusal b.part ≠ stOk then c.partRefusal b.part
  else if mine.any (fun s => c.fld (Reg.adapterSlot s 0) 15 4 != b.customer) then stDenied
  else if c.work.installs.any (fun i => i.part == b.part && i.adapter == b.adapter) then stBusy
  else if b.remove then (if cur.isEmpty then stAdapterUnknown else stOk)
  else if (!b.drain || cur.isEmpty) && !free then stAdapterBusy
  else if b.srcKind = 0 then c.sourceStatus b.part 0 port 0 b.srcRegion b.srcOffset b.srcLength
  else stOk

/-- R222: a version that no new request may bind: RETIRING, or FREE when nothing refers to it. -/
def Chip.retire (c : Chip) (s : Nat) : Chip :=
  if c.fld (Reg.adapterSlot s 1) 22 0 = 0 then c.freeAdapter s else c.setFld (Reg.adapterSlot s 1) 63 61 4

/-- R222, R223: a slot LOADING for an install. -/
def Chip.loadSlot (c : Chip) (s : Nat) (b : AdapterBody) : Chip := c.loadingSlot s b.part b.adapter b.customer b.rank

/-- HL_MSG_ADAPTER_INSTALL (R220 to R222). -/
def adapterInstall (c : Chip) (port : Nat) (b : AdapterBody) : Chip :=
  let st := c.installStatus port b
  if st ≠ stOk then c.ack port b.hostTag 0 st 0
  else
    let cur := (c.adapterSlots b.part b.adapter [2]).head?
    let job := fun (s : Nat) (drained waiting : Bool) =>
      ({ slot := s, tag := b.hostTag, port := port, part := b.part, adapter := b.adapter, customer := b.customer,
         rank := b.rank, measure := b.measurement, drained := drained, waiting := waiting } : Install)
    let add := fun (c : Chip) (i : Install) => c.onWork (fun w => { w with installs := w.installs ++ [i] })
    if b.remove then
      match cur with
      | some s => (c.retire s).ack port b.hostTag 0 stOk 0
      | none => c
    else
      match (if b.drain then cur else none) with
      | some s =>
        if c.fld (Reg.adapterSlot s 1) 22 0 = 0 then add (c.loadSlot s b) (job s true false)
        else add (c.setFld (Reg.adapterSlot s 1) 63 61 3) (job s true true)
      | none =>
        match (upTo 1024).find? (fun s => c.slotState s == 0) with
        | some s => add (c.loadSlot s b) (job s false false)
        | none => c

/-- R222: the next version number of a (partition, adapter). -/
def Chip.nextVersion (c : Chip) (part adapter : Nat) : Nat × Chip :=
  let key := part * 65536 + adapter
  let v := wrapSuccSkip0 32 ((assocGet c.work.verNums key).getD 0)
  (v, c.onWork (fun w => { w with verNums := assocPut w.verNums key v }))

/-- R258: a resident version that cannot be read again: every request bound to it ends. -/
def Chip.loseVersion (c : Chip) (s : Nat) : Chip :=
  let part := c.fld (Reg.adapterSlot s 0) 3 0
  let ver := c.fld (Reg.adapterSlot s 0) 63 32
  let ad := c.fld (Reg.adapterSlot s 0) 31 16
  let c := c.onWork (fun w => { w with lostSlots := s :: dropWhere (fun x => x == s) w.lostSlots })
  let reqs := (c.work.collars.filter (fun k => k.img.part == part && k.img.adapter == ad && k.img.adapterVer == ver)).map
    (fun k => k.img.requestId)
  let c := reqs.foldl (fun c r => c.endReq r stWeightLost) c
  (c.work.seqs.filter (fun q => q.part == part && q.adapter == ad && q.adapterVer == ver)).foldl
    (fun c q => c.failSeq q stWeightLost) c

/-- ADAPTER_LOAD_COMPLETES (R221, R222): the outcome of a load, or of reading a resident version again
(R218, R258): an installed version must measure as when it was committed. -/
def adapterLoaded (c : Chip) (slot : Nat) (fits : Bool) (digest status : Nat) : Chip :=
  match c.work.installs.find? (fun i => i.slot == slot) with
  | none =>
    let bad := decide (status ≠ stOk) || !fits || (match assocGet c.work.slotMeas slot with
      | some m => digest != m
      | none => false)
    if 2 ≤ c.slotState slot ∧ bad then c.loseVersion slot else c
  | some i =>
    if i.waiting || c.slotState slot != 1 then c
    else
      let drop := fun (c : Chip) => c.onWork (fun w => { w with installs := dropWhere (fun j => j.slot == slot) w.installs })
      let st := if status ≠ stOk then statusOf status else if !fits || digest != i.measure then stImageInvalid else stOk
      if st ≠ stOk then
        let c := ((drop c).freeAdapter slot).log { code := 0x040A, part := i.part, refKind := 3, ref := Reg.adapterSlot slot 0 }
        c.ack i.port i.tag 0 st 0
      else
        let old := c.adapterSlots i.part i.adapter [2]
        let (v, c) := (drop c).nextVersion i.part i.adapter
        let c := c.setReg (Reg.adapterSlot slot 0) (wordOf [(63, 32, v), (31, 16, i.adapter), (15, 4, i.customer), (3, 0, i.part)])
        let c := c.setReg (Reg.adapterSlot slot 1) (wordOf [(63, 61, 2), (60, 55, i.rank / 8)])
        let c := c.onWork (fun w => { w with lostSlots := dropWhere (fun x => x == slot) w.lostSlots,
                                             slotMeas := assocPut w.slotMeas slot i.measure })
        let c := old.foldl (fun c s => c.retire s) c
        let c := c.extend 6 8 slot (leBytes i.measure 32)
        let c := (c.bump (Reg.reqCnt 10)).log { code := 0x0409, part := i.part, refKind := 3, ref := Reg.adapterSlot slot 0 }
        c.ack i.port i.tag 0 stOk v

end Sys2Proof.Machine
end

