-- ==== Sys2Proof/Machine/EmbBase.lean ====
section
/-!
DEFINITION. The embedding station's versions and what is in flight on them (R276, R277, R299).
-/
namespace Sys2Proof.Machine

/-- The embedding station changed. -/
def Chip.onEmb (c : Chip) (f : Emb → Emb) : Chip := { c with emb := f c.emb }

/-- An installed version. -/
def Chip.ver (c : Chip) (table version : Nat) : Option TableVer :=
  c.emb.vers.find? (fun v => v.table == table && v.version == version)

/-- The CURRENT version of a table. -/
def Chip.curVer (c : Chip) (table : Nat) : Option TableVer :=
  c.emb.vers.find? (fun v => v.table == table && v.state == VerState.current)

/-- A version replaced. -/
def Chip.setVer (c : Chip) (v : TableVer) : Chip :=
  c.onEmb (fun e => { e with vers := updWhere (fun x => x.table == v.table && x.version == v.version) (fun _ => v) e.vers })

/-- R277: look-ups in flight on a version: rows of bags not yet answered, and scatter-adds not yet
acknowledged. -/
def Chip.inFlight (c : Chip) (t v : Nat) : Nat :=
  sumN ((c.emb.gathers.filter (fun g => g.table == t && g.version == v)).map (fun g =>
    sumN (g.bags.map (fun b => b.idx.eraseDups.length)))) +
  sumN ((c.emb.updates.filter (fun u => u.table == t && u.version == v)).map (fun u =>
    (u.statuses.filter Option.isNone).length))

/-- R299: the version that last left CURRENT in a table, with its state. -/
def Chip.prevVer (c : Chip) (t : Nat) : Nat × Nat :=
  ((c.emb.prevs.find? (fun p => p.1 == t)).map (fun p => (p.2.1, p.2.2))).getD (0, 0)

/-- R299: the previous version's state recorded. -/
def Chip.setPrev (c : Chip) (t v st : Nat) : Chip :=
  c.onEmb (fun e => { e with prevs := dropWhere (fun p => p.1 == t) e.prevs ++ [(t, v, st)] })

/-- R276, R292: every RETIRING version with nothing in flight is RETIRED, and its replicas go. -/
def Chip.retireTables (c : Chip) : Chip :=
  (c.emb.vers.filter (fun v => v.state == VerState.retiring)).foldl (fun c v =>
    if c.inFlight v.table v.version = 0 then
      let c := (c.setVer { v with state := .retired }).dropReplicas (fun r => r.table == v.table && r.version == v.version)
      let c := if (c.prevVer v.table).1 = v.version then c.setPrev v.table v.version 2 else c
      c.log { code := 0x1402, refKind := 3, ref := v.table, param1 := v.version }
    else c) c

/-- R81, R279: the gathers of a step end with it. -/
def Chip.dropBags (c : Chip) (part seq : Nat) : Chip :=
  let mine := fun (g : Gather) => g.join.any (fun b => b.part == part && b.seq == seq)
  if c.emb.gathers.any mine then (c.onEmb (fun e => { e with gathers := dropWhere mine e.gathers })).retireTables else c

end Sys2Proof.Machine
end

