-- ==== Sys2Proof/Machine/Fit.lean ====
section
/-!
DEFINITION. Stations and fitting (R60 to R63, R77 to R81): claiming a partition's stations, mapping its
roles, fences, and refits.
-/
namespace Sys2Proof.Machine

/-! Station keys: 128·q + i for station i of quadrant q, 512 + c for MV channels, 544 + c for EM
channels. -/

/-- The key of a station. -/
def stnKey : StationRef → Nat
  | .quad q i => 128 * q + i
  | .mv c => 512 + c
  | .em c => 544 + c

/-- R62: the capability register of a station. -/
def stnReg (k : Nat) : Nat :=
  if k < 512 then Reg.stnCap (k / 128) (k % 128) else if k < 544 then Reg.movStnCap (k - 512) else Reg.embStnCap (k - 544)

/-- R60: the kind code of a station. -/
def keyKind (k : Nat) : Nat := if k < 512 then stnKind (k % 128) else if k < 544 then 10 else 7

/-- R60, R62: the engine of a station. -/
def keyEngine (k : Nat) : Nat := if k < 512 then stnEngine (k % 128) else 3

/-- R425: the power domain of a station. -/
def keyDomain (k : Nat) : Nat :=
  if k < 512 then
    (if stnEngine (k % 128) = 0 then 8 else if stnEngine (k % 128) = 1 then 12 else 16) + k / 128
  else if k < 544 then 1 else 6

/-- R62: `STATE` of a station: 0 available, 1 fenced, 2 powered down. -/
def Chip.stnState (c : Chip) (k : Nat) : Nat := c.fld (stnReg k) 30 29

/-- R62: `OWNER_PART`; 31 for none. -/
def Chip.stnOwner (c : Chip) (k : Nat) : Nat := c.fld (stnReg k) 39 35

/-- Every station key. -/
def allKeys : List Nat :=
  ((upTo 4).map (fun q => (upTo 124).map (fun i => 128 * q + i))).flatten ++ (upTo 32).map (fun c => 512 + c) ++
    (upTo 4).map (fun c => 544 + c)

/-! Claiming (R78). -/

/-- R399, R60: the twelve kinds of a share: first station index, stations per quadrant, kind code. -/
def shareKinds : List (Nat × Nat × Nat) :=
  [(0, 48, 1), (48, 16, 2), (64, 16, 3), (80, 8, 3), (88, 8, 4), (96, 8, 4), (104, 1, 5), (105, 1, 5), (106, 1, 6),
   (107, 1, 6), (108, 8, 8), (116, 8, 9)]

/-- The roles of a partition's programs in the order of the fit, each with its `ENGINE_DEFAULT`. -/
def Chip.roles (c : Chip) (p : Nat) : List (Nat × Nat) := programRoles (c.part p).base (c.part p).draft

/-- R78: the share's quadrants in descending order of the roles of a kind that their groups hold. DESIGN CHOICE (log
entry 74): the roles of that kind are those of its kind code, whatever their engine field. -/
def Chip.quadsByRoles (c : Chip) (p kind : Nat) : List Nat :=
  let n := fun (q : Nat) =>
    ((c.roles p).filter (fun r => roleKind r.1 == kind && c.groupQuad p (roleGroup r.1) == q)).length
  (c.qset p).foldl (fun (acc : List Nat) q =>
    let (a, b) := (acc.takeWhile (fun x => decide (n q ≤ n x)), acc.dropWhile (fun x => decide (n q ≤ n x)))
    a ++ q :: b) []

/-- Whether a station may be claimed; `ideal` takes every station as available (R78, the reference). -/
def Chip.claimable (c : Chip) (ideal : Bool) (k : Nat) : Bool := ideal || c.stnState k == 0

/-- R78: the stations of one kind of the share that the partition claims. -/
def Chip.claimKind (c : Chip) (p : Nat) (ideal : Bool) (kd : Nat × Nat × Nat) (n : Nat) : List Nat :=
  let keys := fun (q : Nat) => ((upTo kd.2.1).map (fun i => 128 * q + kd.1 + i)).filter (c.claimable ideal)
  let own := fun (q : Nat) => (keys q).filter (fun k => c.stnOwner k == p)
  let free := fun (q : Nat) => (keys q).filter (fun k => c.stnOwner k == 31)
  let first := (c.qset p).map (fun q =>
    let a := (own q).take n
    (q, a ++ (free q).take (n - a.length)))
  let picked := (first.map Prod.snd).flatten
  let short := sumN (first.map (fun x => n - x.2.length))
  let order := c.quadsByRoles p kd.2.2
  let extra := (order.map (fun q => (own q).drop n)).flatten
  let rest := (order.map (fun q => (free q).filter (fun k => !picked.contains k))).flatten
  picked ++ (extra ++ rest).take short

/-- R78: the hub channels that the partition claims from one pool. -/
def Chip.claimPool (c : Chip) (p : Nat) (ideal : Bool) (base count n : Nat) : List Nat :=
  let keys := ((upTo count).map (fun i => base + i)).filter (c.claimable ideal)
  let own := (keys.filter (fun k => c.stnOwner k == p)).take n
  own ++ (keys.filter (fun k => c.stnOwner k == 31)).take (n - own.length)

/-- R78: `claim`: the stations of a partition. -/
def Chip.claim (c : Chip) (p : Nat) (ideal : Bool) : List Nat :=
  match c.decl p with
  | none => []
  | some d =>
    ((shareKinds.zipIdx).map (fun x => c.claimKind p ideal x.1 (d.share.getD x.2 0))).flatten ++
      c.claimPool p ideal 512 32 d.mvCount ++ c.claimPool p ideal 544 4 d.emCount

/-- R78 step 3: ownership after a claim: what was kept is the partition's; an available station that was
not kept is released. -/
def Chip.setOwners (c : Chip) (p : Nat) (picks : List Nat) : Chip :=
  let c := (allKeys.filter (fun k => c.stnOwner k == p && c.stnState k == 0 && !picks.contains k)).foldl
    (fun c k => c.setFlds (stnReg k) [(47, 40, 0), (39, 35, 31)]) c
  picks.foldl (fun c k => c.setFld (stnReg k) 39 35 p) c

/-- Every station of a partition released. -/
def Chip.releaseStations (c : Chip) (p : Nat) : Chip :=
  (allKeys.filter (fun k => c.stnOwner k == p)).foldl
    (fun c k => c.setFlds (stnReg k) [(47, 40, 0), (39, 35, 31)]) c

/-! Mapping (R61, R78). -/

/-- R61, R78: the (kind, engine) pairs a role may take, in the order they are searched. -/
def roleKinds (r dflt : Nat) : List (Nat × Nat) :=
  let k := roleKind r
  let e := roleEngine r
  if (k = 1 ∨ k = 2) ∧ e = 2 then (if dflt = 0 then [(1, 0), (2, 1)] else [(2, 1), (1, 0)])
  else if 3 ≤ k ∧ k ≤ 6 ∧ e = 2 then [(k, dflt), (k, 1 - dflt)]
  else [(k, e)]

/-- The roles a station carries so far. -/
def loadOf (m : List (Nat × Nat)) (k : Nat) : Nat := (m.filter (fun x => x.2 == k)).length

/-- R78: the station with the fewest roles, then the lowest index. -/
def leastLoaded (m : List (Nat × Nat)) (cands : List Nat) : Option Nat :=
  cands.foldl (fun (b : Option Nat) k => match b with
    | none => some k
    | some j => if loadOf m k < loadOf m j ∨ (loadOf m k = loadOf m j ∧ k < j) then some k else b) none

/-- R78: the station for a role: its group's quadrant first, then the next three in turn. -/
def Chip.placeRole (c : Chip) (p : Nat) (picks : List Nat) (m : List (Nat × Nat)) (r : Nat × Nat) : Option Nat :=
  let q0 := c.groupQuad p (roleGroup r.1)
  let hub := roleKind r.1 == 7 || roleKind r.1 == 10
  let at_ := fun (q : Nat) =>
    ((roleKinds r.1 r.2).findSome? (fun ke =>
      leastLoaded m (picks.filter (fun k => keyKind k == ke.1 && keyEngine k == ke.2 && (hub || k / 128 == q)))))
  (upTo (if hub then 1 else 4)).findSome? (fun d => at_ ((q0 + d) % 4))

/-- R78: roles mapped in order: (role, station), the missing kinds as bits, and the roles outside their
group's quadrant. -/
def Chip.mapRoles (c : Chip) (p : Nat) (picks : List Nat) : List (Nat × Nat) × Nat × Nat :=
  (c.roles p).foldl (fun (a : List (Nat × Nat) × Nat × Nat) r =>
    match c.placeRole p picks a.1 r with
    | none => (a.1, a.2.1 ||| 2 ^ roleKind r.1, a.2.2)
    | some k =>
      let cross := decide (k < 512) && k / 128 != c.groupQuad p (roleGroup r.1)
      (a.1 ++ [(r.1, k)], a.2.1, a.2.2 + bitN cross)) ([], 0, 0)

/-- R78: the reference fit of a partition: the roles each station carries with none fenced. -/
def Chip.reference (c : Chip) (p : Nat) : List (Nat × Nat) :=
  let picks := c.claim p true
  let m := (c.mapRoles p picks).1
  picks.map (fun k => (k, loadOf m k))

/-- R78, R80: `fit`: the partition's status, with ownership, `ROLES_MAPPED` and PART_FIT_STATUS written. -/
def Chip.fit (c : Chip) (p count : Nat) : Nat × Chip :=
  let picks := c.claim p false
  let (m, missing, cross) := c.mapRoles p picks
  let r := c.part p
  let folded := (picks.filter (fun k =>
    decide (((r.ref.find? (fun x => x.1 == k)).map Prod.snd).getD 0 < loadOf m k))).length
  let st := if missing ≠ 0 then stUnsupported else if folded ≠ 0 ∨ cross ≠ 0 then stDegraded else stOk
  let c := c.setOwners p picks
  let c := (allKeys.filter (fun k => c.stnOwner k == p)).foldl
    (fun c k => c.setFld (stnReg k) 47 40 (min 255 (loadOf m k))) c
  let res := if st = stUnsupported then 3 else if st = stDegraded then 2 else 1
  let c := c.setReg (Reg.partFitStatus p)
    (wordOf [(63, 48, count), (47, 40, min 255 folded), (39, 32, min 255 cross), (17, 16, res), (10, 1, missing / 2)])
  (st, c.setPart p { c.part p with fit := m })

/-! Fences and refits (R63, R77, R79, R81). -/

/-- R81: a step in flight abandoned: its streams close, its pages are as at launch, and it waits for the
refit. -/
def Chip.abandonStep (c : Chip) (t : Step) : Chip :=
  (((c.dropBags t.part t.seq).closeStreams t stReset).rollback t).awaitRefit t

/-- R81: every step of a partition with a role on a station is abandoned. -/
def Chip.hitSteps (c : Chip) (p k : Nat) : Chip :=
  (c.work.steps.filter (fun t => t.part == p && !t.abandoned && t.fits.any (fun x => x.2 == k))).foldl
    (fun c t => c.abandonStep t) c

/-- R77, R81: a refit of a partition is due; a refit that runs is followed by another. -/
def Chip.wantRefit (c : Chip) (p : Nat) : Chip :=
  let s := c.partState p
  if s = 2 ∨ s = 3 ∨ s = 4 then
    c.onWork (fun w =>
      match w.refitting with
      | none => { w with refitting := some p }
      | some _ => { w with refitAgain := if w.refitAgain.contains p then w.refitAgain else w.refitAgain ++ [p] })
  else c

/-- R77, R81: stations changed: those that leave service abandon their owners' steps, and the owners refit, in
ascending partition number. -/
def Chip.stationsChanged (c : Chip) (ks : List Nat) (hit : Bool) : Chip :=
  let owners := (upTo 16).filter (fun p => ks.any (fun k => c.stnOwner k == p))
  let c := if hit then ks.foldl (fun c k => if c.stnOwner k < 16 then c.hitSteps (c.stnOwner k) k else c) c else c
  owners.foldl (fun c p => c.wantRefit p) c

/-- R81: the state that a station had when the running refit began is kept. -/
def Chip.noteState (c : Chip) (k : Nat) : Chip :=
  if c.work.refitting.isNone || c.work.refitOld.any (fun x => x.1 == k) then c
  else
    let s := c.stnState k
    c.onWork (fun w => { w with refitOld := w.refitOld ++ [(k, s)] })

/-- R63, R81: a station fenced with a cause. DESIGN CHOICE (log entry 75): a fence of a station that is fenced already
changes nothing; its first cause stays, and no event is logged. -/
def Chip.fence (c : Chip) (k cause : Nat) : Chip :=
  if c.fld (stnReg k) 34 31 ≠ 0 then c
  else
    let o := c.stnOwner k
    let c := (c.noteState k).setFlds (stnReg k) [(34, 31, cause), (30, 29, 1)]
    let c := c.log { code := 0x2001, domain := some (keyDomain k), refKind := 3, ref := k,
                     part := if o < 16 then o else 0xFF }
    c.stationsChanged [k] true

/-- R63: a write of Qn_STN_FENCE. -/
def stationFence (c : Chip) (a : Accessor) (q i : Nat) (on : Bool) : Chip :=
  let k := 128 * q + i
  let refuse := c.log { code := 0x2002, domain := some (16 + q), refKind := 3, ref := k }
  if !c.accOwner a || decide (123 < i) then refuse
  else if on then c.fence k 4
  else if c.fld (stnReg k) 34 31 ≠ 4 then refuse
  else
    let up := c.domUp (keyDomain k)
    ((c.noteState k).setFlds (stnReg k) [(34, 31, 0), (30, 29, if up then 0 else 2)]).stationsChanged [k] false

/-- STATION_STORAGE_ERROR (R81): cause 2. -/
def stationStorageError (c : Chip) (s : StationRef) : Chip := c.fence (stnKey s) 2

/-- R62, R432: the stations of a domain that leaves UP. -/
def Chip.stationsDown (c : Chip) (d : Nat) : Chip :=
  let ks := allKeys.filter (fun k => keyDomain k == d && c.stnState k == 0)
  let c := ks.foldl (fun c k => (c.noteState k).setFld (stnReg k) 30 29 2) c
  c.stationsChanged ks true

/-- R62: the stations of a domain that is UP: available, fenced as before, or fenced with cause 1 where
the self-test failed. -/
def Chip.stationsUp (c : Chip) (d : Nat) (failed : List StationRef) : Chip :=
  let ks := allKeys.filter (fun k => keyDomain k == d && c.stnState k == 2)
  let c := ks.foldl (fun c k => (c.noteState k).setFld (stnReg k) 30 29 0) c
  let c := ((failed.map stnKey).filter (fun k => ks.contains k)).foldl (fun c k => c.fence k 1) c
  c.stationsChanged ks false

/-! Requests of a partition. -/

/-- Whether a resident sleeve is one of a PAUSED request that waits for its store (R266). -/
def Chip.pausedHold (c : Chip) (s : Seq) : Bool :=
  s.phase == SeqPhase.hold && !(c.work.src.any (fun m => m.requestId == s.requestId && m.kind == 0 && m.state != 4))

/-- The requests whose phases run in a partition here. -/
def Chip.activeSeqs (c : Chip) (p : Nat) : List Seq :=
  c.work.seqs.filter (fun s => s.part == p && !c.pausedHold s)

/-- R218 step 1: every step of a partition abandoned, and nothing relaunched. -/
def Chip.dropSteps (c : Chip) (p : Nat) : Chip :=
  (c.work.steps.filter (fun t => t.part == p)).foldl
    (fun c t => (((if t.abandoned then c else (c.closeStreams t stReset)).rollback t).dropStep t).bumpBy (Reg.movCnt 7)
      t.staged.length) c

/-- R79, R217: the requests that run in a partition end with a status. -/
def Chip.endPart (c : Chip) (p status : Nat) : Chip :=
  let c := c.dropSteps p
  (c.activeSeqs p).foldl (fun c s => c.failSeq s status) c

/-- R79, R216: a partition's state set. -/
def Chip.setPartState (c : Chip) (p s : Nat) : Chip := c.setFld (Reg.partState p) 2 0 s

/-- R81: the abandoned steps of a partition launch again on the new mapping. -/
def Chip.relaunchAll (c : Chip) (p : Nat) : Chip :=
  (c.work.steps.filter (fun t => t.part == p && t.abandoned)).foldl
    (fun c t => c.relaunch t stReset []) c

/-- R77, R79: a refit in service. DESIGN CHOICE (log entry 76): a partition in UNFIT that a refit leaves there logs no
second EV_PART_UNFIT. -/
def Chip.refit (c : Chip) (p : Nat) : Chip :=
  let (st, c) := c.fit p (wrapSucc 16 (c.fld (Reg.partFitStatus p) 63 48))
  if st = stUnsupported then
    if c.partState p = 4 then c
    else ((c.log { code := 0x0403, part := p, param0 := st }).setPartState p 4).endPart p stDegraded
  else if st = stDegraded then (c.log { code := 0x0402, part := p, param0 := st }).setPartState p 3
  else c.setPartState p 2

/-- REFIT_COMPLETES (R77, R78, R81): the running refit ends, with the stations as they were when it began, and the next
one starts in ascending partition number. -/
def refitCompletes (c : Chip) (p : Nat) : Chip :=
  if c.work.refitting ≠ some p then c
  else
    let again := c.work.refitAgain
    let next := again.foldl (fun (b : Option Nat) q => match b with
      | none => some q
      | some x => some (min x q)) none
    let old := c.work.refitOld
    let now := old.map (fun x => (x.1, c.stnState x.1))
    let c := c.onWork (fun w => { w with refitting := next, refitAgain := w.refitAgain.filter (fun q => some q != next),
                                         refitOld := [] })
    let s := c.partState p
    if s = 2 ∨ s = 3 ∨ s = 4 then
      let c := (old.foldl (fun c x => c.setFld (stnReg x.1) 30 29 x.2) c).refit p
      let c := now.foldl (fun c x => c.setFld (stnReg x.1) 30 29 x.2) c
      if c.refitDue p then c else c.relaunchAll p
    else c

end Sys2Proof.Machine
end

