-- ==== Sys2Proof/Machine/PartLoad.lean ====
section
/-!
DEFINITION. Loading and reloading a partition (R22 to R27, R171, R216 to R218, R402), and the requests that
wait to be rebuilt (R233).
-/
namespace Sys2Proof.Machine

/-! Requests marked for rebuild (R218, R233). -/

/-- R186, R233: a request marked for rebuild takes the lowest free slot and joins its admission point; it
recomputes from its collar. -/
def Chip.rebuildSeq (c : Chip) (k : Collar) : Chip :=
  match c.freeSlot with
  | none => c
  | some slot =>
    let s := c.seqOf k.img k.prefill false slot c.deviceId (c.fld Reg.movPhaseTimers 15 0)
    let c := c.setCollar { k with rebuild := false }
    let c := c.onWork (fun w => { w with seqs := w.seqs ++ [s], slotWait := dropWhere (fun r => r == k.img.requestId) w.slotWait })
    (c.refAdapter k.img.part k.img.adapter k.img.adapterVer).enqueueSeq s false

/-- R233: requests that wait for a slot take the free ones, oldest first. -/
def drainSlotsFuel : Nat → Chip → Chip
  | 0, c => c
  | n + 1, c =>
    match c.work.slotWait with
    | [] => c
    | r :: rest =>
      match c.collar r with
      | none => drainSlotsFuel n (c.onWork (fun w => { w with slotWait := rest }))
      | some k =>
        if c.freeSlot.isNone then c
        else drainSlotsFuel n ((c.onWork (fun w => { w with slotWait := rest })).rebuildSeq k)

/-- R233: run after every command that may free a slot. -/
def Chip.drainSlots (c : Chip) : Chip := drainSlotsFuel c.work.slotWait.length c

/-- R218 step 3, R432: a sleeve of a request anchored here goes, and the request is marked for rebuild. -/
def Chip.markRebuild (c : Chip) (s : Seq) : Chip :=
  let c := match c.collar s.requestId with
    | some k =>
      let c := match k.place.holder with
        | some d => if d = c.deviceId then c else c.sendCtrl d s.requestId k.img.placement 0 stReset
        | none => c
      c.setCollar { k with rebuild := true,
                           place := { node := some c.deviceId, waiting := false, left := [], holder := none, skip := none, msg := 0 } }
    | none => c
  let c := (c.releaseSleeve s.requestId).dropStored s.requestId
  c.onWork (fun w => { w with pulls := dropWhere (fun p => p.requestId == s.requestId) w.pulls })

/-- R218 step 5: the requests of a partition marked for rebuild go on, as slots allow. -/
def Chip.startRebuilds (c : Chip) (p : Nat) : Chip :=
  let ks := c.work.collars.filter (fun k => k.img.part == p && k.rebuild)
  (c.onWork (fun w => { w with slotWait := w.slotWait ++ ks.map (fun k => k.img.requestId) })).drainSlots

/-- R217, R218 step 6: the requests of a partition marked for rebuild end. -/
def Chip.endRebuilds (c : Chip) (p status : Nat) : Chip :=
  (c.work.collars.filter (fun k => k.img.part == p && k.rebuild)).foldl (fun c k => c.endReq k.img.requestId status) c

/-! A reload (R218). -/

/-- R218 steps 1 to 4, R254: everything that runs in a partition here stops, and its replicas go. -/
def Chip.stopPart (c : Chip) (p : Nat) : Chip :=
  let c := c.dropSteps p
  let c := (c.work.src.filter (fun m => m.part == p && m.kind == 0 && m.state != 4)).foldl (fun c m => c.abortMove m stReset) c
  let c := (c.work.dst.filter (fun d => d.part == p && d.kind != 1)).foldl (fun c d => c.discardMove d) c
  let c := (c.work.seqs.filter (fun s => s.part == p)).foldl (fun c s =>
    if c.pausedHold s then (c.releaseSleeve s.requestId).reportHome s true
    else if s.anchor = c.deviceId then c.markRebuild s
    else c.failSeq s stReset) c
  let c := c.onWork (fun w => { w with frames := dropWhere (fun f => f.part == p) w.frames })
  ((c.setPart p { c.part p with index := [] }).dropStaged p (fun _ => true)).dropReplicas (fun r => r.part == p)

/-- PART_RELOAD (R218). -/
def partReload (c : Chip) (a : Accessor) (p : Nat) : Chip :=
  let s := c.partState p
  if !c.accOwner a || s == 0 || s == 1 || s == 6 then c.log { refused 0x0407 Reg.partReload with part := p }
  else ((c.setPartState p 6).setFld (Reg.partModeStatus p) 15 15 0).stopPart p

/-- R494: a partition whose T2 share no longer fits is reloaded. -/
def Chip.forceReload (c : Chip) (p : Nat) : Chip :=
  let s := c.partState p
  if s = 2 ∨ s = 3 ∨ s = 4 ∨ s = 5 then ((c.setPartState p 6).setFld (Reg.partModeStatus p) 15 15 0).stopPart p else c

/-! A load (R402). -/

/-- R22 to R24, R27: PART_MODE_STATUS of a loaded partition. -/
def Chip.modeWord (c : Chip) (p : Nat) : W64 :=
  let m := c.part p
  let cache := c.role == 3
  let flag := c.declFlag p
  let has := fun (f : ModelImage → Bool) => (m.base.map f).getD false || (m.draft.map f).getD false
  let skip := has (fun i => !i.skipDir.isEmpty)
  let experts := has (fun i => !(imgRoutes i).isEmpty)
  wordOf [(18, 16, c.role), (15, 15, 1), (9, 9, bitN (flag 4 && (cache || c.role == 2))),
    (8, 8, bitN (flag 5 && cache)), (7, 7, bitN (experts && cache)), (6, 6, bitN (skip && cache)),
    (5, 5, bitN (flag 0 && m.draft.isNone)), (4, 4, bitN (flag 0 && (cache || c.role == 1))),
    (3, 3, bitN cache), (2, 2, bitN (flag 1 && !cache && (c.swapWindow p).isNone)), (1, 1, bitN cache),
    (0, 0, bitN cache)]

/-- R22, R24: the mode outcomes are written and reported. -/
def Chip.writeModes (c : Chip) (p : Nat) : Chip :=
  let w := c.modeWord p
  let c := c.setReg (Reg.partModeStatus p) w
  let ignored := [1, 3, 4, 6, 7, 8, 9].any (fun b => bitOf w b)
  let c := if ignored then c.log { code := 0x0401, part := p } else c
  if bitOf w 2 then c.log { code := 0x0A09, part := p } else c

/-- R402 step 2: the measurement of an image: SHA-256 over the digests of its chunks. -/
def imgMeasurement (m : ModelImage) : Nat := natOfLe (sha256 (m.chunkDigests.flatMap (fun d => leBytes d 32)))

/-- R402 steps 1 and 3: the image that a pull delivered for a partition, if its source may be read and its measurement is the
declared one. -/
def Chip.pulled (c : Chip) (p : Nat) (src : SrcDesc) (r : PullResult) (meas : Nat) : Option ModelImage :=
  match r with
  | .image m =>
    if imgMeasurement m = meas ∧ c.sourceStatus p src.kind src.port src.device src.region src.offset src.length = stOk then some m
    else none
  | _ => none

/-- R77, R432: the quadrants of the share that a load takes: those whose domain may still come up. -/
def Chip.loadMask (c : Chip) (d : PartDecl) : Nat :=
  sumN ((upTo 4).map (fun q =>
    let s := c.domState (16 + q)
    if d.quadMask.testBit q && s != 0 && s != 4 then 2 ^ q else 0))

/-- R171: whether the frames of every quadrant fit in its `T1_MIB` beside the image bytes homed there. -/
def Chip.t1Fits (c : Chip) (p : Nat) (d : PartDecl) (base : ModelImage) (draft : Option ModelImage) : Bool :=
  (c.qset p).all (fun q => decide (c.t1Used p d (some base) draft q ≤ d.t1Mib.getD q 0 * 2 ^ 20))

/-- R70, R98, R100, R105, R110, R118, R138, R200: the status of the checks of the images of a partition, against the quadrants that
the fitted program maps its roles to. -/
def Chip.imageStatus (c : Chip) (p : Nat) (d : PartDecl) (base : ModelImage) (draft : Option ModelImage) : Nat :=
  let fitted := (c.mapRoles p (c.claim p false)).1
  let quadOf := fun (r : Nat) => match fitted.find? (fun f => f.1 == r) with
    | some f => f.2 / 128
    | none => c.groupQuad p (roleGroup r)
  let check := fun (m : ModelImage) (len : Nat) => imageCheck m len quadOf (c.qbufShares p)
  let bs := check base d.baseSrc.length
  if bs ≠ stOk then bs
  else match draft with
    | some m =>
      let ds := check m d.draftSrc.length
      if ds = stOk ∧ m.vocab ≠ base.vocab then stUnsupported else ds
    | none => stOk

/-- R70, R98, R118, R138, R171, R200: the status of the checks before the fit. -/
def Chip.loadStatus (c : Chip) (p : Nat) (d : PartDecl) (base : ModelImage) (draft : Option ModelImage) : Nat :=
  let st := c.imageStatus p d base draft
  if st ≠ stOk then st
  else if !c.t1Fits p d base draft || !c.board.t2Ok.getD p false then stPartFull
  else stOk

/-- R402: the load is refused. -/
def Chip.loadRefused (c : Chip) (p status : Nat) : Chip :=
  let c := (c.releaseStations p).setPartState p 0
  let c := (c.setReg (Reg.partModeStatus p) 0#64).setPart p { c.part p with base := none, draft := none, t1Base := ⟨[], []⟩, t1Draft := ⟨[], []⟩, fit := [] }
  (c.log { code := 0x0404, part := p, param0 := status }).endRebuilds p status

/-- R217: the partition is in WEIGHTS_LOST. -/
def Chip.weightsLost (c : Chip) (p : Nat) : Chip :=
  ((c.setPartState p 5).log { code := 0x0405, part := p, param0 := stWeightLost }).endRebuilds p stWeightLost

/-- R259: a weight block fails at both sources in service. -/
def Chip.loseWeights (c : Chip) (p : Nat) : Chip :=
  if c.partState p = 5 then c else (c.weightsLost p).endPart p stWeightLost

/-- R216, R218 step 5: the partition serves. -/
def Chip.loadServes (c : Chip) (p state : Nat) (again : Bool) : Chip :=
  let c := (c.setPartState p state).writeModes p
  if again then
    ((c.wrapInc (Reg.partState p) 23 8).log { code := 0x0406, part := p }).startRebuilds p
  else c

/-- R405: slot 5 extended with the measurements of a load. -/
def Chip.extendModels (c : Chip) (p : Nat) (d : PartDecl) : Chip :=
  let c := c.extend 5 6 p (leBytes d.baseMeas 32)
  if d.draftMeas = 0 then c else c.extend 5 7 p (leBytes d.draftMeas 32)

/-- R95, R114: the images of a partition, and their tables copied into its T1 share. -/
def Part.place (m : Part) (base : ModelImage) (draft : Option ModelImage) : Part :=
  { m with base := some base, draft := draft, t1Base := ⟨base.skipDir, base.words⟩,
           t1Draft := (draft.map (fun d => (⟨d.skipDir, d.words⟩ : T1Copy))).getD ⟨[], []⟩ }

/-- R118, R136: what the trial expansions of a load count. -/
def Chip.trialExpand (c : Chip) (m : ModelImage) : Chip :=
  let n := trialCount m
  (c.bumpBy (Reg.movPlt 0) n.1).bumpBy (Reg.movPlt 1) n.2

/-- R402: the images of a partition are there; `again` for a reload. -/
def Chip.loadImages (c : Chip) (p : Nat) (d : PartDecl) (base : ModelImage) (draft : Option ModelImage)
    (again : Bool) : Chip :=
  let c := (draft.toList.foldl Chip.trialExpand ((c.extendModels p d).trialExpand base))
  if c.role = 3 then
    let c := c.setPart p { (c.part p).place base draft with fit := [], mask := 0, ref := [] }
    let st := c.imageStatus p d base draft
    if st ≠ stOk then c.loadRefused p st
    else if c.board.t2Ok.getD p false then c.loadServes p 2 again else c.loadRefused p stPartFull
  else
    let c := c.setPart p { (c.part p).place base draft with fit := [], mask := c.loadMask d, ref := [] }
    let st := c.loadStatus p d base draft
    if st ≠ stOk then c.loadRefused p st
    else
      let c := c.setPart p { c.part p with ref := c.reference p }
      let (st, c) := c.fit p 1
      if st = stUnsupported then c.loadRefused p st
      else if st = stDegraded then (c.log { code := 0x0402, part := p, param0 := st }).loadServes p 3 again
      else c.loadServes p 2 again

/-- R402, R217: whether a load may complete now: partitions load in ascending number. -/
def Chip.loadTurn (c : Chip) (p : Nat) : Bool :=
  c.domUp 7 && (c.partState p == 6 || (c.partState p == 1 && (upTo p).all (fun q => c.partState q != 1)))

/-- PARTITION_LOAD_COMPLETES (R402, R218). -/
def partitionLoaded (c : Chip) (p : Nat) (base draft : PullResult) : Chip :=
  match c.decl p with
  | none => c
  | some d =>
    if !c.loadTurn p then c
    else
      match c.pulled p d.baseSrc base d.baseMeas with
      | none => c.weightsLost p
      | some b =>
        if d.draftMeas = 0 then c.loadImages p d b none (c.partState p == 6)
        else
          match c.pulled p d.draftSrc draft d.draftMeas with
          | none => c.weightsLost p
          | some m => c.loadImages p d b (some m) (c.partState p == 6)

end Sys2Proof.Machine
end

