-- ==== Sys2Proof/Machine/Tenants.lean ====
section
/-!
DEFINITION. Customer accounts (R234 to R237, R240): credit, refill, charges and the histogram snapshot.
-/
namespace Sys2Proof.Machine

/-- R236: the credit units of a token. -/
def tokenUnits : Nat := 57600000000

/-- R236: one customer's refill over a tick of `us` microseconds. -/
def Chip.refillOne (c : Chip) (cust us : Nat) : Chip :=
  if bitOf (c.applied (Reg.tenPolicy cust)) 0 then
    let r := c.applied (Reg.tenRate cust)
    let v := c.credit cust + (256 * fieldOf r 63 32 * (us * 225) : Nat)
    c.setCredit cust (min v (fieldOf r 23 0 * tokenUnits : Nat))
  else c

/-- R234, R235: whether an offset is an account or admission register, which applies at a tick. -/
def tickReg (off : Nat) : Bool :=
  (decide (0x408000 ≤ off) && decide (off < 0x448000) && (off % 0x40 == 0 || off % 0x40 == 8)) ||
    (decide (0x402300 ≤ off) && decide (off < 0x402380))

/-- TEN_REFILL (R236): every enabled account is refilled, then the written values apply. -/
def tenRefill (c : Chip) : Chip :=
  if c.boot.img.isNone then c
  else
    let custs := (c.work.tenApplied.filter (fun e => decide (0x408000 ≤ e.1) && e.1 % 0x40 == 8)).map
      (fun e => (e.1 - 0x408000) / 0x40)
    let c := custs.foldl (fun c k => c.refillOne k c.work.refill) c
    let ws := c.regs.filter (fun e => tickReg e.1)
    c.onWork (fun w => { w with tenApplied := ws, refill := c.fld Reg.tenRefillCtrl 15 0 })

/-- TEN_HIST_SNAP (R240) by owner software: the 64 bins copied, and zeroed if asked. -/
def tenHistSnap (c : Chip) (cust : Nat) (zero : Bool) : Chip :=
  let c := (upTo 64).foldl (fun c b => c.setReg (Reg.tenHistSnapBin b) (c.reg (Reg.tenHist cust b))) c
  if zero then (upTo 64).foldl (fun c b => c.setReg (Reg.tenHist cust b) 0#64) c else c

end Sys2Proof.Machine
end

