-- ==== Sys2Proof/Machine/Launch.lean ====
section
/-!
DEFINITION. Launching steps (R144, R149, R153, R174 to R181, R186, R193, R200, R201, R237): the next work
of a sequence, the fill of a step, its pages, and its launch.
-/
namespace Sys2Proof.Machine

/-! The next work of a sequence. -/

/-- R200, R207: whether a sequence may run a speculative round on this node now. -/
def Chip.canDraft (c : Chip) (s : Seq) : Bool :=
  c.drafts s && (c.role == 2 || c.role == 4) && s.draft.mode == .active &&
    (c.plan s.part false 2).isSome && (c.plan s.part true 4).isSome

/-- R200: the drafts of the next round; 0 for a plain decode. -/
def Chip.roundK (c : Chip) (s : Seq) : Nat :=
  if c.canDraft s then min (min s.draft.kCur (s.maxNew - 1)) (1048575 - s.c) else 0

/-- The next work of a sequence. Its draft prompt pass comes before its prompt chunks (log entry 19). -/
def Chip.nextWork (c : Chip) (s : Seq) : Work :=
  if s.recompute then .recompute
  else if s.phase = .prompt then
    (if s.onePass then .onePass
     else if c.drafts s && decide (s.cd < s.table.length) && (c.plan s.part true 5).isSome then .draftPrompt
     else .chunk)
  else if 0 < c.roundK s then .round else .decode

/-- R186: whether the recompute of a sequence is at its draft model. -/
def Seq.draftTurn (s : Seq) : Bool := s.recompute && decide (s.c ≤ s.ra)

/-- R72, R193: the plan kind and model of a sequence's next work; a round and a decode share a step. -/
def Chip.workClass (c : Chip) (s : Seq) : Nat × Bool :=
  match c.nextWork s with
  | .chunk => (0, false)
  | .draftPrompt => (5, true)
  | .onePass => (6, false)
  | .recompute => (3, s.draftTurn)
  | _ => (1, false)

/-- Whether a one-pass plan of a partition has a bidirectional layer (R158, R237). -/
def Chip.onePassWhole (c : Chip) (p : Nat) : Bool :=
  match c.plan p false 6 with
  | some pl => pl.order.any (fun l => (c.layer p false l).mask == 2)
  | none => false

/-- R237: whether work may be cut to the rows left. -/
def Chip.canCut (c : Chip) (s : Seq) : Bool :=
  match c.nextWork s with
  | .chunk => true
  | .draftPrompt => true
  | .recompute => true
  | .onePass => !c.onePassWhole s.part
  | _ => false

/-- The rows that a sequence's next work has, before any cut, with their first position. -/
def Chip.workRows (c : Chip) (s : Seq) : Nat × List PosEnt :=
  match c.nextWork s with
  | .chunk => (s.c, s.table.drop s.c)
  | .onePass => (s.c, s.table.drop s.c)
  | .draftPrompt => (s.cd, s.table.drop s.cd)
  | .recompute =>
    let a := if s.draftTurn then s.rd else s.ra
    (a, (s.table.take s.c).drop a)
  | .round => (s.c, List.replicate (c.roundK s + 1) ((s.table.drop s.c).headD ⟨0, true, false⟩))
  | _ => (s.c, (s.table.drop s.c).take 1)

/-- R237: the rows of a sequence's next work in a launch with `cap` rows left. -/
def Chip.rowsIn (c : Chip) (s : Seq) (cap : Nat) : Nat :=
  let n := (c.workRows s).2.length
  if c.canCut s then min n cap else n

/-- R149: whether a sequence has still to enter its prompt pass. -/
def Chip.attachDue (c : Chip) (s : Seq) : Bool :=
  s.firstChunk && s.phase == SeqPhase.prompt && s.c == 0 && s.pages.isEmpty && !(s.onePass && c.onePassWhole s.part)

/-- R149: the length that the prompt pass of a sequence would attach. -/
def Chip.wouldAttach (c : Chip) (s : Seq) : Nat :=
  if c.attachDue s && c.bit (Reg.kvPartShare s.part) 0 then
    c.attachLen s s.table (c.maxTpp s.part) ((s.table.length - 1) / c.maxTpp s.part)
  else s.attached

/-- R237: the cost of a sequence's next work. -/
def Chip.workCost (c : Chip) (s : Seq) (cap : Nat) : Nat :=
  let ctl := c.applied (Reg.partAdmitCtrl s.part)
  let frac := fieldOf ctl 8 0
  match c.nextWork s with
  | .decode => 256
  | .round => 256
  | .chunk | .onePass =>
    let at_ := c.wouldAttach s
    let rows := min cap (s.table.length - max s.c at_)
    rows * frac + (if s.firstChunk then at_ * frac + fieldOf ctl 47 32 else 0)
  | _ => 0

/-! Bringing pages back (R185). -/

/-- R185: a swapped sequence whose pages all lie in T4 takes frames, as a growing sequence does (R175), and starts the
reads. -/
def Chip.swapBack (c : Chip) (s : Seq) : Chip :=
  if s.swapped.isEmpty || s.swapped.any (fun x => !x.inHost || x.reading) then c
  else
    let need := s.swapped.map (fun x =>
      (⟨x.img.draft, x.img.layer, x.img.posBase,
        c.pageQuad s.part s.slot x.img.layer (x.img.posBase / kvTpp (c.layer s.part x.img.draft x.img.layer)), 0⟩ : PageRef))
    match c.grow s need [] with
    | (.got, s, c) =>
      c.readPages { s with paused := false } (s.swapped.map (fun x => ({ x with slot := [], again := none }.start ((upTo 17).map (fun k => 2 + k)), [])))
    | (.wait, s, c) => c.setSeq s
    | (.short, s, c) => c.selfPause s
    | (.alone, s, c) => (c.setSeq s).giveUp s

/-! Entering the prompt pass and starting a recompute. -/

/-- R149: the prompt pass of a sequence attaches what the index holds, and its request is in PREFILL. -/
def Chip.enterPrefill (c : Chip) (s : Seq) : Seq × Chip :=
  if c.attachDue s then
    let (n, s, c) := c.attachPrefix s s.table (s.table.length - 1)
    let s := { s with c := n, cd := if c.drafts s then n else s.cd, attached := n }
    let c := c.setSeq s
    match c.collar s.requestId with
    | some k =>
      if s.anchor = c.deviceId ∧ k.img.lcState = lcAdmitted then (s, c.setCollar (k.setLc lcPrefill)) else (s, c)
    | none => (s, c)
  else
    match c.collar s.requestId with
    | some k =>
      if s.anchor = c.deviceId ∧ k.img.lcState = lcAdmitted ∧ s.phase = .prompt then (s, c.setCollar (k.setLc lcPrefill))
      else (s, c)
    | none => (s, c)

/-- R186 step 4: the recompute of a sequence is over. A request rebuilt at its source in HANDOFF is
offered again (R260). -/
def Chip.recomputed (c : Chip) (s : Seq) : Chip :=
  let s := { s with recompute := false, started := false, cd := if c.drafts s then s.c else s.cd }
  let c := c.setSeq s
  match c.collar s.requestId with
  | some k =>
    if s.anchor = c.deviceId ∧ k.img.lcState = lcHandoff then
      let s := { s with phase := .hold, placement := (k.img.placement + 65535) % 65536 }
      let c := ((c.setSeq s).dequeueSeq s.requestId).offerHandoff s s.c
      c.handoffReady s.requestId ((((k.gens.getLast?).map Prod.snd).getD false))
    else c
  | none => c

/-- R186 steps 1 and 2: the turn of a sequence to recompute comes. -/
def Chip.startRecompute (c : Chip) (s : Seq) : Chip :=
  let (_, s, c) := c.attachPrefix s s.table s.c
  let a := c.missingStart s false s.c
  let ad := if c.drafts s then c.missingStart s true s.cd else s.c
  let (keep, go) := (s.pages.filter (fun r => decide (r.posBase < if r.draft then ad else a)),
    s.pages.filter (fun r => !decide (r.posBase < if r.draft then ad else a)))
  let c := c.releaseAll s.part go
  let s := { s with pages := keep, started := true, ra := a, rd := ad }
  if s.c ≤ a ∧ s.c ≤ ad then (c.setSeq s).recomputed s else c.setSeq s

/-- R185, R186: the head of a queue has its turn: pages in T4 come back, and a recompute finds its start. -/
def Chip.turnOf (c : Chip) (req : Nat) : Chip :=
  match c.seq req with
  | none => c
  | some s =>
    if s.running || s.paused then c
    else if !s.swapped.isEmpty then c.swapBack s
    else if s.recompute && !s.started then c.startRecompute s
    else c

/-! The fill (R237). -/

/-- A fill in progress: the chip, the ring of customers, the rows left, the work taken, with the step's
class; `cap` the rows that the plan of the class leaves, `vcap` those of the verify plan, which a decode step runs once
it holds a round (R193). -/
structure Fill where
  c     : Chip
  part  : Nat
  eng   : Nat
  cls   : Nat × Bool
  ring  : List Nat
  cap   : Nat
  vcap  : Nat
  taken : List Seg
  deriving DecidableEq, Repr

/-- R193: the rows left for the next work of a sequence. -/
def Fill.left (f : Fill) (s : Seq) : Nat :=
  if f.cls.1 = 1 ∧ (f.c.nextWork s = .round ∨ f.taken.any (fun g => decide (g.k ≠ 0))) then f.vcap else f.cap

/-- The head work of a customer, if it may join a step of the class. -/
def Fill.head (f : Fill) (cust : Nat) : Option Seq :=
  match ((f.c.point f.part f.eng).queueOf cust).queue with
  | [] => none
  | r :: _ => (f.c.seq r).bind (fun s =>
      if s.running || s.paused || !s.swapped.isEmpty || (s.recompute && !s.started) ||
          !(s.phase == SeqPhase.prompt || s.phase == SeqPhase.decode) || f.taken.any (fun g => g.requestId == r) ||
          f.c.workClass s != f.cls then none
      else some s)

/-- R237: whether a customer is ready in a pass; the head work it is ready with. -/
def Fill.ready (f : Fill) (excess : Bool) (cust : Nat) : Option Seq :=
  (f.head cust).bind (fun s =>
    let rows := f.c.rowsIn s (f.left s)
    let pol := f.c.applied (Reg.tenPolicy cust)
    if f.left s = 0 ∨ f.left s < rows ∨ rows = 0 then none
    else if excess then (if bitOf pol 1 && decide (f.c.credit cust ≤ 0) then some s else none)
    else if 0 < f.c.credit cust then some s else none)

/-- R237: the head work of a customer taken, cut to the rows left; what remains of it stays at the head. -/
def Fill.take (f : Fill) (excess : Bool) (cust : Nat) (s : Seq) : Fill :=
  let left := f.left s
  let cost := f.c.workCost s left
  let (s, c) := f.c.enterPrefill s
  let work := c.nextWork s
  let (start, all) := c.workRows s
  let rows := all.take left
  let g : Seg := { requestId := s.requestId, slot := s.slot, work := work, start := start, rows := rows,
                   k := if work = .round then rows.length - 1 else 0, cost := cost, excess := excess, props := [],
                   samples := [], values := [] }
  -- R186: a recompute of the base model may leave the rows of the draft model
  let whole := rows.length = all.length && !(s.recompute && !s.draftTurn && c.drafts s && decide (s.rd < s.c))
  let c := if whole then c.dequeueSeq s.requestId else c
  let c := (c.charge cust cost excess).setDeficit f.part f.eng cust (fun d => d - cost)
  { f with c := c, cap := f.cap - rows.length, vcap := f.vcap - rows.length, taken := f.taken ++ [g] }

/-- R237: the inner loop over one customer. -/
def Fill.drain (excess : Bool) (cust : Nat) : Nat → Fill → Fill
  | 0, f => f
  | n + 1, f =>
    match f.ready excess cust with
    | none => f
    | some s =>
      let d := ((f.c.point f.part f.eng).queueOf cust).deficit
      if f.c.workCost s (f.left s) ≤ d then
        let f := f.take excess cust s
        let next := ((f.c.point f.part f.eng).queueOf cust).queue.head?
        Fill.drain excess cust n (match next with
          | some r => { f with c := f.c.turnOf r }
          | none => f)
      else f

/-- R237: one customer's turn in a round. -/
def Fill.turn (excess : Bool) (f : Fill) (cust : Nat) : Fill :=
  match f.ready excess cust with
  | none => f
  | some _ =>
    let quantum := fieldOf (f.c.applied (Reg.tenPolicy cust)) 31 16
    let f := { f with c := f.c.setDeficit f.part f.eng cust (fun d => d + 256 * quantum) }
    let f := Fill.drain excess cust (max f.cap f.vcap + 1) f
    if ((f.c.point f.part f.eng).queueOf cust).queue.isEmpty then
      { f with c := f.c.setDeficit f.part f.eng cust (fun _ => 0) }
    else f

/-- R237: the rounds of one pass. -/
def Fill.rounds (excess : Bool) : Nat → Fill → Fill
  | 0, f => f
  | n + 1, f =>
    if f.ring.any (fun k => (f.ready excess k).isSome) then Fill.rounds excess n (f.ring.foldl (Fill.turn excess) f) else f

/-- R237: the ring of an admission point: its customers with queued work in ascending number, from the
first at or after `next_cust`. -/
def AdmPoint.ring (a : AdmPoint) : List Nat :=
  let cs := (a.custs.filter (fun q => !q.queue.isEmpty)).map CustQ.cust
  let ins := fun (l : List Nat) (x : Nat) =>
    l.takeWhile (fun y => decide (y < x)) ++ x :: l.dropWhile (fun y => decide (y < x))
  let asc := cs.foldl ins []
  asc.filter (fun x => decide (a.next ≤ x)) ++ asc.filter (fun x => decide (x < a.next))

/-- The most rounds that a fill can take: a work's cost over the smallest quantum, for each work. -/
def fillFuel (n : Nat) : Nat := 2 ^ 21 * (n + 1)

/-- R237: `fill_step`. The class of the step is that of the first customer's work that may run, in credit before
excess work (log entry 20). A prompt-role device runs no decode step (R9). -/
def Chip.fillStep (c : Chip) (p eng : Nat) : Fill :=
  let a := c.point p eng
  let ring := a.ring
  let c := ring.foldl (fun c k => match (a.queueOf k).queue with
    | r :: _ => c.turnOf r
    | [] => c) c
  let classOf := fun (may : Nat → Bool) => ring.filterMap (fun k =>
    match ((c.point p eng).queueOf k).queue with
    | [] => none
    | r :: _ => (c.seq r).bind (fun s =>
        if s.running || s.paused || !s.swapped.isEmpty || (s.recompute && !s.started) ||
            !(s.phase == SeqPhase.prompt || s.phase == SeqPhase.decode) || !may k || (c.role == 1 && (c.workClass s).1 == 1) then none
        else some (c.workClass s)))
  let classes : List (Nat × Bool) := classOf (fun k => decide (0 < c.credit k)) ++
    classOf (fun k => decide (c.credit k ≤ 0) && bitOf (c.applied (Reg.tenPolicy k)) 1)
  let rotate := fun (f : Fill) =>
    let pt := f.c.point p eng
    match ring with
    | [] => f
    | k :: _ => { f with c := f.c.setPoint { pt with next := (k + 1) % 4096 } }
  match classes with
  | [] => rotate { c := c, part := p, eng := eng, cls := (0, false), ring := [], cap := 0, vcap := 0, taken := [] }
  | k :: _ =>
    let f : Fill := { c := c, part := p, eng := eng, cls := k, ring := ring, cap := c.planCap p k.2 k.1,
                      vcap := c.planCap p false 2, taken := [] }
    let fuel := fillFuel a.size
    rotate (Fill.rounds true fuel (Fill.rounds false fuel f))

/-! Pages at launch (R144, R174 to R180). -/

/-- Pages for one segment: the segment that stays in the launch, if any. -/
def Chip.pagesFor (c : Chip) (p eng : Nat) (g : Seg) (granted : List Nat) : Option Seg × Chip :=
  match c.seq g.requestId with
  | none => (none, c)
  | some s =>
    if (s.recompute && !s.started) || !s.swapped.isEmpty then
      -- an eviction in this launch took its pages (R178)
      let c := (c.giveBack p eng g).dequeueSeq s.requestId
      (none, c.enqueueSeq s true)
    else
      let short := g.work = .round && !c.fitsFree p (c.segPages s g)
      let c := if short then c.bump (Reg.kvPressCnt 5) else c
      let g := if short then { g with work := .decode, k := 0, rows := g.rows.take 1 } else g
      match c.grow s (c.segPages s g) granted with
      | (.got, s, c) => (some g, c.setSeq { s with running := true, paused := false })
      | (.wait, s, c) => (none, ((c.setSeq s).giveBack p eng g).enqueueSeq s true)
      | (.short, s, c) => (none, ((c.selfPause s).giveBack p eng g).enqueueSeq s true)
      | (.alone, s, c) => (none, ((c.setSeq s).giveBack p eng g).giveUp s)

/-- R16, R260: whether the prompt pass of a sequence is to be handed off: always on a prompt node; on a mixed
one when its own decode point is full and the pool map names a target. DESIGN CHOICE (log entry 98): a list that names this
device alone is an empty one. -/
def Chip.handsOff (c : Chip) (s : Seq) : Bool :=
  let gens := (((c.decl s.part).map PartDecl.gens).getD []).filter (fun d => d != c.deviceId)
  let eng := ((c.plan s.part false 1).map PlanD.engine).getD 0
  !s.onePass && (c.role == 1 || (c.role == 4 && decide (c.placeMax s.part ≤ c.pointLoad s.part eng) && !gens.isEmpty))

/-- R237, R260: what the launch of a prompt step leaves behind: its first chunk is charged, and the first prompt step
offers a handoff. -/
def Chip.offerFirst (c : Chip) (g : Seg) : Chip :=
  match c.seq g.requestId with
  | none => c
  | some s =>
    let charged := g.work == Work.chunk || g.work == Work.onePass
    let s := { s with firstChunk := s.firstChunk && !charged }
    if s.phase = .prompt ∧ !s.recompute ∧ !s.offered then
      let s := { s with offered := true }
      let c := c.setSeq s
      if c.handsOff s ∧ (c.moveSrc s.requestId).isNone then c.offerHandoff s s.table.length else c
    else c.setSeq s

/-- R16: sequences that wait for room at the decode point take it. -/
def Chip.wakeWaiting (c : Chip) (p : Nat) : Chip :=
  (c.work.seqs.filter (fun s => s.part == p && s.phase == SeqPhase.waitD)).foldl (fun c s =>
    let s := { s with phase := SeqPhase.decode }
    if c.pointLoad p (c.seqEngine s) < c.placeMax p then (c.setSeq s).enqueueSeq s false else c) c

/-- R237, R74: the step of a fill launched. -/
def Chip.launchStep (c : Chip) (f : Fill) : Chip :=
  let (segs, c) := f.taken.foldl (fun (a : List Seg × Chip) g =>
    let (o, c) := a.2.pagesFor f.part f.eng g (a.1.map Seg.requestId)
    (a.1 ++ o.toList, c)) ([], c)
  if segs.isEmpty then c
  else
    let (n, c) := c.nextStep f.part
    let (t, c) := c.settleStep
      { part := f.part, engine := f.eng, seq := n, kind := f.cls.1, draft := f.cls.2, plan := 0, launch := c.time,
        bands := 0, segs := segs, pass := 0, sub := 0, passes := 0, streams := [], joins := [], fits := [], retried := false,
        abandoned := false, early := [], empties := [], scratch := [], payloads := [], staged := [], fetches := [], depth := c.prefetchDepth f.part,
        unstaged := [], bound := Config.boundLists f.part n }
    if t.segs.isEmpty then c
    else
      let c := c.onWork (fun w => { w with steps := w.steps ++ [t] })
      let c := c.beginPass t (if t.passes = 0 then 0 else 1) 0
      t.segs.foldl (fun c g => c.offerFirst g) c

/-- STEP_LAUNCH (R237). Steps of a partition wait for a refit that is due (R81). -/
def stepLaunch (c : Chip) (p eng : Nat) : Chip :=
  if c.partRefusal p ≠ stOk || c.role == 3 || c.refitDue p then c
  else
    let c := c.wakeWaiting p
    let f := c.fillStep p eng
    f.c.launchStep f

/-! Self-pauses (R179 to R181). -/

/-- The pages that the next work of a sequence needs. -/
def Chip.workPages (c : Chip) (s : Seq) : List PageRef :=
  let (start, rows) := c.workRows s
  let work := if c.nextWork s = .round then Work.decode else c.nextWork s
  let n := if work = .decode then 1 else c.planCap s.part (c.workClass s).2 (c.workClass s).1
  c.segPages s { requestId := s.requestId, slot := s.slot, work := work, start := start, rows := rows.take n, k := 0, cost := 0,
                 excess := false, props := [], samples := [], values := [] }

/-- SELF_PAUSE_RETRY (R179): a self-pause ends when its request can be met; the sequence holds the pages taken. A
swapped sequence tries to bring its pages back (R185). -/
def selfPauseRetry (c : Chip) (req : Nat) : Chip :=
  match c.seq req with
  | none => c
  | some s =>
    if !s.paused then c
    else if !s.swapped.isEmpty then c.swapBack s
    else
      let c := if s.recompute && !s.started then c.startRecompute s else c
      match (c.seq req).filter (fun s => s.phase == SeqPhase.prompt || s.phase == SeqPhase.decode) with
      | none => c
      | some s =>
        match c.grow s (c.workPages s) [] with
        | (.got, s, c) => c.setSeq { s with paused := false }
        | (.alone, s, c) => (c.setSeq s).giveUp s
        | (_, s, c) => c.setSeq s

/-- SELF_PAUSE_LIMIT (R181). -/
def selfPauseLimit (c : Chip) (req : Nat) : Chip :=
  match c.seq req with
  | none => c
  | some s => if s.paused then (c.bump (Reg.kvPressCnt 7)).giveUp s else c

end Sys2Proof.Machine
end

