-- ==== Sys2Proof/Machine/Packing.lean ====
section
/-!
DEFINITION. Expert bands (R100, R104, R105): the routes that a plan runs, the row predicates that routers have sent, and the
rows that each expert's streams carry, packed.
-/
namespace Sys2Proof.Machine

/-- What is known of something that a source sends: it waits for what makes it, only the command brings it, or it is
this. -/
inductive Src (α : Type) where
  | wait
  | free
  | known (a : α)
  deriving DecidableEq, Repr

/-- A stream of a running step in a layer, as its source sends it. -/
structure SrcCtx where
  c     : Chip
  t     : Step
  pl    : PlanD
  draft : Bool
  s     : StreamD
  layer : Nat
  deriving DecidableEq, Repr

/-- The layer of the instance. -/
def SrcCtx.lay (x : SrcCtx) : Nat := keyLayer x.layer

/-- The image that the step runs. -/
def SrcCtx.model (x : SrcCtx) : Option ModelImage := x.c.model x.t.part x.draft

/-- Whether an LD endpoint is the source. -/
def SrcCtx.isLd (x : SrcCtx) : Bool := roleKind x.s.src == 8

/-- A tile of a stream that a join has made, by its kind and a further test. -/
def SrcCtx.madeTile (x : SrcCtx) (stream : Nat) (kind : TagKind) (f : TileTag → Bool) : Option Tile :=
  (x.t.joins.filter (fun i => x.pl.inHead stream || i.layer == x.layer)).findSome? (fun i =>
    i.made.find? (fun m => m.tag.streamId == stream && m.tag.kind == kind && f m.tag))

/-- R100, R108: the route descriptors that run in the plan, with their joins; early ones make no tile. -/
def SrcCtx.routes (x : SrcCtx) : List (JoinD × RouteDesc) := (x.model.map (fun m => planRoutes m x.pl)).getD []

/-- R104: the route that sends a predicate stream. -/
def SrcCtx.predRoute (x : SrcCtx) (id : Nat) : Option RouteDesc :=
  (x.routes.find? (fun r => decide (r.2.predBase ≤ id) && decide (id < r.2.predBase + r.2.nExperts))).map Prod.snd

/-- R104: the route and the expert of a dispatch stream. -/
def SrcCtx.dispatch (x : SrcCtx) : Option (RouteDesc × Nat) :=
  (x.routes.find? (fun r => decide (r.2.dispBase ≤ x.s.id) && decide (x.s.id < r.2.dispBase + r.2.nExperts))).map
    (fun r => (r.2, x.s.id - r.2.dispBase))

/-- R104: the row predicate that a router sent for a step band. -/
def SrcCtx.predBits (x : SrcCtx) (id band : Nat) : Option Nat :=
  (x.madeTile id .data (fun g => g.band == band)).map (fun m => natOfLe (m.bytes.take 16))

/-- R104: the rows of a window that selected an expert, in ascending order of (step band, row), once every band of the
window has been routed. -/
def SrcCtx.packed (x : SrcCtx) (r : RouteDesc) (e v : Nat) : Option (List (Nat × Nat)) :=
  let w := max 1 r.window
  let bands := ((upTo w).map (fun k => v * w + k)).filter (fun b => decide (b < x.t.bands))
  let preds := bands.map (fun b => (x.predBits (r.predBase + e) b).map (fun p => (b, p)))
  if bands.isEmpty || preds.any Option.isNone then none
  else some (((preds.filterMap id).map (fun p => ((upTo 128).filter (fun i => p.2.testBit i)).map (fun i => (p.1, i)))).flatten)

/-- R104, R105: the rows of an expert band; an idle window has one empty band. -/
def SrcCtx.expertRows (x : SrcCtx) (r : RouteDesc) (e : Nat) : Nat → Nat → Nat → Option (List (Nat × Nat))
  | 0, _, _ => none
  | fuel + 1, v, eb =>
    match x.packed r e v with
    | none => none
    | some l =>
      let n := max 1 (cdiv l.length 128)
      if eb < n then some ((l.drop (128 * eb)).take 128) else x.expertRows r e fuel (v + 1) (eb - n)

/-- R104, R105: the expert bands of an expert in the step, once every step band has been routed. -/
def SrcCtx.expertCount (x : SrcCtx) (r : RouteDesc) (e : Nat) : Option Nat :=
  ((upTo (cdiv x.t.bands (max 1 r.window))).map (x.packed r e)).foldl (fun (a : Option Nat) l =>
    match a, l with
    | some n, some l => some (n + max 1 (cdiv l.length 128))
    | _, _ => none) (some 0)

/-- R104: the rows of an expert band of a stream of an expert. -/
def SrcCtx.bandRows (x : SrcCtx) (r : RouteDesc) (e eb : Nat) : Option (List (Nat × Nat)) :=
  x.expertRows r e (x.t.bands + 1) 0 eb

/-- R104, R105: the route and the expert whose expert bands a stream carries: a dispatch stream, what it feeds before
the MERGE join, or a W stream of the expert. -/
def SrcCtx.expert (x : SrcCtx) : Option (RouteDesc × Nat) :=
  x.routes.findSome? (fun r => (upTo r.2.nExperts).findSome? (fun e =>
    if (fedBy x.pl x.pl.allJ.length [r.2.dispBase + e]).contains x.s.id ||
        (x.s.gate == 2 && x.pl.isW x.s && x.s.gateRef == r.2.predBase + e) then some (r.2, e)
    else none))

/-- R67, R105: the bands that a stream carries in the running pass; none while a router has not routed every band. -/
def SrcCtx.bandTotal (x : SrcCtx) : Option Nat :=
  match x.expert with
  | some (r, e) => x.expertCount r e
  | none => some x.t.bands

end Sys2Proof.Machine
end

