-- ==== Sys2Proof/Machine/Joins.lean ====
section
/-!
DEFINITION. What joins make of the tiles they hold (R39 to R49, R56 to R59, R68, R85 to R106, R156 to R168,
R197): MATMUL, SUM, ATTEND, MERGE, BARRIER and VECTOR joins, router and sampler stations. A join makes the
outputs of a band once every input of the band is complete; when outputs are made in time is not
modelled, and no result depends on it (R43, R69).
-/
namespace Sys2Proof.Machine

/-- A join at work: the step, its plan, the join, the layer, and the tiles it holds. -/
structure JoinCtx where
  c     : Chip
  t     : Step
  pl    : PlanD
  draft : Bool
  j     : JoinD
  layer : Nat
  ji    : JoinInst
  deriving DecidableEq, Repr

/-- An instance of a join. -/
def Step.join (t : Step) (id layer : Nat) : JoinInst :=
  (t.joins.find? (fun i => i.id == id && i.layer == layer)).getD { id := id, layer := layer, held := [], made := [], done := [] }

/-- An instance of a join stored. -/
def Step.setJoin (t : Step) (i : JoinInst) : Step :=
  { t with joins := dropWhere (fun x => x.id == i.id && x.layer == i.layer) t.joins ++ [i] }

/-- A join of a step at work. -/
def Chip.joinAt (c : Chip) (t : Step) (pl : PlanD) (draft : Bool) (j : JoinD) (layer : Nat) : JoinCtx :=
  { c := c, t := t, pl := pl, draft := draft, j := j, layer := layer, ji := t.join j.id layer }

/-- The stream descriptor of an input. -/
def JoinCtx.inputD (x : JoinCtx) (pos : Nat) : StreamD :=
  (x.pl.stream (x.j.inputs.getD pos 0xFFFF)).getD (streamOf [])

/-- The descriptor of the output stream. -/
def JoinCtx.outD (x : JoinCtx) : StreamD := (x.pl.stream x.j.out).getD (streamOf [])

/-- The layer that the join works in. -/
def JoinCtx.lay (x : JoinCtx) : Nat := keyLayer x.layer

/-- A stream of the plan in the join's place. -/
def JoinCtx.src (x : JoinCtx) (d : StreamD) : SrcCtx :=
  { c := x.c, t := x.t, pl := x.pl, draft := x.draft, s := d, layer := x.layer }

/-- The tiles of a kind that an input holds in a band. -/
def JoinCtx.tiles (x : JoinCtx) (pos band : Nat) (kinds : List TagKind) : List Tile :=
  (x.ji.held.filter (fun h => h.1 == pos && h.2.tag.band == band && kinds.contains h.2.tag.kind)).map Prod.snd

/-- R66: a tile as a join reads it: a skip marker is an all-zero tile. -/
def markerAsZero (t : Tile) : Tile :=
  if t.tag.kind = .skip then { t with bytes := List.replicate (fmtTileBytes t.tag.fmt) 0#8 } else t

/-- The data tiles of an input in a band, with an all-zero tile for each skip marker, in index order. -/
def JoinCtx.data (x : JoinCtx) (pos band : Nat) : List Tile :=
  ((x.tiles pos band [.data, .skip]).map markerAsZero).foldl (fun l t =>
    l.takeWhile (fun u => decide (u.tag.tileIndex < t.tag.tileIndex)) ++
      t :: l.dropWhile (fun u => decide (u.tag.tileIndex < t.tag.tileIndex))) []

/-- R160: whether an input is the KV page stream of an ATTEND join. -/
def JoinD.isKv (j : JoinD) (pos : Nat) : Bool := j.kind == 3 && pos == 1

/-- R59, R67, R161: whether an input is complete in a band; a KV page stream traverses it twice. A held input has the anchor
blocks of the band: one, unless the band is only an end marker (R105), and of weights that of each column that has a data
tile. -/
def JoinCtx.inputDone (x : JoinCtx) (pos band : Nat) : Bool :=
  let d := x.inputD pos
  let full := if x.j.isKv pos then decide (2 ≤ (x.tiles pos band [.endMark]).length)
    else if d.bounded then !(x.tiles pos band [.endMark]).isEmpty
    else decide (d.count ≤ (x.tiles pos band [.data, .skip]).length)
  let blocks := x.tiles pos band [.anchors]
  let lead := !d.hold ||
    (if x.j.kind == 1 && pos == x.j.operand then
      (x.tiles pos band [.data]).all (fun t => blocks.any (fun a => a.tag.colIndex == t.tag.colIndex))
     else !blocks.isEmpty || (x.tiles pos band [.data, .skip]).isEmpty)
  full && lead

/-- R68: whether a SUM join holds, of every output tile that its inputs brought in a band, the number of partial
sums that make it up. -/
def JoinCtx.partsDone (x : JoinCtx) (band : Nat) : Bool :=
  let ps := ((upTo x.j.inputs.length).map (fun i => x.data i band)).flatten
  ps.all (fun t => decide (t.tag.parts ≤ (ps.filter (fun u => u.tag.colIndex == t.tag.colIndex)).length))

/-- Whether every input of a band is complete. -/
def JoinCtx.bandDone (x : JoinCtx) (band : Nat) : Bool :=
  (upTo x.j.inputs.length).all (fun i => x.inputDone i band) && (x.j.kind != 2 || x.partsDone band)

/-- Whether a band has been run. -/
def JoinCtx.madeBand (x : JoinCtx) (band : Nat) : Bool := x.ji.done.contains band

/-- The bands that any input has reached. -/
def JoinCtx.bandsSeen (x : JoinCtx) : List Nat := (x.ji.held.map (fun h => h.2.tag.band)).eraseDups

/-- The valid rows of a band. -/
def JoinCtx.rowsOf (x : JoinCtx) (band : Nat) (pos : Nat) : Nat :=
  ((x.tiles pos band [.data, .skip]).map (fun t => t.tag.rows)).foldl max 0

/-- The station that hosts the join. -/
def JoinCtx.station (x : JoinCtx) : Nat := x.t.station x.j.host

/-- The quadrant that hosts the join. -/
def JoinCtx.quad (x : JoinCtx) : Nat := x.station / 128 % 4

/-- R91: whether the format of a stream's tiles follows the class of a recomputed position: an X stream, and an ST stream
that writes what an X stream reads. -/
def PlanD.classed (p : PlanD) (d : StreamD) : Bool :=
  p.isX d || (roleKind d.sink == 9 && p.allS.any (fun o => roleKind o.src == 8 && p.isX o && o.tier == d.tier &&
    o.region == d.region && o.offset == d.offset))

/-- R91: the format of a stream's tiles in a step band: in a recompute plan, the X tiles of a band have the format that the
stream of that identifier has in the plan that first committed the band's class (log entry 77). -/
def JoinCtx.stepFmt (x : JoinCtx) (d : StreamD) (band : Nat) : Nat :=
  if x.t.kind = 3 ∧ x.pl.classed d then
    let gen := (((x.c.bandsOf x.t).getD band []).head?).any (fun r => r.2.2.gen)
    let kind := if gen then (if x.draft then 4 else 1) else (if x.draft then 5 else 0)
    (((x.c.plan x.t.part x.draft kind).bind (fun p => p.stream d.id)).map StreamD.fmt).getD d.fmt
  else d.fmt

/-- R91, R104: the format of a stream's tiles in a band of the stream: an expert band has that of its first row's step band
(log entry 77). -/
def JoinCtx.bandFmt (x : JoinCtx) (d : StreamD) (band : Nat) : Nat :=
  let y := x.src d
  match y.expert with
  | some (r, e) => x.stepFmt d ((((y.bandRows r e band).bind List.head?).map Prod.fst).getD band)
  | none => x.stepFmt d band

/-- R64: the valid rows of a stream's tiles: `ROWS`, or the band's own when it is 0. -/
def StreamD.rowsFor (d : StreamD) (rows : Nat) : Nat := if d.rows = 0 then rows else d.rows

/-- R64: the valid columns of a tile with a `RED_INDEX`: `LAST_COLS` for the last tile of each reduction run. -/
def StreamD.colsFor (d : StreamD) (red : Nat) : Nat :=
  if d.lastCols ≠ 0 ∧ red % max 1 d.bandTiles + 1 = d.bandTiles then d.lastCols else 128

/-- R57: the tag of an output tile of a stream: `col` is its place along the dimension that the consumer reduces, and of a
PS tile its output column. -/
def JoinCtx.tag (x : JoinCtx) (stream fmt : Nat) (kind : TagKind) (band i rows col : Nat) (parts flags : Nat) : TileTag :=
  let d := x.pl.stream stream
  let n := (d.map StreamD.count).getD 0
  { streamId := stream, tileIndex := band * n + i, kind := kind, fmt := fmt, arithFlags := flags,
    rows := (d.map (fun d => d.rowsFor rows)).getD rows,
    cols := if kind = .data then (d.map (fun d => d.colsFor col)).getD 128 else 128,
    redIndex := col, colIndex := if fmt = 6 then col else 0, band := band, parts := parts, resetEpoch := x.c.domEpoch (keyDomain x.station),
    planId := x.pl.id, layer := x.lay, stepSeq := x.t.seq, rsvd := 0 }

/-- R59, R67: outputs of a band with the anchor block of a held stream before them and the end marker of a
bounded stream behind them. -/
def JoinCtx.dress (x : JoinCtx) (band rows : Nat) (anchors : List Anchor) (ts : List Tile) : List Tile :=
  let d := x.outD
  (if d.hold && !ts.isEmpty then [⟨x.tag d.id (x.bandFmt d band) .anchors band 0 rows 0 0 0, anchorBytes anchors⟩] else []) ++ ts ++
    (if d.bounded then [⟨x.tag d.id (x.bandFmt d band) .endMark band ts.length rows 0 0 0, []⟩] else [])

/-! MATMUL (R39 to R42, R85 to R99). -/

/-- R95: the skip word of a W tile. -/
def JoinCtx.skipWord (x : JoinCtx) (stream index : Nat) : Nat :=
  match x.c.model x.t.part x.draft with
  | none => 0
  | some m => ((x.pl.stream stream).map (fun s => imgSkip m x.pl.id s x.lay index)).getD 0

/-- The anchor blocks of an input in a band, joined by maxima. -/
def JoinCtx.blockAnchors (x : JoinCtx) (pos band : Nat) : Option (List Anchor) :=
  match (x.tiles pos band [.anchors]).map (fun t => anchorsOf t.bytes) with
  | [] => none
  | a :: as => some (as.foldl anchorMax a)

/-- R35: the anchor of row `r` over several tiles. -/
def tilesAnchor (f : ElemFmt) (ts : List (List Byte)) (r : Nat) : Anchor := rowAnchorOf f (ts.map (fun b => tileRow f b r))

/-- R36, R59: the channel anchors of an output column that the image stores for a weight stream. -/
def JoinCtx.imageAnchors (x : JoinCtx) (stream col : Nat) : Option (List Anchor) :=
  (x.c.model x.t.part x.draft).bind (fun m =>
    (m.anchors.find? (fun a => a.streamId == stream && a.planId == x.pl.id)).bind (fun a =>
      ((a.layers.getD x.lay []).find? (fun y => y.1 == col)).map (fun y => (upTo 128).map (fun r => anchorOfWord (y.2.getD r 0x8000)))))

/-- R36, R59: the channel anchors of an output column: of its anchor block, or of the image; an LD station
computes those of rows that the image stores without one (log entry 71). -/
def JoinCtx.colAnchors (x : JoinCtx) (wpos band : Nat) (fw : ElemFmt) (ws : List WTile) (col : Nat) : List Anchor :=
  match (x.tiles wpos band [.anchors]).find? (fun t => t.tag.colIndex == col), x.imageAnchors (x.inputD wpos).id col with
  | some t, _ => anchorsOf t.bytes
  | none, some a => a
  | none, none => (upTo 128).map (fun r => tilesAnchor fw (ws.filterMap WTile.bytes) r)

/-- R88, R89: the W tiles that read an X tile again from the quadrant buffer: those that need a data tile beyond
the ones of lowest `RED_INDEX` that fit the X region. -/
def refetches (xt : List XTile) (xbytes : Nat) (live : List WTile) : Nat :=
  let data := xt.filter (fun y => y.bytes.isSome)
  let fit := if xbytes = 0 then data.length else 1179648 / xbytes
  (live.filter (fun w => decide (fit ≤ (data.filter (fun y => decide (y.red < w.red))).length))).length

/-- R39 to R42, R90: the PS tiles of a band of a MATMUL, with what they raise and the work counted. `PLACED_MACS`
counts every pair of the present blocks, zero operands too (log entry 70); a tile whose skip word is 0xFFFF counts
in `SKIP_TILES` though a gate suppressed it (log entry 70). A band of X that is only an end marker has no PS tile
(R105). -/
def JoinCtx.matmul (x : JoinCtx) (band : Nat) : List Tile × ArithCnt × List Nat :=
  let wpos := x.j.operand
  let xpos := (upTo x.j.inputs.length).filter (fun i => i != wpos)
  let wd := x.inputD wpos
  let xfmt := x.bandFmt (x.inputD (xpos.headD 0)) band
  let xt := (xpos.map (fun i => (x.tiles i band [.data, .skip]).map (fun t =>
    (⟨t.tag.redIndex, t.tag.cols, if t.tag.kind = .data then some t.bytes else none⟩ : XTile)))).flatten
  match elemOfFmt wd.fmt, elemOfFmt xfmt with
  | some fw, some fx =>
    let rows := (xpos.map (fun i => x.rowsOf band i)).foldl max 0
    let ws := (x.tiles wpos band [.data, .skip]).map (fun t => (⟨t.tag.redIndex, t.tag.colIndex, t.tag.rows, t.tag.cols, t.tag.parts,
      x.skipWord wd.id (t.tag.tileIndex % max 1 wd.count), if t.tag.kind = .data then some t.bytes else none⟩ : WTile))
      let hx := match xpos.filterMap (fun i => x.blockAnchors i band) with
        | [] => (upTo 128).map (fun r => if r < rows then tilesAnchor fx (xt.filterMap XTile.bytes) r else none)
        | a :: as => as.foldl anchorMax a
      let cols := ws.foldl (fun (l : List Nat) w => if l.contains w.col then l
        else l.takeWhile (fun y => decide (y < w.col)) ++ w.col :: l.dropWhile (fun y => decide (y < w.col))) []
      let ofCol := fun (col : Nat) => ws.filter (fun w => w.col == col)
      let xcnt := xReadCnt xfmt rows xt
      let one := fun (i col : Nat) =>
        let cw := ofCol col
        (⟨x.tag x.j.out 6 .data band i rows col ((cw.map WTile.parts).foldl max 1) (arithFlags (arithAdd xcnt (wReadCnt wd.fmt cw))),
          psTile fw fx cw xt hx (x.colAnchors wpos band fw cw col) rows⟩ : Tile)
      let zero := (xt.filter (fun y => match y.bytes with
        | some b => xTileZero xfmt rows b
        | none => false))
      let mate := fun (w : WTile) => xt.find? (fun y => y.red == w.red)
      let dead := fun (w : WTile) => (mate w).all (fun y => y.bytes.isNone || zero.contains y)
      let live := ws.filter (fun w => w.bytes.isSome && !dead w)
      let placed := fun (w : WTile) => match mate w with
        | some y => placedMacs w y hx (x.colAnchors wpos band fw (ofCol w.col) w.col) rows
        | none => 0
      let xbytes := rows * (128 * elemBits fx / 8 + (if isLog fx then 4 else 0))
      let active := fun (w : WTile) => match mate w with
        | some y => activeCycles wd.fmt xfmt w y hx (x.colAnchors wpos band fw (ofCol w.col) w.col) rows
        | none => 0
      (if xt.isEmpty then [] else (cols.zipIdx).map (fun y => one y.2 y.1), arithAdd xcnt (wReadCnt wd.fmt ws),
        [sumN (live.map active),
         sumN (ws.map (fun w => rows * w.rows * w.cols)), sumN (live.map placed),
         sumN ((ws.filter (fun w => w.bytes.isSome)).map (fun w => 16 - (presentBlocks w.skip).length)),
         (ws.filter (fun w => w.skip == 0xFFFF)).length, zero.length, refetches xt xbytes live])
  | _, _ => ([], {}, [])

/-! SUM (R41 to R46, R68). -/

/-- R37: whether the operands of a PS stream are of the logarithmic family. -/
def PlanD.psLog (p : PlanD) (stream : Nat) : Bool :=
  match p.allJ.find? (fun j => j.kind == 1 && j.out == stream) with
  | some j => ((p.stream (j.inputs.getD j.operand 0)).map (fun s => decide (s.fmt ≤ 1))).getD true
  | none => true

/-- R66, R68, R105: the output tiles of a band of a SUM join, each of its `PARTS` partial sums; a marker is one that adds
nothing. -/
def JoinCtx.sum (x : JoinCtx) (band : Nat) : List Tile × ArithCnt :=
  let ps := ((upTo x.j.inputs.length).map (fun i => (x.data i band).map (fun t => (x.j.inputs.getD i 0, t)))).flatten
  let cols := ps.foldl (fun (l : List Nat) t => if l.contains t.2.tag.colIndex then l
    else l.takeWhile (fun y => decide (y < t.2.tag.colIndex)) ++ t.2.tag.colIndex ::
      l.dropWhile (fun y => decide (y < t.2.tag.colIndex))) []
  let d := x.outD
  let fmt := x.bandFmt d band
  let outs := (cols.zipIdx).map (fun y =>
    let mine := ps.filter (fun t => t.2.tag.colIndex == y.1)
    let mine := mine.take ((mine.map (fun t => t.2.tag.parts)).foldl max 1)
    let rows := (mine.map (fun t => t.2.tag.rows)).foldl max 0
    let (bytes, an, cnt) := sumTile fmt ((mine.head?).all (fun t => x.pl.psLog t.1)) rows
      ((mine.filter (fun t => t.2.tag.kind == .data)).map (fun t => t.2.bytes))
    ((⟨x.tag d.id fmt .data band y.2 rows y.1 0 (arithFlags cnt), bytes⟩ : Tile), an, cnt))
  let an := match outs.map (fun o => o.2.1) with
    | [] => List.replicate 128 none
    | a :: as => as.foldl anchorMax a
  let rows := (outs.map (fun o => o.1.tag.rows)).foldl max 0
  (x.dress band rows an (outs.map (fun o => o.1)), arithSum (outs.map (fun o => o.2.2)))

/-! ATTEND (R156 to R168). -/

/-- R160: the fields of an ATTEND join's operand. -/
def attendHead (j : JoinD) : Nat := j.operand / 65536 % 16
/-- Column `n` (of 128 elements) of the FP32 input of a band: input 0's tiles in column order (the query
heads, then the key head, then the value head). -/
def JoinCtx.qkv (x : JoinCtx) (band row n : Nat) : List W32 :=
  match (x.data 0 band)[n]? with
  | some t => (upTo 128).map (f32At t.bytes row)
  | none => List.replicate 128 f32Zero

/-- R153: the row map of a band. -/
def JoinCtx.rowMap (x : JoinCtx) (band : Nat) : List (Nat × Nat × PosEnt) := (x.c.bandsOf x.t).getD band []

/-- R156: the new key and value of a row, rotated and converted, with what the conversion of each raises. -/
def JoinCtx.newKv (x : JoinCtx) (l : KvLayer) (band row pos : Nat) (pad : Bool) : KvEntry × ArithCnt × ArithCnt :=
  let k0 := x.qkv band row l.qPerKv
  let k := if l.ropeEn then ropeRotate l.rope pos k0 else k0
  let (kr, _, ck) := codeRow (kvElem l.fmt) k
  let (vr, _, cv) := codeRow (kvElem l.fmt) (x.qkv band row (l.qPerKv + 1))
  ({ pos := pos, pad := pad, k := kr, v := vr }, ck, cv)

/-- R157, R158: the keys of a segment that this step projects, in the bands whose columns are there. -/
def JoinCtx.stepKeys (x : JoinCtx) (l : KvLayer) (seg : Nat) : List KvEntry :=
  ((upTo x.t.bands).filter (fun b => x.inputDone 0 b)).map (fun b =>
    ((x.rowMap b).zipIdx).filterMap (fun r =>
      if r.1.1 = seg then some (x.newKv l b r.2 r.1.2.1 r.1.2.2.pad).1 else none)) |>.flatten

/-- R158, R159: the tiles of committed keys of a segment in the pages of a layer, each with its page's home
quadrant: at most 128 keys of one page. -/
def JoinCtx.pageKeys (x : JoinCtx) (l : KvLayer) (seg h : Nat) : List (Nat × List KvEntry) :=
  match x.t.segs[seg]? with
  | none => []
  | some g =>
    match x.c.seq g.requestId with
    | none => []
    | some s =>
      let first := (((x.c.passRows x.t).find? (fun r => r.1 == seg)).map (fun r => r.2.1)).getD 0
      ((s.pages.filter (fun r => r.draft == x.draft && r.layer == x.lay)).map (fun r =>
        match x.c.frameOf s.part r with
        | none => []
        | some f =>
          let keys := (upTo (min (kvTpp l) (first - r.posBase))).map (fun j =>
            let e := pageEntry l f h j
            { e with pad := ((s.table[r.posBase + j]?).map PosEnt.pad).getD e.pad })
          (chunksOf 128 (keys.length + 1) keys).map (fun ks => (r.quad, ks)))).flatten

/-- R159: whether no row of a work unit admits a key of a tile. -/
def maskSkips (l : KvLayer) (rows : List Nat) (ks : List KvEntry) : Bool :=
  ks.all (fun e => rows.all (fun r => !admissible l.mask l.window e.pos r e.pad))

/-- R165: whether pass 2 reads K again. -/
def rereads (keys q rows : Nat) : Bool := decide (65536 < keys * q * rows)

/-- R166: the stations that share a work unit: the host's quadrant with no home of its own, then each partial
role's quadrant with the quadrant whose pages it takes. Two groups of one quadrant share no page: the first takes them
(R167). -/
def JoinCtx.shares (x : JoinCtx) : List (Nat × Option Nat) :=
  let ps := (attendPartials x.j).foldl (fun (a : List (Nat × Nat)) r =>
    let q := x.c.groupQuad x.t.part (roleGroup r)
    if a.any (fun y => y.2 == q) then a else a ++ [(x.t.roleQuad r, q)]) []
  (x.quad, none) :: ps.map (fun y => (y.1, some y.2))

/-- R166: whether a share takes a page homed in a quadrant; the host takes what no partial role does. -/
def takesPage (all : List (Nat × Option Nat)) (sh : Nat × Option Nat) (q : Nat) : Bool :=
  match sh.2 with
  | some h => h == q
  | none => !(all.any (fun y => y.2 == some q))

/-- What attending one row of a band gives: the output of each query head, how many are empty, what the conversion of the
query heads raised, and for each share the keys it scores per head, the weights it drops and what the scores raised. -/
structure AttRow where
  outs   : List (List W32)
  empty  : Nat
  cnt    : ArithCnt
  shares : List (Nat × Nat × ArithCnt)
  deriving DecidableEq, Repr

/-- R156, R162 to R166: one row of a band attended. -/
def JoinCtx.attendRow (x : JoinCtx) (l : KvLayer) (band row : Nat) (r : Nat × Nat × PosEnt)
    (stepK : List KvEntry) (pageK : List (Nat × List KvEntry)) : AttRow :=
  let ok := fun (e : KvEntry) => admissible l.mask l.window e.pos r.2.1 e.pad
  let parts := x.shares.map (fun sh =>
    (if sh.2 = none then stepK.filter ok else []) ++
      (((pageK.filter (fun k => takesPage x.shares sh k.1)).map Prod.snd).flatten).filter ok)
  let heads := (upTo l.qPerKv).map (fun h =>
    let q0 := x.qkv band row h
    codeRow (queryFmt l.fmt) (if l.ropeEn then ropeRotate l.rope r.2.1 q0 else q0))
  let outs := heads.map (fun q => attendRowHead l.scale q.1 parts)
  { outs := outs.map (fun o => o.1), empty := (outs.filter (fun o => o.2.2)).length,
    cnt := arithSum (heads.map (fun q => q.2.2)),
    shares := (parts.zipIdx).map (fun p => (p.1.length * l.qPerKv, sumN (outs.map (fun o => o.2.1.getD p.2 0)),
      arithSum ((p.1.map (fun e => heads.map (fun q => (scoreAcc q.1 e.k).2))).flatten))) }

/-- What an ATTEND join makes of a band: its tiles, the rows with an empty row-head, and for each quadrant that took
part what was raised and the counts of R170. -/
structure Attended where
  tiles   : List Tile
  empties : List Bool
  work    : List (Nat × ArithCnt × List Nat)
  deriving DecidableEq, Repr

/-- R156 to R166: the outputs of a band of an ATTEND join: the attended heads and the K and V tiles of `KV_OUT`; each
quadrant counts what its own stations convert, read, score and send (R170), each score once, and the partial results of one
role for one work unit as one (DESIGN CHOICE, log entry 93). -/
def JoinCtx.attend (x : JoinCtx) (band : Nat) : Attended :=
  let l := x.c.layer x.t.part x.draft x.lay
  let d := x.outD
  let map := x.rowMap band
  let segs := (map.map (fun r => r.1)).eraseDups
  let stepK := segs.map (fun g => (g, x.stepKeys l g))
  let pageK := segs.map (fun g => (g, x.pageKeys l g (attendHead x.j)))
  let stepOf := fun (g : Nat) => ((stepK.find? (fun k => k.1 == g)).map Prod.snd).getD []
  let pageOf := fun (g : Nat) => ((pageK.find? (fun k => k.1 == g)).map Prod.snd).getD []
  let rows := (map.zipIdx).map (fun r => x.attendRow l band r.2 r.1 (stepOf r.1.1) (pageOf r.1.1))
  let fmt := x.bandFmt d band
  let heads := (upTo l.qPerKv).map (fun h => f32Tile fmt (rows.map (fun r => r.outs.getD h [])))
  let an := match heads.map (fun h => h.2.1) with
    | [] => List.replicate 128 none
    | a :: as => as.foldl anchorMax a
  let new := (map.zipIdx).map (fun r => x.newKv l band r.2 r.1.2.1 r.1.2.2.pad)
  let kv := fun (i : Nat) (f : KvEntry → CodedRow) (cnt : ArithCnt) =>
    (⟨x.tag (attendOut x.j) (if l.fmt = 0 then 0 else if l.fmt = 1 then 1 else 2) .data band i map.length i 0 (arithFlags cnt),
      (new.map (fun e => packCodes (kvElem l.fmt) (f e.1).codes)).flatten⟩ : Tile)
  let kc := arithSum (new.map (fun e => e.2.1))
  let vc := arithSum (new.map (fun e => e.2.2))
  let unitRows := fun (g : Nat) => (map.filter (fun r => r.1 == g)).map (fun r => r.2.1)
  let big := fun (g : Nat) =>
    let keys := (stepOf g ++ ((pageOf g).map Prod.snd).flatten).filter (fun e =>
      (unitRows g).any (fun r => admissible l.mask l.window e.pos r e.pad))
    rereads keys.length l.qPerKv (unitRows g).length
  let work := (x.shares.zipIdx).map (fun sh =>
    let host := sh.1.2 == none
    let mine := segs.map (fun g => (g, ((pageOf g).filter (fun k => takesPage x.shares sh.1 k.1)).map Prod.snd))
    let read := mine.map (fun k => (k.1, k.2.filter (fun ks => !maskSkips l (unitRows k.1) ks)))
    let skipped := sumN (mine.map (fun k => (k.2.filter (maskSkips l (unitRows k.1))).length))
    let again := sumN (read.map (fun k => if big k.1 then k.2.length else 0))
    let cnt := arithAdd (arithSum ((read.map (fun k => (k.2.flatten).map kvReadCnt)).flatten))
      (arithSum (rows.map (fun r => (r.shares.getD sh.2 (0, 0, {})).2.2)))
    let made := if host then arithSum (rows.map AttRow.cnt) else {}
    let own := if host then arithAdd (arithSum (heads.map (fun h => h.2.2))) (arithAdd kc vc) else {}
    (arithAdd cnt made, (sh.1.1, arithAdd (arithAdd cnt made) own,
     [if host then rows.length * l.qPerKv else 0, if host then sumN (rows.map AttRow.empty) else 0,
      sumN (rows.map (fun r => (r.shares.getD sh.2 (0, 0, {})).1)), skipped, again,
      sumN (rows.map (fun r => (r.shares.getD sh.2 (0, 0, {})).2.1)), if sh.1.1 = x.quad then 0 else segs.length])))
  let used := arithSum (work.map Prod.fst)
  let outs := (heads.zipIdx).map (fun h =>
    (⟨x.tag d.id fmt .data band h.2 map.length (attendHead x.j * l.qPerKv + h.2) 0 (arithFlags (arithAdd used h.1.2.2)), h.1.1⟩ : Tile))
  { tiles := x.dress band map.length an outs ++ [kv 0 KvEntry.k kc, kv 1 KvEntry.v vc],
    empties := rows.map (fun r => decide (r.empty ≠ 0)), work := work.map Prod.snd }

/-! Routers (R100 to R108). -/

/-- R100, R101: the logits of a row. -/
def JoinCtx.logits (x : JoinCtx) (band row n : Nat) : List W32 :=
  (upTo n).map (fun e => match (x.data 0 band).find? (fun t => t.tag.redIndex == e / 128) with
    | some t => (tileRowF32 t.tag.fmt t.bytes row).getD (e % 128) f32Zero
    | none => f32Zero)

/-- R30, R52: what a station that is no matrix or attention station counts of the operands it reads in a band. -/
def JoinCtx.readCnt (x : JoinCtx) (band : Nat) : ArithCnt :=
  arithSum (((upTo x.j.inputs.length).map (fun i => (x.data i band).map (fun t =>
    tileReadCnt false t.tag.fmt t.tag.rows t.bytes))).flatten)

/-- R101 to R104: what an RT station makes of a band: the selections, the route tile and predicates, and the
ties. -/
def JoinCtx.route (x : JoinCtx) (r : RouteDesc) (bias : List W32) (band : Nat) : List Tile × List (List Nat) × Nat × ArithCnt :=
  let rows := x.rowsOf band 0
  let bias := if r.biasOff = 0 then [] else bias
  let sel := (upTo rows).map (fun i => selectExperts r.topK (x.logits band i r.nExperts) bias)
  let body := (sel.zipIdx).map (fun s =>
    routeRow r.topK s.1.1 (routeWeights r.mode r.scale (x.logits band s.2 r.nExperts) s.1.1))
  let (bytes, _, cnt) := f32Tile 5 body
  let read := x.readCnt band
  let pred := (upTo r.nExperts).map (fun e =>
    let w := sumN ((sel.zipIdx).map (fun s => if s.1.1.contains e then 2 ^ s.2 else 0))
    (⟨x.tag (r.predBase + e) 5 .data band 0 rows 0 0 0, leBytes w 16⟩ : Tile))
  let ts := if r.early then [] else (⟨x.tag r.routeStr 5 .data band 0 rows 0 0 (arithFlags (arithAdd read cnt)), bytes⟩ : Tile) :: pred
  (ts, sel.map Prod.fst, sumN (sel.map Prod.snd), arithAdd read (if r.early then {} else cnt))

/-- R104, R105: the experts that no row of the window of a band selected. -/
def emptyExperts (n : Nat) (sel : List (List (List Nat))) : Nat :=
  ((upTo n).filter (fun e => sel.all (fun b => b.all (fun r => !r.contains e)))).length

/-- R103, R106: the experts that a route selected, with their weights, per step band and row. -/
def JoinCtx.routeSel (x : JoinCtx) (r : RouteDesc) : List (List (List (W32 × Nat))) :=
  (upTo x.t.bands).map (fun b => (upTo (x.rowsOf b 0)).map (fun i =>
    match x.data 0 b with
    | t :: _ => (upTo r.topK).map (fun k => (f32At t.bytes i k, (f32ToIntClamp (f32At t.bytes i (8 + k))).toNat))
    | [] => []))

/-- R104, R105: the expert bands of an expert over the first `wins` windows of a step; an idle window has one. -/
def expertBandsIn (has : Nat → Nat → Bool) (rowsOf : Nat → Nat) (window wins : Nat) : Nat :=
  sumN ((upTo wins).map (fun v =>
    max 1 (cdiv (sumN ((upTo window).map (fun k => ((upTo (rowsOf (v * window + k))).filter (has (v * window + k))).length))) 128)))

/-- R104, R105: the expert bands of an expert in a step. -/
def JoinCtx.expertBands (x : JoinCtx) (r : RouteDesc) (e : Nat) : Nat :=
  let sel := x.routeSel r
  expertBandsIn (fun b i => ((sel.getD b []).getD i []).any (fun s => s.2 == e)) (fun b => (sel.getD b []).length) (max 1 r.window)
    (cdiv x.t.bands (max 1 r.window))

/-- R106: the output tiles of an expert combine. -/
def JoinCtx.merge (x : JoinCtx) (r : RouteDesc) : List Tile × ArithCnt :=
  let d := x.outD
  let first := if r.shared then 2 else 1
  let win := max 1 r.window
  let sel := x.routeSel r
  let rowsOf := fun (b : Nat) => (sel.getD b []).length
  let has := fun (e b i : Nat) => ((sel.getD b []).getD i []).any (fun s => s.2 == e)
  let value := fun (e b i col k : Nat) =>
    let p := packedPos (has e) rowsOf win b i
    match (x.data (first + e) (expertBandsIn (has e) rowsOf win (b / win) + p / 128)).find? (fun t => t.tag.redIndex == col) with
    | some t => (tileRowF32 t.tag.fmt t.bytes (p % 128)).getD k f32Zero
    | none => f32Zero
  let cols := upTo d.count
  let read := arithSum (x.bandsSeen.map x.readCnt)
  let outs := ((upTo x.t.bands).map (fun b => cols.map (fun col =>
    let rows := (upTo (rowsOf b)).map (fun i => (upTo 128).map (fun k =>
      let s := if r.shared then
          match (x.data 1 b).find? (fun t => t.tag.redIndex == col) with
          | some t => (tileRowF32 t.tag.fmt t.bytes i).getD k f32Zero
          | none => f32Zero
        else f32Zero
      combineElem s (((sel.getD b []).getD i []).map (fun w => (w.1, value w.2 b i col k)))))
    let (bytes, _, cnt) := f32Tile 5 rows
    ((⟨x.tag d.id 5 .data b col rows.length col 0 (arithFlags (arithAdd read cnt)), bytes⟩ : Tile), cnt)))).flatten
  (outs.map Prod.fst, arithAdd read (arithSum (outs.map Prod.snd)))

/-! BARRIER (R68). -/

/-- R30, R45 to R48, R52, R68: what a BARRIER join releases in a band. DESIGN CHOICE (log entry 94): the tiles of its inputs in
list order, numbered anew, each with its `PARTS`, `RED_INDEX` and `COL_INDEX`, in the format of the output. It reads the
elements of a tile that it converts or whose anchors it forms. -/
def JoinCtx.barrier (x : JoinCtx) (band : Nat) : List Tile × ArithCnt :=
  let ins := ((upTo x.j.inputs.length).map (fun i => x.data i band)).flatten
  let d := x.outD
  let fmt := x.bandFmt d band
  let outs := (ins.zipIdx).map (fun y =>
    let (bytes, an, made) := convTile y.1.tag.fmt fmt y.1.tag.rows y.1.bytes
    let read := if y.1.tag.fmt ≠ fmt ∨ d.hold then tileReadCnt false y.1.tag.fmt y.1.tag.rows y.1.bytes else {}
    let cnt := arithAdd read made
    let g := x.tag d.id fmt .data band y.2 y.1.tag.rows y.1.tag.redIndex y.1.tag.parts (y.1.tag.arithFlags ||| arithFlags cnt)
    ((⟨{ g with colIndex := y.1.tag.colIndex }, bytes⟩ : Tile), an, cnt))
  let an := match outs.map (fun o => o.2.1) with
    | [] => List.replicate 128 none
    | a :: as => as.foldl anchorMax a
  (x.dress band ((ins.map (fun y => y.tag.rows)).foldl max 0) an (outs.map (fun o => o.1)), arithSum (outs.map (fun o => o.2.2)))

/-! VECTOR and the sampler (R51, R68, R197, R198). -/

/-- R42, R56: a PS tile of free partial sums and anchors. -/
def freePs (v : Nat → Nat → W64) (rows : Nat) : List Byte :=
  ((upTo 128).map (fun i => ((upTo 128).map (fun j =>
    leBytes (if i < rows then (v i j).toNat % 2 ^ 56 else 0) 8)).flatten)).flatten ++
    ((upTo 128).map (fun i => leBytes ((v i 128).toNat % 65536) 2)).flatten ++
    ((upTo 128).map (fun j => leBytes ((v 128 j).toNat % 65536) 2)).flatten

/-- R45 to R51, R68: the output tiles of a band of a vector routine that the image defines, over the tiles of its inputs by
`TILE_INDEX` in the band; an output tile has the `RED_INDEX` of the first input's tile of that index (DEDUCED, log entry 94). The routine computes in
binary32, with values that the specification does not give (`Config.vectorRoutine`); the station converts them into the
output's format, so that no NaN, infinity or negative zero reaches a tile. -/
def JoinCtx.vector (x : JoinCtx) (band : Nat) : List Tile × ArithCnt :=
  let d := x.outD
  let place := fun (i : Nat) (t : Tile) => t.tag.tileIndex % max 1 (x.inputD i).count
  let ins := ((upTo x.j.inputs.length).map (fun i => (x.data i band).map (fun t => (i, place i t, t.bytes)))).flatten
  let red := fun (i : Nat) => (((x.data 0 band).find? (fun t => place 0 t == i)).map (fun t => t.tag.redIndex)).getD i
  let rows := ((upTo x.j.inputs.length).map (fun i => x.rowsOf band i)).foldl max 0
  let meas := ((x.c.model x.t.part x.draft).map imgMeasurement).getD 0
  if ins.isEmpty then (x.dress band rows [] [], {})
  else
    let read := x.readCnt band
    let fmt := x.bandFmt d band
    let outs := (upTo d.count).map (fun i =>
      let v := Config.vectorRoutine meas x.pl.id x.j.id x.lay i rows ins
      let (bytes, an, cnt) :=
        if fmt = 6 then (freePs v rows, List.replicate 128 none, {})
        else f32Tile fmt ((upTo rows).map (fun r => (upTo 128).map (fun k => BitVec.ofNat 32 ((v r k).toNat % 2 ^ 32))))
      ((⟨x.tag d.id fmt .data band i rows (red i) 0 (arithFlags (arithAdd read cnt)), bytes⟩ : Tile), an, cnt))
    let an := match outs.map (fun o => o.2.1) with
      | [] => List.replicate 128 none
      | a :: as => as.foldl anchorMax a
    (x.dress band rows an (outs.map (fun o => o.1)), arithAdd read (arithSum (outs.map (fun o => o.2.2))))

/-- R198: a logits row of a band at a sampler station. -/
def logitsRow (ts : List Tile) (vocab row : Nat) : List W32 :=
  ((ts.map (fun t => tileRowF32 t.tag.fmt t.bytes row)).flatten).take vocab

end Sys2Proof.Machine
end

