-- ==== Sys2Proof/Machine/EmbMath.lean ====
section
/-!
DEFINITION. The arithmetic of the embedding station: row decoding, pooling, scatter-add and
the hot-row sketch (R274, R282 to R284, R286, R290).
-/
namespace Sys2Proof.Machine

/-- R273: the element format of a table format code. -/
def embElem : Nat → ElemFmt
  | 1 => .l8
  | 2 => .e4m3
  | 3 => .e5m2
  | _ => .bf16

/-- R273: element bytes of a row. -/
def rowElemBytes (fmt width : Nat) : Nat := if fmt = 4 then 2 * width else width
/-- R273: scale bytes of a row. -/
def rowScaleBytes (fmt width : Nat) : Nat := if fmt = 1 then width / 32 else 0
/-- R282: row reply bytes, padded to a multiple of 4. -/
def rowReplyBytes (fmt width : Nat) : Nat :=
  roundUp (rowElemBytes fmt width + rowScaleBytes fmt width) 4
/-- R282: rows that one read packet carries. -/
def rowsPerRead (fmt width : Nat) : Nat := min 64 (4080 / rowReplyBytes fmt width)

/-- R274: address of the elements of local row `r` in a range at `off`. -/
def rowElemAddr (fmt width off r : Nat) : Nat := off + r * rowElemBytes fmt width
/-- R274: address of the scales of local row `r` in a range of 2^m rows at `off`. -/
def rowScaleAddr (fmt width off m r : Nat) : Nat :=
  off + roundUp (2 ^ m * rowElemBytes fmt width) 64 + r * (width / 32)

/-- R283, R284: one element decoded to binary32, with 1 for a NaN or an infinity read as +0. -/
def embDecode (fmt width : Nat) (row : List Byte) (k : Nat) : W32 × Nat :=
  if fmt = 1 then
    (logToF32 .l8 (byteAt row k) (byteAt row (width + k / 32)), 0)
  else
    let code := if fmt = 4 then byteAt row (2 * k) + 256 * byteAt row (2 * k + 1)
                else byteAt row k
    if linSpecial (embElem fmt) code then (f32Zero, 1)
    else (elemToF32 (embElem fmt) code 0, 0)

/-- R283 steps 1 to 4: pooled binary32 columns of a bag (`rows` in bag order), and the
special inputs read. -/
def poolBag (fmt width : Nat) (mean : Bool) (weights : Option (List W32))
    (rows : List (List Byte)) : List W32 × Nat :=
  let n := rows.length
  let col := fun (j : Nat) =>
    let dec := rows.map (fun r => embDecode fmt width r j)
    let vs := match weights with
      | none => dec.map (·.1)
      | some ws => List.zipWith (fun w d => f32Mul w d.1) ws dec
    let s := treeSum vs
    (if mean then f32Div s (f32OfNat n) else s, sumN (dec.map (·.2)))
  let cs := (upTo width).map col
  (cs.map (·.1), sumN (cs.map (·.2)))

/-- R281, R283: a vector written in `OUT_FMT` (FP32 is code 5), elements then scale bytes,
padded with zero to a multiple of 8 bytes. -/
def embEncode (out : Nat) (v : List W32) : List Byte × ArithCnt :=
  let pad := fun (bs : List Byte) => bs ++ List.replicate (roundUp bs.length 8 - bs.length) 0#8
  if out = 5 then
    let fs := v.map (fun w => match f32Val w with
      | .nan => (f32Zero, ({ nanFlushed := 1 } : ArithCnt))
      | .inf s => (f32Of s 0x7F7FFFFF, { outSat := 1 })
      | .fin d => (if d.m = 0 then f32Zero else w, {}))
    (pad (fs.map (fun p => leBytes p.1.toNat 4)).flatten, arithSum (fs.map (·.2)))
  else
    let f := embElem out
    let r := convRow f (v.map outOfF32)
    (pad (packCodes f r.codes ++ r.scales.map (fun e => BitVec.ofNat 8 e)), r.cnt)

/-- R286: a row after a scatter-add of binary32 deltas. -/
def scatterRow (fmt width : Nat) (row : List Byte) (delta : List W32) : List Byte :=
  let v := (upTo width).map (fun k => f32Add (embDecode fmt width row k).1 (delta.getD k f32Zero))
  let f := embElem fmt
  let r := convRow f (v.map outOfF32)
  packCodes f r.codes ++ r.scales.map (fun e => BitVec.ofNat 8 e)

/-- R290: the hash multipliers of the sketch. -/
def sketchKeys : List Nat :=
  [0x9E3779B97F4A7C15, 0xC2B2AE3D27D4EB4F, 0x165667B19E3779F9, 0xD6E8FEB86659FD93]

/-- R290: the counter index of row i of the sketch. -/
def sketchIdx (i t row : Nat) : Nat :=
  ((row ^^^ (t <<< 40)) * sketchKeys.getD i 0 % 2 ^ 64) >>> 50

end Sys2Proof.Machine
end

