-- ==== Sys2Proof/Machine/EmbHome.lean ====
section
/-!
DEFINITION. Embedding rows at their home (R274, R277, R278, R286, R289, R292, R295): where a row lies, reading and writing it,
scatter-adds, and rows that arrive under a migration.
-/
namespace Sys2Proof.Machine

/-- Whether a range of 2^m rows holds a row. -/
def covers (first m row : Nat) : Bool := decide (first ≤ row) && decide (row < first + 2 ^ m)

/-- R278: the shard of a row. -/
def TableVer.shard (v : TableVer) (row : Nat) : ShardEnt := v.map.getD (row / 2 ^ v.log2Shard) ⟨0, 0, 0, 0⟩

/-- Where a row lies on this device: region, offset of the range, its first row and its size; none when this device is not its
home. -/
def Chip.homeOf (c : Chip) (v : TableVer) (row : Nat) : Option (Nat × Nat × Nat × Nat) :=
  match v.moved.reverse.find? (fun e => covers e.first e.m row) with
  | some e => e.place.map (fun p => (p.1, p.2, e.first, e.m))
  | none =>
    let s := v.shard row
    if s.device = c.deviceId ∧ row < v.rows then
      some (s.region, s.offset, row / 2 ^ v.log2Shard * 2 ^ v.log2Shard, v.log2Shard)
    else none

/-- R274: the element and scale addresses of a row of a range. -/
def rowAddrs (v : TableVer) (off first m row : Nat) : Nat × Nat :=
  (rowElemAddr v.fmt v.width off (row - first), rowScaleAddr v.fmt v.width off m (row - first))

/-- R274: a row's elements and scales, read at home. -/
def Chip.readRow (c : Chip) (v : TableVer) (place : Nat × Nat × Nat × Nat) (row : Nat) : List Byte :=
  let g := c.region place.1
  let (e, s) := rowAddrs v place.2.1 place.2.2.1 place.2.2.2 row
  c.regionRead g e (rowElemBytes v.fmt v.width) ++ c.regionRead g s (rowScaleBytes v.fmt v.width)

/-- R274: a row written at home. -/
def Chip.writeRow (c : Chip) (v : TableVer) (place : Nat × Nat × Nat × Nat) (row : Nat) (bs : List Byte) : Chip :=
  let g := c.region place.1
  let (e, s) := rowAddrs v place.2.1 place.2.2.1 place.2.2.2 row
  let n := rowElemBytes v.fmt v.width
  (c.regionWrite g e (bs.take n)).regionWrite g s (bs.drop n)

/-- R289: the status of an access to a row at this device as its home, in order: the station, the version, the
row, the memory, the error of the tier itself. -/
def Chip.rowStatus (c : Chip) (table version row : Nat) (tierError : Bool) : Nat × Chip :=
  if !c.domUp 6 then (stOffline, c)
  else
    match c.ver table version with
    | none => (stTableRetired, c)
    | some v =>
      match c.homeOf v row with
      | none => (stRegionUnknown, c)
      | some p =>
        let g := c.region p.1
        let (e, s) := rowAddrs v p.2.1 p.2.2.1 p.2.2.2 row
        let n := rowElemBytes v.fmt v.width
        let k := rowScaleBytes v.fmt v.width
        if !g.valid || decide (g.length < e + n) || decide (0 < k ∧ g.length < s + k) then (stRegionUnknown, c)
        else if !c.tierUp g.tier (g.base + e) n then (stOffline, c)
        else if tierError || c.lineBad g.tier (g.base + e) n || c.lineBad g.tier (g.base + s) k then
          (stUncorrectable, ((c.bump (Reg.movCnt 13)).eccBad g.tier).log
            { code := 0x0802, refKind := 2, ref := c.deviceId * 2 ^ 48 + p.1 * 2 ^ 36, part := g.part })
        else (stOk, c)

/-- R286: a scatter-add applied to a row at home. -/
def Chip.applyScatter (c : Chip) (v : TableVer) (row : Nat) (delta : List W32) : Chip :=
  match c.homeOf v row with
  | none => c
  | some p => (c.writeRow v p row (scatterRow v.fmt v.width (c.readRow v p row) delta)).bump (Reg.embCnt 7)

/-! Rows that arrive under a migration (R295). -/

/-- The rows of a range that its table has. -/
def TableVer.rangeRows (v : TableVer) (first m : Nat) : Nat := min (2 ^ m) (v.rows - first)

/-- The bytes of a bulk copy. -/
def TableVer.copyBytes (v : TableVer) (first m : Nat) : Nat :=
  v.rangeRows first m * (rowElemBytes v.fmt v.width + rowScaleBytes v.fmt v.width)

/-- R287: the common bytes of a migration's packets. -/
def migCommon (id : Nat) : MoveCommon := { requestId := 0, placement := 0, moveId := id, rsvd := 0 }

/-- A migration record of the new home replaced. -/
def Chip.setMigIn (c : Chip) (r : MigIn) : Chip :=
  c.onEmb (fun e => { e with ins := updWhere (fun x => x.source == r.source && x.id == r.id) (fun _ => r) e.ins })

/-- R295: FAB_PKT_EMB_MIG_ACK of a phase. -/
def Chip.sendMigAck (c : Chip) (r : MigIn) (phase : Nat) : Chip :=
  (c.sendNew .device r.source 0 (.migAck { common := migCommon r.id, bytes := r.bytes, phase := phase, rsvd := 0 })).2

/-- R295: a write from the old home has completed: rows of the bulk copy, or the final transfer. The first
write tells where the rows lie (log entry 22). -/
def migArrived (c : Chip) (src region low bytes : Nat) : Chip :=
  if (c.region region).move then c
  else
    match c.emb.ins.find? (fun r => r.source == src && (match r.place with
        | some p => p.1 == region
        | none => true)) with
    | none => c
    | some r =>
      match c.ver r.table r.version with
      | none => c
      | some v =>
        let r := { r with bytes := r.bytes + bytes, place := some (r.place.getD (region, low)), queries := 0 }
        if r.state = 1 then
          if v.copyBytes r.first r.m ≤ r.bytes then
            let r := { r with state := 2 }
            (c.setMigIn r).sendMigAck r 0
          else c.setMigIn r
        else if r.state = 3 then (c.setMigIn r).sendMigAck r 1
        else
          let (n, c) := c.takeFree
          let new : List ReplayEnt := (Config.migratedReplays n).map (fun x =>
            { req := x.1, seq := x.2.1, status := x.2.2, r0 := 0#64, r1 := 0#64, row := none })
          let c := { c with rma := { c.rma with replay := c.rma.replay ++ new.take (4096 - c.rma.replay.length) } }
          let r := { r with state := 3 }
          (c.setMigIn r).sendMigAck r 1

end Sys2Proof.Machine
end

