-- ==== Sys2Proof/Machine/RmaTarget.lean ====
section
/-!
DEFINITION. The remote memory engine as a target and as the receiver of replies (R343, R348 to R358):
region checks, loads, stores, reads, writes and their reassembly, atomics with the replay table,
combined atomics, cancels, and read data.
-/
namespace Sys2Proof.Machine

/-! Checks and replies. -/

/-- R343: the checks of an arriving operation, in order, but for the error of the tier itself. -/
def Chip.regionStatus (c : Chip) (h : FabHdr) (r off len : Nat) : Nat :=
  let g := c.region r
  if !g.valid then stRegionUnknown
  else if g.length < off + len then stDenied
  else if (g.encOnly && !h.enc) || (h.enc && h.encPart != g.part) then stDenied
  else if !c.tierUp g.tier (g.base + off) len then stOffline
  else stOk

/-- R343: the status of an operation that accesses the tier, with the error logged. -/
def Chip.serveStatus (c : Chip) (h : FabHdr) (r off len : Nat) (tierError : Bool) : Nat × Chip :=
  let st := c.regionStatus h r off len
  if st = stOk ∧ tierError then (stUncorrectable, c.tierBad r) else (st, c)

/-- The member whose queue a reply about a region joins (R336). -/
def Chip.regionMember (c : Chip) (r : Nat) : Member :=
  let g := c.region r
  if g.valid then .part g.part else .device

/-- R350, R363: a reply with data, encrypted when the request was; ST_ACCESS_DENIED without data when
no nonce is left. -/
def Chip.dataReply (c : Chip) (m : Member) (h : FabHdr) (b bad : FabBody) : Chip :=
  if h.enc then
    if !c.noncesLeft h.encPart h.encEpoch 1 then c.reply m h bad
    else
      c.sendPkts m (c.header h.src 2 h.msgId h.tsStamp b) (some (h.encPart, h.encEpoch)) [b]
  else c.reply m h b

/-- R365: an operation applied as target. -/
def Chip.served (c : Chip) : Chip := c.bump (Reg.rmaCnt 1)

/-! Loads and stores. -/

/-- FAB_PKT_LOAD (R343, R347). -/
def rmaLoad (c : Chip) (h : FabHdr) (b : LoadBody) (tierError : Bool) : Chip :=
  let m := c.regionMember b.region
  let (st, c) := c.serveStatus h b.region b.offset 64 (tierError || c.regionBad b.region b.offset 64)
  let bad := fun (s : Nat) => FabBody.loadReply { status := s, data := [], rsvd := 0 }
  if st = stOk then
    (c.served).dataReply m h (.loadReply { status := stOk, data := c.regionRead (c.region b.region) b.offset 64, rsvd := 0 })
      (bad stDenied)
  else c.reply m h (bad st)

/-- FAB_PKT_STORE (R343, R348). -/
def rmaStore (c : Chip) (h : FabHdr) (b : StoreBody) (tierError : Bool) : Chip :=
  let m := c.regionMember b.region
  let (st, c) := c.serveStatus h b.region b.offset b.data.length tierError
  let c := if st = stOk then (c.regionWrite (c.region b.region) b.offset b.data).served else c
  c.reply m h (.storeAck { status := st, rsvd := 0 })

/-! Reads. -/

/-- R318, R350: a read reply: pieces of the data at their offsets. A message of one packet has the request's number and TC 2; a longer
one has a number of its own and the request's class (log entry 18). -/
def Chip.sendReadData (c : Chip) (m : Member) (h : FabHdr) (tag : Nat) (data : List Byte) : Chip :=
  let lim := if h.enc then 4048 else 4080
  let bs := ((chunksOf lim (data.length + 1) data).zipIdx).map (fun x => FabBody.readData
    { status := stOk, pktIndex := x.2, readTag := tag, dataOffset := x.2 * lim, data := x.1, rsvd := 0 })
  let enc := if h.enc then some (h.encPart, h.encEpoch) else none
  let head := bs.headD .ccEcho
  if bs.length ≤ 1 then c.sendPkts m (c.header h.src 2 h.msgId h.tsStamp head) enc bs
  else
    let (id, c) := c.nextMsgId
    c.sendPkts m (c.header h.src h.tc id h.tsStamp head) enc bs

/-- FAB_PKT_READ (R343, R347, R350). -/
def rmaRead (c : Chip) (h : FabHdr) (b : ReadBody) (tierError : Bool) : Chip :=
  if b.length = 0 ∨ (if h.enc then 16580608 else 16711680) < b.length then c.nackPkt ⟨h, .read b⟩ stMalformed
  else
    let m := c.regionMember b.region
    let (st, c) := c.serveStatus h b.region b.offset b.length (tierError || c.regionBad b.region b.offset b.length)
    let st := if st = stOk ∧ h.enc ∧ !c.noncesLeft h.encPart h.encEpoch (cdiv b.length 4048) then stDenied else st
    if st = stOk then
      (c.served).sendReadData m h b.readTag (c.regionRead (c.region b.region) b.offset b.length)
    else
      c.reply m h (.readData { status := st, pktIndex := 0, readTag := b.readTag, dataOffset := 0, data := [], rsvd := 0 })

/-! Writes (R357, R358). -/

/-- R361: a completed write advances the list it names, when list and region have one partition. -/
def Chip.trigger (c : Chip) (list part : Nat) : Chip :=
  if c.fld (Reg.rmaWlHdr list 0) 61 58 = part then (c.bump (Reg.rmaCnt 14)).wlAdvance list 1
  else c.bump (Reg.rmaCnt 15)

/-- R358: a write message completes. -/
def Chip.writeDone (c : Chip) (h : FabHdr) (b : WriteBody) (x : RmaCtx) : Chip :=
  let c := (c.dropCtx h.src h.msgId).reply (c.regionMember b.region) h (.writeAck { status := x.first, rsvd := 0 })
  if x.first = stOk then
    let c := c.served
    let c := if b.trigEn then c.trigger b.trigger (c.region b.region).part else c
    migArrived (moveArrived c h.src b.region x.low x.bytes) h.src b.region x.low x.bytes
  else c

/-- FAB_PKT_WRITE (R343, R358). -/
def rmaWrite (c : Chip) (h : FabHdr) (b : WriteBody) (tierError : Bool) : Chip :=
  if 4096 ≤ b.pktIndex then c.nackPkt ⟨h, .write b⟩ stMalformed
  else
    let st := c.regionStatus h b.region b.dstOffset b.data.length
    let st := if st = stOk ∧ tierError then stUncorrectable else st
    let place := fun (c : Chip) =>
      if st = stOk then c.regionWrite (c.region b.region) b.dstOffset b.data
      else if st = stUncorrectable then c.tierBad b.region else c
    match c.reassemble h b.pktIndex b.dstOffset b.data.length st [] with
    | .duplicate => c.bump (Reg.rmaCnt 9)
    | .noRoom => c.nackPkt ⟨h, .write b⟩ stBusy
    | .more x => (place c).setCtx { x with region := b.region }
    | .whole x => (place c).writeDone h b x

/-- FAB_PKT_READ_DATA (R347, R350, R358): data placed where the read asked; what ends is answered. -/
def rmaReadData (c : Chip) (h : FabHdr) (b : ReadDataBody) : List OpEnd × Chip :=
  if 4096 ≤ b.pktIndex then ([], c.nackPkt ⟨h, .readData b⟩ stMalformed)
  else
    match c.rma.ops.find? (fun o => o.kind == .read && o.readTag == b.readTag && o.target == h.src) with
    | none => ([], c.lateReply)
    | some o =>
      if b.status = stBusy then c.opBusy o
      else if b.status ≠ stOk then (c.dropCtx h.src h.msgId).endOp o b.status []
      else
        let place := fun (c : Chip) =>
          if o.owner != .second && decide (b.dataOffset + b.data.length ≤ o.length) then
            c.regionWrite (c.region o.locReg) (o.locOff + b.dataOffset) b.data
          else c
        match c.reassemble h b.pktIndex b.dataOffset b.data.length stOk [] with
        | .duplicate => ([], c.bump (Reg.rmaCnt 9))
        | .noRoom => ([], c.nackPkt ⟨h, .readData b⟩ stBusy)
        | .more x => ([], (place c).setCtx x)
        | .whole _ => ((place c).dropCtx h.src h.msgId).endOp o stOk []

/-- R352: a message enters the cancel table, if it has room; whether it did. -/
def Chip.recordCancel (c : Chip) (src id : Nat) : Bool × Chip :=
  let c := c.dropCtx src id
  if c.rma.cancels.contains (src, id) then (true, c)
  else if c.rma.cancels.length < 1024 then
    (true, { c with rma := { c.rma with cancels := c.rma.cancels ++ [(src, id)] } })
  else (false, c)

/-- RMA_REASSEMBLY_LIMIT (R358); R248: a placement that is not whole by then is refused. -/
def reassemblyLimit (c : Chip) (src id : Nat) : Chip :=
  match c.ctx? src id with
  | none => c
  | some x =>
    let (_, c) := c.recordCancel src id
    let c := (c.bump (Reg.rmaCnt 10)).log { code := 0x0E04, refKind := 2, ref := src * 2 ^ 48, param1 := id }
    if x.kind = 0x20 then
      answerFuel 2 c src 0 (.nack { status := stBusy, droppedType := 0x20, msgId := id, msgOffset := 0, rsvd := 0 })
    else c

/-- FAB_PKT_CANCEL at the target (R352). -/
def rmaCancel (c : Chip) (h : FabHdr) (b : CancelBody) : Chip :=
  if c.rma.cancels.contains (h.src, b.cancelId) ∨ c.rma.cancels.length < 1024 then
    let (_, c) := c.recordCancel h.src b.cancelId
    c.reply .device h (.cancelAck { status := stOk, cancelId := b.cancelId, rsvd := 0 })
  else c.reply .device h (.cancelAck { status := stBusy, cancelId := b.cancelId, rsvd := 0 })

/-- RMA_CANCEL_HOLD (R352). -/
def cancelHold (c : Chip) (src id : Nat) : Chip :=
  { c with rma := { c.rma with cancels := dropWhere (fun x => x == (src, id)) c.rma.cancels } }

/-! Atomics (R347, R354). -/

/-- R354: `RMA_EPOCH`. -/
def Chip.rmaEpoch (c : Chip) : Nat := c.fld Reg.rmaEpoch 15 0

/-- R354: the entry of the replay table. -/
def Chip.replay? (c : Chip) (src seq : Nat) : Option ReplayEnt :=
  c.rma.replay.find? (fun e => e.req == src && e.seq == seq)

/-- R354: whether the table started empty less than RMA_REPLAY_HOLD ago (10 µs are 2,250 L-units). -/
def Chip.freshTable (c : Chip) : Bool := decide (c.time - c.rma.emptyAt < c.fld Reg.rmaTimers 39 32 * 2250)

/-- R354: whether a `SEQ` is at or below its requester's floor. -/
def Chip.belowFloor (c : Chip) (src seq : Nat) : Bool :=
  match c.rma.floors.find? (fun f => f.1 == src) with
  | some f => atOrBefore 32 seq f.2.1
  | none => false

/-- R354: an entry recorded. -/
def Chip.record (c : Chip) (e : ReplayEnt) : Chip := { c with rma := { c.rma with replay := c.rma.replay ++ [e] } }

/-- R347: what an atomic reads, and what it writes: (old low, old high, bytes written). -/
def atomicResult (op : Nat) (a0 a1 b0 b1 : W64) (old0 old1 : Nat) : W64 × W64 × List Byte :=
  if op = 0 then
    let v := old0 % 2 ^ 32
    (BitVec.ofNat 64 v, 0#64, leBytes ((v + a0.toNat) % 2 ^ 32) 4)
  else if op = 1 then (BitVec.ofNat 64 old0, 0#64, leBytes ((old0 + a0.toNat) % 2 ^ 64) 8)
  else if op = 2 then
    (BitVec.ofNat 64 old0, 0#64, leBytes (if old0 = a0.toNat then b0.toNat else old0) 8)
  else
    let same := old0 == a0.toNat && old1 == a1.toNat
    (BitVec.ofNat 64 old0, BitVec.ofNat 64 old1,
      if same then leBytes b0.toNat 8 ++ leBytes b1.toNat 8 else leBytes old0 8 ++ leBytes old1 8)

/-- R347: the bytes an atomic covers. -/
def atomicLen (op : Nat) : Nat := if op = 0 then 4 else if op = 3 then 16 else 8

/-- R353: FAB_PKT_ATOMIC_REPLY. -/
def Chip.atomicReply (c : Chip) (m : Member) (h : FabHdr) (seq status : Nat) (r0 r1 : W64) : Chip :=
  let b := fun (s : Nat) (x y : W64) => FabBody.atomicReply
    { status := s, tgtEpoch := c.rmaEpoch, seq := seq, r0 := x, r1 := y, rsvd := 0 }
  c.dataReply m h (b status r0 r1) (b stDenied 0#64 0#64)

/-- FAB_PKT_ATOMIC (R343, R348, R354). -/
def rmaAtomic (c : Chip) (h : FabHdr) (b : AtomicBody) (tierError : Bool) : Chip :=
  let m := c.regionMember b.region
  let n := atomicLen b.op
  let st := c.regionStatus h b.region b.offset n
  let no := fun (c : Chip) (s : Nat) => c.atomicReply m h b.seq s 0#64 0#64
  if st ≠ stOk then no c st
  else
    match c.replay? h.src b.seq with
    | some e => (c.bump (Reg.rmaCnt 4)).atomicReply m h b.seq e.status e.r0 e.r1
    | none =>
      if (b.tgtEpoch ≠ 0 ∧ b.tgtEpoch ≠ c.rmaEpoch) ∨ (0 < b.try_ ∧ c.freshTable) ∨ c.belowFloor h.src b.seq then
        no (c.bump (Reg.rmaCnt 6)) stReset
      else if 4096 ≤ c.rma.replay.length then no (c.bump (Reg.rmaCnt 5)) stBusy
      else if tierError || c.regionBad b.region b.offset n then no (c.tierBad b.region) stUncorrectable
      else
        let g := c.region b.region
        let bs := c.regionRead g b.offset n
        let (r0, r1, out) := atomicResult b.op b.a0 b.a1 b.b0 b.b1 (natOfLe (bs.take 8)) (natOfLe (bs.drop 8))
        let c := ((c.regionWrite g b.offset out).record
          { req := h.src, seq := b.seq, status := stOk, r0 := r0, r1 := r1, row := none }).served
        c.atomicReply m h b.seq stOk r0 r1

/-- R332: the constituents of a combined add applied in order: the word, the results, the new entries and
how many were answered from the table. -/
def combinedApply (c : Chip) (l : List (Nat × Nat × W64)) (v : W64) : W64 × List W64 × List ReplayEnt × Nat :=
  l.foldl (fun (a : W64 × List W64 × List ReplayEnt × Nat) e =>
    let (v, res, new, hits) := a
    match (c.rma.replay ++ new).find? (fun x => x.req == e.1 && x.seq == e.2.1) with
    | some x => (v, res ++ [x.r0], new, hits + 1)
    | none => (v + e.2.2, res ++ [v], new ++ [{ req := e.1, seq := e.2.1, status := stOk, r0 := v, r1 := 0#64, row := none }], hits))
    (v, [], [], 0)

/-- FAB_PKT_ATOMIC_COMBINED (R332, R354). -/
def rmaCombined (c : Chip) (h : FabHdr) (b : CombinedBody) (tierError : Bool) : Chip :=
  let m := c.regionMember b.region
  let answer := fun (c : Chip) (s : Nat) (l : List W64) =>
    c.reply m h (.atomicCombinedReply { status := s, results := l, rsvd := 0 })
  let st := c.regionStatus h b.region b.offset 8
  let new := b.entries.filter (fun e => (c.replay? e.1 e.2.1).isNone)
  if st ≠ stOk then answer c st []
  else if c.freshTable || new.any (fun e => c.belowFloor e.1 e.2.1) then answer c stBusy []
  else if 4096 < c.rma.replay.length + new.length then answer (c.bump (Reg.rmaCnt 5)) stBusy []
  else if tierError || c.regionBad b.region b.offset 8 then answer (c.tierBad b.region) stUncorrectable []
  else
    let g := c.region b.region
    let v : W64 := BitVec.ofNat 64 (natOfLe (c.regionRead g b.offset 8))
    let (v, res, ents, hits) := combinedApply c b.entries v
    let c := (ents.foldl (fun c e => c.record e) (c.regionWrite g b.offset (leBytes v.toNat 8))).served
    answer (c.bumpBy (Reg.rmaCnt 4) hits) stOk res

/-- RMA_REPLAY_HOLD (R354): the entry is freed and its requester's floor raised. -/
def replayHold (c : Chip) (req seq : Nat) : Chip :=
  match c.replay? req seq with
  | none => c
  | some _ =>
    let old := (c.rma.floors.find? (fun f => f.1 == req)).map (fun f => f.2.1)
    let keep := match old with
      | some f => atOrBefore 32 seq f
      | none => false
    let floors := if keep then c.rma.floors
      else dropWhere (fun f => f.1 == req) c.rma.floors ++ [(req, seq, c.time)]
    { c with rma := { c.rma with replay := dropWhere (fun e => e.req == req && e.seq == seq) c.rma.replay,
                                 floors := floors } }

/-- REPLAY_FLOOR_DISCARD (R354). -/
def floorDiscard (c : Chip) (req : Nat) : Chip :=
  { c with rma := { c.rma with floors := dropWhere (fun f => f.1 == req) c.rma.floors } }

/-! Replies that combining entries wait for (R330, R332). -/

/-- FAB_PKT_LOAD_REPLY (R330, R347). -/
def rmaLoadReply (c : Chip) (h : FabHdr) (b : LoadReplyBody) : List OpEnd × Chip :=
  match c.combineFor h.msgId false with
  | some e =>
    ([], e.parts.foldl (fun c q => c.replyPart q (.loadReply b)) (c.freeCombine e.id))
  | none => c.plainReply h.msgId .load b.status b.data

/-- FAB_PKT_ATOMIC_COMBINED_REPLY (R332): an ordinary reply for each constituent. -/
def rmaCombinedReply (c : Chip) (h : FabHdr) (b : CombinedReplyBody) : Chip :=
  match c.combineFor h.msgId true with
  | none => c.lateReply
  | some e =>
    ((e.parts.zipIdx).foldl (fun c q =>
      c.replyPart q.1 (.atomicReply { status := b.status, tgtEpoch := 0, seq := q.1.seq,
                                      r0 := b.results.getD q.2 0#64, r1 := 0#64, rsvd := 0 }))
      (c.freeCombine e.id))

/-- FAB_PKT_ATOMIC_REPLY at the requester (R353). -/
def rmaAtomicReply (c : Chip) (b : AtomicReplyBody) : List OpEnd × Chip :=
  c.seqReply .atomic b.seq b.status b.tgtEpoch (leBytes b.r0.toNat 8 ++ leBytes b.r1.toNat 8)

/-- FAB_PKT_RMA_REVOKE_DONE at the revoker (R356): it informs the fabric manager's software, and nothing
of the device changes. -/
def rmaRevokeDone (c : Chip) : Chip := c

end Sys2Proof.Machine
end

