-- ==== Sys2Proof/Machine/Embedding.lean ====
section
/-!
DEFINITION. The embedding station (R273 to R301): table versions, gathers and their pooling, scatter-adds, the hot-row sketch and
replicas, redirects, and migration of row ranges.
-/
namespace Sys2Proof.Machine

/-! Replicas (R290 to R292). -/

/-- R290, R297: EMB_EPOCH in L-units. -/
def Chip.embEpoch (c : Chip) : Nat := c.emb.epochMs * 225000

/-- R291: whether a partition allows stale reads. -/
def Chip.staleOk (c : Chip) (p : Nat) : Bool := c.bit (Reg.embPartCtrl p) 0

/-- A replica of a row. -/
def Chip.replica? (c : Chip) (t v row : Nat) : Option Replica :=
  c.emb.replicas.find? (fun r => r.table == t && r.version == v && r.row == row)

/-- R291: a replica with a value younger than an epoch. -/
def Chip.replicaOk (c : Chip) (r : Replica) : Bool := r.bytes.isSome && decide (c.time - r.issued < c.embEpoch)

/-- A replica stored in the place of the one of its row. -/
def Chip.setReplica (c : Chip) (r : Replica) : Chip :=
  c.onEmb (fun e =>
    let l := dropWhere (fun x => x.table == r.table && x.version == r.version && x.row == r.row) e.replicas ++ [r]
    { e with replicas := l })

/-- The bytes a replica takes in its store: its row's elements and scales, padded to 4 bytes. -/
def Chip.replicaBytes (c : Chip) (r : Replica) : Nat :=
  match c.ver r.table r.version with
  | some v => rowReplyBytes v.fmt v.width
  | none => 0

/-- The bytes in use in a partition's replica store. -/
def Chip.storeUsed (c : Chip) (p : Nat) : Nat :=
  sumN ((c.emb.replicas.filter (fun r => r.part == p)).map c.replicaBytes)

/-- R291: the replica of a partition whose last read is oldest, ties going to the lower row. -/
def Chip.oldestReplica (c : Chip) (p : Nat) : Option Replica :=
  (c.emb.replicas.filter (fun r => r.part == p)).foldl (fun (b : Option Replica) r => match b with
    | none => some r
    | some x => if r.last < x.last ∨ (r.last = x.last ∧ r.row < x.row) then some r else b) none

/-- R291, R298: replicas replaced until `size` more bytes fit the store. -/
def roomFor (p size : Nat) : Nat → Chip → Chip
  | 0, c => c
  | n + 1, c =>
    if c.storeUsed p + size ≤ c.fld (Reg.embPartCtrl p) 47 32 * 2 ^ 20 then c
    else match c.oldestReplica p with
      | none => c
      | some r => roomFor p size n (c.dropReplicas (fun x => x == r))

/-- R291: a hot row of another device gets a replica, filled by the read issued now. -/
def Chip.newReplica (c : Chip) (p : Nat) (v : TableVer) (row device region : Nat) : Chip :=
  if !c.staleOk p || device == c.deviceId || c.fld (Reg.embPartCtrl p) 47 32 == 0 || (c.replica? v.table v.version row).isSome then c
  else
    let c := roomFor p (rowReplyBytes v.fmt v.width) (c.emb.replicas.length + 1) c
    c.setReplica { table := v.table, version := v.version, row := row, part := p, device := device, region := region,
                   bytes := none, issued := c.time, asking := some c.time, last := c.time, used := false }

/-- R291: a row has arrived that a replica waits for. -/
def Chip.fillReplica (c : Chip) (t v row issued : Nat) (bs : List Byte) : Chip :=
  match c.replica? t v row with
  | some r =>
    match r.asking with
    | some a =>
      if a ≠ issued then c
      else
      let c := if r.bytes.isNone then c.bump (Reg.embCnt 3) else c
      c.setReplica { r with bytes := some bs, issued := a, asking := none, used := false }
    | none => c
  | none => c

/-- A read that was to fill a replica has failed. -/
def Chip.fillFailed (c : Chip) (t v row issued : Nat) : Chip :=
  match c.replica? t v row with
  | some r =>
    if r.asking ≠ some issued then c
    else if r.bytes.isNone then c.onEmb (fun e => { e with replicas := dropWhere (fun x => x == r) e.replicas })
    else c.setReplica { r with asking := none }
  | none => c

/-- R290: one row of the sketch counted; the sketch and the counter's value. -/
def sketchOne (l : List (Nat × Nat)) (k : Nat) : Nat × List (Nat × Nat) :=
  let n := min 65535 ((assocGet l k).getD 0 + 1)
  (n, assocPut l k n)

/-- R290: `count`: whether the row has just become hot. -/
def Chip.sketchCount (c : Chip) (t row : Nat) : Bool × Chip :=
  let (m, l) := (upTo 4).foldl (fun (a : Nat × List (Nat × Nat)) i =>
    let (n, l) := sketchOne a.2 (i * 16384 + sketchIdx i t row)
    (min a.1 n, l)) (65535, c.emb.sketch)
  (m == c.fld Reg.embCtrl 47 32, c.onEmb (fun e => { e with sketch := l }))

/-! Versions (R273 to R277, R299). -/

/-- R299: what EMB_TABLE_STATUS reads. -/
def Chip.embTableView (c : Chip) (t w : Nat) : W64 :=
  let (pv, ps) := c.prevVer t
  if w = 0 then wordOf [(63, 32, ((c.curVer t).map TableVer.version).getD 0), (31, 0, pv)]
  else
    let pend := c.emb.vers.any (fun v => v.table == t && v.state == VerState.pending)
    wordOf [(63, 62, ps), (61, 61, bitN pend), (31, 0, if ps = 0 then 0 else c.inFlight t pv)]

/-- R275, R276: whether a body breaks R275. -/
def Chip.embTableBad (c : Chip) (b : EmbTableBody) : Bool :=
  b.rsvd != 0 || decide (2 < b.action) || decide (64 ≤ b.table) ||
  (if b.action = 0 then
    b.rows == 0 || decide (2 ^ 40 < b.rows) || decide (b.width < 32) || decide (4096 < b.width) || b.width % 32 != 0 ||
    b.fmt == 0 || decide (4 < b.fmt) || decide (b.log2Shard < 10) || decide (30 < b.log2Shard) ||
    b.nShards != cdiv b.rows (2 ^ b.log2Shard) || b.map.length != b.nShards ||
    b.map.any (fun s => s.rsvd != 0 || s.offset % 64 != 0 || decide (4096 ≤ s.region)) ||
    b.version != wrapSuccSkip0 32 (((c.curVer b.table).map TableVer.version).getD 0)
  else b.rows != 0 || b.width != 0 || b.fmt != 0 || b.log2Shard != 0 || b.nShards != 0 || !b.map.isEmpty)

/-- R294: whether a migration of a table, or of one version of it, is held here. -/
def Chip.migHeld (c : Chip) (t : Nat) (ver : Option Nat) (running : Bool) : Bool :=
  let same := fun (x v : Nat) => x == t && (match ver with | some w => v == w | none => true)
  c.emb.out.any (fun r => same r.table r.version && (!running || decide (r.state ≤ 2))) ||
    c.emb.ins.any (fun r => same r.table r.version)

/-- R276: the status of an HL_MSG_EMB_TABLE. A version installed twice is refused as BUSY; a remove of a version that is not
installed as malformed (log entry 23). -/
def Chip.embTableStatus (c : Chip) (port : Nat) (b : EmbTableBody) : Nat :=
  let vs := c.emb.vers.filter (fun v => v.table == b.table)
  if !c.isOwner port then stPrivilege
  else if c.embTableBad b then stMalformed
  else if b.action = 0 then
    (if 3 ≤ vs.length ∨ c.migHeld b.table none true ∨ (c.ver b.table b.version).isSome then stBusy else stOk)
  else if b.action = 1 then (if vs.any (fun v => v.state == VerState.pending) then stOk else stMalformed)
  else
    match c.ver b.table b.version with
    | none => stMalformed
    | some v =>
      if v.state = .current ∨ (v.state = .retiring ∧ 0 < c.inFlight v.table v.version) then stBusy
      else if c.migHeld v.table (some v.version) false then stBusy
      else stOk

/-- HL_MSG_EMB_TABLE (R275, R276, R292). -/
def embTable (c : Chip) (port : Nat) (b : EmbTableBody) : Chip :=
  let st := c.embTableStatus port b
  if st ≠ stOk then c.ack port b.hostTag 0 st 0
  else if b.action = 0 then
    let v : TableVer :=
      { table := b.table, partMask := b.partMask, version := b.version, rows := b.rows, width := b.width, fmt := b.fmt,
        log2Shard := b.log2Shard, map := b.map, state := .pending, redirects := [], moved := [] }
    (c.onEmb (fun e => { e with vers := e.vers ++ [v] })).ack port b.hostTag 0 stOk 0
  else if b.action = 1 then
    let old := ((c.curVer b.table).map TableVer.version)
    let swap := fun (v : TableVer) =>
      if v.state = .current then { v with state := .retiring }
      else if v.state = .pending then { v with state := .current } else v
    let c := c.onEmb (fun e => { e with vers := updWhere (fun v => v.table == b.table) swap e.vers })
    let c := match old with
      | some o => c.setPrev b.table o 1
      | none => c
    let c := c.log { code := 0x1401, refKind := 3, ref := b.table, param1 := ((c.curVer b.table).map TableVer.version).getD 0 }
    c.retireTables.ack port b.hostTag 0 stOk 0
  else
    let c := c.dropReplicas (fun r => r.table == b.table && r.version == b.version)
    let c := c.onEmb (fun e => { e with vers := dropWhere (fun v => v.table == b.table && v.version == b.version) e.vers })
    let c := if c.prevVer b.table = (b.version, 2) then c.setPrev b.table b.version 3 else c
    c.ack port b.hostTag 0 stOk 0

/-! Resolving and asking for rows (R278, R282, R294, R296). -/

/-- The migration record of the old home that covers a row. -/
def Chip.migFor (c : Chip) (t v row : Nat) : Option MigOut :=
  c.emb.out.find? (fun r => r.table == t && r.version == v && covers r.first r.m row)

/-- R296: a redirect learned: the table keeps the 4,096 learned last, and replicas follow. -/
def Chip.learn (c : Chip) (t ver : Nat) (d : Redirect) : Chip :=
  match c.ver t ver with
  | none => c
  | some v =>
    let l := dropWhere (fun x => x.first == d.first && x.m == d.m) v.redirects
    let l := (if l.length < 4096 then l else l.drop 1) ++ [d]
    let moved := fun (r : Replica) => r.table == t && r.version == ver && covers d.first d.m r.row
    ((c.setVer { v with redirects := l }).onEmb (fun e =>
      { e with replicas := updWhere moved (fun r => { r with device := d.device, region := d.region }) e.replicas })).bump
        (Reg.embCnt 10)

/-- R278: the device and region a row resolves to. -/
def TableVer.resolve (v : TableVer) (row : Nat) : Nat × Nat :=
  match v.redirects.reverse.find? (fun d => covers d.first d.m row) with
  | some d => (d.device, d.region)
  | none => ((v.shard row).device, (v.shard row).region)

/-- R278, R294: a row resolved; this device learns of its own past migrations as any requester does. -/
def Chip.resolveRow (c : Chip) (t ver row : Nat) : (Nat × Nat) × Chip :=
  match c.ver t ver with
  | none => ((c.deviceId, 0), c)
  | some v =>
    let p := v.resolve row
    if p.1 ≠ c.deviceId then (p, c)
    else match c.migFor t ver row with
      | some r =>
        if r.state = 3 ∨ r.state = 4 then
          ((r.newDevice, r.newRegion),
            c.learn t ver { first := r.first, m := r.m, device := r.newDevice, region := r.newRegion, offset := r.newOffset })
        else (p, c)
      | none => (p, c)

/-- Rows grouped by where they are asked for, in the order of the first of each group. -/
def groupRows (l : List ((Nat × Nat) × Nat)) : List ((Nat × Nat) × List Nat) :=
  l.foldl (fun (a : List ((Nat × Nat) × List Nat)) x =>
    if a.any (fun g => g.1 == x.1) then updWhere (fun g => g.1 == x.1) (fun g => (g.1, g.2 ++ [x.2])) a
    else a ++ [(x.1, [x.2])]) []

/-- R256: the time a fetch still has. -/
def Chip.timeLeft (c : Chip) (deadline : Nat) : Nat := if deadline = 0 then 0xFFFFFFFF else min (deadline - c.time) 0xFFFFFFFE

/-- R282, R345: rows of other devices asked for; the first refusal. -/
def Chip.askRemote (c : Chip) (part : Nat) (owner : OpOwner) (v : TableVer) (deadline : Nat) (rows : List ((Nat × Nat) × Nat)) :
    Option Nat × Chip :=
  (groupRows rows).foldl (fun (a : Option Nat × Chip) g =>
    (chunksOf (max 1 (rowsPerRead v.fmt v.width)) (g.2.length + 1) g.2).foldl (fun (a : Option Nat × Chip) l =>
      let (st, gr) := a.2.findGrant g.1.1 g.1.2
      let b : FabBody := .embRead { table := v.table, version := v.version, deadline := a.2.timeLeft deadline, rows := l, rsvd := 0 }
      let (st, c) := if st ≠ stOk then (st, a.2.bump (Reg.rmaCnt 2))
        else a.2.issue gr part .embRead 0 0 0 b [] none (0, 0) owner
      (if st = stOk then a.1 else some (a.1.getD st), c)) a) (none, c)

/-- Rows asked for: those of this device are read at once. The rows read, the first failure, and the chip. -/
def Chip.askRows (c : Chip) (part : Nat) (owner : OpOwner) (v : TableVer) (deadline : Nat) (rows : List Nat) :
    List (Nat × List Byte) × Option Nat × Chip :=
  let (got, fail, far, c) := rows.foldl (fun (a : List (Nat × List Byte) × Option Nat × List ((Nat × Nat) × Nat) × Chip) row =>
    let (got, fail, far, c) := a
    let (p, c) := c.resolveRow v.table v.version row
    if p.1 = c.deviceId then
      let (st, c) := c.rowStatus v.table v.version row false
      match (if st = stOk then (c.ver v.table v.version).bind (fun v => c.homeOf v row) else none) with
      | some q => (got ++ [(row, c.readRow v q row)], fail, far, c.bump (Reg.embCnt 1))
      | none => (got, some (fail.getD st), far, c)
    else (got, fail, far ++ [(p, row)], c)) (([], none, [], c) : List (Nat × List Byte) × Option Nat × List ((Nat × Nat) × Nat) × Chip)
  match fail with
  | some _ => (got, fail, c)
  | none =>
    let (fail, c) := c.askRemote part owner v deadline far
    (got, fail, c)

/-! Gathers (R279 to R284, R288). -/

/-- A gather in progress. -/
def Chip.gather? (c : Chip) (id : Nat) : Option Gather := c.emb.gathers.find? (fun g => g.id == id)

/-- A gather replaced. -/
def Chip.setGather (c : Chip) (g : Gather) : Chip :=
  c.onEmb (fun e => { e with gathers := updWhere (fun x => x.id == g.id) (fun _ => g) e.gathers })

/-- R281, R289: a vector of zeros. -/
def zeroVector (b : BagIn) (width : Nat) : List Byte := (embEncode b.outFmt (List.replicate width f32Zero)).1

/-- R281: the current bag of a gather is answered. -/
def Chip.endBag (c : Chip) (g : Gather) (status flags : Nat) (vec : List Byte) : Chip :=
  c.setGather { g with bags := g.bags.drop 1, asked := false, rows := [], fail := none, stale := false, late := false,
                       done := g.done ++ [(status, flags, vec)] }

/-- The number of the current bag in its message. -/
def Gather.bagNo (g : Gather) : Nat := g.done.length

/-- R282, R290, R291: the distinct rows of a bag looked up: replicas first, then the homes. -/
def Chip.askBag (c : Chip) (g : Gather) (v : TableVer) (b : BagIn) : Chip :=
  let (got, need, c) := b.idx.eraseDups.foldl (fun (a : List (Nat × List Byte) × List Nat × Chip) row =>
    let (got, need, c) := a
    let (hot, c) := c.sketchCount v.table row
    match (if c.staleOk g.part then (c.replica? v.table v.version row).bind (fun r =>
        if c.replicaOk r then some r else none) else none) with
    | some r =>
      (got ++ [(row, r.bytes.getD [])], need, (c.setReplica { r with last := c.time, used := true }).bump (Reg.embCnt 2))
    | none =>
      let (p, c) := c.resolveRow v.table v.version row
      (got, need ++ [row], if hot then c.newReplica g.part v row p.1 p.2 else c)) (([], [], c) : List (Nat × List Byte) × List Nat × Chip)
  let (more, fail, c) := c.askRows g.part (.gather (g.id * 256 + g.bagNo)) v g.deadline need
  c.setGather { g with asked := true, rows := got ++ more, fail := fail }

/-- R279: the tiles of a band of bags of a VECTOR join: one row for each bag, in the output stream's format. -/
def JoinCtx.bagTiles (x : JoinCtx) (band : Nat) (rows : List (List W32)) : List Tile :=
  let d := x.outD
  let fmt := x.bandFmt d band
  let outs := (upTo d.count).map (fun i =>
    let part := rows.map (fun r => (r.drop (128 * i)).take 128)
    let (bytes, an, cnt) := f32Tile fmt (part.map (fun r => r ++ List.replicate (128 - r.length) f32Zero))
    ((⟨x.tag d.id fmt .data band i rows.length i 0 (arithFlags cnt), bytes⟩ : Tile), an))
  let an := match outs.map Prod.snd with
    | [] => List.replicate 128 none
    | a :: as => as.foldl anchorMax a
  x.dress band rows.length an (outs.map Prod.fst)

/-- R279, R289: every bag of a band of a step's join is pooled: its tiles stand in the join; a bag without its rows ends the
stream and the requests of the step with its status. -/
def Chip.bagsDone (c : Chip) (g : Gather) (b : BagJoin) : Chip :=
  match (c.step? b.part b.seq).bind (fun t => (c.passPlan t).bind (fun pl =>
      (pl.allJ.find? (fun j => j.id == b.join)).map (fun j => c.joinAt t pl t.passPlan.2 j b.layer))) with
  | none => c
  | some x =>
    match (g.done.map Prod.fst).find? (fun st => st != stOk) with
    | some st =>
      let i := x.t.stream x.pl x.outD x.layer
      let t := x.t.setJoin { x.ji with done := x.ji.done ++ [b.band] }
      (if i.closed then c.setStep t else (c.setStep t).endStream t i st).endSegs t st
    | none =>
      let rows := g.done.map (fun d => (upTo (d.2.2.length / 4)).map (fun i =>
        (BitVec.ofNat 32 (natOfLe ((d.2.2.drop (4 * i)).take 4)) : W32)))
      let ts := x.bagTiles b.band rows
      c.setStep (x.t.setJoin { x.ji with made := x.ji.made ++ ts, done := x.ji.done ++ [b.band] })

/-- R281: the answer to a gather, or the tiles that its join makes. -/
def Chip.endGather (c : Chip) (g : Gather) : Chip :=
  let c := c.onEmb (fun e => { e with gathers := dropWhere (fun x => x.id == g.id) e.gathers })
  match g.join with
  | none => (c.hlSend g.port 2 (.embResult g.hostTag g.version g.done)).retireTables
  | some b => c.retireTables.bagsDone g b

/-- R282, R78: the EM channels of a partition. -/
def Chip.emChannels (c : Chip) (p : Nat) : Nat := max 1 (((c.decl p).map PartDecl.emCount).getD 0)

/-- Gathers of a partition go on: a channel takes the next message, its next bag, or ends. -/
def runGathers (p : Nat) : Nat → Chip → Chip
  | 0, c => c
  | n + 1, c =>
    let mine := c.emb.gathers.filter (fun g => g.part == p)
    let on := mine.filter Gather.started
    match on.find? (fun g => g.bags.isEmpty || !g.asked || g.fail.isSome) with
    | some g =>
      runGathers p n (match g.bags, c.ver g.table g.version with
        | [], _ => c.endGather g
        | b :: _, some v =>
          if g.fail.isSome then c.endBag g (g.fail.getD 0) 0 (zeroVector b v.width)
          else if b.idx.any (fun i => decide (v.rows ≤ i)) then c.endBag g stMalformed 0 (zeroVector b v.width)
          else c.askBag g v b
        | _ :: _, none => c.endBag g stTableRetired 0 [])
    | none =>
      match mine.find? (fun g => !g.started) with
      | some g => if on.length < c.emChannels p then runGathers p n (c.setGather { g with started := true }) else c
      | none => c

/-- Gathers of a partition go on as far as they can. -/
def Chip.driveGathers (c : Chip) (p : Nat) : Chip :=
  runGathers p (3 * sumN (c.emb.gathers.map (fun g => g.bags.length + 1)) + 3) c

/-- Whether a binary32 value is finite. -/
def f32Finite (w : W32) : Bool := match f32Val w with
  | .fin _ => true
  | _ => false

/-- R279, R280: whether a bag breaks its layout. -/
def bagBad (b : BagIn) : Bool :=
  b.rsvd != 0 || decide (1 < b.pool) || b.outFmt == 0 || decide (5 < b.outFmt) || decide (4096 < b.idx.length) ||
    b.idx.any (fun i => decide (2 ^ 40 ≤ i)) || b.weights.length != (if b.weighted then b.idx.length else 0)

/-- R280: the status of a gather, and of an update with its finite flag. -/
def Chip.lookupStatus (c : Chip) (port part table : Nat) (bad finite : Bool) : Nat :=
  if bad then stMalformed
  else if !c.hasAccess port part then stDenied
  else
    match c.curVer table with
    | none => stTableRetired
    | some v =>
      if !v.partMask.testBit part then stDenied
      else if !finite then stMalformed
      else c.partRefusal part

/-- HL_MSG_EMB_GATHER (R279, R280, R282). -/
def embGather (c : Chip) (port : Nat) (b : GatherBody) : Chip :=
  let bad := b.rsvd != 0 || decide (16 ≤ b.part) || decide (64 ≤ b.table) || b.bags.isEmpty || decide (256 < b.bags.length) ||
    b.bags.any bagBad
  let st := c.lookupStatus port b.part b.table bad (b.bags.all (fun x => x.weights.all f32Finite))
  match (if st = stOk then c.curVer b.table else none) with
  | none => c.ack port b.hostTag 0 st 0
  | some v =>
    let id := c.emb.gatherId + 1
    let g : Gather :=
      { id := id, port := port, hostTag := b.hostTag, part := b.part, table := b.table, version := v.version,
        deadline := if b.deadlineUs = 0 then 0 else c.time + b.deadlineUs * 225, bags := b.bags, started := false, asked := false,
        rows := [], fail := none, stale := false, late := false, done := [], join := none }
    (c.onEmb (fun e => { e with gatherId := id, gathers := e.gathers ++ [g] })).driveGathers b.part

/-- R279: a bag record, and the bytes it takes. -/
def bagRecord (l : List Byte) : BagIn × Nat :=
  let le := fun (o n : Nat) => natOfLe ((l.drop o).take n)
  let n := le 0 2
  let fl := le 2 1
  let w := fl.testBit 2
  let idx := (upTo n).map (fun i => le (8 + 8 * i) 8)
  let ws := if w then (upTo n).map (fun i => (BitVec.ofNat 32 (le (8 + 8 * n + 4 * i) 4) : W32)) else []
  ({ pool := fl % 4, weighted := w, outFmt := le 3 1, idx := idx, weights := ws, rsvd := fl / 8 ||| le 4 4 },
    8 + 8 * n + (if w then roundUp (4 * n) 8 else 0))

/-- R279: the bag records of a band, `n` of them. -/
def bagRecords : Nat → List Byte → List BagIn
  | 0, _ => []
  | n + 1, l =>
    let b := bagRecord l
    b.1 :: bagRecords n (l.drop b.2)

/-- R279, R280, R282: an EM role's VECTOR join has a band of bag records: it waits for a channel as a host's message
does. Its table is the one the routine reads (`Config.bagTable`), its deadline that of the output stream (R288). -/
def Chip.startBags (c : Chip) (x : JoinCtx) (band : Nat) : Chip :=
  let meas := ((c.model x.t.part x.draft).map imgMeasurement).getD 0
  let table := Config.bagTable meas x.pl.id x.j.id % 64
  let bags := bagRecords (x.rowsOf band 0) (((x.data 0 band).map Tile.bytes).flatten)
  let v := c.curVer table
  let fail := if bags.any bagBad || !bags.all (fun b => b.weights.all f32Finite) then some stMalformed
    else match v with
      | some v => if v.partMask.testBit x.t.part then none else some stDenied
      | none => some stTableRetired
  let id := c.emb.gatherId + 1
  let g : Gather :=
    { id := id, port := 0, hostTag := 0, part := x.t.part, table := table, version := (v.map TableVer.version).getD 0,
      deadline := if x.outD.deadline = 0 then 0 else x.t.launch + x.outD.deadline, bags := bags, started := false, asked := false,
      rows := [], fail := fail, stale := false, late := false, done := [],
      join := some ⟨x.t.part, x.t.seq, x.j.id, x.layer, band⟩ }
  c.onEmb (fun e => { e with gatherId := id, gathers := e.gathers ++ [g] })

/-- R279: whether a band of a join has a gather in progress. -/
def JoinCtx.gathering (x : JoinCtx) (band : Nat) : Bool :=
  x.c.emb.gathers.any (fun g => g.join == some ⟨x.t.part, x.t.seq, x.j.id, x.layer, band⟩)

/-- The distinct rows of a bag that are still outstanding. -/
def Gather.missing (g : Gather) (b : BagIn) : List Nat := b.idx.eraseDups.filter (fun i => !g.rows.any (fun r => r.1 == i))

/-- BAG_POOLED (R283, R284). -/
def bagPooled (c : Chip) (id : Nat) : Chip :=
  match c.gather? id with
  | none => c
  | some g =>
    match g.bags, c.ver g.table g.version with
    | b :: _, some v =>
      if !g.started || !g.asked || g.fail.isSome || !(g.missing b).isEmpty then c
      else
        let rows := b.idx.map (fun i => ((g.rows.find? (fun r => r.1 == i)).map Prod.snd).getD [])
        let (cols, special) := if b.idx.isEmpty then (List.replicate v.width f32Zero, 0)
          else poolBag v.fmt v.width (b.pool == 1) (if b.weighted then some b.weights else none) rows
        let c := c.bump (Reg.embCnt 0)
        let c := if b.idx.isEmpty then c.bump (Reg.embCnt 11) else c
        let c := c.bumpBy (Reg.embCnt 12) special
        let flags := bitN b.idx.isEmpty + 2 * bitN g.stale + 4 * bitN (special != 0)
        let vec := if g.join.isSome then (cols.map (fun w => leBytes w.toNat 4)).flatten else (embEncode b.outFmt cols).1
        (c.endBag g stOk flags vec).driveGathers g.part
    | _, _ => c

/-- GATHER_DEADLINE (R288). -/
def gatherDeadline (c : Chip) (id stall : Nat) : Chip :=
  match c.gather? id with
  | none => c
  | some g =>
    match g.bags with
    | [] => c
    | b :: _ =>
      let miss := g.missing b
      if !g.started || !g.asked || g.fail.isSome || g.late || g.deadline == 0 || miss.isEmpty then c
      else
        let (got, c) := miss.foldl (fun (a : List (Nat × List Byte) × Chip) row =>
          match (if a.2.staleOk g.part then (a.2.replica? g.table g.version row).bind (fun r =>
              if a.2.replicaOk r then some r else none) else none) with
          | some r =>
            (a.1 ++ [(row, r.bytes.getD [])], (a.2.setReplica { r with last := a.2.time, used := true }).bump (Reg.embCnt 5))
          | none => a) ([], c)
        let g := { g with rows := g.rows ++ got, stale := g.stale || !got.isEmpty, late := true }
        let c := c.setGather g
        if (g.missing b).isEmpty then c
        else (c.bumpBy (Reg.embCnt 6) (if g.join.isNone then stall else 0)).log { code := 0x0801, refKind := 3, ref := g.table, part := g.part }

/-- R282, R289: rows of a gather's bag have arrived, or their read has failed. -/
def Chip.bagRows (c : Chip) (tag : Nat) (rows : List (Nat × List Byte)) (status : Nat) : Chip :=
  match c.gather? (tag / 256) with
  | none => c
  | some g =>
    if g.bagNo ≠ tag % 256 ∨ !g.asked then c
    else
      match g.bags with
      | [] => c
      | b :: _ =>
        let miss := g.missing b
        if status = stOk then
          let new := rows.filter (fun r => miss.contains r.1)
          c.setGather { g with rows := g.rows ++ new }
        else if rows.any (fun r => miss.contains r.1) then (c.setGather { g with fail := some status }).driveGathers g.part
        else c

/-! Replica refreshes and the epoch (R290, R291, R298). -/

/-- REPLICA_REFRESH (R291). -/
def replicaRefresh (c : Chip) (t v row : Nat) : Chip :=
  match c.replica? t v row, c.ver t v with
  | some r, some tv =>
    if r.bytes.isNone || r.asking.isSome then c
    else if !r.used then c.dropReplicas (fun x => x == r)
    else
      let r := { r with asking := some c.time }
      let (got, fail, c) := (c.setReplica r).askRows r.part (.refresh t v row) tv 0 [row]
      match got, fail with
      | x :: _, _ => c.fillReplica t v row c.time x.2
      | [], some _ => c.fillFailed t v row c.time
      | [], none => c
  | _, _ => c

/-- REPLICA_EXPIRY (R291). -/
def replicaExpiry (c : Chip) (t v row : Nat) : Chip :=
  match c.replica? t v row with
  | some r =>
    (c.onEmb (fun e => { e with replicas := dropWhere (fun x => x == r) e.replicas })).bump (Reg.embCnt 4)
  | none => c

/-- REPLICA_STORE_WRITE (R298): a write of EMB_PART_CTRL. -/
def replicaStore (c : Chip) (p : Nat) (v : W64) : Chip :=
  let off := Reg.embPartCtrl p
  let c := c.setReg off (rwWrite embPartFields (some 63) (c.reg off) v)
  roomFor p 0 (c.emb.replicas.length + 1) c

/-! Scatter-adds (R285, R286, R289, R294). -/

/-- R294: a row applied while its range is copied and already written is dirty. -/
def Chip.markDirty (c : Chip) (t v row : Nat) : Chip :=
  let hit := fun (r : MigOut) => r.table == t && r.version == v && covers r.first r.m row && r.state == 1 && r.written &&
    !r.dirty.contains row
  c.onEmb (fun e => { e with out := updWhere hit (fun r => { r with dirty := r.dirty ++ [row] }) e.out })

/-- FAB_PKT_EMB_SCATTER_ACK to the requester. -/
def Chip.scatterAck (c : Chip) (h : FabHdr) (seq status : Nat) : Chip :=
  c.reply .device h (.embScatterAck { status := status, seq := seq, rsvd := 0 })

/-- R286, R354: a scatter-add handled by its home. -/
def Chip.homeScatter (c : Chip) (h : FabHdr) (b : EmbScatterBody) (tierError : Bool) : Chip :=
  match c.replay? h.src b.seq with
  | some e => (c.bump (Reg.rmaCnt 4)).scatterAck h b.seq e.status
  | none =>
    if c.freshTable || c.belowFloor h.src b.seq then (c.bump (Reg.rmaCnt 6)).scatterAck h b.seq stReset
    else if 4096 ≤ c.rma.replay.length then (c.bump (Reg.rmaCnt 5)).scatterAck h b.seq stBusy
    else
      let (st, c) := c.rowStatus b.table b.version b.row tierError
      match (if st = stOk then c.ver b.table b.version else none) with
      | none => c.scatterAck h b.seq st
      | some v =>
        let c := (c.applyScatter v b.row b.delta).markDirty b.table b.version b.row
        ((c.record { req := h.src, seq := b.seq, status := stOk, r0 := 0#64, r1 := 0#64,
                     row := some (b.table, b.version, b.row) }).served).scatterAck h b.seq stOk

/-- R294: a request forwarded to the new home under its own number and source; an encrypted one is encrypted anew (log entry 22). -/
def Chip.forwardTo (c : Chip) (r : MigOut) (k : FabPkt) : Chip :=
  let enc := if k.hdr.enc then some (k.hdr.encPart, k.hdr.encEpoch) else none
  let bs := match k.body with
    | .embScatter b => (scatterPkts (if k.hdr.enc then 4064 else 4096) b).map FabBody.embScatter
    | b => [b]
  (c.bump (Reg.embCnt 8)).sendPkts .device { k.hdr with dst := r.newDevice, enc := false, wire := [] } enc bs

/-- R294: FAB_PKT_EMB_REDIRECT. -/
def Chip.redirect (c : Chip) (r : MigOut) (h : FabHdr) (status : Nat) : Chip :=
  let c := if status = stStaleMap then c.bump (Reg.embCnt 9) else c
  c.reply .device h (.embRedirect
    { status := status, table := r.table, log2Rows := r.m, version := r.version, firstRow := r.first, newDevice := r.newDevice,
      newRegion := r.newRegion, newOffset := r.newOffset, rsvd := 0 })

/-- A whole scatter-add at its home (R286, R289, R294). -/
def Chip.scatterArrives (c : Chip) (h : FabHdr) (b : EmbScatterBody) (tierError : Bool) : Chip :=
  let k : FabPkt := ⟨h, .embScatter b⟩
  if !c.domUp 6 then c.scatterAck h b.seq stOffline
  else
    match c.ver b.table b.version with
    | none => c.scatterAck h b.seq stTableRetired
    | some v =>
      if b.delta.length ≠ v.width then c.nackPkt k stMalformed
      else
        match c.migFor b.table b.version b.row with
        | some r =>
          if r.state = 2 then
            c.onEmb (fun e => { e with out := updWhere (fun x => x.id == r.id) (fun x => { x with queue := x.queue ++ [.pkt k] }) e.out })
          else if r.state = 3 then (c.forwardTo r k).redirect r h stOk
          else if r.state = 4 then c.redirect r h stStaleMap
          else c.homeScatter h b tierError
        | none => c.homeScatter h b tierError

/-- FAB_PKT_EMB_SCATTER (R286, R357, R358; log entry 35): a packet joins its message, and the message acts when it is whole. -/
def embScatter (c : Chip) (h : FabHdr) (b : EmbScatterBody) (tierError : Bool) : Chip :=
  let k : FabPkt := ⟨h, .embScatter b⟩
  if h.payLen = h.totalLen then c.scatterArrives h b tierError
  else
    match c.reassemble h (h.msgOffset / 4096) 0 (4 * b.delta.length) stOk (scatterBytes b) with
    | .duplicate => c.bump (Reg.rmaCnt 9)
    | .noRoom => c.nackPkt k stBusy
    | .more x => c.setCtx x
    | .whole x => (c.dropCtx h.src h.msgId).scatterArrives h (scatterOf (ctxBody x)) tierError

/-- R285: a row of an update has ended; the last one answers the host. -/
def Chip.rowDone (c : Chip) (tag status : Nat) : Chip :=
  match c.emb.updates.find? (fun u => u.id == tag / 256) with
  | none => c
  | some u =>
    let u := { u with statuses := u.statuses.set (tag % 256) (some status) }
    if u.statuses.all Option.isSome then
      let sts := u.statuses.filterMap id
      let c := c.onEmb (fun e => { e with updates := dropWhere (fun x => x.id == u.id) e.updates })
      (c.ack u.port u.hostTag 0 ((sts.find? (fun s => s != stOk)).getD stOk) (sts.filter (fun s => s == stOk)).length).retireTables
    else c.onEmb (fun e => { e with updates := updWhere (fun x => x.id == u.id) (fun _ => u) e.updates })

/-- R285: one row of an update issued, applied here, or refused. -/
def Chip.ownScatter (c : Chip) (tag part t ver row : Nat) (delta : List W32) : Chip :=
  let (p, c) := c.resolveRow t ver row
  if p.1 = c.deviceId then
    match c.migFor t ver row with
    | some r =>
      if r.state = 2 then
        c.onEmb (fun e => { e with out := updWhere (fun x => x.id == r.id) (fun x => { x with queue := x.queue ++ [.own tag part row delta] }) e.out })
      else
        let (st, c) := c.rowStatus t ver row false
        match (if st = stOk then c.ver t ver else none) with
        | some v => ((c.applyScatter v row delta).markDirty t ver row).rowDone tag stOk
        | none => c.rowDone tag st
    | none =>
      let (st, c) := c.rowStatus t ver row false
      match (if st = stOk then c.ver t ver else none) with
      | some v => (c.applyScatter v row delta).rowDone tag stOk
      | none => c.rowDone tag st
  else
    let (st, g) := c.findGrant p.1 p.2
    if st ≠ stOk then (c.bump (Reg.rmaCnt 2)).rowDone tag st
    else
      let b : FabBody := .embScatter { table := t, version := ver, seq := 0, row := row, head := true, delta := delta, rsvd := 0 }
      let (st, c) := c.issue g part .scatter 0 0 0 b [] none (0, 0) (.update tag)
      if st = stOk then c else c.rowDone tag st

/-- HL_MSG_EMB_UPDATE (R285). -/
def embUpdate (c : Chip) (port : Nat) (b : UpdateBody) : Chip :=
  let w := ((c.curVer b.table).map TableVer.width).getD 0
  let bad := b.rsvd != 0 || decide (16 ≤ b.part) || decide (64 ≤ b.table) || b.rows.isEmpty || decide (256 < b.rows.length) ||
    b.rows.any (fun r => decide (2 ^ 40 ≤ r.1)) ||
    ((c.curVer b.table).isSome && b.rows.any (fun r => r.2.length != w))
  let st := c.lookupStatus port b.part b.table bad (b.rows.all (fun r => r.2.all f32Finite))
  match (if st = stOk then c.curVer b.table else none) with
  | none => c.ack port b.hostTag 0 st 0
  | some v =>
    let id := c.emb.updateId + 1
    let u : Update := { id := id, port := port, hostTag := b.hostTag, table := b.table, version := v.version,
                        statuses := b.rows.map (fun _ => none) }
    let c := c.onEmb (fun e => { e with updateId := id, updates := e.updates ++ [u] })
    (b.rows.zipIdx).foldl (fun c r =>
      let c := c.dropReplicas (fun x => x.table == v.table && x.version == v.version && x.row == r.1.1)
      if v.rows ≤ r.1.1 then c.rowDone (id * 256 + r.2) stMalformed
      else c.ownScatter (id * 256 + r.2) b.part v.table v.version r.1.1 r.1.2) c

/-- FAB_PKT_EMB_SCATTER_ACK at the requester (R285, R353): matched by `SEQ`, since a new home may answer. -/
def embScatterAck (c : Chip) (b : EmbScatterAckBody) : List OpEnd × Chip :=
  match c.rma.ops.find? (fun o => o.kind == .scatter && o.seq == b.seq) with
  | none => ([], c.lateReply)
  | some o =>
    let st := statusOf b.status
    if st = stBusy then c.opBusy o
    else if st = stReset then c.opReset o 0
    else c.endOp o st []

/-! Reads at the home and their replies (R282, R287, R289, R294). -/

/-- FAB_PKT_EMB_READ (R289, R294). A packet whose rows are not all in one FORWARDING range is sent back to be resolved again
(log entry 24), and a read is served as it arrives (log entry 102). -/
def embRead (c : Chip) (h : FabHdr) (b : EmbReadBody) (tierError : Bool) : Chip :=
  let k : FabPkt := ⟨h, .embRead b⟩
  let answer := fun (c : Chip) (st : Nat) (rows : List (List Byte)) =>
    let body := fun (st : Nat) (rows : List (List Byte)) => FabBody.embRows { status := st, version := b.version, rows := rows, rsvd := 0 }
    c.dataReply .device h (body st rows) (body stDenied [])
  if !c.domUp 6 then answer c stOffline []
  else
    match c.ver b.table b.version with
    | none => answer c stTableRetired []
    | some v =>
      if b.rows.isEmpty || decide (rowsPerRead v.fmt v.width < b.rows.length) then c.nackPkt k stMalformed
      else
        let recs := (b.rows.map (fun row => c.migFor b.table b.version row)).map (fun r => r.bind (fun r =>
          if r.state = 3 ∨ r.state = 4 then some r else none))
        match recs.filterMap id with
        | [] =>
          let (st, rows, c) := b.rows.foldl (fun (a : Nat × List (List Byte) × Chip) row =>
            if a.1 ≠ stOk then a
            else
              let (st, c) := a.2.2.rowStatus b.table b.version row tierError
              match (if st = stOk then c.homeOf v row else none) with
              | some p =>
                let bs := c.readRow v p row
                (stOk, a.2.1 ++ [bs ++ List.replicate (rowReplyBytes v.fmt v.width - bs.length) 0#8], c)
              | none => (st, [], c)) (stOk, [], c)
          answer c st rows
        | r :: _ =>
          if r.state = 3 && recs.all (fun x => x == some r) then (c.forwardTo r k).redirect r h stOk
          else c.redirect r h stStaleMap

/-- FAB_PKT_EMB_ROWS at the requester (R282). -/
def embRows (c : Chip) (h : FabHdr) (b : EmbRowsBody) : List OpEnd × Chip :=
  match c.op? h.msgId with
  | some o =>
    match o.body with
    | .embRead q =>
      let st := statusOf b.status
      if st ≠ stOk then c.endOp o st []
      else
        let n := ((c.ver q.table q.version).map (fun v => rowReplyBytes v.fmt v.width)).getD 0
        if b.rows.length = q.rows.length ∧ b.rows.all (fun r => r.length == n) then c.endOp o stOk (b.rows.flatten)
        else ([], c.nackPkt ⟨h, .embRows b⟩ stMalformed)
    | _ => ([], c.lateReply)
  | none => ([], c.lateReply)

/-- R282, R291: a read of rows has ended. -/
def Chip.readEnded (c : Chip) (o : PendOp) (q : EmbReadBody) (status : Nat) (data : List Byte) : Chip :=
  let v := c.ver q.table q.version
  let size := (v.map (fun v => rowReplyBytes v.fmt v.width)).getD 1
  let len := (v.map (fun v => rowElemBytes v.fmt v.width + rowScaleBytes v.fmt v.width)).getD 0
  let rows := (q.rows.zipIdx).map (fun r => (r.1, ((data.drop (r.2 * size)).take len)))
  let c := rows.foldl (fun c r =>
    if status = stOk then (c.fillReplica q.table q.version r.1 o.issued r.2).bump (Reg.embCnt 1)
    else c.fillFailed q.table q.version r.1 o.issued) c
  match o.owner with
  | .gather tag => c.bagRows tag rows status
  | _ => c

/-! Redirects (R296). -/

/-- R296: a scatter-add sent again to the new home under its `SEQ`. -/
def Chip.retarget (c : Chip) (o : PendOp) (device region : Nat) : List OpEnd × Chip :=
  let (st, g) := c.findGrant device region
  if st ≠ stOk then (c.bump (Reg.rmaCnt 2)).endOp o st []
  else
    let st := c.grantStatus g o.part o.kind
    if st ≠ stOk then (c.bump (Reg.rmaCnt 2)).endOp o st []
    else
      let c := (c.dropOp o.msgId).settle o.grant false
      let (id, c) := c.nextMsgId
      let w := c.grant g
      let o := { o with msgId := id, target := device, region := region, grant := g, hold := false,
                        enc := if bitOf w 58 then some (o.part, fieldOf w 57 50) else none }
      let c := { c with rma := { c.rma with ops := c.rma.ops ++ [o] } }
      let c := if o.kind = .scatter then c.bump (Reg.rmaCnt 3) else c
      ([], (c.setFld (Reg.rmaGrant g 1) 63 32 (c.fld (Reg.rmaGrant g 1) 63 32 + 1)).sendOp o)

/-- FAB_PKT_EMB_REDIRECT (R296). -/
def embRedirect (c : Chip) (h : FabHdr) (b : EmbRedirectBody) : List OpEnd × Chip :=
  let c := c.learn b.table b.version { first := b.firstRow, m := b.log2Rows, device := b.newDevice, region := b.newRegion, offset := b.newOffset }
  if statusOf b.status ≠ stStaleMap then ([], c)
  else
    match c.op? h.msgId with
    | none => ([], c)
    | some o =>
      match o.body, o.kind with
      | .embRead q, .embRead =>
        let c := (c.dropOp o.msgId).settle o.grant false
        match c.ver q.table q.version with
        | none => ([], c)
        | some v =>
          let c := c.onEmb (fun e => { e with replicas := updWhere (fun r => r.table == q.table && r.version == q.version &&
            q.rows.contains r.row && r.asking == some o.issued) (fun r => { r with asking := some c.time }) e.replicas })
          let dl := match o.owner with
            | .gather tag => ((c.gather? (tag / 256)).map Gather.deadline).getD 0
            | _ => 0
          let (got, fail, c) := c.askRows o.part o.owner v dl q.rows
          let c := got.foldl (fun c r => match o.owner with
            | .gather tag => (c.fillReplica q.table q.version r.1 c.time r.2).bagRows tag [r] stOk
            | _ => c.fillReplica q.table q.version r.1 c.time r.2) c
          match fail with
          | some st => ([⟨o, st, []⟩], c)
          | none => ([], c)
      | _, .scatter => c.retarget o b.newDevice b.newRegion
      | _, _ => ([], c)

/-! Migration at the old home (R293, R294, R300). -/

/-- R300: EMB_MIGRATE_STATUS, which reports the latest migration only. -/
def Chip.migStatus (c : Chip) (r : MigOut) (state abort dirty : Nat) : Chip :=
  if r.id = c.emb.lastMig then
    c.setReg Reg.embMigrateStatus (wordOf [(63, 61, state), (60, 55, r.table), (47, 32, abort), (31, 0, dirty)])
  else c

/-- A migration record of the old home. -/
def Chip.migOut? (c : Chip) (id : Nat) : Option MigOut := c.emb.out.find? (fun r => r.id == id)

/-- A migration record of the old home replaced. -/
def Chip.setMigOut (c : Chip) (r : MigOut) : Chip :=
  c.onEmb (fun e => { e with out := updWhere (fun x => x.id == r.id) (fun _ => r) e.out })

/-- R293: whether every row of a range is homed here. -/
def Chip.wholeHome (c : Chip) (v : TableVer) (first m : Nat) : Bool :=
  let cuts := (v.moved.map (fun e => [e.first, e.first + 2 ^ e.m])).flatten.filter (fun x => covers first m x)
  (first :: cuts).all (fun x => decide (v.rows ≤ x) || (c.homeOf v x).isSome)

/-- R293: the status of HL_MSG_EMB_MIGRATE; ST_OK starts, or clears. -/
def Chip.migrateStatus (c : Chip) (port : Nat) (b : MigrateBody) : Nat :=
  let s := ((c.ver b.table b.version).map TableVer.log2Shard).getD 30
  if !c.isOwner port then stPrivilege
  else if b.rsvd ≠ 0 ∨ 1 < b.action ∨ 64 ≤ b.table ∨ s < b.log2Rows ∨ b.firstRow % 2 ^ b.log2Rows ≠ 0 ∨ b.newOffset % 64 ≠ 0 ∨
      4096 ≤ b.newRegion then stMalformed
  else if b.action = 1 then
    (if c.emb.out.any (fun r => r.table == b.table && r.version == b.version && r.first == b.firstRow && r.m == b.log2Rows &&
        r.state == 4) then stOk else stBusy)
  else if c.emb.out.any (fun r => decide (r.state ≤ 2)) ∨ 4096 ≤ c.emb.out.length then stBusy
  else
    match c.ver b.table b.version with
    | none => stUnsupported
    | some v =>
      let overlap := fun (d : Redirect) => (covers d.first d.m b.firstRow || covers b.firstRow b.log2Rows d.first) &&
        !(d.first == b.firstRow && d.m == b.log2Rows)
      if v.rows ≤ b.firstRow ∨ !c.wholeHome v b.firstRow b.log2Rows ∨ v.redirects.any overlap then stUnsupported else stOk

/-- HL_MSG_EMB_MIGRATE (R293). -/
def embMigrate (c : Chip) (port : Nat) (b : MigrateBody) : Chip :=
  let st := c.migrateStatus port b
  if st ≠ stOk then c.ack port b.hostTag 0 st 0
  else if b.action = 1 then
    (c.onEmb (fun e => { e with out := dropWhere (fun r => r.table == b.table && r.version == b.version && r.first == b.firstRow &&
      r.m == b.log2Rows && r.state == 4) e.out })).ack port b.hostTag 0 stOk 0
  else
    let id := wrapSucc 32 c.work.moveId
    let r : MigOut :=
      { id := id, table := b.table, version := b.version, first := b.firstRow, m := b.log2Rows, newDevice := b.newDevice,
        newRegion := b.newRegion, newOffset := b.newOffset, state := 1, port := port, hostTag := b.hostTag, written := false,
        copied := false, dirty := [], final := 0, replays := [], queue := [] }
    let c := (c.onWork (fun w => { w with moveId := id })).onEmb (fun e => { e with out := e.out ++ [r], lastMig := id })
    let c := c.migStatus r 1 0 0
    (c.sendNew .device b.newDevice 0 (.migOffer
      { table := b.table, log2Rows := b.log2Rows, version := b.version, firstRow := b.firstRow, migId := id, rsvd := 0 })).2

/-- R294: a migration ends before its flip: queued scatter-adds are applied in arrival order, and the host is
told. -/
def Chip.migAborted (c : Chip) (r : MigOut) (status : Nat) (tell : Bool) : Chip :=
  let c := c.onEmb (fun e => { e with out := dropWhere (fun x => x.id == r.id) e.out })
  let ops := updWhere (fun (o : PendOp) => o.owner == .migrate r.id) (fun o => { o with owner := .none }) c.rma.ops
  let c := { c with rma := { c.rma with ops := ops } }
  let c := r.queue.foldl (fun c q => match q with
    | .pkt k => (match k.body with
        | .embScatter b => c.homeScatter k.hdr b false
        | _ => c)
    | .own tag part row delta => c.ownScatter tag part r.table r.version row delta) c
  let c := if tell then (c.sendNew .device r.newDevice 0 (.migAbort { common := migCommon r.id, status := status, rsvd := 0 })).2 else c
  let c := (c.migStatus r 5 status (c.fld Reg.embMigrateStatus 31 0)).log
    { code := 0x1404, refKind := 3, ref := r.table, param0 := status, param1 := r.first }
  c.ack r.port r.hostTag 0 status 0

/-- The partition that a migration's writes act for: that of the region the rows leave. -/
def Chip.migPart (c : Chip) (r : MigOut) : Nat :=
  match (c.ver r.table r.version).bind (fun v => c.homeOf v r.first) with
  | some p => (c.region p.1).part
  | none => 0

/-- R294: rows written to the new home, in messages of pieces. -/
def Chip.migWrite (c : Chip) (r : MigOut) (v : TableVer) (runs : List (List Nat)) : Option Nat × Chip :=
  runs.foldl (fun (a : Option Nat × Chip) rows =>
    if a.1.isSome then a
    else
      let c := a.2
      let n := rowElemBytes v.fmt v.width
      let part := c.migPart r
      let at_ := fun (row : Nat) => rowAddrs v r.newOffset r.first r.m row
      let data := rows.map (fun row => match c.homeOf v row with
        | some p => (row, c.readRow v p row)
        | none => (row, []))
      let run := match rows with
        | x :: _ => (rows.zipIdx).all (fun y => y.1 == x + y.2)
        | [] => true
      let es := if run then [((at_ (rows.headD 0)).1, (data.map (fun d => d.2.take n)).flatten)]
        else data.map (fun d => ((at_ d.1).1, d.2.take n))
      let ss := if v.fmt ≠ 1 then []
        else if run then [((at_ (rows.headD 0)).2, (data.map (fun d => d.2.drop n)).flatten)]
        else data.map (fun d => ((at_ d.1).2, d.2.drop n))
      let ps := es ++ ss
      let (st, g) := c.findGrant r.newDevice r.newRegion
      if st ≠ stOk then (some st, c.bump (Reg.rmaCnt 2))
      else
        let (st, c) := c.issue g part .write 0 r.newOffset (sumN (ps.map (fun p => p.2.length))) (.raw []) ps none (0, 0) (.migrate r.id)
        (if st = stOk then none else some st, c)) (none, c)

/-- FAB_PKT_EMB_MIG_REPLY (R294): the bulk copy starts, or the record is removed. -/
def migReply (c : Chip) (h : FabHdr) (b : MoveReplyBody) : Chip :=
  match c.migOut? b.common.moveId with
  | none => c
  | some r =>
    if r.state ≠ 1 ∨ r.written ∨ r.newDevice ≠ h.src then c
    else if statusOf b.status ≠ stOk then c.migAborted r (statusOf b.status) false
    else
      match c.ver r.table r.version with
      | none => c.migAborted r stTableRetired true
      | some v =>
        let n := v.rangeRows r.first r.m
        let per := 16580608 / (rowElemBytes v.fmt v.width + rowScaleBytes v.fmt v.width)
        let runs := (upTo (cdiv n per)).map (fun i => (upTo (min per (n - i * per))).map (fun j => r.first + i * per + j))
        let r := { r with written := true }
        match (c.setMigOut r).migWrite r v runs with
        | (some st, c) => c.migAborted r st true
        | (none, c) => c

/-- R294: the flip: COMMIT, the queue forwarded in arrival order, and the forwarding timer. -/
def Chip.migFlip (c : Chip) (r : MigOut) : Chip :=
  let queue := r.queue
  let r := { r with state := 3, queue := [] }
  let c := c.setMigOut r
  let c := match c.ver r.table r.version with
    | some v => c.setVer { v with moved := v.moved ++ [({ first := r.first, m := r.m, place := none } : Moved)] }
    | none => c
  let c := (c.sendNew .device r.newDevice 0 (.migCommit { common := migCommon r.id, rsvd := 0 })).2
  let c := queue.foldl (fun c q => match q with
    | .pkt k => c.forwardTo r k
    | .own tag part row delta => c.ownScatter tag part r.table r.version row delta) c
  let c := (c.migStatus r 3 0 (c.fld Reg.embMigrateStatus 31 0)).log { code := 0x1403, refKind := 3, ref := r.table, param1 := r.first }
  c.ack r.port r.hostTag 0 stOk 0

/-- The bytes that the new home has received of a migration once its final transfer is there. -/
def Chip.migBytes (c : Chip) (r : MigOut) : Nat := ((c.ver r.table r.version).map (fun v => v.copyBytes r.first r.m)).getD 0 + r.final

/-- FAB_PKT_EMB_MIG_ACK (R294). The final acknowledgement is the one whose `BYTES` counts the whole final transfer. -/
def migAck (c : Chip) (h : FabHdr) (b : MoveAckBody) : Chip :=
  match c.migOut? b.common.moveId with
  | none => c
  | some r =>
    if r.newDevice ≠ h.src then c
    else if b.phase = 0 then (if r.state = 1 ∧ r.written then c.setMigOut { r with copied := true } else c)
    else if r.state = 2 then (if c.migBytes r ≤ b.bytes then c.migFlip r else c)
    else if r.state = 3 then (c.sendNew .device r.newDevice 0 (.migCommit { common := migCommon r.id, rsvd := 0 })).2
    else c

/-- R294: the epoch's tick takes a migration whose copy is done to FINAL: its dirty rows go, or the first row of the range
where none is dirty, so that a final acknowledgement follows (log entry 107), with the replay entries that name its rows
(log entry 22). -/
def Chip.migFinal (c : Chip) (r : MigOut) : Chip :=
  match c.ver r.table r.version with
  | none => c.migAborted r stTableRetired true
  | some v =>
    let rows := if r.dirty.isEmpty then [r.first] else r.dirty
    let names := c.rma.replay.filter (fun e => e.row.any (fun x =>
      x.1 == r.table && x.2.1 == r.version && covers r.first r.m x.2.2))
    let r := { r with state := 2, final := rows.length * (rowElemBytes v.fmt v.width + rowScaleBytes v.fmt v.width), replays := names }
    let c := (c.setMigOut r).migStatus r 2 0 r.dirty.length
    match c.migWrite r v (chunksOf 1000 (rows.length + 1) rows) with
    | (some st, c) => c.migAborted r st true
    | (none, c) => c

/-- EMB_EPOCH (R290, R294, R297). -/
def embEpochTick (c : Chip) : Chip :=
  let half := (c.emb.sketch.map (fun x => (x.1, x.2 / 2))).filter (fun x => x.2 != 0)
  let c := c.onEmb (fun e => { e with sketch := half, epochMs := c.fld Reg.embCtrl 15 0 })
  (c.emb.out.filter (fun r => r.state == 1 && r.copied)).foldl (fun c r => c.migFinal r) c

/-- MIGRATION_FORWARDING_TIMER (R294). -/
def migForwarding (c : Chip) (id : Nat) : Chip :=
  match c.migOut? id with
  | some r => if r.state = 3 then (c.setMigOut { r with state := 4 }).migStatus r 4 0 (c.fld Reg.embMigrateStatus 31 0) else c
  | none => c

/-- MOVE_OFFER_WAIT and MOVE_ACK_WAIT of a migration (R252, R294). -/
def migWait (c : Chip) (id : Nat) : Chip :=
  match c.migOut? id with
  | some r => if r.state ≤ 2 then c.migAborted r stTimeout true else c
  | none => c

/-- R294: a write of a migration has ended. -/
def Chip.migOpEnd (c : Chip) (id status : Nat) : Chip :=
  if status = stOk then c
  else
    match c.migOut? id with
    | some r => if r.state ≤ 2 then c.migAborted r status true else c
    | none => c

/-- FAB_PKT_MOVE_QUERY of a migration (R250, R295): whether one answered. -/
def Chip.migQuery (c : Chip) (h : FabHdr) (id : Nat) : Option Chip :=
  match c.emb.out.find? (fun r => r.id == id && r.newDevice == h.src) with
  | some r =>
    let n := if r.state ≤ 2 then 0 else 1
    some (c.sendNew .device h.src 0 (.moveAnswer { common := migCommon id, answer := n, rsvd := 0 })).2
  | none => none

/-! Migration at the new home (R293, R295). -/

/-- FAB_PKT_EMB_MIG_OFFER (R293). -/
def migOffer (c : Chip) (h : FabHdr) (b : MigOfferBody) : Chip :=
  let overlap := c.emb.ins.any (fun r => r.table == b.table && r.version == b.version &&
    (covers r.first r.m b.firstRow || covers b.firstRow b.log2Rows r.first))
  let st := if (c.ver b.table b.version).isNone then stTableRetired
    else if !c.domUp 6 || overlap then stBusy else stOk
  let c := if st = stOk then
      let r : MigIn := { source := h.src, id := b.migId, table := b.table, version := b.version, first := b.firstRow,
                         m := b.log2Rows, state := 1, place := none, bytes := 0, queries := 0 }
      c.onEmb (fun e => { e with ins := e.ins ++ [r] })
    else c
  (c.sendNew .device h.src 0 (.migReply { common := migCommon b.migId, status := st, rxRegion := 0, rxOffset := 0, rsvd := 0 })).2

/-- A migration at the new home. -/
def Chip.migIn? (c : Chip) (src id : Nat) : Option MigIn := c.emb.ins.find? (fun r => r.source == src && r.id == id)

/-- R295: the rows received are discarded. -/
def Chip.dropMigIn (c : Chip) (r : MigIn) : Chip :=
  c.onEmb (fun e => { e with ins := dropWhere (fun x => x.source == r.source && x.id == r.id) e.ins })

/-- R295: the new home starts serving the rows. -/
def Chip.migHome (c : Chip) (r : MigIn) : Chip :=
  let c := c.dropMigIn r
  match c.ver r.table r.version with
  | some v => c.setVer { v with moved := v.moved ++ [{ first := r.first, m := r.m, place := r.place }] }
  | none => c

/-- FAB_PKT_EMB_MIG_COMMIT (R295). -/
def migCommit (c : Chip) (h : FabHdr) (b : MoveBareBody) : Chip :=
  match c.migIn? h.src b.common.moveId with
  | some r => if r.state = 3 then c.migHome r else c
  | none => c

/-- FAB_PKT_EMB_MIG_ABORT (R294, R295), at either home. -/
def migAbort (c : Chip) (h : FabHdr) (b : MoveAbortBody) : Chip :=
  match c.migIn? h.src b.common.moveId with
  | some r => c.dropMigIn r
  | none =>
    match c.migOut? b.common.moveId with
    | some r => if r.state ≤ 2 ∧ r.newDevice = h.src then c.migAborted r (statusOf b.status) false else c
    | none => c

/-- MOVE_COMMIT_WAIT of a migration (R250, R295). -/
def migCommitWait (c : Chip) (src id : Nat) : Chip :=
  match c.migIn? src id with
  | none => c
  | some r =>
    if r.queries < 4 then
      let c := (c.setMigIn { r with queries := r.queries + 1 }).bump (Reg.movCnt 5)
      (c.sendNew .device src 0 (.moveQuery { common := migCommon id, rsvd := 0 })).2
    else c.dropMigIn r

/-- FAB_PKT_MOVE_ANSWER of a migration (R250, R295). -/
def migAnswer (c : Chip) (h : FabHdr) (id answer : Nat) : Chip :=
  match c.migIn? h.src id with
  | none => c
  | some r =>
    if answer = 2 then c.dropMigIn r
    else if answer = 1 then (if r.state = 3 then c.migHome r else c.setMigIn { r with queries := 0 })
    else
      let c := c.setMigIn { r with queries := 0 }
      if r.state = 3 then c.sendMigAck r 1 else if r.state = 2 then c.sendMigAck r 0 else c

/-- FAB_PKT_NACK of a migration's packet (R294). -/
def migNack (c : Chip) (src status : Nat) : Chip :=
  match c.emb.out.find? (fun r => r.state == 1 && !r.written && r.newDevice == src) with
  | some r => c.migAborted r status false
  | none => c

end Sys2Proof.Machine
end

