-- ==== Sys2Proof/Machine/Sources.lean ====
section
/-!
DEFINITION. What the source of a stream sends (R36, R57, R59, R64 to R67, R69, R71, R73, R74, R91, R95 to R97, R104,
R105, R159 to R161): tiles that joins made, tiles that LD endpoints read, gates, skip maps, the packed rows of dispatch
streams and the page tiles of KV page streams. Where neither the state nor the image holds what a source sends, the
arriving command brings it (log entry 21).
-/
namespace Sys2Proof.Machine

/-! Instances. -/

/-- What a sink has received of a band. -/
def SinkInst.band (k : SinkInst) (b : Nat) : BandCnt := (k.bands.find? (fun x => x.band == b)).getD ⟨b, 0, 0, []⟩

/-- A sink of an instance. -/
def StreamInst.sink (i : StreamInst) (role : Nat) : SinkInst :=
  (i.sinks.find? (fun k => k.role == role)).getD ⟨role, 0, [], 0, 0, none⟩

/-- A sink of an instance stored. -/
def StreamInst.setSink (i : StreamInst) (k : SinkInst) : StreamInst :=
  { i with sinks := updWhere (fun x => x.role == k.role) (fun _ => k) i.sinks }

/-- R65, R68: the join that consumes a stream at a sink. -/
def PlanD.consumer (p : PlanD) (s : StreamD) (sink : Nat) : Option JoinD :=
  p.allJ.find? (fun j => j.host == sink && j.inputs.contains s.id)

/-- A join of the step at work. -/
def SrcCtx.joinCtx (x : SrcCtx) (j : JoinD) : JoinCtx :=
  { c := x.c, t := x.t, pl := x.pl, draft := x.draft, j := j, layer := x.layer, ji := x.t.join j.id x.layer }

/-- The step at work, at no join. -/
def SrcCtx.bare (x : SrcCtx) : JoinCtx := x.joinCtx (joinOf ⟨0#64, 0#64, []⟩)

/-- The joins that make the tiles of the stream (R68, R160). -/
def SrcCtx.makers (x : SrcCtx) : List JoinD :=
  x.pl.allJ.filter (fun j => j.out == x.s.id || (j.kind == 3 && attendOut j == x.s.id))

/-! What a source has before gates (R36, R57, R73, R95). -/

/-- R73: the address of a tile of an LD or ST stream in its region. -/
def StreamD.addr (s : StreamD) (layer index : Nat) : Nat := s.offset + s.layerStride * 4096 * layer + s.tileStride * index

/-- The place of a stream instance in the plan: by layer entry, then by the stream table; the head section stands last. -/
def PlanD.place (pl : PlanD) (id key : Nat) : Nat :=
  let row := ((findIdx1 (fun (s : StreamD) => s.id == id) pl.allS).map Prod.fst).getD 0
  let entry := if pl.inHead id then pl.order.length
    else ((findIdx1 (fun l => l == key) pl.keys).map Prod.fst).getD 0
  entry * 65536 + row

/-- R73, R74: the ST streams that write an address before an LD stream reads it, the last one first. DEDUCED (log entry
79): an LD stream reads what the last ST stream before it in the plan wrote there. -/
def SrcCtx.writers (x : SrcCtx) (addr : Nat) : List (StreamD × Nat) :=
  let mine := x.pl.place x.s.id x.layer
  let sts := x.pl.allS.filter (fun s => roleKind s.sink == 9 && s.tier == x.s.tier && s.region == x.s.region &&
    !(x.pl.allJ.any (fun j => j.kind == 3 && attendOut j == s.id)))
  let insts := (sts.map (fun s => (if x.pl.inHead s.id then [0] else x.pl.keys).map (fun l => (s, l)))).flatten
  let hit := insts.filter (fun y =>
    let b := y.1.addr (keyLayer y.2) 0
    decide (x.pl.place y.1.id y.2 < mine) && decide (b ≤ addr) &&
      (if y.1.tileStride = 0 then addr == b
       else (addr - b) % y.1.tileStride == 0 && decide ((addr - b) / y.1.tileStride < y.1.count * max 1 x.t.bands)))
  hit.foldl (fun (l : List (StreamD × Nat)) y =>
    let p := x.pl.place y.1.id y.2
    l.takeWhile (fun z => decide (p < x.pl.place z.1.id z.2)) ++ y :: l.dropWhile (fun z => decide (p < x.pl.place z.1.id z.2))) []

/-- R74: what the ST streams of the step left at an address. -/
def SrcCtx.scratchAt (x : SrcCtx) (addr : Nat) : List (StreamD × Nat) → Src (List Byte)
  | [] => .free
  | y :: ys =>
    match x.t.scratch.find? (fun k => k.stream == y.1.id && k.layer == y.2 && k.addr == addr) with
    | some k => .known k.bytes
    | none => if x.t.closed y.1.id y.2 then x.scratchAt addr ys else .wait

/-- The position of a tile among the tiles that its stream stores: a weight stream sends the same tiles for every
band. -/
def SrcCtx.slot (x : SrcCtx) (index : Nat) : Nat := if x.pl.isW x.s then index % max 1 x.s.count else index

/-- R57, R73, R95: the stored bytes that an LD endpoint reads for a tile: step scratch, or the image's block. -/
def SrcCtx.stored (x : SrcCtx) (index : Nat) : Src (List Byte) :=
  let a := x.s.addr x.lay (x.slot index)
  match x.scratchAt a (if x.pl.isW x.s then [] else x.writers a) with
  | .known b => .known b
  | .wait => .wait
  | .free =>
    match x.model with
    | none => .free
    | some m =>
      let at_ := fun (i : Nat) => imgBlock m x.s.tier x.s.region (imgTileAddr m x.pl.id x.s x.lay i)
      match at_ (x.slot index) with
      | some b => .known b
      | none => match at_ (index % max 1 x.s.count) with
        | some b => .known b
        | none => .free

/-- R91: the format of a tile of the stream as its source has it: a dispatch stream takes the rows of step bands. -/
def SrcCtx.tileFmt (x : SrcCtx) (index : Nat) : Nat :=
  let band := index / max 1 x.s.count
  if x.dispatch.isSome then x.bare.stepFmt x.s band else x.bare.bandFmt x.s band

/-- R57: the tag that an LD endpoint builds. The image's tile order, which the descriptor does not give, comes with the
command (log entry 21). -/
def SrcCtx.ldTag (x : SrcCtx) (g : TileTag) : TileTag :=
  let band := g.tileIndex / max 1 x.s.count
  let step := ((x.c.bandsOf x.t).getD band []).length
  let n := if x.dispatch.isSome then step
    else match x.expert with
      | some (r, e) => ((x.bandRows r e band).map List.length).getD g.rows
      | none => step
  { g with kind := .data, fmt := x.tileFmt g.tileIndex, arithFlags := 0,
           rows := x.s.rowsFor (if n = 0 then g.rows else n), cols := x.s.colsFor g.redIndex,
           colIndex := if x.pl.isW x.s || x.s.fmt == 6 then g.colIndex else 0, band := band, planId := x.pl.id }

/-- R73: a data tile of the source before its gate. -/
def SrcCtx.raw (x : SrcCtx) (g : TileTag) : Src Tile :=
  match x.madeTile x.s.id .data (fun m => m.tileIndex == g.tileIndex) with
  | some m => .known m
  | none =>
    if !x.makers.isEmpty || (x.predRoute x.s.id).isSome || x.routes.any (fun r => r.2.routeStr == x.s.id) then .wait
    else if x.isLd then
      match x.stored g.tileIndex with
      | .known b => .known ⟨x.ldTag g, b⟩
      | .wait => .wait
      | .free => .free
    else .free

/-- R95: the skip word of a tile of the stream. -/
def SrcCtx.skip (x : SrcCtx) (index : Nat) : Nat :=
  match x.model with
  | some m => imgSkip m x.pl.id x.s x.lay (index % max 1 x.s.count)
  | none => 0

/-- R96: the layout of R31 of a stored tile. -/
def SrcCtx.unskip (x : SrcCtx) (tile : Tile) (bs : List Byte) : Tile :=
  match x.model.bind (fun m => imgSkipMap m x.pl.id x.s.id), elemOfFmt x.s.fmt with
  | some _, some f => { tile with bytes := reassembleSkip (elemBits f) (isLog f) (x.skip tile.tag.tileIndex) bs }
  | _, _ => { tile with bytes := bs }

/-- R31, R96: the raw length of a tile of the stream. -/
def SrcCtx.rawLen (x : SrcCtx) (index : Nat) : Nat :=
  match x.model with
  | some m => storedBytes (x.tileFmt index) (imgSkipMap m x.pl.id x.s.id).isSome (x.skip index)
  | none => fmtTileBytes (x.tileFmt index)

/-- R114, R124: the headers of a tile: those that its read brought, or those of the image. -/
def SrcCtx.headers (x : SrcCtx) (index : Nat) (hdrs : List W64) : List W64 :=
  if !hdrs.isEmpty then hdrs
  else ((x.model.bind (fun m => ((imgPleat m).dir.find? (fun d => d.streamId == x.s.id && d.planId == x.pl.id)).map (fun d =>
    d.tileHdrs m x.s x.lay (index % max 1 x.s.count))))).getD []

/-- R59, R96, R114: a tile that an LD endpoint read, in the layout of R31: a pleated one expanded. The endpoint looks at it
to form the anchors of a band; the stored form goes to the sink. -/
def SrcCtx.plain (x : SrcCtx) (t : Tile) : Option Tile :=
  let read := fun (u : Tile) => { u with bytes := validTile u.tag.fmt u.tag.rows u.tag.cols u.bytes }
  if !x.isLd then some t
  else if x.s.pleated then
    let raw := x.rawLen t.tag.tileIndex
    let hs := x.headers t.tag.tileIndex []
    match x.model.map (fun m => expandUnit (imgPleat m) (x.tileFmt t.tag.tileIndex) raw hs (slotCoded raw hs t.bytes)) with
    | some (.ok bs) => some (read (x.unskip t bs))
    | _ => none
  else some (read (x.unskip t t.bytes))

/-! Gates (R66, R104, R105). -/

/-- R66: the row predicate of a tile under `GATE_MODE` 2: a router's, by the tile's step band, or that of another
predicate stream, by the tile's index: one that a join made, one that an LD endpoint reads, or one that a sink holds. -/
def SrcCtx.predicate (x : SrcCtx) (g : TileTag) : Src Nat :=
  let pick := fun (o : Option Nat) => match o with
    | some p => Src.known p
    | none => Src.wait
  if (x.predRoute x.s.gateRef).isSome then pick (x.predBits x.s.gateRef g.band)
  else if x.pl.allJ.any (fun j => j.out == x.s.gateRef) then
    pick ((x.madeTile x.s.gateRef .data (fun m => m.tileIndex == g.tileIndex)).map (fun m => natOfLe (m.bytes.take 16)))
  else
    let read := match x.pl.stream x.s.gateRef with
      | some d => if roleKind d.src = 8 then ({ x with s := d } : SrcCtx).stored g.tileIndex else .free
      | none => .free
    match read with
    | .known b => .known (natOfLe (b.take 16))
    | .wait => .wait
    | .free =>
      match (x.t.joins.filter (fun i => x.pl.inHead x.s.gateRef || i.layer == x.layer)).findSome? (fun i =>
          i.held.find? (fun h => h.2.tag.streamId == x.s.gateRef && h.2.tag.kind == .data && h.2.tag.tileIndex == g.tileIndex)) with
      | some h => .known (natOfLe (h.2.bytes.take 16))
      | none => .free

/-- A skip marker in place of a tile (R66). -/
def skipOf (t : Tile) : Tile := { tag := { t.tag with kind := .skip }, bytes := [] }

/-- R66, R104, R105: whether a gate suppresses a whole tile of a weight stream. -/
def SrcCtx.wGate (x : SrcCtx) (g : TileTag) : Src Bool :=
  if x.s.gate = 1 then .known (!(x.model.any (fun m => imgMask m x.s.gateRef (x.slot g.tileIndex))))
  else if x.s.gate = 2 then
    match x.predRoute x.s.gateRef with
    | some r => match x.bandRows r (x.s.gateRef - r.predBase) g.band with
      | some l => .known l.isEmpty
      | none => .wait
    | none => match x.predicate g with
      | .known p => .known (p % 2 ^ 128 == 0)
      | .wait => .wait
      | .free => .free
  else .known false

/-- R66: a tile through the gate of a stream that is no weight stream and no dispatch stream; the rows of a pleated one
are cleared when it has been expanded (`clearRows`). -/
def SrcCtx.gated (x : SrcCtx) (t : Tile) : Src Tile :=
  if x.s.gate = 1 then
    .known (if x.model.any (fun m => imgMask m x.s.gateRef (x.slot t.tag.tileIndex)) then t else skipOf t)
  else if x.s.gate = 2 then
    match x.predicate t.tag with
    | .known p =>
      if (upTo t.tag.rows).any (fun i => p.testBit i) then
        .known (if x.isLd && x.s.pleated then t else { t with bytes := clipTile t.tag.fmt (fun i => p.testBit i) 128 t.bytes })
      else .known (skipOf t)
    | .wait => .wait
    | .free => .free
  else .known t

/-- R66: an expanded tile without the rows that its gate clears. -/
def SrcCtx.clearRows (x : SrcCtx) (t : Tile) : Tile :=
  if x.s.gate = 2 ∧ !x.pl.isW x.s then
    match x.predicate t.tag with
    | .known p => { t with bytes := clipTile t.tag.fmt (fun i => p.testBit i) 128 t.bytes }
    | _ => t
  else t

/-! Dispatch streams (R104, R105). -/

/-- Rows of tiles of a format laid out as one tile. -/
def packRows (fmt : Nat) (rows : List (List Byte × Nat)) : List Byte :=
  let pad := List.replicate (128 - rows.length) ()
  match elemOfFmt fmt with
  | some f =>
    packTile f (rows.map (fun r => let w := tileRow f r.1 r.2; (⟨w.1, w.2, none, {}⟩ : RowOut)) ++
      pad.map (fun _ => ⟨List.replicate 128 0, if isLog f then [0, 0, 0, 0] else [], none, {}⟩))
  | none =>
    (rows.map (fun r => ((r.1.drop (512 * r.2)).take 512 ++ List.replicate 512 0#8).take 512)).flatten ++
      (pad.map (fun _ => List.replicate 512 0#8)).flatten

/-- R104: a tile of an expert band: the rows that selected the expert, packed. -/
def SrcCtx.dispatchTile (x : SrcCtx) (r : RouteDesc) (e : Nat) (g : TileTag) : Src Tile :=
  let n := max 1 x.s.count
  match x.bandRows r e g.band with
  | none => .wait
  | some rows =>
    let src := fun (b : Nat) => x.raw { g with tileIndex := b * n + g.tileIndex % n, band := b }
    let bands := (rows.map Prod.fst).eraseDups
    let tiles := bands.map (fun b => (b, src b))
    if rows.isEmpty then .wait
    else if tiles.any (fun y => y.2 == .wait) then .wait
    else
      let at_ := fun (b : Nat) => match tiles.find? (fun y => y.1 == b) with
        | some (_, .known t) => some t
        | _ => none
      match bands.filterMap at_ with
      | [] => .free
      | t :: ts =>
        if (t :: ts).length ≠ bands.length then .free
        else .known ⟨{ t.tag with streamId := g.streamId, tileIndex := g.tileIndex, band := g.band, rows := rows.length },
          packRows t.tag.fmt (rows.map (fun y => (((at_ y.1).map Tile.bytes).getD [], y.2)))⟩

/-- A list of which every part is known; it waits for what one part waits for. -/
def srcAll {α : Type} (l : List (Src α)) : Src (List α) :=
  l.foldr (fun a b => match a, b with
    | .wait, _ => .wait
    | _, .wait => .wait
    | .known a, .known b => .known (a :: b)
    | _, _ => .free) (.known [])

/-- R59, R66: a data tile of a step band as an LD endpoint has it when it forms anchors; none for one that a gate suppresses.
The rows of a dispatch stream pass no gate before they are packed. -/
def SrcCtx.formed (x : SrcCtx) (g : TileTag) : Src (Option Tile) :=
  match x.raw g with
  | .wait => .wait
  | .free => .free
  | .known t =>
    match (if x.dispatch.isSome then .known t else x.gated t) with
    | .wait => .wait
    | .free => .free
    | .known u =>
      if u.tag.kind = .skip then .known none
      else match x.plain u with
        | some v => .known (some (if x.dispatch.isSome then v else x.clearRows v))
        | none => .free

/-- R35, R36, R59: the row anchors that an LD endpoint forms of a step band. -/
def SrcCtx.ldAnchors (x : SrcCtx) (g : TileTag) (band : Nat) : Src (List Anchor) :=
  match srcAll ((upTo x.s.count).map (fun i => x.formed { g with tileIndex := band * x.s.count + i, band := band })) with
  | .wait => .wait
  | .free => .free
  | .known ts =>
    match elemOfFmt (x.tileFmt (band * x.s.count)) with
    | some f => .known ((upTo 128).map (tilesAnchor f ((ts.filterMap id).map Tile.bytes)))
    | none => .free

/-- R104: the anchor block of an expert band: the anchors of its rows in packed order, from the blocks that a join made of
the step bands, or as the LD endpoint forms them. -/
def SrcCtx.dispatchAnchors (x : SrcCtx) (r : RouteDesc) (e : Nat) (g : TileTag) : Src Tile :=
  match x.bandRows r e g.band with
  | none => .wait
  | some rows =>
    let bands := (rows.map Prod.fst).eraseDups
    let block := fun (b : Nat) =>
      if !x.makers.isEmpty then
        (match x.madeTile x.s.id .anchors (fun m => m.band == b) with
         | some m => .known (b, anchorsOf m.bytes)
         | none => .wait)
      else if x.isLd then
        (match x.ldAnchors g b with
         | .known a => .known (b, a)
         | .wait => .wait
         | .free => .free)
      else .free
    if rows.isEmpty then .wait
    else match srcAll (bands.map block) with
      | .wait => .wait
      | .free => .free
      | .known blocks =>
        let of_ := fun (b : Nat) => ((blocks.find? (fun y => y.1 == b)).map Prod.snd).getD []
        .known ⟨{ g with kind := .anchors, rows := rows.length, colIndex := 0 },
          anchorBytes (rows.map (fun y => (of_ y.1).getD y.2 none) ++ List.replicate (128 - rows.length) none)⟩

/-! KV page streams (R159 to R161). -/

/-- R159: the page tiles of a band that a KV page stream sends in one traversal, with their segments. -/
def JoinCtx.kvTiles (x : JoinCtx) (band : Nat) : List (Nat × List KvEntry) :=
  let l := x.c.layer x.t.part x.draft x.lay
  ((((x.rowMap band).map (fun r => r.1)).eraseDups).map (fun g =>
    (x.pageKeys l g (attendHead x.j)).map (fun k => (g, k.2)))).flatten

/-- R159: whether the mask skips a page tile of a band. -/
def JoinCtx.kvSkips (x : JoinCtx) (band : Nat) (k : Nat × List KvEntry) : Bool :=
  maskSkips (x.c.layer x.t.part x.draft x.lay) (((x.rowMap band).filter (fun r => r.1 == k.1)).map (fun r => r.2.1)) k.2

/-- R258: the sequence and the page of a page tile. -/
def JoinCtx.kvPage (x : JoinCtx) (k : Nat × List KvEntry) : Option (Seq × Frame) :=
  let t := kvTpp (x.c.layer x.t.part x.draft x.lay)
  (x.t.segs[k.1]?).bind (fun g => (x.c.seq g.requestId).bind (fun s => (k.2.head?).bind (fun e =>
    (s.pages.find? (fun r => r.draft == x.draft && r.layer == x.lay && decide (r.posBase ≤ e.pos) && decide (e.pos < r.posBase + t))).bind
      (fun r => (x.c.frameOf s.part r).map (fun f => (s, f))))))

/-- R139, R161: a tile or an end marker of a KV page stream, its rows the entries present; the join reads the page itself, so its
tile carries no bytes. -/
def SrcCtx.kvTile (x : SrcCtx) (j : JoinD) (k : SinkInst) (tile : Tile) : Src Tile :=
  let y := x.joinCtx j
  let tiles := ((y.kvTiles tile.tag.band).map (fun k => (y.kvSkips tile.tag.band k, k.2.length))).take x.s.count
  let n := (k.band tile.tag.band).tiles
  match tile.tag.kind with
  | .endMark => if n = tiles.length then .known { tile with bytes := [] } else .wait
  | .anchors => .wait
  | _ => match tiles[n]? with
    | some (true, _) => .known (skipOf tile)
    | some (false, n) => .known { tag := { tile.tag with kind := .data, rows := n, cols := 128 }, bytes := [] }
    | none => .wait

/-! What is sent. -/

/-- R66, R104: a tile through the gate of its stream. -/
def SrcCtx.throughGate (x : SrcCtx) (t : Tile) : Src Tile :=
  if x.pl.isW x.s then
    match x.wGate t.tag with
    | .known true => .known (skipOf t)
    | .known false => .known t
    | .wait => .wait
    | .free => .free
  else x.gated t

/-- R66, R69, R97: a data tile, or the marker in its place. Where the predicate of a gate is not known, the marker or
tile that the command names stands. -/
def SrcCtx.position (x : SrcCtx) (tile : Tile) : Src Tile :=
  match x.dispatch with
  | some (r, e) => x.dispatchTile r e tile.tag
  | none =>
    if x.isLd && x.skip tile.tag.tileIndex == 0xFFFF then .known (skipOf tile)
    else
      match x.raw tile.tag with
      | .wait => .wait
      | .known t => (match x.throughGate t with
        | .free => .known (if tile.tag.kind = .skip then skipOf t else t)
        | r => r)
      | .free =>
        let t : Tile := { tile with tag := if x.isLd then x.ldTag tile.tag else { tile.tag with kind := .data } }
        match x.throughGate t with
        | .wait => .wait
        | .free => .known (if tile.tag.kind = .skip then skipOf t else t)
        | .known u => if u.tag.kind = .data ∧ tile.tag.kind = .skip then .wait else .known u

/-- R36, R59: an anchor block. An LD endpoint sends the channel anchors of an output column that the image stores, and
forms those of a band of step scratch. -/
def SrcCtx.anchorTile (x : SrcCtx) (tile : Tile) : Src Tile :=
  match x.dispatch with
  | some (r, e) => x.dispatchAnchors r e tile.tag
  | none =>
    match x.madeTile x.s.id .anchors (fun m => m.tileIndex == tile.tag.tileIndex && m.band == tile.tag.band) with
    | some m => .known m
    | none =>
      if !x.makers.isEmpty then .wait
      else if x.pl.isW x.s then
        match x.bare.imageAnchors x.s.id tile.tag.colIndex with
        | some a => .known { tile with bytes := anchorBytes a }
        | none => .free
      else if x.isLd then
        match x.ldAnchors tile.tag tile.tag.band with
        | .known a => .known { tag := { tile.tag with colIndex := 0 }, bytes := anchorBytes a }
        | .wait => .wait
        | .free => .free
      else .free

/-- R67, R105: an end marker. -/
def SrcCtx.endTile (x : SrcCtx) (k : SinkInst) (tile : Tile) : Src Tile :=
  match x.dispatch with
  | some (r, e) =>
    (match x.bandRows r e tile.tag.band with
     | none => .wait
     | some rows =>
       let n := match rows with
         | [] => 0
         | y :: _ =>
           let made := ((x.t.joins.map JoinInst.made).flatten.filter (fun m =>
             m.tag.streamId == x.s.id && m.tag.kind == .data && m.tag.band == y.1)).length
           if x.makers.isEmpty then x.s.count else made
       if n ≤ (k.band tile.tag.band).tiles then .known { tile with bytes := [] } else .wait)
  | none =>
    match x.madeTile x.s.id .endMark (fun m => m.tileIndex == tile.tag.tileIndex && m.band == tile.tag.band) with
    | some m => .known m
    | none => if x.makers.isEmpty then .free else .wait

/-- R67, R69: whether a tile or marker is the next of its band at a sink. -/
def nextAt (s : StreamD) (kv : Bool) (k : SinkInst) (g : TileTag) : Bool :=
  match g.kind with
  | .data | .skip => kv || g.tileIndex == g.band * s.count + (k.band g.band).tiles
  | _ => true

/-- R59: the anchor block that a tile of the stream belongs to: of weights its output column's, else the band's one. -/
def SrcCtx.blockOf (x : SrcCtx) (g : TileTag) : Nat := if x.pl.isW x.s then g.colIndex else 0

/-- R59: whether the anchor block that a tile follows has come to its sink. -/
def SrcCtx.led (x : SrcCtx) (k : SinkInst) (g : TileTag) : Bool :=
  !x.s.hold || g.kind != .data || (k.band g.band).anchors.contains (x.blockOf g)

/-- R59: whether the sink has the anchor block that an arrival names. -/
def SrcCtx.ledAlready (x : SrcCtx) (k : SinkInst) (g : TileTag) : Bool :=
  g.kind == .anchors && (k.band g.band).anchors.contains (x.blockOf g)

/-- What the source of a stream sends to a sink as the tile or marker that an arrival names; none while it is not
there to send. -/
def SrcCtx.sent (x : SrcCtx) (sink : Nat) (k : SinkInst) (tile : Tile) : Option Tile :=
  let kvJoin := (x.pl.consumer x.s sink).filter (fun j => j.kind == 3 && j.inputs.getD 1 0xFFFF == x.s.id)
  let r := match kvJoin with
    | some j => x.kvTile j k tile
    | none => match tile.tag.kind with
      | .data | .skip => x.position tile
      | .anchors => x.anchorTile tile
      | .endMark => x.endTile k tile
  let out := match r with
    | .known t => some t
    | .free => some tile
    | .wait => none
  out.filter (fun t => nextAt x.s kvJoin.isSome k tile.tag && x.led k t.tag && !x.ledAlready k tile.tag)

/-- R53: what an LD endpoint raises when it forms the anchors of a band. DESIGN CHOICE (log entry 78): it reads elements only
then, once for each block; an ST endpoint reads none. -/
def SrcCtx.anchorCnt (x : SrcCtx) (tile : Tile) : ArithCnt :=
  if tile.tag.kind = .anchors && x.isLd && !x.pl.isW x.s && x.makers.isEmpty then
    let cnt := fun (keep : Nat → Nat → Bool) (b : Nat) => arithSum ((upTo x.s.count).map (fun i =>
      match x.formed { tile.tag with tileIndex := b * x.s.count + i, band := b } with
      | .known (some t) => tileReadCnt true t.tag.fmt t.tag.rows (clipTile t.tag.fmt (keep b) 128 t.bytes)
      | _ => {}))
    match x.dispatch with
    | some (r, e) =>
      let rows := (x.bandRows r e tile.tag.band).getD []
      arithSum (((rows.map Prod.fst).eraseDups).map (cnt (fun b i => rows.contains (b, i))))
    | none => cnt (fun _ _ => true) tile.tag.band
  else {}

end Sys2Proof.Machine
end

