-- ==== Sys2Proof/Machine/Firing.lean ====
section
/-!
DEFINITION. When the joins of a running step run, and what running one does to the chip (R53 to R55, R68, R82, R101 to
R109, R164, R170, R197, R198, R208).
-/
namespace Sys2Proof.Machine

/-! Sampling and routing. -/

/-- R53 to R55: the flag register of a station's kind: 0 MX, 1 VX, 2 AT, 3 LD and ST. R53 names no register for RT and SM
stations: they use that of the VX stations (DESIGN CHOICE, log entry 78). -/
def flagKind (key : Nat) : Nat :=
  let k := keyKind key
  if k ≤ 2 then 0 else if k = 4 then 2 else if k = 8 ∨ k = 9 then 3 else 1

/-- R198, R208: the tokens sampled from the logits of a band; a greedy position enters no race. -/
def Chip.sampleBand (c : Chip) (x : JoinCtx) (band : Nat) (ts : List Tile) (t : Step) : Step × Chip :=
  let vocab := ((c.model t.part x.draft).map ModelImage.vocab).getD 0
  let (k, _) := t.passPlan
  ((x.rowMap band).zipIdx).foldl (fun (a : Step × Chip) r =>
    let (seg, pos, _) := r.1
    match a.1.segs[seg]? with
    | none => a
    | some g =>
      match a.2.seq g.requestId with
      | none => a
      | some s =>
        let wanted := if k = 0 then pos + 1 == s.table.length else if k = 4 then pos + 1 == g.start + t.pass else k == 1 || k == 2
        if !wanted then a
        else
          let blk := sampleBlockOf (s.samp.getD 0 0#64) (s.samp.getD 1 0#64) (s.samp.getD 2 0#64) (s.samp.getD 3 0#64)
          let (tok, kept) := sampleToken (logitsRow ts vocab r.2) blk (pos + 1)
          let q := x.quad
          let c := a.2.bump (Reg.smCnt q 0)
          let c := if isGreedy blk then c.bump (Reg.smCnt q 1) else c.bumpBy (Reg.smCnt q 2) kept
          let c := if tempTiny blk then c.bump (Reg.smCnt q 3) else c
          let g := if k = 4 then { g with props := g.props ++ [tok] }
            else { g with samples := g.samples ++ [(pos + 1, tok, a.1.empties.contains (seg, pos))] }
          ({ a.1 with segs := a.1.segs.set seg g }, c)) (t, c)

/-- R108: the next layer's experts that an early route selected in a band are fetched ahead. -/
def Chip.routedEarly (c : Chip) (x : JoinCtx) (r : RouteDesc) (sel : List (List Nat)) (t : Step) : Step × Chip :=
  match x.pl.nextLayer x.layer with
  | none => (t, c)
  | some next =>
    ((sel.flatten).eraseDups).foldl (fun (a : Step × Chip) e =>
      if a.1.early.contains (next, e) then a
      else
        let (t, c) := a.2.fetchExpert a.1 x.pl r.predBase next e
        ({ t with early := t.early ++ [(next, e)] }, c)) (t, c)

/-- R105, R108: the end of a route over a step: empty expert bands, and prefetched experts that were or were not
selected again. -/
def Chip.routeEnds (c : Chip) (x : JoinCtx) (r : RouteDesc) (sel : List (List (List Nat))) (t : Step) : Step × Chip :=
  let q := x.quad
  let wins := chunksOf (max 1 r.window) (sel.length + 1) sel
  let c := c.bumpBy (Reg.mxCnt q 10) (sumN (wins.map (emptyExperts r.nExperts)))
  let mine := t.early.filter (fun y => y.1 == x.layer)
  let hit := mine.filter (fun y => sel.any (fun b => b.any (fun s => s.contains y.2)))
  let c := (c.bumpBy (Reg.mxCnt q 11) hit.length).bumpBy (Reg.mxCnt q 12) (mine.length - hit.length)
  ({ t with early := t.early.filter (fun y => y.1 != x.layer) }, c)

/-- R101 to R109: a band of a router. An early route makes no tile, and at the last layer entry none runs. -/
def Chip.routeBand (c : Chip) (x : JoinCtx) (r : RouteDesc) (bias : List W32) (band : Nat) (t : Step) : List Tile × Step × Chip :=
  let q := x.quad
  if r.early ∧ (x.pl.nextLayer x.layer).isNone then ([], t, c)
  else
    let (ts, sel, ties, cnt) := x.route r bias band
    let c := (c.bumpBy (Reg.mxCnt q 8) sel.length).bumpBy (Reg.mxCnt q 9) ties
    let c := c.raise q (flagKind x.station) (keyDomain x.station) cnt
    let (t, c) := if r.early then c.routedEarly x r sel t
      else if (upTo t.bands).all (fun b => b == band || x.madeBand b) then
        c.routeEnds x r ((upTo t.bands).map (fun b => (x.route r bias b).2.1)) t
      else (t, c)
    (ts, t, c)

/-! The outputs of a join. -/

/-- R161 to R170: what an ATTEND join leaves beside its tiles: each quadrant's flags and counts, and the empty rows. -/
def Chip.attended (c : Chip) (x : JoinCtx) (band : Nat) (a : Attended) (t : Step) : Step × Chip :=
  let c := a.work.foldl (fun c w =>
    let c := c.raise w.1 2 (keyDomain x.station - x.quad + w.1) w.2.1
    ((w.2.2).zipIdx).foldl (fun c y => c.bumpBy (Reg.atCnt w.1 y.2) y.1) c) c
  let rows := ((x.rowMap band).zip a.empties).filterMap (fun y => if y.2 then some (y.1.1, y.1.2.1) else none)
  (if x.draft then t else { t with empties := t.empties ++ rows.filter (fun y => !t.empties.contains y) }, c)

/-- The outputs of a band of a join, with the step and the chip after their side effects. -/
def Chip.makeBand (c : Chip) (x : JoinCtx) (band : Nat) (t : Step) : List Tile × Step × Chip :=
  let q := x.quad
  let raise := fun (c : Chip) (cnt : ArithCnt) => c.raise q (flagKind x.station) (keyDomain x.station) cnt
  if x.j.kind = 1 then
    let (ts, cnt, w) := x.matmul band
    let c := (w.zipIdx).foldl (fun c y => c.bumpBy (Reg.mxCnt q y.2) y.1) c
    (x.dress band (x.rowsOf band x.j.operand) [] ts, t, raise c cnt)
  else if x.j.kind = 2 then
    let (ts, cnt) := x.sum band
    let c := raise c cnt
    if roleKind x.j.host = 6 then
      let (t, c) := c.sampleBand x band (ts.filter (fun y => y.tag.kind == .data)) t
      (ts, t, c)
    else (ts, t, c)
  else if x.j.kind = 3 then
    let a := x.attend band
    let (t, c) := c.attended x band a t
    (a.tiles, t, c)
  else if x.j.kind = 7 then
    match (c.model t.part x.draft).bind (fun m => m.routines[x.j.operand]?) with
    | some (.route w bias) => c.routeBand x (routeDescOf w) bias band t
    | _ =>
      let (ts, cnt) := x.vector band
      let c := raise c cnt
      if roleKind x.j.host = 6 then
        let (t, c) := c.sampleBand x band (x.data 0 band) t
        (ts, t, c)
      else (ts, t, c)
  else if x.j.kind = 5 then
    let (ts, cnt) := x.barrier band
    (ts, t, raise c cnt)
  else ([], t, c)

/-! When a join runs (R68, R82, R106). -/

/-- The bands that a join may make now: an ATTEND needs the keys of the bands before it, or of all of them
under `MASK_MODE` 2; a BARRIER every band. -/
def JoinCtx.readyBands (x : JoinCtx) : List Nat :=
  let l := x.c.layer x.t.part x.draft x.lay
  let keys := fun (b : Nat) => (upTo (if l.mask = 2 then x.t.bands else b)).all (fun k => x.inputDone 0 k)
  x.bandsSeen.filter (fun b => !x.madeBand b && x.bandDone b &&
    (if x.j.kind = 3 then keys b else if x.j.kind = 5 then (upTo x.t.bands).all x.bandDone else true))

/-- R106: an expert combine runs once it holds the route tiles and the shared output of every step band, and every
expert band of each expert. -/
def JoinCtx.mergeReady (x : JoinCtx) (r : RouteDesc) : Bool :=
  let first := if r.shared then 2 else 1
  (upTo x.t.bands).all (fun b => (upTo first).all (fun i => x.inputDone i b)) &&
    (upTo r.nExperts).all (fun e => (upTo (x.expertBands r e)).all (fun b => x.inputDone (first + e) b))

/-- The entry that an instance of a join is kept under; the head section has one instance. -/
def PlanD.joinLayer (p : PlanD) (j : JoinD) (layer : Nat) : Nat := if p.headJ.any (fun h => h.id == j.id) then 0 else layer

/-- The entries of the layer order in which a join of a plan runs. -/
def PlanD.joinLayers (p : PlanD) (j : JoinD) : List Nat :=
  if p.headJ.any (fun h => h.id == j.id) then [0] else p.keys

/-- Whether a join has bands of the running pass still to make; the COMMIT join has until its step ends. -/
def JoinCtx.left (x : JoinCtx) : Bool :=
  let s : SrcCtx := { c := x.c, t := x.t, pl := x.pl, draft := x.draft, s := x.inputD 0, layer := x.layer }
  x.j.kind == 6 || (match s.bandTotal with
    | none => true
    | some n => !(upTo n).all x.madeBand)

/-- R82: whether a step has joins still to run at a station, in this pass or a later one. -/
def Chip.keepsStation (c : Chip) (t : Step) (key : Nat) : Bool :=
  !t.abandoned && t.fits.any (fun f => f.2 == key) &&
    (t.pass != 0 || (match c.passPlan t with
      | none => false
      | some pl => pl.allJ.any (fun j => (pl.joinLayers j).any (fun l =>
          let x := c.joinAt t pl t.passPlan.2 j l
          x.station == key && x.left))))

/-- R82: whether a step waits at a station for one that launched before it. -/
def Chip.stationWaits (c : Chip) (t : Step) (key : Nat) : Bool :=
  (c.work.steps.takeWhile (fun u => !(u.part == t.part && u.seq == t.seq))).any (fun u => c.keepsStation u key)

/-- A join makes what it can; its outputs stand in its instance until they are sent. Stations serve joins in step
launch order (R82). The bags of an EM role are pooled by its channels (R279). -/
def Chip.fireJoin (c : Chip) (t : Step) (pl : PlanD) (draft : Bool) (j : JoinD) (layer : Nat) : Step × Chip :=
  let x := c.joinAt t pl draft j layer
  if j.kind = 4 then
    match (c.model t.part draft).bind (fun m => m.routines[j.operand]?) with
    | some (.route w _) =>
      let r := routeDescOf w
      if x.ji.done.isEmpty && x.mergeReady r && !c.stationWaits t x.station then
        let (ts, cnt) := x.merge r
        (t.setJoin { x.ji with made := ts, done := upTo t.bands }, c.raise x.quad (flagKind x.station) (keyDomain x.station) cnt)
      else (t, c)
    | _ => (t, c)
  else
    match x.readyBands with
    | [] => (t, c)
    | bs =>
      if c.stationWaits t x.station then (t, c)
      else if j.kind = 7 ∧ roleKind j.host = 7 then
        (t, (bs.filter (fun b => !x.gathering b)).foldl (fun c b => c.startBags { x with c := c } b) c)
      else bs.foldl (fun (a : Step × Chip) b =>
        let ji := a.1.join j.id layer
        let (ts, t, c) := a.2.makeBand { x with c := a.2, t := a.1, ji := ji } b a.1
        (t.setJoin { ji with made := ji.made ++ ts, done := ji.done ++ [b] }, c)) (t, c)

/-- The joins of a layer and of the head section make what they can. -/
def Chip.fireLayer (c : Chip) (t : Step) (pl : PlanD) (draft : Bool) (layer : Nat) : Step × Chip :=
  pl.allJ.foldl (fun (a : Step × Chip) j => a.2.fireJoin a.1 pl draft j (pl.joinLayer j layer)) (t, c)

end Sys2Proof.Machine
end

