-- ==== Sys2Proof/Machine/Streams.lean ====
section
/-!
DEFINITION. Streams of a running step (R57, R58, R64 to R76, R81 to R84, R93, R126 to R130, R151, R257 to R259): the
arrival of tiles, pleats and their damage, completions, deadlines, tier errors, and the step watchdog.
-/
namespace Sys2Proof.Machine

/-! Ending and abandoning (R58, R67, R75, R81, R83). -/

/-- R58, R67, R83: a stream ends with a status, and its step is abandoned and waits for a refit. -/
def Chip.breakStream (c : Chip) (t : Step) (i : StreamInst) (status : Nat) : Chip :=
  ((c.endStream t i status).abandonStep (t.setStream { i with closed := true, status := status })).wantRefit t.part

/-! Counts and credits (R65 to R67, R71, R75, R161). -/

/-- R67, R161: whether a tile or marker exceeds what its stream may deliver in its band. A KV page stream traverses a
band twice, with `COUNT` tiles at most in each. An end marker on a stream with `COUNT_MODE` 0, and a tile after the end
marker of its band, are excess too (DESIGN CHOICE, log entry 80). -/
def overCount (s : StreamD) (kv : Bool) (b : BandCnt) (kind : TagKind) : Bool :=
  let ended := decide ((if kv then 2 else 1) ≤ b.ends)
  match kind with
  | .anchors => false
  | .endMark => ended || !(kv || s.bounded)
  | _ => ended || decide (s.count ≤ b.tiles)

/-- R67, R161: whether a sink has all of a band. -/
def bandFull (s : StreamD) (kv : Bool) (b : BandCnt) : Bool :=
  if kv then decide (2 ≤ b.ends) else if s.bounded then decide (1 ≤ b.ends) else decide (s.count ≤ b.tiles)

/-- A tile, marker or anchor block counted in its band; an end marker of a KV page stream ends a traversal. -/
def SinkInst.count (k : SinkInst) (kv : Bool) (tag : TileTag) : SinkInst :=
  let b := k.band tag.band
  let b := match tag.kind with
    | .anchors => { b with anchors := b.anchors ++ [tag.colIndex] }
    | .endMark => { b with ends := b.ends + 1, tiles := if kv then 0 else b.tiles }
    | _ => { b with tiles := b.tiles + 1 }
  { k with bands := dropWhere (fun x => x.band == tag.band) k.bands ++ [b] }

/-- R65, R71: whether the source may send a tile to a sink: it has sent it to another sink already, or every sink has
granted a credit for it. An anchor block takes none (log entry 81). -/
def StreamInst.maySend (i : StreamInst) (k : SinkInst) (kind : TagKind) : Bool :=
  kind == .anchors || decide (k.got < i.sent) || i.sinks.all (fun y => decide (1 ≤ y.credits))

/-- R65, R71: a tile sent: a new one takes a credit of every sink. -/
def StreamInst.send (i : StreamInst) (k : SinkInst) (kind : TagKind) : StreamInst :=
  if kind == .anchors || decide (k.got < i.sent) then i
  else { i with sent := i.sent + 1, sinks := i.sinks.map (fun y => { y with credits := y.credits - 1 }) }

/-- The tiles and markers that have reached every sink (R65). -/
def StreamInst.reached (i : StreamInst) : Nat :=
  match i.sinks.map SinkInst.got with
  | [] => i.sent
  | a :: l => l.foldl min a

/-- R65, R71, R75: a tile or marker taken by a sink: its credit returns, unless the tile stays in its input slot, and it is
delivered once every sink has it. The flags of the stream are those of the tiles that it carried, which the join at its
source produced (DEDUCED, log entry 73). -/
def StreamInst.take (i : StreamInst) (k : SinkInst) (kv stays : Bool) (tag : TileTag) : StreamInst :=
  let k := { k.count kv tag with withheld := none }
  let i := { i with flags := i.flags ||| tag.arithFlags }
  if tag.kind = .anchors then i.setSink k
  else
    let slot := stays && tag.kind == .data
    let j := i.setSink { k with got := k.got + 1, credits := if slot then k.credits else k.credits + 1,
                                slots := if slot then k.slots + 1 else k.slots }
    if i.reached < j.reached then
      { j with delivered := if tag.kind = .data then j.delivered + 1 else j.delivered,
               suppressed := if tag.kind = .skip then j.suppressed + 1 else j.suppressed }
    else j

/-! What a sink does with a tile (R57, R58, R139, R156, R198). -/

/-- R160: whether the stream is the KV page stream of an ATTEND join. -/
def SrcCtx.kv (x : SrcCtx) : Bool := x.pl.isKv x.s

/-- The domain that produces the tiles of a stream (R83). -/
def Step.srcDomain (t : Step) (s : StreamD) : Nat := keyDomain (t.station s.src)

/-- R156, R139: the new keys or values of a band written to the pages of their sequences by an ST endpoint. -/
def Chip.storeKv (c : Chip) (x : JoinCtx) (band : Nat) (isV : Bool) : Chip :=
  let l := c.layer x.t.part x.draft x.lay
  ((x.rowMap band).zipIdx).foldl (fun c r =>
    let (seg, pos, e) := r.1
    match (x.t.segs[seg]?).bind (fun g => c.seq g.requestId) with
    | none => c
    | some s =>
      match s.pages.find? (fun p => p.draft == x.draft && p.layer == x.lay && decide (p.posBase ≤ pos) &&
          decide (pos < p.posBase + kvTpp l)) with
      | none => c
      | some p =>
        match c.frameOf s.part p with
        | none => c
        | some f =>
          let kv := (x.newKv l band r.2 pos e.pad).1
          let row := if isV then kv.v else kv.k
          let m := writeEntry l f.bytes isV (attendHead x.j) (pos - p.posBase) (codedBytes row)
            (row.scales.map (fun n => BitVec.ofNat 8 n))
          c.setFrame { f with bytes := m }) c

/-- R57, R66, R74: what an ST endpoint writes of a tile: its untagged bytes; a skip marker is a tile of zeros. -/
def stBytes (t : Tile) : Option (List Byte) :=
  match t.tag.kind with
  | .data => some t.bytes
  | .skip => some (List.replicate (fmtTileBytes t.tag.fmt) 0#8)
  | _ => none

/-- R57: an ST endpoint takes a tile: new keys and values go to their pages, other tiles to the stream's tier. -/
def SrcCtx.store (x : SrcCtx) (tile : Tile) : Step × Chip :=
  match x.pl.allJ.find? (fun j => j.kind == 3 && attendOut j == x.s.id), stBytes tile with
  | some j, some _ => (x.t, x.c.storeKv (x.joinCtx j) tile.tag.band (tile.tag.tileIndex % max 1 x.s.count == 1))
  | none, some bs =>
    let a := x.s.addr x.lay tile.tag.tileIndex
    let old := dropWhere (fun (k : Scratch) => k.stream == x.s.id && k.layer == x.layer && k.addr == a) x.t.scratch
    ({ x.t with scratch := old ++ [⟨x.s.id, x.layer, x.s.tier, x.s.region, a, bs⟩] }, x.c)
  | _, none => (x.t, x.c)

/-- R131: the code table of an activation tile that the plan sends over the fabric, and the threshold. -/
def SrcCtx.actTable (x : SrcCtx) (tile : Tile) : Option (CodeTable × Nat) :=
  x.model.bind (fun m =>
    let ps := imgPleat m
    let n := if tile.tag.fmt = 0 then ps.act4 else ps.act8
    if m.pleatWords.isEmpty ∨ 2 ≤ tile.tag.fmt ∨ tile.tag.kind ≠ .data then none
    else (ps.tables.find? (fun t => t.tid == n)).map (fun t => (t, ps.threshold)))

/-- R131, R134: an MV channel's egress compressor at an activation tile: its blocks with their headers leave for the fabric, at
`CODEC` 0 while PD_EMB is down. A tile outside that path leaves as it is. -/
def SrcCtx.compress (x : SrcCtx) (tile : Tile) : Step × Chip :=
  let send := fun (bs : List (W64 × List Byte)) =>
    { x.t with payloads := x.t.payloads ++ [⟨x.s.id, x.layer, tile.tag.band, tile.tag.tileIndex, bs⟩] }
  match x.actTable tile with
  | none => (if tile.tag.kind = .data then send [(0, tile.bytes)] else x.t, x.c)
  | some (tab, pct) =>
    if x.c.domUp 6 then
      let bs := pleatUnit (some tab) tile.tag.fmt pct tile.bytes
      (send bs, ((x.c.bumpBy (Reg.movPlt 4) tile.bytes.length).bumpBy (Reg.movPlt 5) (sumN (bs.map (fun b => b.2.length)))).bumpBy
        (Reg.movPlt 6) (bs.filter (fun b => (pleatHdrOf b.1).codec == 0)).length)
    else
      let bs := pleatUnit none tile.tag.fmt pct tile.bytes
      (send bs, x.c.bumpBy (Reg.movPlt 7) bs.length)

/-- R71, R82: whether a data tile stays in the input slots of a sink: the join's station still serves an older step (DEDUCED,
log entry 95). -/
def SrcCtx.slotHeld (x : SrcCtx) (sink : Nat) : Bool :=
  (x.pl.consumer x.s sink).isSome && x.c.stationWaits x.t (x.t.station sink)

/-- R71: the credits of the tiles that have left their input slots since. -/
def SrcCtx.slotsFreed (x : SrcCtx) (i : StreamInst) : StreamInst :=
  { i with sinks := i.sinks.map (fun k =>
      if k.slots = 0 || x.slotHeld k.role then k else { k with credits := k.credits + k.slots, slots := 0 }) }

/-- R58, R68: a sink takes a tile: it reads the rows and columns that are valid, and its join runs when it can. -/
def SrcCtx.accept (x : SrcCtx) (i : StreamInst) (sink : Nat) (tile : Tile) : Chip :=
  let tile := if tile.tag.kind = .data then { tile with bytes := validTile tile.tag.fmt tile.tag.rows tile.tag.cols tile.bytes } else tile
  let t := x.t.setStream (i.take (i.sink sink) x.kv (x.slotHeld sink) tile.tag)
  let x := { x with t := t }
  match x.pl.consumer x.s sink with
  | some j =>
    let l := x.pl.joinLayer j x.layer
    let ji := t.join j.id l
    let pos := ((findIdx1 (fun k => k == x.s.id) j.inputs).map Prod.fst).getD 0
    let t := t.setJoin { ji with held := ji.held ++ [(pos, tile)] }
    let (t, c) := (x.c.setStep t).fireJoin t x.pl x.draft j l
    (c.setStep t).driveGathers t.part
  | none =>
    if roleKind sink = 9 then
      let (t, c) := x.store tile
      c.setStep t
    else if roleKind sink = 10 then
      let (t, c) := x.compress tile
      c.setStep t
    else x.c.setStep t

/-! Staged copies (R93, R126, R254). -/

/-- R93, R253: the key of the staged copy of a tile of a stream. -/
def SrcCtx.stagedKey (x : SrcCtx) (index place bytes : Nat) : Staged :=
  { draft := x.draft, plan := x.pl.id, stream := x.s.id, layer := x.lay, index := x.slot index, place := place, bytes := bytes }

/-- R93, R253: whether the read of a tile finds a staged copy. -/
def SrcCtx.fromCopy (x : SrcCtx) (index : Nat) : Bool :=
  let k := x.stagedKey index 0 0
  x.t.staged.any (Staged.is k) || (x.c.part x.t.part).staged.any (Staged.is k)

/-- R126, R254: the staged copies of a tile are discarded. -/
def SrcCtx.discardCopy (x : SrcCtx) (index : Nat) : SrcCtx :=
  let k := x.stagedKey index 0 0
  let c := (x.c.dropStaged x.t.part (Staged.is k)).bumpBy (Reg.movCnt 7) (x.t.staged.filter (Staged.is k)).length
  { x with c := c, t := { x.t with staged := dropWhere (Staged.is k) x.t.staged } }

/-- R70, R93: the bytes of the partition's share of a quadrant buffer that no running step needs and no copy takes. -/
def Chip.t0Room (c : Chip) (p q : Nat) : Nat :=
  let share := (((c.qbufShares p).find? (fun s => s.1 == q)).map Prod.snd).getD 0
  let mine := c.work.steps.filter (fun u => u.part == p && !u.abandoned)
  share - (sumN (mine.map (fun u => match c.passPlan u, c.model p u.passPlan.2 with
      | some pl, some m => qbufNeed m pl u.roleQuad q
      | _, _ => 0)) +
    sumN ((mine.map (fun u => (u.staged.filter (fun k => k.place == q)).map Staged.bytes)).flatten))

/-- R112, R93: the bytes that a tile takes in the quadrant buffer: a pleated one its coded blocks, each rounded up to 64
bytes. -/
def heldBytes (raw : Nat) (hdrs : List W64) : Nat :=
  if hdrs.isEmpty then raw
  else sumN (((hdrs.take (blockLens raw).length)).map (fun w => 64 * cdiv (pleatHdrOf w).codedLen 64))

/-- R93: an MX-P station's W tile that an LD endpoint reads from T1 is staged in the quadrant buffer; without room, each later
need of the step reads it from T1 again. DESIGN CHOICE (log entry 96): the quadrant that counts is the LD endpoint's. -/
def SrcCtx.stage (x : SrcCtx) (sink : Nat) (tile : Tile) (hdrs : List W64) : SrcCtx :=
  if !(x.isLd && x.s.tier == 1 && x.pl.isW x.s && tile.tag.kind == .data && keyKind (x.t.station sink) == 1) then x
  else if x.fromCopy tile.tag.tileIndex then x
  else
    let q := x.t.roleQuad x.s.src
    let n := heldBytes (x.rawLen tile.tag.tileIndex) hdrs
    if n ≤ x.c.t0Room x.t.part q then
      let t := { x.t with staged := x.t.staged ++ [x.stagedKey tile.tag.tileIndex q n] }
      { x with t := t, c := x.c.setStep t }
    else if x.t.unstaged.any (Staged.is (x.stagedKey tile.tag.tileIndex q n)) then { x with c := x.c.bump (Reg.mxCnt q 7) }
    else
      let t := { x.t with unstaged := x.t.unstaged ++ [x.stagedKey tile.tag.tileIndex q n] }
      { x with t := t, c := x.c.setStep t }

/-! Pleats (R96, R112, R114, R120 to R128). -/

/-- R121: whether the tiles of the stream pass the expander of an MV channel: activation payloads that come over the
fabric. Others pass that of the sink's port. -/
def SrcCtx.byMv (x : SrcCtx) : Bool := roleKind x.s.src == 10

/-- R120, R135, R136: the counters of the blocks that an expander passes, from block `a` on, `n` of them. DESIGN CHOICE (log
entry 97): a block of codec 0 adds no coded bytes. -/
def SrcCtx.passBlocks (x : SrcCtx) (sink raw : Nat) (hs : List W64) (a n : Nat) : Chip :=
  let q := x.t.roleQuad sink
  let lens := ((blockLens raw).drop a).take n
  let mine := (hs.drop a).take lens.length
  let coded := mine.filter (fun w => (pleatHdrOf w).codec != 0)
  if x.byMv then x.c.bumpBy (Reg.movPlt 0) coded.length
  else
    (((x.c.bumpBy (Reg.pltCnt q 0) coded.length).bumpBy (Reg.pltCnt q 1) (mine.length - coded.length)).bumpBy (Reg.pltCnt q 2)
      (sumN (coded.map (fun w => (pleatHdrOf w).codedLen)))).bumpBy (Reg.pltCnt q 3) (sumN lens)

/-- R126, R127, R135, R136: the count of damaged blocks (0), refetches (1) or failed refetches (2) of an expander. -/
def SrcCtx.damageCnt (x : SrcCtx) (sink i : Nat) : Nat := if x.byMv then Reg.movPlt (1 + i) else Reg.pltCnt (x.t.roleQuad sink) (5 + i)

/-- A tile withheld at a sink (R126, R258). -/
def SrcCtx.withhold (x : SrcCtx) (i : StreamInst) (sink : Nat) (w : Withheld) : Chip :=
  x.c.setStep (x.t.setStream (i.setSink { i.sink sink with withheld := some w }))

/-- R61, R127: whether the stream carries the weights that the partition shares. -/
def SrcCtx.isWeights (x : SrcCtx) : Bool := x.isLd && x.pl.readOnly x.s && decide (x.s.lateClass ≤ 1)

/-- R259: the read of a block from a pool region named as the second source; its outcome comes with
SECOND_SOURCE_READ_COMPLETES. A board copy is read in place, and a host source as the image itself was pulled (log entry
106). -/
def SrcCtx.readSecond (x : SrcCtx) (d : SrcDesc) (w : Withheld) : Chip :=
  let at_ := match x.model with
    | some m => imgTileAddr m x.pl.id x.s x.lay (w.tile.tag.tileIndex % max 1 x.s.count) + 4096 * w.block
    | none => 0
  let (st, g) := x.c.findGrant d.device d.region
  if d.kind ≠ 1 ∨ st ≠ stOk then x.c
  else
    (x.c.issue g x.t.part .read 0 (d.offset + at_) 4096
      (.read { region := d.region, readTag := 0, offset := d.offset + at_, length := 4096, rsvd := 0 }) [] none (0, 0) .second).2

/-- R259, R432: whether the board copy of a block cannot be read: PD_BMEM is not UP, or it lies on a marked line. -/
def SrcCtx.secondBad (x : SrcCtx) (d : SrcDesc) (w : Withheld) : Bool :=
  match x.model with
  | some m => d.kind == 2 && (!x.c.domUp 5 || x.c.lineBad 2 ((x.c.t2Share x.t.part).1 + d.offset +
      imgTileAddr m x.pl.id x.s x.lay (w.tile.tag.tileIndex % max 1 x.s.count) + 4096 * w.block) 4096)
  | none => false

/-- R258, R259: a weight block is lost at its home: the second source is read, or the partition loses its
weights. -/
def SrcCtx.weightBad (x : SrcCtx) (i : StreamInst) (sink : Nat) (w : Withheld) : Chip :=
  match (x.c.decl x.t.part).map (fun d => if x.draft then d.draft2 else d.base2) with
  | some d =>
    if d.kind = 0xFF then (x.c.endStream x.t i stWeightLost).loseWeights x.t.part
    else
      let c := (x.c.bump (Reg.movCnt 12)).log { code := 0x0804, refKind := 3, ref := x.s.id, part := x.t.part }
      let c := { x with c := c }.readSecond d w
      { x with c := c }.withhold i sink { w with attempts := 2 }
  | none => x.c.loseWeights x.t.part

/-- R127: a block that its home does not give whole: the outcome of its kind. -/
def SrcCtx.blockBad (x : SrcCtx) (i : StreamInst) (sink : Nat) (w : Withheld) (status : Nat) : Chip :=
  if x.isWeights then x.weightBad i sink w
  else (x.c.endStream x.t i stDamaged).endSegs x.t status

/-- R126: a block is damaged. The record's domain and `REF` are those of the station or channel, and `PARAM1` holds the
cause in bits 63:60 and the block's tier address below (log entry 64). The block is read once more from its home. -/
def SrcCtx.damaged (x : SrcCtx) (i : StreamInst) (sink : Nat) (tile : Tile) (hdrs : List W64) (block cause : Nat) : Chip :=
  let k := x.t.station (if x.byMv then x.s.src else sink)
  let addr := match x.model with
    | some m => imgTileAddr m x.pl.id x.s x.lay (tile.tag.tileIndex % max 1 x.s.count) + 4096 * block
    | none => 4096 * block
  let x := if x.fromCopy tile.tag.tileIndex then x.discardCopy tile.tag.tileIndex else x
  let c := x.c.log { code := 0x2005, domain := some (keyDomain k), refKind := 3, ref := k, part := x.t.part,
                     param1 := cause * 2 ^ 60 + addr }
  { x with c := c.bump (x.damageCnt sink 1) }.withhold i sink ⟨tile, hdrs, block, 1⟩

/-- R96, R120, R121, R123, R125 to R127: a pleated tile passes its expander, from the block that was read again on if
there is one. -/
def SrcCtx.expand (x : SrcCtx) (i : StreamInst) (sink : Nat) (tile : Tile) (hdrs : List W64) (again : Option Nat) : Chip :=
  match x.model with
  | none => x.accept i sink tile
  | some m =>
    let fmt := if x.byMv then tile.tag.fmt else x.tileFmt tile.tag.tileIndex
    let raw := if x.byMv then fmtTileBytes fmt else x.rawLen tile.tag.tileIndex
    let hs := x.headers tile.tag.tileIndex hdrs
    let a := again.getD 0
    match expandUnit (imgPleat m) fmt raw hs (slotCoded raw hs tile.bytes) with
    | .ok bs =>
      let y := { x with c := x.passBlocks sink raw hs a (blockLens raw).length }
      y.accept i sink (if x.byMv then { tile with bytes := bs } else x.clearRows (x.unskip tile bs))
    | .error e =>
      let y := { x with c := (x.passBlocks sink raw hs a (e.1 - a)).bump (x.damageCnt sink 0) }
      if again = some e.1 then
        { y with c := y.c.bump (y.damageCnt sink 2) }.blockBad i sink ⟨tile, hdrs, e.1, 1⟩ stDamaged
      else y.damaged i sink tile hdrs e.1 e.2

/-- A tile on its way into a sink: expanded, put back into the layout of R31, or as it is. -/
def SrcCtx.open_ (x : SrcCtx) (i : StreamInst) (sink : Nat) (tile : Tile) (hdrs : List W64) : Chip :=
  if tile.tag.kind ≠ .data ∨ x.kv then x.accept i sink tile
  else if x.isLd then
    if x.s.pleated then x.expand i sink tile hdrs none else x.accept i sink (x.unskip tile tile.bytes)
  else if x.byMv ∧ !hdrs.isEmpty ∧ tile.tag.fmt ≤ 1 then x.expand i sink tile hdrs none
  else x.accept i sink tile

/-! Tier errors (R151, R258, R259). -/

/-- R151: whether a segment of a step reads pages of the base or the draft model. -/
def Seg.reads (g : Seg) (t : Step) (draft : Bool) : Bool :=
  match g.work with
  | .round => true
  | .draftPrompt => draft
  | .recompute => t.passPlan.2 == draft
  | _ => !draft

/-- R127, R151: a page found bad: the requests whose running step needs it end; every other sequence that holds it
gives it up and recomputes. -/
def Chip.pageLost (c : Chip) (f : Frame) : Chip :=
  let c := c.pageBad f
  let holds := c.work.seqs.filter (fun s => s.part == f.part && s.pages.any (fun p => p.quad == f.quad && p.idx == f.idx))
  let needs := fun (s : Seq) => s.running && c.work.steps.any (fun t => t.part == f.part && t.segs.any (fun g =>
    g.requestId == s.requestId && g.reads t f.draft))
  let (run, idle) := holds.partition needs
  let c := idle.foldl (fun c s =>
    let refs := s.pages.filter (fun p => p.quad == f.quad && p.idx == f.idx)
    (c.releaseAll s.part refs).setSeq { s with pages := s.pages.filter (fun p => !refs.contains p), recompute := true,
                                               started := false }) c
  (run.filterMap (fun s => c.seq s.requestId)).foldl (fun c s => c.failSeq s (if f.state = 3 then stDamaged else stUncorrectable)) c

/-- R151, R258: an uncorrectable tier error of a tile on its way to a sink. A staged copy is discarded, and the reader
goes to the home. -/
def SrcCtx.tierFault (x : SrcCtx) (i : StreamInst) (sink : Nat) (tile : Tile) (hdrs : List W64) : Chip :=
  let x := { x with c := (x.c.bump (Reg.movCnt 13)).log { code := 0x0802, refKind := 3, ref := x.s.id, part := x.t.part } }
  if x.fromCopy tile.tag.tileIndex then
    let y := x.discardCopy tile.tag.tileIndex
    y.c.setStep y.t
  else
    match (x.pl.consumer x.s sink).filter (fun _ => x.kv) with
    | some j =>
      let jc := x.joinCtx j
      let n := ((i.sink sink).band tile.tag.band).tiles
      (match ((jc.kvTiles tile.tag.band)[n]?).bind jc.kvPage with
       | some (_, f) => x.c.pageLost f
       | none => x.c)
    | none =>
      if x.isWeights then x.weightBad i sink ⟨tile, hdrs, 0, 2⟩
      else x.c.endSegs x.t stUncorrectable

/-! Arrival (R57, R58, R67, R71, R83). -/

/-- The stream and layer of a running step that a tag names. -/
def Chip.tileStream (c : Chip) (p : Nat) (tag : TileTag) : Option SrcCtx :=
  (c.step? p tag.stepSeq).bind (fun t =>
    if t.abandoned then none
    else (c.passPlan t).bind (fun pl =>
      (pl.stream tag.streamId).bind (fun s =>
        if tag.planId = pl.id ∧ (pl.inHead s.id || pl.order.contains tag.layer) then
          some { c := c, t := t, pl := pl, draft := t.passPlan.2, s := s, layer := t.entryOf pl s.id tag.layer }
        else none)))

/-- R255: the first stream of a layer entry to launch issues the fetches of a later entry. -/
def SrcCtx.launch (x : SrcCtx) : SrcCtx :=
  if x.pl.inHead x.s.id || x.t.streams.any (fun i => !x.pl.inHead i.id && i.layer == x.layer) then x
  else
    let (t, c) := x.c.prefetchNext x.t x.pl x.layer
    { x with t := t, c := c }

/-- R57, R83: the epoch and the shape that make a sink discard a tile, with the status that its stream ends with. -/
def SrcCtx.refused (x : SrcCtx) (k : SinkInst) (tag : TileTag) : Option Nat :=
  if tag.resetEpoch ≠ x.c.domEpoch (x.t.srcDomain x.s) then some stReset
  else if (tag.kind = .data && (tag.rows == 0 || tag.cols == 0)) || overCount x.s x.kv (k.band tag.band) tag.kind then some stMalformed
  else none

/-- R53, R65, R71, R93: a tile that the source sends to a sink: the credits it takes, the copy that its read leaves, and
what an LD endpoint raises. -/
def SrcCtx.send (x : SrcCtx) (i : StreamInst) (sink : Nat) (tile : Tile) (hdrs : List W64) : SrcCtx × StreamInst :=
  let k := i.sink sink
  let new := if tile.tag.kind = .anchors then i.sinks.all (fun y => !x.ledAlready y tile.tag) else !decide (k.got < i.sent)
  let x := x.launch
  let x := if new then x.stage sink tile (if x.s.pleated then x.headers tile.tag.tileIndex hdrs else []) else x
  let key := x.t.station x.s.src
  let c := if new then x.c.raise (x.t.roleQuad x.s.src) (flagKind key) (keyDomain key) (x.anchorCnt tile) else x.c
  ({ x with c := c.setStep x.t }, i.send k tile.tag.kind)

/-- TILE_ARRIVES (R57, R58, R67, R71, R83, R126, R258, R431). What a pleated tile carries, as it was read, comes with the
command where it brings bytes. -/
def tileArrives (c : Chip) (p sink : Nat) (tile : Tile) (hdrs : List W64) (tierError : Bool) : Chip :=
  match c.tileStream p tile.tag with
  | none => c
  | some x =>
    let i := x.slotsFreed (x.t.stream x.pl x.s x.layer)
    let k := i.sink sink
    if i.closed || !(x.pl.sinksOf x.s).contains sink || k.withheld.isSome then c
    else match x.refused k tile.tag with
      | some st => (if st = stReset then c.bump (Reg.pwrCnt 0) else c).breakStream x.t i st
      | none =>
        let (t, c1) := c.fireLayer x.t x.pl x.draft x.layer
        let x := { x with c := c1.setStep t, t := t }
        match x.sent sink k tile with
        | none => x.c
        | some made =>
          if !i.maySend k made.tag.kind then x.c
          else
            let read := if x.isLd && x.s.pleated && made.tag.kind == .data && !tile.bytes.isEmpty then { made with bytes := tile.bytes } else made
            if tierError && x.isLd && (read.tag.kind == .data || read.tag.kind == .anchors) then x.tierFault i sink read hdrs
            else if tierError && roleKind x.s.src == 7 then
              let c := (x.c.bump (Reg.movCnt 13)).log { code := 0x0802, refKind := 3, ref := x.s.id, part := p }
              (c.endStream x.t i stUncorrectable).endSegs x.t stUncorrectable
            else
              let (x, j) := x.send i sink read hdrs
              x.open_ j sink read hdrs

/-- R126: a tile with a block read again: the block's bytes from the home, or the image's where the command brings
none. -/
def SrcCtx.withBlock (x : SrcCtx) (w : Withheld) (bytes : List Byte) (hdrs : List W64) : Withheld :=
  let raw := if x.byMv then fmtTileBytes w.tile.tag.fmt else x.rawLen w.tile.tag.tileIndex
  let len := (blockLens raw).getD w.block 0
  let home := match x.stored w.tile.tag.tileIndex with
    | .known b => (b.drop (4096 * w.block)).take len
    | _ => []
  let new := ((if bytes.isEmpty then home else bytes) ++ List.replicate len 0#8).take len
  let old := (w.tile.bytes ++ List.replicate raw 0#8).take (max raw w.tile.bytes.length)
  let hs := match hdrs with
    | h :: _ => (x.headers w.tile.tag.tileIndex w.hdrs).set w.block h
    | [] => (x.headers w.tile.tag.tileIndex w.hdrs).set w.block ((x.headers w.tile.tag.tileIndex []).getD w.block 0#64)
  { w with tile := { w.tile with bytes := old.take (4096 * w.block) ++ new ++ old.drop (4096 * w.block + len) }, hdrs := hs }

/-- PLEAT_REFETCH_COMPLETES (R126, R127): the block read again from its home: of a tile, or of a move that names its
source and its number. -/
def pleatRefetch (c : Chip) (p sink : Nat) (move : Option (Nat × Nat)) (tile : Tile) (hdrs : List W64) (tierError : Bool) : Chip :=
  match move, c.tileStream p tile.tag with
  | some m, _ => moveRefetched c m.1 m.2 tile.bytes hdrs tierError
  | none, none => c
  | none, some x =>
    let i := x.t.stream x.pl x.s x.layer
    match (i.sink sink).withheld.filter (fun w => w.attempts == 1 && w.tile.tag.tileIndex == tile.tag.tileIndex) with
    | none => c
    | some w =>
      if i.closed then c
      else if tierError then x.tierFault i sink w.tile w.hdrs
      else
        let v := x.withBlock w tile.bytes hdrs
        x.expand i sink v.tile v.hdrs (some w.block)

/-- SECOND_SOURCE_READ_COMPLETES (R259): the block serves the stream again, or the partition loses its
weights. -/
def secondSourceRead (c : Chip) (p : Nat) (draft : Bool) (stepSeq streamId layer status : Nat) : Chip :=
  match c.step? p stepSeq with
  | none => c
  | some t =>
    match c.passPlan t with
    | none => c
    | some pl =>
      match pl.stream streamId with
      | none => c
      | some s =>
        let i := t.stream pl s (t.entryOf pl streamId layer)
        let waits := fun (k : SinkInst) => k.withheld.any (fun w => w.attempts == 2)
        let x : SrcCtx := { c := c, t := t, pl := pl, draft := draft, s := s, layer := t.entryOf pl streamId layer }
        let bad := (c.decl p).any (fun d => i.sinks.any (fun k => waits k &&
          k.withheld.any (fun w => x.secondBad (if draft then d.draft2 else d.base2) w)))
        if t.abandoned || t.passPlan.2 != draft || !i.sinks.any waits then c
        else if bad then
          let c := if c.domUp 5 then ((c.bump (Reg.movCnt 13)).eccBad 2).log { code := 0x0802, refKind := 3, ref := s.id, part := p } else c
          (c.endStream t i stWeightLost).loseWeights p
        else if status = stOk then
          c.setStep (t.setStream { i with sinks := i.sinks.map (fun k => if waits k then { k with withheld := none } else k) })
        else (c.endStream t i stWeightLost).loseWeights p

/-! Completion, deadlines and the watchdog (R75, R76, R84, R257). -/

/-- R67, R75: whether the stream has delivered all of its bands to every sink. -/
def SrcCtx.done (x : SrcCtx) (i : StreamInst) : Bool :=
  match x.bandTotal with
  | none => false
  | some n => i.sinks.all (fun k => k.withheld.isNone && (upTo n).all (fun b => bandFull x.s x.kv (k.band b)))

/-- The stream of a running step that a command names. -/
def Chip.stepStream (c : Chip) (p stepSeq streamId layer : Nat) : Option SrcCtx :=
  (c.step? p stepSeq).bind (fun t => (c.passPlan t).bind (fun pl => (pl.stream streamId).bind (fun s =>
    if t.abandoned then none
    else some { c := c, t := t, pl := pl, draft := t.passPlan.2, s := s, layer := t.entryOf pl streamId layer })))

/-- R361: a stream's completion advances the counters of the lists that were bound to it at the step's launch (log entry
108: which lists is a free value). -/
def Chip.advanceBound (c : Chip) (bs : List (Nat × Nat)) (id : Nat) : Chip :=
  (bs.filter (fun b => b.1 == id)).foldl (fun c b => c.wlAdvance (b.2 % 4096) 1) c

/-- R75, R129, R130, R288: what a completed stream leaves: its record, the lists bound to it (R361), its stall counts, and the new pages of its layer
for a handoff (R261). A wait past the deadline of an embedding stream is counted in H-cycles, 16 for every 3 L-units
(log entry 82). -/
def SrcCtx.complete (x : SrcCtx) (i : StreamInst) (credit anchor expander tier : Nat) : Chip :=
  let p := x.t.part
  let c := x.c.complete p { i.record stOk with credit := credit, anchor := anchor, expander := expander, tier := tier }
  let t := x.t.setStream { i with closed := true }
  let c := (c.setStep t).advanceBound t.bound x.s.id
  let q := t.roleQuad ((x.pl.sinksOf x.s).headD x.s.sink)
  let c := if x.s.pleated then c.bumpBy (Reg.pltCnt q 4) expander else c
  let c := if expander = 0 then c
    else c.log { code := 0x2006, domain := some (16 + q), refKind := 3, ref := x.s.id, part := p, param1 := min expander 0xFFFFFFFF }
  let c := if x.s.lateClass = 3 then c.bumpBy (Reg.embCnt 6) (16 * tier / 3) else c
  let kvOut := x.pl.allJ.any (fun j => j.kind == 3 && attendOut j == x.s.id)
  if kvOut && kvLayerDone x.pl t x.layer then t.segs.foldl (fun c g => c.handoffCommit g.requestId) c else c

/-- STREAM_COMPLETES (R75, R130, R261). -/
def streamCompletes (c : Chip) (p stepSeq streamId layer credit anchor expander tier : Nat) : Chip :=
  match c.stepStream p stepSeq streamId layer with
  | none => c
  | some x =>
    let i := x.t.stream x.pl x.s x.layer
    if i.closed || !x.done i then c else x.complete i credit anchor expander tier

/-- R81, R193, R257: the draft passes of a round are abandoned; its main pass runs with k = 0, under the plan that such a step
runs and on the mapping that it launched with. -/
def Chip.dropDrafts (c : Chip) (t : Step) : Chip :=
  let c := c.closeStreams t stReset
  let fits := t.fits
  let (t, c) := c.settleStep { t with segs := t.segs.map (fun g => { g with k := 0, props := [], rows := g.rows.take 1 }) }
  let t := { t with fits := fits }
  if t.segs.isEmpty then c.dropStep t else (c.setStep t).beginPass t 0 0

/-- R257: the sequence that a late KV stream waits for: the one whose page its first undelivered tile reads. -/
def SrcCtx.lateSeq (x : SrcCtx) : Option Seq :=
  let sink := (x.pl.sinksOf x.s).headD x.s.sink
  (x.pl.consumer x.s sink).bind (fun j =>
    let jc := x.joinCtx j
    ((((upTo ((x.bandTotal).getD 0)).map (fun b => jc.kvTiles b)).flatten.head?).bind jc.kvPage).map Prod.fst)

/-- R257: the step goes on without the sequence whose restored pages are late, and that sequence is recomputed. -/
def SrcCtx.dropLate (x : SrcCtx) (c : Chip) : Chip :=
  match x.lateSeq with
  | none => c
  | some q =>
    let c := c.relaunch x.t stReset [q.requestId]
    match c.seq q.requestId with
    | some q =>
      let c := (c.releaseAll q.part q.pages).setSeq { q with pages := [], swapped := [], recompute := true, started := false, running := false }
      (match c.seq q.requestId with
       | some q => (c.dequeueSeq q.requestId).enqueueSeq q true
       | none => c)
    | none => c

/-- STREAM_DEADLINE (R76, R257, R288): an LD stream, or an embedding stream of `LATE_CLASS` 3, that has delivered
nothing by its deadline. -/
def streamDeadline (c : Chip) (p stepSeq streamId layer : Nat) : Chip :=
  match c.stepStream p stepSeq streamId layer with
  | none => c
  | some x =>
    let i := x.t.stream x.pl x.s x.layer
    let late : EvArgs := { code := 0x0801, refKind := 3, ref := streamId, part := p }
    if x.s.deadline == 0 || !(x.isLd || (roleKind x.s.src == 7 && x.s.lateClass == 3)) || i.closed || i.delivered + i.suppressed != 0 then c
    else if x.s.lateClass = 0 then (c.bump (Reg.movCnt 9)).log late
    else if x.s.lateClass = 1 then
      let c := c.bump (Reg.movCnt 10)
      if x.draft && x.t.passes != 0 then c.dropDrafts x.t else c
    else if x.s.lateClass = 2 then x.dropLate (c.bump (Reg.movCnt 11))
    else if roleKind x.s.src = 7 then
      (c.emb.gathers.filter (fun g => g.join.any (fun b => b.part == p && b.seq == stepSeq && b.layer == x.layer &&
        x.pl.allJ.any (fun j => j.id == b.join && j.out == streamId)))).foldl (fun c g => gatherDeadline c g.id 0) c
    else c.log late

/-- R84: the stations of a step that hold an undelivered input and granted credits: the sinks of streams of the layers
that have begun, or of the first layer entry, that lack tiles which the source has credits to send (log entry 83). -/
def Chip.stuckStations (c : Chip) (t : Step) (pl : PlanD) : List Nat :=
  let open_ := fun (s : StreamD) (l : Nat) =>
    let x : SrcCtx := { c := c, t := t, pl := pl, draft := t.passPlan.2, s := s, layer := l }
    let i := t.stream pl s l
    if i.closed || x.done i then [] else (i.sinks.filter (fun k => decide (1 ≤ k.credits))).map (fun k => t.station k.role)
  let begun := ((t.streams.map StreamInst.layer) ++ (pl.order.head?).toList).eraseDups
  let head := if pl.headS.any (fun s => t.streams.any (fun i => i.id == s.id)) then pl.headS.map (fun s => open_ s 0) else []
  ((begun.map (fun l => pl.streams.map (fun s => open_ s l))).flatten ++ head).flatten.eraseDups

/-- STEP_WATCHDOG (R84). -/
def stepWatchdog (c : Chip) (p stepSeq : Nat) : Chip :=
  match c.step? p stepSeq with
  | none => c
  | some t =>
    if t.abandoned then c
    else
      let c := c.log { code := 0x0408, refKind := 3, ref := stepSeq, part := p }
      if !t.retried then c.relaunch { t with retried := true } stReset []
      else
        match c.passPlan t with
        | none => c
        | some pl => (c.stuckStations t pl).foldl (fun c k => c.fence k 3) c

end Sys2Proof.Machine
end

