-- ==== Sys2Proof/Machine/Commit.lean ====
section
/-!
DEFINITION. The COMMIT join (R19, R74, R143, R148, R177, R188, R191, R194, R202 to R207, R229, R237,
R261 to R263, R266): committed lengths, pages, acceptance, stop tests, charges and emission.
-/
namespace Sys2Proof.Machine

/-! When a COMMIT join may end its step (R74). -/

/-- The instances of the COMMIT join of a pass: one in the head section, one per layer elsewhere. -/
def PlanD.commitJoins (pl : PlanD) : List (JoinD × Nat) :=
  match pl.allJ.find? (fun j => j.kind == 6) with
  | none => []
  | some j => if pl.headJ.any (fun h => h.id == j.id) then [(j, 0)] else pl.keys.map (fun l => (j, l))

/-- R201, R202: the samples of a segment that its pass owes. -/
def Seg.sampled (g : Seg) (n : Nat) : List (Nat × Nat × Bool) :=
  (upTo n).filterMap (fun i => g.samples.find? (fun x => x.1 == g.start + i + 1))

/-- R153: how many tokens a segment's COMMIT needs sampled. -/
def Chip.samplesDue (c : Chip) (g : Seg) : Nat :=
  match g.work with
  | .decode => 1
  | .round => g.k + 1
  | .chunk =>
    match c.seq g.requestId with
    | some s => if g.start + g.rows.length = s.table.length then 1 else 0
    | none => 0
  | _ => 0

/-- Whether what a segment owes has been sampled: the proposal of a draft pass, the tokens of the others. -/
def Chip.segSampled (c : Chip) (t : Step) (g : Seg) : Bool :=
  if t.passPlan.1 = 4 then c.passMore t || decide (min t.pass g.k ≤ g.props.length)
  else if t.kind = 3 ∨ t.kind = 5 ∨ t.kind = 6 then true
  else if g.work = .chunk then
    (match c.seq g.requestId with
     | some s => decide (g.start + g.rows.length < s.table.length) || g.samples.any (fun x => x.1 == s.table.length)
     | none => true)
  else decide ((g.sampled (c.samplesDue g)).length = c.samplesDue g)

/-- R74, R82: the COMMIT join has every input and the turn at its station, the new keys and values are written, and the
tokens are sampled. -/
def Chip.commitReady (c : Chip) (t : Step) (pl : PlanD) (draft : Bool) : Bool :=
  let js := pl.commitJoins
  let outs := (pl.allJ.filter (fun j => j.kind == 3)).map attendOut
  !js.isEmpty && js.all (fun y =>
    let x := c.joinAt t pl draft y.1 y.2
    (upTo t.bands).all x.bandDone && !c.stationWaits t x.station) &&
  pl.keys.all (fun l => outs.all (fun o => t.closed o (pl.layerKey o l))) &&
  t.segs.all (fun g => c.segSampled t g)

/-- R228: the values of a one-pass request: its last row of the FP32 tiles at the COMMIT join. -/
def Chip.onePassValues (c : Chip) (t : Step) (pl : PlanD) (seg : Nat) (pos : Nat) : List W32 :=
  (pl.commitJoins.map (fun y =>
    let x := c.joinAt t pl false y.1 y.2
    ((upTo t.bands).map (fun b =>
      match findIdx1 (fun (r : Nat × Nat × PosEnt) => r.1 == seg && r.2.1 == pos) (x.rowMap b) with
      | some (row, _) =>
        ((upTo y.1.inputs.length).map (fun i => ((x.data i b).map (fun ti => (upTo 128).map (f32At ti.bytes row))).flatten)).flatten
      | none => [])).flatten)).flatten.take 4096

/-! Emission and endings at the node. -/

/-- R203, R229: the tokens that a COMMIT yields, up to the first that stops the request. -/
def firstStop (f : Nat → Nat → Option Nat) : Nat → List (Nat × Nat × Bool) → List (Nat × Nat × Bool) × Option Nat
  | _, [] => ([], none)
  | i, t :: ts =>
    match f i t.2.1 with
    | some st => ([t], some st)
    | none =>
      let (l, r) := firstStop f (i + 1) ts
      (t :: l, r)

/-- R203: the stop test of the `i`-th token of a COMMIT, which has position `pos`. -/
def Chip.stopsAt (c : Chip) (s : Seq) (pos i tok : Nat) : Option Nat :=
  let m := c.model s.part false
  let eos := if s.stopEos then m.map ModelImage.eosToken else none
  let lim := c.ctxLimit s.part
  stopOf s.stop eos tok (s.maxNew ≤ i + 1) (pos + 1 == lim)

/-- R203, R263: tokens handed to the request scheduler of the anchor, or reported to it. -/
def Chip.handTokens (c : Chip) (s : Seq) (first next : Nat) (toks : List (Nat × Bool)) : Chip :=
  if s.anchor = c.deviceId then c.anchorTokens s.requestId first toks
  else c.sendReport s 1 stOk first next toks []

/-- R229, R231, R266: the sleeve of a request that a token stopped: kept for a resume, or freed. -/
def Chip.stopSleeve (c : Chip) (req status : Nat) : Chip :=
  match c.seq req with
  | none => c
  | some s =>
    let c := match c.moveSrc req with
      | some m => c.abortMove m stAborted
      | none => c
    if s.keep ∧ status = stOk then c.pauseStore s
    else
      let c := c.releaseSleeve req
      if s.anchor = c.deviceId then c.anchorFreed req else c.sendReport s 3 stOk 0 0 [] []

/-- R188, R205, R231, R264: a cancel or a pause that waited for this COMMIT. True when one took effect. -/
def Chip.takePending (c : Chip) (req : Nat) : Bool × Chip :=
  match c.seq req with
  | none => (true, c)
  | some s =>
    if s.cancelPend then
      (true, if s.anchor = c.deviceId then c.failSeq s stAborted else c.releaseOrphan req s.part)
    else if s.pausePend then
      let c := match c.moveSrc req with
        | some m => c.abortMove m stAborted
        | none => c
      (true, c.pauseNow { s with pausePend := false })
    else (false, c)

/-- What every COMMIT does to a sequence of its step (R177, R263). -/
def Chip.afterCommit (c : Chip) (s : Seq) : Seq :=
  { s with running := false, evictions := 0, lastCommit := c.time, progress := true }

/-! The work of a segment committed. -/

/-- R206, R207, R209: the adaptive draft state at the COMMIT of a decode. -/
def Chip.adaptDraft (c : Chip) (s : Seq) (k a n : Nat) : DraftState × Chip :=
  let ctl := c.specCtrl s.part
  let role := c.role == 2 || c.role == 4
  if 1 ≤ k then
    let (d, e) := draftVerify ctl s.draft k a
    let c := ((c.bump (Reg.partSpecCnt s.part 0)).bumpBy (Reg.partSpecCnt s.part 1) k).bumpBy (Reg.partSpecCnt s.part 2) a
    let c := if a = k then c.bump (Reg.partSpecCnt s.part 3) else if a = 0 then c.bump (Reg.partSpecCnt s.part 4) else c
    let c := if e.halved then c.bump (Reg.partSpecCnt s.part 5) else c
    let c := if e.disabled then (c.bump (Reg.partSpecCnt s.part 6)).log { code := 0x040E, refKind := 1, ref := s.requestId, part := s.part }
      else c
    (d, c)
  else if c.drafts s && role then
    let (d, e) := draftDisabledTokens ctl s.draft n
    (d, if e.retried then c.bump (Reg.partSpecCnt s.part 7) else c)
  else (s.draft, c)

/-- R191, R202 to R207, R229, R237: a decode row or a speculative round. -/
def Chip.commitDecode (c : Chip) (g : Seg) (s : Seq) : Chip :=
  let samples := g.sampled (g.k + 1)
  let a := leadingMatches (g.props.take g.k) (samples.map (fun x => x.2.1))
  let (toks, stop) := firstStop (fun i tok => c.stopsAt s (g.start + i + 1) i tok) 0 (samples.take (a + 1))
  let n := toks.length
  let (d, c) := c.adaptDraft s g.k a n
  let first := s.emitted
  let s := { c.afterCommit s with
    c := s.c + n, cd := if g.k = 0 then s.cd else min (s.c + n) (s.c + g.k), draft := d,
    table := s.table ++ toks.map (fun x => ⟨x.2.1, true, false⟩), emitted := s.emitted + n, maxNew := s.maxNew - n }
  let (s, c) := c.commitPages s s.c s.cd
  let c := ((c.setSeq s).charge s.customer (256 * (n - 1)) g.excess).handTokens s first 0 (toks.map (fun x => (x.2.1, x.2.2)))
  match stop with
  | some st => c.stopSleeve s.requestId st
  | none =>
    let (gone, c) := c.takePending s.requestId
    if gone then c
    else match c.seq s.requestId with
      | some s => c.enqueueSeq s false
      | none => c

/-- R9, R16, R19, R260, R262: the prompt pass has sampled token 0, and its request goes on here or is handed
off. R260 offers it when its first prompt step launches; a prompt device, and a mixed one whose decode point has filled
since, offer it here when they have not (DESIGN CHOICE, log entry 84: R16 does not say when the point must be full). With
no generation target it waits for room at the decode point. -/
def Chip.promptEnds (c : Chip) (s : Seq) (tok : Nat × Bool) : Chip :=
  let req := s.requestId
  let here := s.anchor == c.deviceId
  let c := if (c.moveSrc req).isNone && c.handsOff s && !s.cancelPend && !s.pausePend then c.offerHandoff s s.c else c
  let (goes, next) := if (c.moveSrc req).isSome then (true, 2) else (false, 1)
  if (c.seq req).isNone then c
  else
  let c := c.handTokens s (s.emitted - 1) next [tok]
  let (gone, c) := c.takePending req
  if gone then c
  else match c.seq req with
    | none => c
    | some s =>
      if goes then
        let c := if here then
            (match c.collar req with
             | some k => c.setCollar (k.nextPlacement.setLc lcHandoff)
             | none => c)
          else c
        (c.setSeq { s with phase := .hold }).handoffReady req tok.2
      else
        let c := if here then
            (match c.collar req with
             | some k => c.setCollar (k.setLc lcDecode)
             | none => c)
          else c
        if c.pointLoad s.part (c.seqEngine { s with phase := .decode }) < c.placeMax s.part then
          (c.setSeq { s with phase := .decode }).enqueueSeq { s with phase := .decode } false
        else c.setSeq { s with phase := .waitD }

/-- R19, R149, R237: a prompt chunk; the last one samples token 0, which is charged. -/
def Chip.commitChunk (c : Chip) (g : Seg) (s : Seq) : Chip :=
  let n := g.start + g.rows.length
  let req := s.requestId
  let last := decide (n = s.table.length)
  let s := { c.afterCommit s with c := n }
  let (s, c) := c.commitPages s n s.cd
  let c := c.setSeq s
  let c := if s.anchor = c.deviceId then c.anchorCommitted req n else c
  let tok := (g.samples.find? (fun x => x.1 == n)).map (fun x => (x.2.1, x.2.2))
  match last, tok with
  | true, some tok =>
    let c := (c.handoffCommit req).charge s.customer 256 g.excess
    match c.seq req with
    | none => c
    | some s =>
      let stop := c.stopsAt s n 0 tok.1
      let s := { s with table := s.table ++ [(⟨tok.1, true, false⟩ : PosEnt)], emitted := s.emitted + 1, maxNew := s.maxNew - 1 }
      let c := (c.setSeq s).dequeueSeq req
      match stop with
      | some st => (c.handTokens s (s.emitted - 1) 0 [tok]).stopSleeve req st
      | none => c.promptEnds s tok
  | _, _ =>
    let (gone, c) := (c.handoffCommit req).takePending req
    if gone then c
    else match c.seq req with
      | some s => c.enqueueSeq s true
      | none => c

/-- R19: rows of the draft model's prompt pass. -/
def Chip.commitDraftPrompt (c : Chip) (g : Seg) (s : Seq) : Chip :=
  let req := s.requestId
  let s := { c.afterCommit s with cd := g.start + g.rows.length }
  let (s, c) := c.commitPages s s.c s.cd
  let (gone, c) := ((c.setSeq s).handoffCommit req).takePending req
  if gone then c
  else match c.seq req with
    | some s => c.enqueueSeq s true
    | none => c

/-- R186 to R188: rows of a recompute; the last one ends it. One that has to start again in the meantime does not end. -/
def Chip.commitRecompute (c : Chip) (g : Seg) (s : Seq) : Chip :=
  let req := s.requestId
  let n := g.start + g.rows.length
  let s := c.afterCommit s
  let s := if s.draftTurn then { s with rd := n } else { s with ra := n }
  let (s, c) := c.commitPages s (min s.c s.ra) s.rd
  let c := (c.setSeq s).bumpBy (Reg.kvPressCnt 11) g.rows.length
  let done := s.started && decide (s.c ≤ s.ra) && (!c.drafts s || decide (s.c ≤ s.rd))
  let c := if done then c.recomputed s else c
  let (gone, c) := c.takePending req
  if gone then c
  else match c.seq req with
    | some s => if s.phase = .hold ∨ s.phase = .waitD then c.dequeueSeq req
      else (if done then c.dequeueSeq req else c).enqueueSeq s (!done)
    | none => c

/-- R225, R229: rows of a one-pass request; the last row's values are its result. -/
def Chip.commitOnePass (c : Chip) (t : Step) (pl : PlanD) (i : Nat) (g : Seg) (s : Seq) : Chip :=
  let req := s.requestId
  let n := g.start + g.rows.length
  let values := c.onePassValues t pl i (n - 1)
  let last := decide (n = s.table.length)
  let s := { c.afterCommit s with c := n }
  let (s, c) := c.commitPages s n s.cd
  let c := c.setSeq s
  let c := if s.anchor = c.deviceId then c.anchorCommitted req n else c
  if last then
    (if s.anchor = c.deviceId then c.anchorResult req values else c.sendReport s 6 stOk 0 0 [] values).stopSleeve req stOk
  else
    let (gone, c) := c.takePending req
    if gone then c
    else match c.seq req with
      | some s => c.enqueueSeq s true
      | none => c

/-- One segment of a step committed. -/
def Chip.commitSeg (c : Chip) (t : Step) (pl : PlanD) (i : Nat) (g : Seg) : Chip :=
  match c.seq g.requestId with
  | none => c
  | some s =>
    match g.work with
    | .decode | .round => c.commitDecode g s
    | .chunk => c.commitChunk g s
    | .draftPrompt => c.commitDraftPrompt g s
    | .recompute => c.commitRecompute g s
    | .onePass => c.commitOnePass t pl i g s

/-- R152: the segments of a step by slot, lowest first, each with its number. -/
def bySlot (l : List Seg) : List (Seg × Nat) :=
  (l.zipIdx).foldl (fun (a : List (Seg × Nat)) g =>
    a.takeWhile (fun y => decide (y.1.slot ≤ g.1.slot)) ++ g :: a.dropWhile (fun y => decide (y.1.slot ≤ g.1.slot))) []

/-- R75, R201: the next part of a draft pass, the next pass, or the main pass of a round; the streams of the pass that are
still open end with it (log entry 73). -/
def Chip.nextPass (c : Chip) (t : Step) : Chip :=
  let c := c.closeStreams t stOk
  if c.passMore t then c.beginPass t t.pass (t.sub + 1) else c.beginPass t (if t.pass < t.passes then t.pass + 1 else 0) 0

/-- COMMIT_JOIN (R74, R152, R190, R201): the provisional COMMIT of a draft pass starts the next pass; any other ends
the step, its open streams with it (R75), and its sequences commit in slot order. -/
def commitJoin (c : Chip) (p stepSeq : Nat) : Chip :=
  match c.step? p stepSeq with
  | none => c
  | some t =>
    match c.passPlan t with
    | none => c
    | some pl =>
      if t.abandoned then c
      else
        let (t, c) := pl.keys.foldl (fun (a : Step × Chip) l => a.2.fireLayer a.1 pl t.passPlan.2 l) (t, c)
        let c := c.setStep t
        if !c.commitReady t pl t.passPlan.2 then c.driveGathers p
        else if t.passPlan.1 = 4 then c.nextPass t
        else
          let c := c.closeStreams t stOk
          let c := if t.kind = 3 then (c.dropStep t).bump (Reg.kvPressCnt 12) else c.dropStep t
          let c := (bySlot t.segs).foldl (fun c x => c.commitSeg t pl x.2 x.1) c
          c.wakeWaiting p

end Sys2Proof.Machine
end

