-- ==== Sys2Proof/Machine/LinkSm.lean ====
section
/-!
DEFINITION. The link state machines of the fabric and Lateter ports (R304 to R316, R366 to R368), and the sessions and
the hold of a Lateter port (R375, R385).
-/
namespace Sys2Proof.Machine

/-! A port of either link. -/

/-- The port's number. -/
def lpNum : LinkPort → Nat
  | .fabric p => p
  | .lateter p => p

/-- Whether a port is a Lateter port. -/
def lpIsHl : LinkPort → Bool
  | .fabric _ => false
  | .lateter _ => true

/-- The status register (R310, R389). -/
def lpStatus : LinkPort → Nat
  | .fabric p => Reg.fabPortStatus p
  | .lateter p => Reg.hlPortStatus p

/-- The control register (R309, R389). -/
def lpCtrl : LinkPort → Nat
  | .fabric p => Reg.fabPortCtrl p
  | .lateter p => Reg.hlPortCtrl p

/-- The link timers (R311, R389). -/
def lpTimers : LinkPort → Nat
  | .fabric _ => Reg.fabLinkTimers
  | .lateter _ => Reg.hlLinkTimers

/-- A change of a port's link layer, whatever the link carries. -/
def Chip.onLink (c : Chip) (lp : LinkPort) (f : (α : Type) → Link α → Link α) : Chip :=
  match lp with
  | .fabric p => let r := c.fabPort p; c.setFabPort p { r with link := f _ r.link }
  | .lateter p => let r := c.hlPort p; c.setHlPort p { r with link := f _ r.link }

/-- What a port's link layer holds, whatever the link carries. -/
def Chip.linkGet {β : Type} (c : Chip) (lp : LinkPort) (f : (α : Type) → Link α → β) : β :=
  match lp with
  | .fabric p => f _ (c.fabPort p).link
  | .lateter p => f _ (c.hlPort p).link

/-- The link state: 0 FENCED, 1 DOWN, 2 TRAIN, 3 ACTIVE, 4 RETRAIN, 5 SYNC. -/
def Chip.linkState (c : Chip) (lp : LinkPort) : Nat := c.fld (lpStatus lp) 63 61

/-- Whether the port's power domains are UP (R432). -/
def Chip.linkPower (c : Chip) (lp : LinkPort) : Bool :=
  match lp with
  | .fabric _ => c.fabricUp
  | .lateter _ => c.domUp 1 && c.domUp 4

/-- R368: ACTIVE, or SYNC of a Lateter port. -/
def Chip.linkOpen (c : Chip) (lp : LinkPort) : Bool := c.linkState lp == 3 || ((lpIsHl lp) && c.linkState lp == 5)

/-- An event of a port: `k` 1 LINK_UP, 2 LINK_DOWN, 3 LINK_RETRAIN, 4 PORT_FENCED. -/
def Chip.linkLog (c : Chip) (lp : LinkPort) (k : Nat) : Chip :=
  c.log { code := (if (lpIsHl lp) then 0x1000 else 0x0C00) + k, refKind := 3, ref := (lpNum lp) }

/-- The lanes fenced at this end, by the device or by owner software. -/
def Chip.fencedLanes (c : Chip) (lp : LinkPort) : Nat :=
  c.linkGet lp (fun _ l => l.laneDev) ||| c.fld (lpCtrl lp) 7 0

/-- R304, R306: the device fences lanes; each is logged. -/
def Chip.fenceLanes (c : Chip) (lp : LinkPort) (mask : Nat) : Chip :=
  let new := lanesMinus (mask % 256) (c.linkGet lp (fun _ l => l.laneDev))
  let c := c.onLink lp (fun _ l => { l with laneDev := l.laneDev ||| new })
  (lanesOf new).foldl (fun c i =>
    c.log { code := 0x0C05, domain := some (if (lpIsHl lp) then 4 else 3), refKind := 3, ref := (lpNum lp), param1 := i }) c

/-! The hold of a Lateter port (R385). -/

/-- R385: HL_DOWN_HOLD starts. -/
def Chip.startHold (c : Chip) (p : Nat) : Chip := c.setFld (Reg.hlPortStatus p) 43 43 1

/-- R385: HL_DOWN_HOLD stops, and nothing waits for credit. -/
def Chip.stopHold (c : Chip) (p : Nat) : Chip :=
  (c.setHlPort p { c.hlPort p with stalled := [] }).setFlds (Reg.hlPortStatus p) [(43, 43, 0), (42, 42, 0)]

/-- The credit stall of a port that leaves ACTIVE is over. -/
def Chip.endStall (c : Chip) (p : Nat) : Chip :=
  (c.setHlPort p { c.hlPort p with stalled := [] }).setFld (Reg.hlPortStatus p) 42 42 0

/-- R375, R385: every request of a port ends with ST_LINK_DOWN and its collar is freed; the ring and the resend logs are
cleared, and the pages in the port's swap windows are lost (R386). -/
def Chip.endPort (c : Chip) (p : Nat) : Chip :=
  let ks := c.portCollars p
  let c := c.bumpBy (Reg.hlCnt 12) (ks.filter (fun k => k.img.lcState != lcEnded)).length
  let c := ks.foldl (fun c k => c.endLinkDown k) c
  let c := c.setHlPort p { c.hlPort p with ring := [], log0 := [], log2 := [], unsent := [] }
  (upTo 16).foldl (fun c w =>
    if bitOf (c.reg (Reg.hlHostWin p w 0)) 63 && bitOf (c.reg (Reg.hlHostWin p w 0)) 60 then c.loseWindow p w else c) c

/-- R375: the end of a session. -/
def Chip.sessionEnd (c : Chip) (p : Nat) : Chip :=
  let c := (c.endPort p).stopHold p
  let c := c.setHlPort p { c.hlPort p with expect0 := 1, expect1 := 1, gap0 := false, gap1 := false, next0 := 1, next2 := 1 }
  (c.wrapInc (Reg.hlPortStatus p) 33 18).log { code := 0x1006, refKind := 3, ref := p }

/-- HL_DOWN_HOLD (R385). -/
def hlDownHold (c : Chip) (p : Nat) : Chip :=
  if c.bit (Reg.hlPortStatus p) 43 then
    ((c.endPort p).setFld (Reg.hlPortStatus p) 43 43 0).log { code := 0x1008, refKind := 3, ref := p }
  else c

/-- R385: the classes among HC0 and HC2 in which a message is ready and no credit is left. -/
def Chip.stalledClasses (c : Chip) (p : Nat) : List Nat :=
  let r := c.hlPort p
  let owed := r.ring.any (fun e => match c.collar e.requestId with
    | some k => owes k e
    | none => false)
  [0, 2].filter (fun hc => r.link.credits.getD hc 0 == 0 && (r.link.out.any (fun o => o.tc == hc) || (hc == 2 && owed)))

/-- HL_CREDIT_STALL (R385). -/
def hlCreditStall (c : Chip) (p : Nat) : Chip :=
  let s := c.stalledClasses p
  if c.hlState p ≠ 3 ∨ s = [] then c
  else
    let again := c.bit (Reg.hlPortStatus p) 42
    let c := c.setHlPort p { c.hlPort p with stalled := s }
    let c := (c.setFld (Reg.hlPortStatus p) 42 42 1).startHold p
    if again then c else c.log { code := 0x1007, refKind := 3, ref := p }

/-- R385: a class that sends again stalls no longer. -/
def Chip.creditFlows (c : Chip) (p : Nat) : Chip :=
  let r := c.hlPort p
  if r.stalled.isEmpty then c
  else
    let left := r.stalled.filter (fun hc => r.link.credits.getD hc 0 == 0 && r.link.out.any (fun o => o.tc == hc))
    if left.isEmpty then c.stopHold p else c.setHlPort p { r with stalled := left }

/-! Transitions (R307, R368). -/

/-- R316, R367: the replay buffer is discarded; the packets in flight on a fabric port are counted, and those of which
no flit has left stay queued. -/
def Chip.leaveLink (c : Chip) (lp : LinkPort) : Chip :=
  match lp with
  | .fabric p =>
    let r := c.fabPort p
    (c.setFabPort p { r with queue := r.link.unsent ++ r.queue, link := r.link.discard }).bumpBy (Reg.fabCnt 5) r.link.lost
  | .lateter p =>
    let r := c.hlPort p
    (c.setHlPort p { r with link := r.link.discard }).endStall p

/-- R325, R385: what a port that stops carrying traffic sets off. -/
def Chip.linkStops (c : Chip) (lp : LinkPort) : Chip :=
  match lp with
  | .fabric p => c.requeue p
  | .lateter p => c.startHold p

/-- The fields that name the partner of a fabric port, unknown again. -/
def lpNoPartner : LinkPort → List (Nat × Nat × Nat)
  | .fabric _ => [(44, 40, 31), (39, 24, 0xFFFF)]
  | .lateter _ => []

/-- The port enters DOWN with a cause. -/
def Chip.toDown (c : Chip) (lp : LinkPort) (cause : Nat) (retry log : Bool) : Chip :=
  let c := (c.leaveLink lp).onLink lp (fun _ l => { l with retry := retry, attempt := 0 })
  let c := c.setFlds (lpStatus lp) ([(63, 61, 1), (60, 57, 0), (48, 45, cause)] ++ (lpNoPartner lp))
  let c := if log then c.linkLog lp 2 else c
  c.linkStops lp

/-- The port enters FENCED, by owner software (cause 6) or because every lane is fenced (cause 7). -/
def Chip.toFenced (c : Chip) (lp : LinkPort) (owner : Bool) : Chip :=
  let c := (c.leaveLink lp).onLink lp (fun _ l => { l with retry := false, attempt := 0, ownerFence := owner, devFence := !owner })
  let c := c.setFlds (lpStatus lp) ([(63, 61, 0), (60, 57, 0), (48, 45, if owner then 6 else 7)] ++ (lpNoPartner lp))
  (c.linkLog lp 4).linkStops lp

/-- R309: the fenced lanes take effect; a port whose every lane is fenced is fenced by the device. -/
def Chip.applyLanes (c : Chip) (lp : LinkPort) : Chip :=
  let m := c.fencedLanes lp
  let c := c.setFld (lpStatus lp) 56 49 m
  if m = 255 then c.toFenced lp false else c

/-- The port starts training. -/
def Chip.toTrain (c : Chip) (lp : LinkPort) : Chip :=
  let c := (c.onLink lp (fun _ l => { l with retry := false, attempt := 0 })).setFlds (lpStatus lp) [(63, 61, 2), (60, 57, 0)]
  c.applyLanes lp

/-- R307: an attempt fails: TRAIN again, or DOWN after `TRAIN_TRIES` attempts. -/
def Chip.trainFails (c : Chip) (lp : LinkPort) (cause : Nat) : Chip :=
  if c.linkState lp ≠ 2 then c
  else
    let n := c.linkGet lp (fun _ l => l.attempt) + 1
    if n < c.fld (lpTimers lp) 62 60 then (c.onLink lp (fun _ l => { l with attempt := n })).applyLanes lp
    else c.toDown lp cause true true

/-- R305, R366: why a partner is refused. -/
def Chip.partnerBad (c : Chip) (lp : LinkPort) (i : TrainInfo) (common : Nat) : Option Nat :=
  match lp with
  | .fabric _ =>
    if i.hostAdapter then some 5 else if i.partnerDevice = c.deviceId then some 4 else if common = 0 then some 3 else none
  | .lateter _ => if !i.hostAdapter || i.session == 0 then some 5 else if common = 0 then some 3 else none

/-- R366, R375: the adapter's session is learned; a new one ends the session before it. -/
def Chip.learnSession (c : Chip) (p session : Nat) : Chip :=
  let old := (c.hlPort p).seen
  let c := if old ≠ 0 ∧ old ≠ session then c.sessionEnd p else c
  (c.setHlPort p { c.hlPort p with seen := session }).setReg (Reg.hlPortSession p) (BitVec.ofNat 64 session)

/-- R304 steps 5 to 7, R366, R368: the link carries traffic: a fabric port is ACTIVE, with its replay buffer kept by a
retrain; a Lateter port enters SYNC with an empty one. A retrain reuses the last coefficients. -/
def Chip.linkComesUp (c : Chip) (lp : LinkPort) (i : TrainInfo) (common : Nat) (fresh : Bool) : Chip :=
  let (width, mask) := linkWidth common
  let c := if fresh then (lanesOf mask).foldl (fun c n => c.train (if lpIsHl lp then 2 else 1) (8 * lpNum lp + n)) c else c
  match lp with
  | .fabric p =>
    let c := if fresh then
        (c.onLink lp (fun _ l => { l.fresh with lanes := mask })).setFlds (lpStatus lp)
          [(63, 61, 3), (60, 57, width), (44, 40, i.partnerPort), (39, 24, i.partnerDevice), (23, 16, 0)]
      else
        let c := c.bumpBy (Reg.fabCnt 0) (c.fabPort p).link.replay.length
        (c.onLink lp (fun _ l => { l with lanes := mask }.flush)).setFlds (lpStatus lp) [(63, 61, 3), (60, 57, width)]
    if fresh then c.linkLog lp 1 else c
  | .lateter p =>
    let c := c.learnSession p i.session
    let c := c.onLink lp (fun _ l => { l.fresh with lanes := mask })
    c.setFlds (lpStatus lp) ([(63, 61, 5), (60, 57, width)] ++ (if fresh then [(41, 34, 0)] else []))

/-- The lanes both ends passed, with the lanes that failed here fenced (R304 steps 3 to 5). -/
def Chip.settleLanes (c : Chip) (lp : LinkPort) (i : TrainInfo) : Nat × Chip :=
  let c := c.fenceLanes lp (lanesMinus i.failedLanes (c.fld (lpStatus lp) 56 49))
  let m := c.fld (lpStatus lp) 56 49 ||| c.linkGet lp (fun _ l => l.laneDev)
  (lanesMinus 255 m &&& i.partnerLanes, c.setFld (lpStatus lp) 56 49 m)

/-- TRAINING_ATTEMPT_PASSES (R304, R305, R366). -/
def trainingPasses (c : Chip) (lp : LinkPort) (i : TrainInfo) : Chip :=
  if !c.linkPower lp || c.linkState lp != 2 then c
  else
    let (common, c) := c.settleLanes lp i
    if c.fld (lpStatus lp) 56 49 = 255 then c.toFenced lp false
    else match c.partnerBad lp i common with
      | some cause => c.trainFails lp cause
      | none => c.linkComesUp lp i common true

/-- R310: the cause of a failed attempt. -/
def failCause : TrainFail → Nat
  | .failed => 1
  | .noCommonLanes => 3
  | .selfPartner => 4
  | .wrongKind => 5

/-- TRAINING_ATTEMPT_FAILS (R307). -/
def trainingFails (c : Chip) (lp : LinkPort) (why : TrainFail) : Chip :=
  if c.linkPower lp then c.trainFails lp (failCause why) else c

/-- The counter of entries to RETRAIN. -/
def lpRetrainCnt : LinkPort → Nat
  | .fabric _ => Reg.fabCnt 4
  | .lateter _ => Reg.hlCnt 3

/-- R307, R368: the port enters RETRAIN. -/
def Chip.toRetrain (c : Chip) (lp : LinkPort) : Chip :=
  let c := match lp with
    | .fabric _ => c.satInc (lpStatus lp) 23 16
    | .lateter p => (c.satInc (lpStatus lp) 41 34).endStall p
  let c := ((c.setFld (lpStatus lp) 63 61 4).bump (lpRetrainCnt lp)).linkLog lp 3
  let c := match lp with
    | .fabric p => c.requeue p
    | .lateter _ => c
  c.applyLanes lp

/-- R307: a retrain trigger: ignored but in ACTIVE (or SYNC). -/
def Chip.retrainNow (c : Chip) (lp : LinkPort) : Chip := if c.linkOpen lp then c.toRetrain lp else c

/-- RETRAIN_TRIGGER (R306). -/
def retrainTrigger (c : Chip) (lp : LinkPort) (cause : RetrainCause) : Chip :=
  if !c.linkPower lp || !c.linkOpen lp then c
  else match cause with
    | .codewords => c.retrainNow lp
    | .replays => if c.fld (lpTimers lp) 59 56 ≤ c.linkGet lp (fun _ l => l.replays) then c.retrainNow lp else c
    | .noisyLane i => (c.fenceLanes lp (2 ^ (i % 8))).retrainNow lp

/-- RETRAIN_FAILS, FAB_RETRAIN_LIMIT (R307, R308). -/
def retrainFails (c : Chip) (lp : LinkPort) : Chip :=
  if c.linkPower lp && c.linkState lp == 4 then c.toDown lp 2 true true else c

/-- RETRAIN_PASSES (R304, R366, R368). -/
def retrainPasses (c : Chip) (lp : LinkPort) (i : TrainInfo) : Chip :=
  if !c.linkPower lp || c.linkState lp != 4 then c
  else
    let (common, c) := c.settleLanes lp i
    if c.fld (lpStatus lp) 56 49 = 255 then c.toFenced lp false
    else match lp with
      | .fabric _ => if common = 0 then c.toDown lp 3 true true else c.linkComesUp lp i common false
      | .lateter _ =>
        match c.partnerBad lp i common with
        | some cause => c.toDown lp cause true true
        | none => c.linkComesUp lp i common false

/-- SIGNAL_DETECTED (R307): the partner's signal goes from absent to present. -/
def signalDetected (c : Chip) (lp : LinkPort) : Chip :=
  if !c.linkPower lp || c.linkGet lp (fun _ l => l.signal) then c
  else
    let c := c.onLink lp (fun _ l => { l with signal := true })
    if c.linkState lp = 1 then c.toTrain lp else c

/-- LOSS_OF_SIGNAL (R307). -/
def lossOfSignal (c : Chip) (lp : LinkPort) : Chip :=
  if !c.linkPower lp || !c.linkGet lp (fun _ l => l.signal) then c
  else
    let c := c.onLink lp (fun _ l => { l with signal := false })
    if c.linkState lp = 2 then c.trainFails lp 1 else c.retrainNow lp

/-- FAB_TRAIN_LIMIT (R308). -/
def trainLimit (c : Chip) (lp : LinkPort) : Chip := if c.linkPower lp then c.trainFails lp 1 else c

/-- FAB_RETRY_INTERVAL (R307, R308). -/
def retryInterval (c : Chip) (lp : LinkPort) : Chip :=
  if c.linkPower lp && c.linkState lp == 1 && c.linkGet lp (fun _ l => l.retry) then c.toTrain lp else c

/-- HL_SYNC_WAIT (R368). -/
def hlSyncWait (c : Chip) (p : Nat) : Chip :=
  if c.hlState p = 5 then (c.setFld (Reg.hlPortStatus p) 48 45 8).toRetrain (.lateter p) else c

/-! The port controls (R309, R389), once the writer is accepted. -/

/-- `FENCE` written. -/
def Chip.portFence (c : Chip) (lp : LinkPort) (on : Bool) : Chip :=
  let c := c.setFld (lpCtrl lp) 63 63 (bitN on)
  if on then (if c.linkState lp = 0 then c else c.toFenced lp true)
  else if c.linkState lp = 0 ∧ c.linkGet lp (fun _ l => l.ownerFence) then
    let c := (c.onLink lp (fun _ l => { l with ownerFence := false })).toDown lp 0 false (lpIsHl lp)
    if c.linkPower lp && c.linkGet lp (fun _ l => l.signal) then c.toTrain lp else c
  else c

/-- `DRAIN` of a fabric port written. -/
def Chip.portDrain (c : Chip) (p : Nat) (on : Bool) : Chip :=
  let c := (c.setFld (Reg.fabPortCtrl p) 62 62 (bitN on)).setFld (Reg.fabPortStatus p) 15 15 (bitN on)
  if on then c.requeue p else c

/-- `LANE_FENCE` written: it applies at the next training or retrain. -/
def Chip.laneFence (c : Chip) (lp : LinkPort) (lanes : Nat) : Chip := c.setFld (lpCtrl lp) 7 0 lanes

/-- R309, R462: a whole write of a control register: `RETRAIN` acts last and reads 0. -/
def Chip.portCtrl (c : Chip) (lp : LinkPort) (v : W64) : Chip :=
  let c := c.laneFence lp (fieldOf v 7 0)
  let c := match lp with
    | .fabric p => if c.bit (lpCtrl lp) 62 = bitOf v 62 then c else c.portDrain p (bitOf v 62)
    | .lateter _ => c
  let c := c.portFence lp (bitOf v 63)
  if bitOf v 61 && c.linkPower lp then c.retrainNow lp else c

/-! Flits (R312, R313, R314). -/

/-- R383: what the delivery of a message to the host frees. -/
def Chip.delivered (c : Chip) (m : HostMsg) : Chip :=
  match m with
  | .ended req _ _ _ =>
    match c.collar req with
    | some k => if k.img.lcState = lcEnded then c.freeCollar req else c
    | none => c
  | .result req _ _ =>
    match c.collar req with
    | some k => c.setCollar { k with values := [] }
    | none => c
  | _ => c

/-- The counters of flits sent again and of flits refused. -/
def lpReplayCnt : LinkPort → Nat
  | .fabric _ => Reg.fabCnt 0
  | .lateter _ => Reg.hlCnt 0

/-- The counter of flits refused. -/
def lpCrcCnt : LinkPort → Nat
  | .fabric _ => Reg.fabCnt 1
  | .lateter _ => Reg.hlCnt 1

/-- R313: the flits after `ACK_SEQ` are sent again. -/
def Chip.replayFlits (c : Chip) (lp : LinkPort) : Chip :=
  let n := c.linkGet lp (fun _ l => l.replay.length)
  if n = 0 then c
  else (c.onLink lp (fun _ l => { l with replays := l.replays + 1 })).bumpBy (lpReplayCnt lp) n

/-- R313, R314: what may leave a port leaves. -/
def Chip.flushPort (c : Chip) (lp : LinkPort) : Chip :=
  match lp with
  | .fabric p => let r := c.fabPort p; c.setFabPort p { r with link := r.link.flush }
  | .lateter p => (c.setHlPort p (c.hlPort p).flush).creditFlows p

/-- FAB_REPLAY_TIMEOUT (R313). -/
def replayTimeout (c : Chip) (lp : LinkPort) : Chip :=
  if c.linkPower lp && c.linkOpen lp then c.replayFlits lp else c

/-- R313: acknowledged flits leave the replay buffer; what they delivered is freed. -/
def Chip.takeAck (c : Chip) (lp : LinkPort) (ack : Nat) : Chip :=
  match lp with
  | .fabric p => let r := c.fabPort p; c.setFabPort p { r with link := (r.link.acked ack).1 }
  | .lateter p =>
    let r := c.hlPort p
    let (l, items) := r.link.acked ack
    items.foldl (fun c i => c.delivered i.2) (c.setHlPort p { r with link := l })

/-- R313, R314: acknowledgement and credits of a flit; on a NACK flit the flits that were not acknowledged are sent again; what may now
leave leaves. -/
def Chip.flitReturns (c : Chip) (lp : LinkPort) (x : FlitFields) : Chip :=
  let c := (c.takeAck lp x.ack).onLink lp (fun _ l => (l.credit x.crdTc x.crdN).credit x.crd2Tc x.crd2N)
  (if x.type = 2 then c.replayFlits lp else c).flushPort lp

/-- R313: a flit is refused: a NACK is sent once, and everything is discarded until the replay. -/
def Chip.refuseFlit (c : Chip) (lp : LinkPort) : Chip :=
  if c.linkGet lp (fun _ l => l.nacked) then c
  else (c.onLink lp (fun _ l => { l with nacked := true })).bump (lpCrcCnt lp)

/-- R316, R340: an ABORT flit ends a packet that has not arrived whole: the packet is discarded, and it counts where it was to be
delivered. The flit does not name its packet, so whether that is here is a free value (log entry 11). -/
def Chip.aborted (c : Chip) : Chip :=
  let (k, c) := c.takeFree
  c.bumpBy (Reg.fabCnt 6) ((Config.freeWord k).toNat % 2)

/-- FLIT_RECEIVED (R312 to R314, R316). -/
def flitReceived (c : Chip) (lp : LinkPort) (f : Flit) : Chip :=
  let x := flitFields f
  let rx := c.linkGet lp (fun _ l => l.rx)
  if !c.linkPower lp || !c.linkOpen lp then c
  else if !x.crcOk || 4 ≤ x.type then c.refuseFlit lp
  else if x.type = 0 ∨ x.type = 2 then
    let c := c.flitReturns lp x
    if precedes 12 rx x.seq then c.refuseFlit lp else c
  else if x.seq = rx then
    let c := (c.onLink lp (fun _ l => { l with rx := wrapSucc 12 rx, nacked := false })).flitReturns lp x
    if x.type = 3 && !(lpIsHl lp) then c.aborted else c
  else if precedes 12 rx x.seq then c.refuseFlit lp
  else c

/-- SEAM_BUFFER_ECC_ERROR (R315): the packet leaves the buffer that holds it, an egress queue, the local queue or a replay buffer. Of a
waiting add the constituents that have joined it are dropped with it (log entry 11). -/
def seamEccError (c : Chip) (k : FabPkt) (headerIntact : Bool) : Chip :=
  if !c.fabricUp then c
  else
    let ports := c.fab.ports.map (fun r => { r with queue := dropWhere (fun i => i.pkt == k) r.queue,
                                                    link := r.link.dropItems (fun i => i.pkt == k) })
    let parts := ((c.waitingAdd k).map Combine.parts).getD []
    let c := match c.waitingAdd k with
      | some e => c.freeCombine e.id
      | none => c
    let c := { c with fab := { c.fab with local_ := c.fab.local_.erase k, ports := ports } }
    let c := ((upTo 17).foldl (fun c p => c.coolHot p k.hdr.tc) c).closeHeads
    let c := c.bump (Reg.fabCnt 14)
    if headerIntact then (k :: (parts.drop 1).map Constituent.pkt).foldl (fun c k => c.nackPkt k stUncorrectable) c else c

end Sys2Proof.Machine
end

