-- ==== Sys2Proof/Machine/Finish.lean ====
section
/-!
DEFINITION. The end of a remote operation at the unit that issued it (R282, R285, R294, R347, R361), and the NACK of a packet this
device sent (R320).
-/
namespace Sys2Proof.Machine

/-- The issuer of a finished operation is told. -/
def Chip.finishOp (c : Chip) (e : OpEnd) : Chip :=
  match e.op.owner with
  | .list l n => c.wlTasks [.done l n e.status]
  | .move id => moveOpEnd c id e.status
  | .update tag => c.rowDone tag e.status
  | .migrate id => c.migOpEnd id e.status
  | .gather _ =>
    match e.op.body with
    | .embRead q => c.readEnded e.op q e.status e.data
    | _ => c
  | .refresh _ _ _ =>
    match e.op.body with
    | .embRead q => c.readEnded e.op q e.status e.data
    | _ => c
  | .second => c
  | .none => c

/-- The issuers of finished operations are told, in order. -/
def Chip.finishOps (r : List OpEnd × Chip) : Chip := r.1.foldl (fun c e => c.finishOp e) r.2

/-- R350: the packet type of an operation's request. -/
def opType : OpKind → Nat
  | .load => 0x10 | .store => 0x12 | .read => 0x14 | .write => 0x16 | .atomic => 0x18 | .cancel => 0x1C
  | .embRead => 0x30 | .scatter => 0x32

/-- FAB_PKT_NACK (R320): the operation, placement, report or migration offer whose packet was dropped. -/
def fabNack (c : Chip) (h : FabHdr) (b : NackBody) : Chip :=
  let st := statusOf b.status
  match c.op? b.msgId with
  | some o => if opType o.kind = b.droppedType then Chip.finishOps (c.opNack o st) else c
  | none => if b.droppedType = 0x38 then migNack c h.src st else phaseNack c h.src b

/-- A timer of a pending operation (R351 to R353), for the kinds of operation it serves. -/
def opTimer (c : Chip) (kinds : List OpKind) (msgId : Nat) : Chip :=
  match c.op? msgId with
  | some o => if kinds.contains o.kind && !o.hold then Chip.finishOps (c.opTimeout o) else c
  | none => c

/-- RMA_BUSY_BACKOFF (R351). -/
def busyBackoff (c : Chip) (msgId : Nat) : Chip :=
  match c.op? msgId with
  | some o => c.opBackoff o
  | none => c

end Sys2Proof.Machine
end

