-- ==== Sys2Proof/Machine/Board.lean ====
section
/-!
DEFINITION. Board memory (R474, R475, R493 to R497): settling the channels, placing the users of T2, the patrol scrub,
and the temperature of the DIMMs.
-/
namespace Sys2Proof.Machine

/-- R492: whether a DIMM is one that the device supports: a DIMM lists the rate it is to run at, or a faster supported one. -/
def dimmOk (d : DimmInfo) : Bool :=
  d.spdRead && d.registered && d.ecc && (d.width == 4 || d.width == 8) && (d.ranks == 1 || d.ranks == 2) &&
    [32, 48, 64, 96, 128].contains d.capGib && (d.rates.contains 6400 || d.rates.contains 7200)

/-- R493: whether the DIMMs of a channel agree in capacity, ranks and device width. -/
def dimmsAlike : List DimmInfo → Bool
  | [] => true
  | a :: t => t.all (fun b => a.capGib == b.capGib && a.ranks == b.ranks && a.width == b.width)

/-- R493: why a channel is excluded: 0 it is not; 1 training, 2 an unsupported DIMM, 3 unlike DIMMs. -/
def channelCause (i : ChannelInfo) : Nat :=
  if !i.dimms.all dimmOk then 2 else if !dimmsAlike i.dimms then 3 else if !i.passed then 1 else 0

/-- R474: the capacity of a channel in GiB, as far as its SPDs can be read. -/
def channelGib (i : ChannelInfo) : Nat := sumN (i.dimms.map (fun d => if d.spdRead then d.capGib else 0))

/-- The state of a channel (R474). -/
def Chip.channelState (c : Chip) (n : Nat) : Nat := c.fld (Reg.bmChannelStatus n) 63 61

/-- R493: the channels in T2, of those that have not already timed out (R496). -/
def Chip.inT2 (c : Chip) (l : List ChannelInfo) : List (ChannelInfo × Nat) :=
  l.zipIdx.filter (fun x => !x.1.dimms.isEmpty && channelCause x.1 == 0 && c.channelState x.2 != 3)

/-- R493: the one rate of T2. -/
def t2Speed (l : List (ChannelInfo × Nat)) : Nat :=
  if l.isEmpty then 0 else if l.all (fun x => x.1.dimms.length == 1 && x.1.dimms.all (fun d => d.rates.contains 7200)) then 2 else 1

/-- R494: the GiB of T2 by interleave. -/
def t2Gib (l : List (ChannelInfo × Nat)) : Nat :=
  match l with
  | [] => 0
  | x :: t => l.length * t.foldl (fun m y => min m (channelGib y.1)) (channelGib x.1)

/-- R211: the bytes of a collar region. -/
def collarBytesOf (i : Composition) : Nat := i.collarSlots * 1280 + i.collarLogMib * 2 ^ 20

/-- R494: the bytes of T2 that the users placed before the partitions take. -/
def Chip.collarT2 (c : Chip) : Nat :=
  match c.boot.img with
  | some i => if i.composition.collarTier = 2 then collarBytesOf i.composition else 0
  | none => 0

/-- R494: the T2 users placed in their order: whether the collar region is carved, and the partitions whose share fits. -/
def Chip.placeT2 (c : Chip) (mib : Nat) : Bool × List Bool :=
  let total := mib * 2 ^ 20
  let col := c.collarT2
  let ok := decide (col ≤ total)
  let r := (upTo 16).foldl (fun (a : Nat × List Bool) p =>
    match c.decl p with
    | none => (a.1, a.2 ++ [false])
    | some d =>
      let n := d.t2Mib * 2 ^ 20
      if a.1 + n ≤ total then (a.1 + n, a.2 ++ [true]) else (a.1, a.2 ++ [false])) (if ok then col else 0, [])
  (ok, r.2)

/-- R494: EV_BOOT_T2_SHORT, with the shortfall in MiB. -/
def Chip.logShort (c : Chip) : Chip :=
  if c.board.collarOk then c
  else c.log { code := 0x010E, param1 := cdiv c.collarT2 (2 ^ 20) - c.board.t2Mib }

/-- The 16 channels of a board: one that a list does not name holds no DIMM. -/
def allChannels (l : List ChannelInfo) : List ChannelInfo := (upTo 16).map (fun n => l.getD n ⟨[], true⟩)

/-- R493, R494: the channels settle and the T2 users are placed. -/
def Chip.settleChannels (c : Chip) (l : List ChannelInfo) : Chip :=
  let on := c.inT2 l
  let sp := t2Speed on
  let c := l.zipIdx.foldl (fun c x =>
    let (i, n) := x
    let timedOut := c.channelState n == 3
    let cause := if timedOut then 1 else channelCause i
    let st := if timedOut then 3 else if i.dimms.isEmpty then 0 else if cause ≠ 0 then 3 else 2
    let c := c.setReg (Reg.bmChannelStatus n)
      (wordOf [(63, 61, st), (60, 59, i.dimms.length), (58, 56, if st = 2 then sp else 0), (55, 44, channelGib i)])
    if st = 3 && !timedOut then c.log { code := 0x1201, refKind := 3, ref := n, param1 := cause } else c) c
  let mib := t2Gib on * 1024
  let (ok, ps) := c.placeT2 mib
  ({ c with board := { c.board with t2Mib := mib, collarOk := ok, t2Ok := ps } }).logShort

/-- R496, R414: the baseline of a trained channel: the serial numbers of its DIMMs, then what training gave (log entry 30). -/
def Chip.trainChannel (c : Chip) (n : Nat) (i : ChannelInfo) : Chip :=
  let (k, c) := c.takeFree
  c.trainAs 4 n (i.dimms.flatMap (fun d => leBytes d.serial 4) ++ leBytes (Config.freeWord k).toNat 8)

/-- R496: the channels of a PD_BMEM that powers up train. -/
def Chip.channelsTrain (c : Chip) : Chip :=
  (upTo 16).foldl (fun c n => c.setReg (Reg.bmChannelStatus n) (wordOf [(63, 61, 1)])) c

/-- R432, R474: PD_BMEM leaves UP: no channel runs. -/
def Chip.channelsDown (c : Chip) : Chip :=
  let c := (upTo 16).foldl (fun c n => c.setFlds (Reg.bmChannelStatus n) [(63, 61, 4), (58, 56, 0)]) c
  { c with board := { c.board with marked := [], dimmHot := [], dimmSlow := [] } }

/-- CHANNEL_TRAINING_TIMEOUT (R496): a channel still in training is excluded with cause 1. -/
def channelTimeout (c : Chip) (n : Nat) : Chip :=
  if c.channelState n = 1 then
    (c.setFld (Reg.bmChannelStatus n) 63 61 3).log { code := 0x1201, refKind := 3, ref := n, param1 := 1 }
  else c

/-- PATROL_SCRUB (R495): a line of T2 is read; an uncorrectable one is marked. -/
def patrolScrub (c : Chip) (addr : Nat) (corrected bad : Bool) : Chip :=
  if !c.domUp 5 || decide (c.board.t2Mib * 2 ^ 20 ≤ addr) then c
  else if bad then
    let line := addr / 64 * 64
    let c := c.bump Reg.bmEccUncorrectable
    if c.board.marked.contains line then c
    else { c with board := { c.board with marked := c.board.marked ++ [line] } }
  else if corrected then c.bump Reg.bmEccCorrected
  else c

/-- R497: a measure that starts above a threshold and ends 3 °C below it; temperatures in °C. -/
def hystNext (on : Bool) (thr : Int) (ts : List Int) : Bool :=
  if ts.any (fun t => decide (thr < t)) then true
  else if ts.all (fun t => decide (t ≤ thr - 3)) then false
  else on

/-- DIMM_THERMAL_READ (R497): the sensors of each channel. -/
def dimmThermal (c : Chip) (temps : List (List Int)) : Chip :=
  if !c.domUp 5 then c
  else
    temps.zipIdx.foldl (fun c x =>
      let (ts, n) := x
      if c.channelState n ≠ 2 then c
      else
        let hot := hystNext (c.board.dimmHot.contains n) 85 ts
        let was := c.board.dimmSlow.contains n
        let slow := hystNext was 95 ts
        let put := fun (l : List Nat) (b : Bool) => if b then (if l.contains n then l else l ++ [n]) else l.filter (fun k => k != n)
        let c := { c with board := { c.board with dimmHot := put c.board.dimmHot hot, dimmSlow := put c.board.dimmSlow slow } }
        if slow && !was then c.log { code := 0x020C, domain := some 5, refKind := 3, ref := n } else c) c

/-! The capability registers (R469, R470). -/

/-- R469: the stations of a kind whose `STATE` is not fenced. -/
def Chip.unfenced (c : Chip) (kind : Nat) : Nat :=
  (allKeys.filter (fun k => keyKind k == kind && c.stnState k != 1)).length

/-- R469, R470: whether the capability registers are measured. -/
def Chip.capValid (c : Chip) : Bool := 2 ≤ c.devState

/-- R469. -/
def capStations (c : Chip) : W64 :=
  if c.capValid then
    wordOf [(63, 56, c.unfenced 1), (55, 48, c.unfenced 2), (47, 40, c.unfenced 3), (39, 32, c.unfenced 4),
      (31, 28, c.unfenced 5), (27, 24, c.unfenced 6), (23, 18, c.unfenced 8), (17, 12, c.unfenced 9),
      (11, 6, c.unfenced 10), (5, 3, c.unfenced 7), (0, 0, 1)]
  else regReset Reg.idCapStations

/-- R470: whether a stack is trained and its domain not LOCKED_OFF. -/
def Chip.stackOk (c : Chip) (q : Nat) : Bool := !c.board.stackBad.contains q && c.domState (16 + q) != 4

/-- R470. -/
def capLinks (c : Chip) : W64 :=
  if c.capValid then
    let mask := fun (n : Nat) (f : Nat → Bool) => sumN ((upTo n).map (fun i => if f i then 2 ^ i else 0))
    wordOf [(63, 48, mask 16 (fun p => c.fabState p != 0)), (47, 32, mask 16 (fun n => c.channelState n == 2)),
      (31, 28, mask 4 (fun p => c.hlState p != 0)), (27, 24, mask 4 c.stackOk), (0, 0, 1)]
  else regReset Reg.idCapLinks

/-- R470. -/
def capMem (c : Chip) : W64 :=
  if c.capValid then
    let on := (upTo 16).filter (fun n => c.channelState n == 2)
    let dpc := on.foldl (fun m n => max m (c.fld (Reg.bmChannelStatus n) 60 59)) 0
    let sp := on.foldl (fun m n => max m (c.fld (Reg.bmChannelStatus n) 58 56)) 0
    wordOf [(63, 48, 48 * ((upTo 4).filter c.stackOk).length), (47, 32, if on.isEmpty then 0 else c.board.t2Mib / 1024),
      (31, 28, sp), (27, 26, dpc), (0, 0, 1)]
  else regReset Reg.idCapMem

end Sys2Proof.Machine
end

