-- ==== Sys2Proof/Machine/Power.lean ====
section
/-!
DEFINITION. Power domains (R425 to R433): their states, commands, down sequences and what each one's loss sets off; the
hub restart (R434), module cold reset (R435) and load shedding (R421); input, clock, power and thermal monitoring
(R420 to R424, R437 to R442).
-/
namespace Sys2Proof.Machine

/-! The domain table (R425). -/

/-- R425: what a domain depends on directly. -/
def depOf (d : Nat) : Option Nat :=
  if d = 0 ∨ 19 < d then none
  else if d = 1 ∨ d = 7 then some 0
  else if d = 3 then some 2
  else if d < 7 ∨ 16 ≤ d then some 1
  else if d < 12 then some (d + 8)
  else some (d + 4)

/-- R425: the domains that a domain depends on, directly or through others, nearest first. -/
def upwards (d : Nat) : List Nat :=
  match depOf d with
  | none => []
  | some a => match depOf a with
    | none => [a]
    | some b => match depOf b with
      | none => [a, b]
      | some e => match depOf e with
        | none => [a, b, e]
        | some f => [a, b, e, f]

/-- R425: the domains in the order in which they fall: the reverse of the power-up order. -/
def fallOrder : List Nat := [11, 10, 9, 8, 15, 14, 13, 12, 19, 18, 17, 16, 6, 5, 3, 2, 7, 4, 1]

/-- R426: the domains that depend on a domain, deepest first. -/
def dependents (d : Nat) : List Nat := fallOrder.filter (fun x => (upwards x).contains d)

/-- What brings a domain back. -/
def Chip.ret (c : Chip) (d : Nat) : Return := c.pwr.ret.getD d .stay

/-- What brings a domain back, set. -/
def Chip.setRet (c : Chip) (d : Nat) (r : Return) : Chip := { c with pwr := { c.pwr with ret := c.pwr.ret.set d r } }

/-- Whether owner software has set a domain OFF. -/
def Chip.ownerOff (c : Chip) (d : Nat) : Bool := c.pwr.ownerOff.getD d false

/-- Whether owner software has set a domain OFF, set. -/
def Chip.setOwnerOff (c : Chip) (d : Nat) (b : Bool) : Chip :=
  { c with pwr := { c.pwr with ownerOff := c.pwr.ownerOff.set d b } }

/-- Whether the device is held in reset: by an input fault, a trip, or a lost clock (R421, R423, R440). -/
def Chip.held (c : Chip) : Bool := c.pwr.inCold.isSome || c.pwr.clockHold

/-- A domain's state set (R429). -/
def Chip.setDom (c : Chip) (d s : Nat) : Chip := c.setFld (Reg.pwrDomainStatus d) 63 61 s

/-- Rail faults of a domain since module cold reset (R429). -/
def Chip.railFaults (c : Chip) (d : Nat) : Nat := c.fld (Reg.pwrDomainStatus d) 31 24

/-! The running PWR_DOMAIN_CMD (R428). -/

/-- R428: PWR_DOMAIN_CMD_STATUS. -/
def Chip.cmdStatus (c : Chip) (busy : Bool) (cmd d st : Nat) : Chip :=
  c.setReg Reg.pwrDomainCmdStatus (wordOf [(63, 63, bitN busy), (55, 53, cmd), (52, 48, d), (47, 32, st)])

/-- R428: the running command ends. -/
def Chip.endCmd (c : Chip) (st : Nat) : Chip :=
  match c.pwr.cmd with
  | some (k, d) => ({ c with pwr := { c.pwr with cmd := none } }).cmdStatus false k d st
  | none => c

/-- R428: a device action overtakes the running command. -/
def Chip.overtake (c : Chip) (d : Nat) : Chip :=
  match c.pwr.cmd with
  | some (_, x) => if x = d ∨ (upwards x).contains d then c.endCmd stBusy else c
  | none => c

/-- R428: the command ends when its domain is in its final state. -/
def Chip.checkCmd (c : Chip) (d : Nat) : Chip :=
  match c.pwr.cmd with
  | some (k, x) =>
    let s := c.domState x
    if x ≠ d then c
    else if k = 1 then if s = 0 ∨ s = 4 then c.endCmd stOk else c
    else if s = 2 then c.endCmd stOk
    else if s = 4 then c.endCmd stBusy
    else c
  | none => c

/-! What a domain's loss sets off (R432). -/

/-- R432: a move whose destination data are lost. -/
def Chip.abortDst (c : Chip) (d : MoveDst) : Chip :=
  ((c.sendNew (.part d.part) d.source 0 (.moveAbort { common := d.common, status := stReset, rsvd := 0 })).2).discardMove d

/-- R430: a write of several packets into memory that is lost ends with ST_DOMAIN_RESET; its later packets are discarded (log
entry 110). -/
def Chip.writesLost (c : Chip) (inside : Nat → Nat → Bool) : Chip :=
  (c.rma.ctxs.filter (fun x => x.kind == 0x16 && inside (c.region x.region).tier ((c.region x.region).base + x.low))).foldl
    (fun c x =>
      let c := (c.recordCancel x.src x.msgId).2
      let b := FabBody.writeAck { status := stReset, rsvd := 0 }
      c.sendPkt (c.regionMember x.region) ⟨{ c.header x.src (bodyTc b) x.msgId 0 b with enc := false }, b⟩) c

/-- R432: the seam or the fabric SerDes: every fabric port leaves ACTIVE and moves abort; the seam's own contents go
with it. -/
def Chip.fabricLost (c : Chip) (seam : Bool) : Chip :=
  let c := (upTo 16).foldl (fun c p => if c.fabState p = 0 ∨ c.fabState p = 1 then c else c.toDown (.fabric p) 0 false true) c
  let c := (upTo 16).foldl (fun c p => c.onLink (.fabric p) (fun _ l => { l with signal := false })) c
  let c := if seam then
      let ports := c.fab.ports.map (fun (r : FabPort) => { r with queue := [] })
      { c with fab := { c.fab with ports := ports, wait := [], rates := [], combines := [], prev := [], rxBytes := [] } }
    else c
  let c := (c.work.src.filter (fun m => m.state != 4)).foldl (fun c m => c.moveFail m stReset) c
  (c.work.dst.filter (fun d => d.state == 1)).foldl (fun c d => c.discardMove d) c

/-- R366: a new session ID of this device, never 0. -/
def Chip.drawSession (c : Chip) : Chip :=
  let (k, c) := c.takeFree
  c.setReg Reg.hlDevSession (BitVec.ofNat 64 (max 1 (Config.freeWord k).toNat))

/-- R432: PD_HSD: every Lateter port goes DOWN, with a new session. -/
def Chip.hostLost (c : Chip) : Chip :=
  let c := (upTo 4).foldl (fun c p => if c.hlState p = 0 ∨ c.hlState p = 1 then c else c.toDown (.lateter p) 0 false true) c
  let c := (upTo 4).foldl (fun c p => c.onLink (.lateter p) (fun _ l => { l with signal := false })) c
  let c := c.drawSession
  (upTo 4).foldl (fun c p => c.sessionEnd p) c

/-- R432: a sleeve stored in T2 is lost: its move aborts, and the holder reports `KIND` 4. -/
def Chip.storedLost (c : Chip) (st : Stored) : Chip :=
  let c := match c.moveSrc st.seq.requestId with
    | some m => if m.state = 4 then c else c.abortMove m stReset
    | none => c
  (c.dropStored st.seq.requestId).reportHome st.seq true

/-- R432: PD_BMEM: T2 is lost. -/
def Chip.t2Lost (c : Chip) : Chip :=
  let c := c.channelsDown
  let c := c.writesLost (fun t _ => t == 2)
  let c := c.work.stored.foldl (fun c st => c.storedLost st) c
  let c := (c.work.dst.filter (fun d => (c.region d.region).tier == 2)).foldl (fun c d => c.abortDst d) c
  let tier2 := match c.boot.img with
    | some i => i.composition.collarTier == 2
    | none => false
  let c := if tier2 then
      let c := c.work.collars.foldl (fun c k => c.endReq k.img.requestId stStateLost) c
      { c with board := { c.board with collarOk := false } }
    else c
  c.onWork (fun w => { w with t2 := [], parts := w.parts.map (fun (p : Part) => { p with t2Used := 0 }) })

/-- R432: PD_EMB: bags in flight end, the sketch and the replicas go, and a migration that copies aborts. -/
def Chip.embLost (c : Chip) : Chip :=
  let c := c.stationsDown 6
  let c := c.emb.gathers.foldl (fun c g =>
    let width := ((c.ver g.table g.version).map TableVer.width).getD 0
    let rest := g.bags.map (fun b => (stReset, 0, zeroVector b width))
    c.endGather { g with bags := [], done := g.done ++ rest }) c
  let c := (c.onEmb (fun e => { e with sketch := [] })).dropReplicas (fun _ => true)
  (c.emb.out.filter (fun r => r.state == 1)).foldl (fun c r => c.migAborted r stReset true) c

/-- R408: the running document request ends. -/
def Chip.endDoc (c : Chip) (st len : Nat) : Chip :=
  match c.boot.doc with
  | some _ => ({ c with boot := { c.boot with doc := none } }).setReg Reg.secQuoteStatus (wordOf [(47, 32, st), (31, 0, len)])
  | none => c

/-- R218, R432: a sleeve that a lost stack held: a paused one is dropped, another is rebuilt or reported. -/
def Chip.sleeveLost (c : Chip) (s : Seq) : Chip :=
  let c := (c.work.src.filter (fun m => m.requestId == s.requestId && m.kind == 0 && m.state != 4)).foldl
    (fun c m => c.abortMove m stReset) c
  if c.pausedHold s then (c.releaseSleeve s.requestId).reportHome s true
  else if s.anchor = c.deviceId then c.markRebuild s
  else c.failSeq s stReset

/-- The partitions whose share includes a quadrant (R399). -/
def Chip.quadParts (c : Chip) (q : Nat) : List Nat :=
  (upTo 16).filter (fun p => match c.decl p with
    | some d => d.quadMask.testBit q
    | none => false)

/-- R254, R432: PD_QqM: what the stack and the quadrant buffer held is lost, the staged copies in them with it. -/
def Chip.stackLost (c : Chip) (q : Nat) : Chip :=
  let c := c.stationsDown (16 + q)
  let c := (c.work.seqs.filter (fun s => s.pages.any (fun r => r.quad == q))).foldl (fun c s => c.sleeveLost s) c
  let c := (upTo 16).foldl (fun c p => c.dropStaged p (fun x => x.place == 4 + q)) c
  let c := c.work.steps.foldl (fun c t =>
    (c.setStep { t with staged := dropWhere (fun x => x.place == q) t.staged }).bumpBy (Reg.movCnt 7)
      (t.staged.filter (fun x => x.place == q)).length) c
  let inStack := fun (a : Nat) => decide (q * stackBytes ≤ a) && decide (a < (q + 1) * stackBytes)
  let c := c.writesLost (fun t a => t == 1 && inStack a)
  let c := (c.work.dst.filter (fun d => d.refs.any (fun r => r.quad == q) ||
    ((c.region d.region).tier == 1 && inStack ((c.region d.region).base + d.offset)))).foldl (fun c d => c.abortDst d) c
  c.onWork (fun w =>
    { w with frames := w.frames.filter (fun f => f.quad != q), t1 := w.t1.filter (fun b => !inStack b.1),
             parts := w.parts.map (fun (p : Part) => { p with index := p.index.filter (fun e => e.2.2.2.1 != q) }) })

/-- R432: the partitions of a quadrant are reloaded; after a power-up those that a load without it left UNLOADED too. -/
def Chip.reloadQuad (c : Chip) (q : Nat) (again : Bool) : Chip :=
  (c.quadParts q).foldl (fun c p =>
    if again && c.partState p == 0 then c.setPartState p 6 else c.forceReload p) c

/-- R432: the effects of a domain's leaving UP, but for PD_HUB. -/
def Chip.domainLost (c : Chip) (d : Nat) : Chip :=
  if d = 2 then c.fabricLost true
  else if d = 3 then c.fabricLost false
  else if d = 4 then c.hostLost
  else if d = 5 then c.t2Lost
  else if d = 6 then c.embLost
  else if d = 7 then c.endDoc stOffline 0
  else if 8 ≤ d ∧ d < 16 then c.stationsDown d
  else if 16 ≤ d ∧ d < 20 then c.stackLost (d - 16)
  else c

/-! Leaving UP (R426, R427, R430, R431). -/

/-- R429, R431: the status of a domain that leaves UP: its epoch and departures advance. -/
def Chip.departed (c : Chip) (d cause : Nat) : Chip :=
  c.setFlds (Reg.pwrDomainStatus d)
    [(63, 61, 3), (60, 57, cause), (47, 32, wrapSuccSkip0 16 (c.domEpoch d)),
     (23, 0, min (2 ^ 24 - 1) (c.fld (Reg.pwrDomainStatus d) 23 0 + 1))]

/-- R427: EV_DOMAIN_RESET. -/
def Chip.logReset (c : Chip) (d : Nat) (owner : Bool) : Chip :=
  c.log { code := 0x0202, sev := some (if owner then 2 else 3), domain := some d }

/-- R427: one domain goes down, from UP or from POWERING_UP. -/
def Chip.depart (c : Chip) (d cause : Nat) (owner : Bool) (back : Return) : Chip :=
  if c.domState d = 2 then
    ((((c.departed d cause).setRet d back).bump (Reg.pwrCnt 1)).logReset d owner).domainLost d
  else if c.domState d = 1 then (c.setDom d 3).setRet d back
  else c

/-- R426: a domain goes down, and before it every domain that depends on it. -/
def Chip.takeDown (c : Chip) (d cause : Nat) (owner : Bool) (back : Return) : Chip :=
  ((dependents d).foldl (fun c x => c.depart x 2 owner .dependency) c).depart d cause owner back

/-- R11: whether the role keeps a domain down: the engines of a cache-role device. -/
def Chip.roleDown (c : Chip) (d : Nat) : Bool := c.role == 3 && decide (8 ≤ d) && decide (d < 16)

/-- R426, R427: the domains that only wait for what they depend on start to power up, but for those that the role keeps
down (R11). -/
def Chip.rise (c : Chip) : Chip :=
  fallOrder.reverse.foldl (fun c x =>
    if c.domState x == 0 && !c.roleDown x && c.ret x == Return.dependency && (match depOf x with | some a => c.domUp a | none => false) then
      let c := (c.setDom x 1).setRet x .stay
      if x = 5 then c.channelsTrain else c
    else c) c

/-! Hub restart, cold reset and load shedding (R421, R434, R435). -/

/-- R461: a port of which only the fences that the device set remain. -/
def keepFence {α : Type} (l : Link α) : Link α :=
  { (Link.init : Link α) with devFence := l.devFence, laneDev := l.laneDev }

/-- R434, R461: all that the hub, T1 and T2 held goes; PD_AON keeps its own. -/
def Chip.hubWipe (c : Chip) : Chip :=
  let aon := c.regs.filter (fun p => isAonReg p.1)
  let jtag := c.fld Reg.secProtect 1 1
  let fenced := allKeys.filter (fun k => c.stnState k == 1 && c.fld (stnReg k) 34 31 != 4)
  let causes := fenced.map (fun k => (k, c.fld (stnReg k) 34 31))
  let fab : Fab := { Fab.init with ports := c.fab.ports.map (fun r => { FabPort.init with link := keepFence r.link }) }
  let hl : HostLink := { HostLink.init with ports := c.hl.ports.map (fun r => { HlPort.init with link := keepFence r.link }) }
  let rma : Rma := { Rma.init with keys := c.rma.keys, keyOrder := c.rma.keyOrder, nonces := c.rma.nonces, emptyAt := c.time }
  let pwr : Pwr :=
    { Pwr.init with cmd := c.pwr.cmd, inCold := c.pwr.inCold, rootLocked := c.pwr.rootLocked, refPresent := c.pwr.refPresent,
                    vMv := c.pwr.vMv, lowRun := c.pwr.lowRun, highRun := c.pwr.highRun, underRun := c.pwr.underRun,
                    overRun := c.pwr.overRun, normRun := c.pwr.normRun, episode := c.pwr.episode,
                    inputFault := c.pwr.inputFault, clockHold := c.pwr.clockHold, thermMax := c.pwr.thermMax }
  let boot : Boot :=
    { Boot.init with completed := c.boot.completed, log := c.boot.log, overflow := c.boot.overflow, docSeq := c.boot.docSeq,
                     smbOffset := c.boot.smbOffset, smbOut := c.boot.smbOut, straps := c.boot.straps,
                     run := c.boot.run.bind (fun r => if r.waits then none else some { r with cut := true }) }
  let evt : Evt :=
    { Evt.init with earlyDrop := c.evt.earlyDrop, queue := c.evt.queue, fullSeen := c.evt.fullSeen, mirPos := c.evt.mirPos,
                    mirNext := c.evt.mirNext, mirHdr := c.evt.mirHdr, mirSeq := c.evt.mirSeq, mirLive := c.evt.mirLive }
  let c := { c with regs := aon, latch := [none, none, none, none], evt := evt, pwr := pwr, board := .init, boot := boot,
                    hl := hl, fab := fab, rma := rma, work := .init, emb := .init }
  let c := if jtag = 1 then c.setFld Reg.secProtect 1 1 1 else c
  let c := causes.foldl (fun c x => c.setFlds (stnReg x.1) [(34, 31, x.2), (30, 29, 1)]) c
  let portFence := fun (c : Chip) (lp : LinkPort) =>
    let c := c.setFld (lpStatus lp) 56 49 (c.linkGet lp (fun _ l => l.laneDev))
    if c.linkGet lp (fun _ l => l.devFence) then c.setFlds (lpStatus lp) [(63, 61, 0), (48, 45, 7)] else c
  let c := (upTo 16).foldl (fun c p => portFence c (.fabric p)) c
  (upTo 4).foldl (fun c p => portFence c (.lateter p)) c

/-- R392: `DEV_STATE` set: logged, and slot 7 extended with the state as one byte (R405, `KIND` 10). -/
def Chip.enterState (c : Chip) (s : Nat) : Chip :=
  if c.devState = s then c
  else ((c.setFld Reg.idBootStatus 63 61 s).log { code := 0x0103 }).extend 7 10 0 (sha256 [BitVec.ofNat 8 s])

/-- R472: ID_HEALTH as its sources make it. -/
def Chip.healthNow (c : Chip) : W64 :=
  let any := fun (n : Nat) (f : Nat → Bool) => bitN ((upTo n).any f)
  wordOf [(63, 63, any 16 (fun p => c.partState p == 3)), (62, 62, any 16 (fun p => c.partState p == 4 || c.partState p == 5)),
    (61, 61, any 20 (fun d => c.domState d == 4)), (60, 60, any 10 (fun s => c.fld (Reg.pwrThermalStatus s) 43 42 != 0)),
    (59, 59, bitN (c.fld Reg.pwrThrottleStatus 31 0 != 0)), (58, 58, bitN (c.reg (Reg.evtLastSevere 0) != 0#64))]

/-- R472: ID_HEALTH as it reads: during a hub restart it keeps its last value. -/
def Chip.health (c : Chip) : W64 := c.boot.healthHold.getD c.healthNow

/-- The domains that PD_HUB's reset takes down with it: every one but PD_AON and PD_CRYPTO (R434). -/
def hubDomains : List Nat := fallOrder.filter (fun x => x != 7)

/-- R427, R434: PD_HUB goes down and every domain but PD_AON and PD_CRYPTO with it. `first` is logged ahead of all
else. -/
def Chip.hubDown (c : Chip) (cause : Nat) (owner : Bool) (first : Chip → Chip) : Chip :=
  let up := (upTo 20).filter (fun d => hubDomains.contains d && c.domUp d)
  let hold := c.health
  let c := hubDomains.foldl (fun c d =>
    if c.domState d = 2 then c.departed d (if d = 1 then cause else if cause = 5 then 5 else 2)
    else if c.domState d = 1 then c.setDom d 3 else c) c
  let c := c.hubWipe
  let c := { c with boot := { c.boot with healthHold := some hold } }
  let c := (first c).enterState 0
  let c := c.setFlds Reg.idBootStatus [(60, 56, 2), (55, 54, 3), (39, 32, 0)]
  up.foldl (fun c d => c.logReset d owner) c

/-- R434: a hub restart, with the cause of R436. -/
def Chip.hubRestart (c : Chip) (cause : Nat) : Chip :=
  if c.held then c
  else
    let own := cause == 6
    let c := if own then c else c.endCmd stBusy
    let st := c.reg Reg.pwrDomainCmdStatus
    let ep := wrapSuccSkip0 16 (c.fld Reg.rmaEpoch 15 0)
    let c := c.hubDown 5 own (fun c =>
      let c := c.setReg Reg.rmaEpoch (BitVec.ofNat 64 ep)
      let c := c.setFlds Reg.pwrResetStatus [(63, 60, cause), (59, 59, 1), (15, 0, (c.fld Reg.pwrResetStatus 15 0 + 1) % 2 ^ 16)]
      c.log { code := 0x020A, domain := some 1, param1 := cause })
    if own then c.setReg Reg.pwrDomainCmdStatus st else c

/-- R393 step 1 (R403, R405): the boot ROM runs, the fuses are read, and slot 0 is extended. -/
def Chip.stepOne (c : Chip) (nv : Nv) : Chip :=
  let bits := fun (f : Nat → Bool) => sumN ((upTo 4).map (fun k => if f k then 2 ^ k else 0))
  let d := Config.fuseDigest nv.svnFused (bits (fun k => (nv.keys.getD k none).isSome)) (bits (fun k => nv.revoked.getD k false))
  (c.setFld Reg.idBootStatus 60 56 1).extend 0 1 0 (leBytes d 32)

/-- R435, R436: a module cold reset: only flash, fuses and the retention latch keep their contents. The input and the
reference are as they are. -/
def Chip.coldReset (c : Chip) (nv : Nv) (cause : Nat) : Chip :=
  let latch := wordOf [(63, 60, cause), (31, 16, (c.fld Reg.pwrResetStatus 31 16 + 1) % 2 ^ 16)]
  let clk := wordOf [(62, 62, bitN c.pwr.refPresent), (47, 32, c.fld Reg.clkStatus 47 32)]
  let fresh : Chip :=
    { Chip.init with free := c.free, pwr := { Pwr.init with vMv := c.pwr.vMv, refPresent := c.pwr.refPresent },
                     boot := { Boot.init with straps := c.boot.straps } }
  ((fresh.setReg Reg.pwrResetStatus latch).setReg Reg.clkStatus clk).stepOne nv

/-- R421 steps 1 and 2: every step and transfer stops and every domain but PD_AON is switched off; the events recorded
so far stay in the early buffer's numbering. -/
def Chip.shed (c : Chip) : Chip :=
  let c := c.endCmd stBusy
  let e := c.evt
  let up := (upTo 20).filter (fun d => fallOrder.contains d && c.domUp d)
  let c := fallOrder.foldl (fun c d => (if c.domState d = 2 then c.departed d (c.fld (Reg.pwrDomainStatus d) 60 57) else c).setDom d 0) c
  let c := c.hubWipe
  let c := { c with evt := { e with live := false, ring := [] } }
  let c := c.setFlds Reg.idBootStatus [(63, 61, 0), (55, 54, 3), (39, 32, 0)]
  up.foldl (fun c d => c.logReset d false) c

/-- R420, R421: an input fault, with the cause of the cold reset that follows. -/
def Chip.inputFault (c : Chip) (cause : Nat) : Chip :=
  if c.held then c
  else
    let c := c.shed
    ({ c with pwr := { c.pwr with inCold := some cause, normRun := 0 } }).log { code := 0x0208 }

/-! Domain commands (R428). -/

/-- R428: the status that a command ends with at once; none when it goes on. -/
def Chip.cmdCheck (c : Chip) (k d : Nat) (cascade : Bool) : Option Nat :=
  let s := c.domState d
  let depDown : Bool := match depOf d with
    | some a => !c.domUp a
    | none => false
  if k = 0 ∨ 4 < k ∨ 19 < d then some stMalformed
  else if d = 0 ∨ (k = 1 ∧ (d = 1 ∨ d = 4)) then some stUnsupported
  else if k = 2 ∧ c.roleDown d then some stUnsupported
  else if !cascade && (dependents d).any c.domUp then some stBusy
  else if s = 3 then some stBusy
  else if k = 1 then if s = 0 ∨ s = 4 then some stOk else none
  else if k = 2 then
    if s = 4 then some stOffline
    else if s = 0 ∧ depDown then some stNotReady
    else if s = 2 then some stOk
    else none
  else if s = 0 ∨ s = 4 then some stOffline
  else none

/-- R427: a command that goes on: `k` 1 POWER_DOWN, 2 POWER_UP, 3 RESET, 4 UPDATE. -/
def Chip.cmdRun (c : Chip) (k d : Nat) : Chip :=
  if k = 1 then (c.setOwnerOff d true).takeDown d 1 true .stay
  else if k = 2 then
    if c.domState d = 0 then ((c.setOwnerOff d false).setRet d .dependency).rise else c
  else if d = 1 then c.hubRestart 6
  else c.takeDown d 1 true .command

/-- PWR_DOMAIN_CMD with `GO` (R428). -/
def pwrCommand (c : Chip) (a : Accessor) (k d : Nat) (cascade : Bool) : Chip :=
  if !c.accOwner a then c.log (refused 0x0204 Reg.pwrDomainCmd)
  else if c.pwr.cmd.isSome then c.log (refused 0x0205 Reg.pwrDomainCmd)
  else
    match c.cmdCheck k d cascade with
    | some st =>
      let c := c.cmdStatus false k d st
      if k = 1 ∧ st = stOk then (c.setOwnerOff d true).setRet d .stay else c
    | none => (({ c with pwr := { c.pwr with cmd := some (k, d) } }).cmdStatus true k d 0).cmdRun k d

/-- R433: whether a stack's loss, with its partner not UP, loses a mirror pair. -/
def Chip.pairLost (c : Chip) (q : Nat) : Bool := !c.domUp (16 + q) && !c.domUp (16 + (q + 2) % 4)

/-- R433: a mirror pair lost while the hub is UP makes a hub restart. -/
def Chip.checkPairs (c : Chip) : Chip :=
  if c.domUp 1 && decide (2 ≤ c.devState) && (c.pairLost 0 || c.pairLost 1) then c.hubRestart 7 else c

/-! What happens to a domain (R427). -/

/-- R427: a rail fault or a failed self-test counted. -/
def Chip.countRail (c : Chip) (d : Nat) : Chip := c.satInc (Reg.pwrDomainStatus d) 31 24

/-- RAIL_FAULT (R427). -/
def railFault (c : Chip) (d : Nat) : Chip :=
  if c.held then c
  else if d = 0 then c.inputFault 10
  else if c.domState d ≠ 1 ∧ c.domState d ≠ 2 then c
  else
    let c := (c.overtake d).countRail d
    let ev : EvArgs := { code := 0x0203, domain := some d }
    if d = 1 then
      if 3 ≤ c.railFaults 1 then (c.endCmd stBusy).hubDown 4 false (fun c => c.log ev)
      else (c.log ev).hubRestart 9
    else ((c.log ev).takeDown d 4 false .stay).checkPairs

/-- The sensor whose trip takes a domain down (R440). -/
def sensorOf (d : Nat) : Nat := if d < 12 then d - 8 else if d < 16 then d - 12 else d - 12

/-- R440: whether a sensor is tripped. -/
def Chip.tripped (c : Chip) (s : Nat) : Bool := c.fld (Reg.pwrThermalStatus s) 43 42 == 2

/-- R440: a domain that a trip took down powers up again once it is OFF and its sensor has cooled. -/
def Chip.coolRise (c : Chip) (d : Nat) : Chip :=
  if c.domState d == 0 && c.ret d == Return.thermal && !c.tripped (sensorOf d) then (c.setRet d .dependency).rise else c

/-- R427: the end of the down sequence of a domain other than PD_HUB. -/
def Chip.downEnds (c : Chip) (d : Nat) : Chip :=
  if c.domState d ≠ 3 then c
  else if 3 ≤ c.railFaults d then
    let c := ((c.setDom d 4).setRet d .stay).checkCmd d
    if 16 ≤ d then c.reloadQuad (d - 16) false else c
  else
    let c := (c.setDom d 0).checkCmd d
    match c.ret d with
    | .command => (c.setRet d .dependency).rise
    | .dependency => c.rise
    | .thermal => c.coolRise d
    | .stay => if 16 ≤ d then c.reloadQuad (d - 16) false else c

/-- R427, R431, R432: a domain is UP. -/
def Chip.domainUp (c : Chip) (d : Nat) (failed : List StationRef) (channels : List ChannelInfo) : Chip :=
  let c := ((c.setDom d 2).setRet d .stay).setOwnerOff d false
  let c := (c.log { code := 0x0201, domain := some d }).stationsUp d failed
  let c := c.takeTrim d
  let c := if d = 5 then
      let c := c.settleChannels (allChannels channels)
      ((upTo 16).filter (fun n => c.channelState n == 2)).foldl (fun c n => c.trainChannel n (channels.getD n ⟨[], true⟩)) c
    else if 16 ≤ d then c.train 3 (d - 16)
    else c
  if 16 ≤ d then { c with board := { c.board with stackBad := c.board.stackBad.filter (fun q => q != d - 16) } } else c

/-- R427: a failed self-test. -/
def Chip.rampFails (c : Chip) (d : Nat) : Chip :=
  let c := ((c.overtake d).countRail d).setFlds (Reg.pwrDomainStatus d) [(63, 61, 3), (60, 57, 6)]
  let c := c.setRet d .stay
  if 16 ≤ d then { c with board := { c.board with stackBad := c.board.stackBad ++ [d - 16] } } else c

/-- DOMAIN_RAMP_COMPLETES (R427, R432, R494). -/
def domainRamp (c : Chip) (d : Nat) (ok : Bool) (failed : List StationRef) (channels : List ChannelInfo) : Chip :=
  if c.held || c.domState d != 1 then c
  else if !ok then c.rampFails d
  else
    let c := c.domainUp d failed channels
    let c := if c.devState < 2 then c
      else if d = 5 then
        (upTo 16).foldl (fun c p => if (c.decl p).isSome && !c.board.t2Ok.getD p false then c.forceReload p else c) c
      else if 16 ≤ d then c.reloadQuad (d - 16) true
      else c
    c.rise.checkCmd d

/-! The input and the clocks (R420, R423). -/

/-- R420: the class of an input voltage: 0 under, 1 low, 2 normal, 3 high, 4 over. -/
def vClass (mv : Nat) : Nat :=
  if mv < 36000 then 0 else if mv < 38000 then 1 else if mv ≤ 54000 then 2 else if mv ≤ 57000 then 3 else 4

/-- V_IN_SAMPLE (R420): the voltage holds its class since the sample before. -/
def vInSample (c : Chip) (mv us : Nat) : Chip :=
  let k := vClass mv
  let same := vClass c.pwr.vMv == k
  let run := fun (n old : Nat) => if k = n then (if same then old + us else 0) else 0
  let o := c.pwr
  let p : Pwr :=
    { o with vMv := mv, underRun := run 0 o.underRun, lowRun := run 1 o.lowRun, normRun := run 2 o.normRun,
             highRun := run 3 o.highRun, overRun := run 4 o.overRun }
  let p : Pwr := if 10000 ≤ p.normRun then { p with episode := 0 } else p
  let c := { c with pwr := p }
  if c.held || c.fld Reg.idBootStatus 60 56 == 0 then c
  else if 5 ≤ p.underRun ∨ 10 ≤ p.overRun then c.inputFault 3
  else if 1000 ≤ p.lowRun ∧ !p.episode.testBit 0 then
    ({ c with pwr := { p with episode := p.episode + 1 } }).log { code := 0x0206 }
  else if 1000 ≤ p.highRun ∧ !p.episode.testBit 1 then
    ({ c with pwr := { p with episode := p.episode + 2 } }).log { code := 0x0207 }
  else c

/-- REFERENCE_LOSS (R423): after the first lock, a lock loss or a reference absent for 1 µs holds every other domain in
reset; before it, an absent reference holds the device at step 1. -/
def referenceLoss (c : Chip) (absentNs : Nat) (lockLost : Bool) : Chip :=
  let gone := 0 < absentNs
  let c := if gone then (({ c with pwr := { c.pwr with refPresent := false } }).setFld Reg.clkStatus 62 62 0) else c
  if c.held || !c.pwr.rootLocked || !(lockLost || decide (1000 ≤ absentNs)) then c
  else
    let c := c.shed
    let c := { c with pwr := { c.pwr with clockHold := true, rootLocked := false, refPresent := c.pwr.refPresent && !gone } }
    ((c.setFld Reg.clkStatus 63 63 0).wrapInc Reg.clkStatus 47 32).log { code := 0x0209 }

/-! Power limiting (R437 to R439). -/

/-- R438: the levels raised by one, in order: `a` the engines that throttle first. -/
def raiseOne (maxLevel : Nat) (a b : Nat) : Nat × Nat :=
  if a < maxLevel then (a + 1, b) else if b < 15 then (a, b + 1) else if a < 15 then (a + 1, b) else (a, b)

/-- R438: the levels lowered by one, in the reverse order. -/
def lowerOne (maxLevel : Nat) (a b : Nat) : Nat × Nat :=
  if maxLevel < a then (a - 1, b) else if 0 < b then (a, b - 1) else (a - 1, b)

/-- R440: the thermal level of a quadrant's engines: the largest of its sensors' and the device-wide sensors'. -/
def Pwr.thermOf (p : Pwr) (q : Nat) : Nat :=
  max (max (p.therm.getD q 0) (p.therm.getD (q + 4) 0)) (max (p.therm.getD 8 0) (p.therm.getD 9 0))

/-- R438: the applied level of an engine of a quadrant. -/
def Pwr.applied (p : Pwr) (q : Nat) (d : Bool) : Nat := max (if d then p.dLevel else p.pLevel) (p.thermOf q)

/-- R439: PWR_THROTTLE_STATUS. -/
def Chip.showLevels (c : Chip) : Chip :=
  let p := c.pwr
  c.setReg Reg.pwrThrottleStatus (wordOf
    ((upTo 4).map (fun q => (32 + q, 32 + q, bitN (p.thermOf q != 0))) ++
     ((upTo 4).map (fun q => [(8 * q + 3, 8 * q, p.applied q false), (8 * q + 7, 8 * q + 4, p.applied q true)])).flatten))

/-- R442: the A-cycles gated in the 10 µs before a sample. -/
def Chip.countGated (c : Chip) : Chip :=
  let gated := fun (d : Bool) => sumN ((upTo 4).map (fun q =>
    if c.domUp ((if d then 12 else 8) + q) then 1125 * c.pwr.applied q d else 0))
  (c.bumpBy (Reg.pwrCnt 2) (gated false)).bumpBy (Reg.pwrCnt 3) (gated true)

/-- R437: the excess count after a sample; and how many samples in all lay at or below the limit. -/
def excessNext (excess below p cont peakMs : Nat) : Nat × Nat :=
  if cont < p then (min (excess + 10) (1000 * peakMs), below)
  else if (below + 1) % 9 = 0 then (excess - 10, below + 1)
  else (excess, below + 1)

/-- POWER_SAMPLE (R437, R438, R439, R442). -/
def powerSample (c : Chip) (mv ma : Nat) : Chip :=
  if c.held || !c.domUp 1 then c
  else
    let c := c.countGated
    let ctl := c.reg Reg.pwrLimitCtrl
    let cont := fieldOf ctl 59 48
    let peakMs := fieldOf ctl 35 28
    let maxL := fieldOf ctl 27 24
    let dFirst := bitOf ctl 23
    let p := mv * ma / 1000000
    let fast := min (fieldOf ctl 47 36) (75 * mv / 1000)
    let st := c.reg Reg.pwrInputStatus
    let contMode := bitOf st 3
    let entered := decide (cont < p) && decide (c.pwr.samples.headD 0 ≤ cont)
    let (excess, below) := excessNext (fieldOf st 17 4) c.pwr.below p cont peakMs
    let full := decide (1000 * peakMs ≤ excess)
    let lim := if full || contMode then cont else fast
    let mode := full || (contMode && decide (0 < excess))
    let one := fun (f : Nat → Nat → Nat × Nat) (x : Nat × Nat) =>
      if dFirst then let y := f x.2 x.1; (y.2, y.1) else f x.1 x.2
    let l := (c.pwr.pLevel, c.pwr.dLevel)
    let since := c.pwr.since + 10
    let up := one (raiseOne maxL)
    let l2 := if fast < p then up (up (up (up l))) else if lim < p then up l
      else if p + lim / 50 < lim ∧ 100 ≤ since then one (lowerOne maxL) l else l
    let samples := (p :: c.pwr.samples).take 100
    let on := decide (0 < l2.1) || decide (0 < l2.2)
    let was := c.pwr.limiting
    let c := { c with pwr := { c.pwr with samples := samples, below := below, since := if l2 = l then since else 0,
                                          pLevel := l2.1, dLevel := l2.2, limiting := on } }
    let c := c.setReg Reg.pwrInputStatus (wordOf [(63, 54, min 1023 (mv / 100)), (53, 44, min 1023 (ma / 100)), (43, 31, min 8191 p),
      (30, 18, min 8191 (sumN samples / samples.length)), (17, 4, excess), (3, 3, bitN mode)])
    let c := c.showLevels
    let c := if entered then c.bump (Reg.pwrCnt 4) else c
    let c := if fast < p then c.bump (Reg.pwrCnt 5) else c
    if on && !was then c.log { code := 0x020B } else c

/-! Thermal limiting (R440, R441). -/

/-- R440: the throttle threshold of a sensor, in °C. -/
def Chip.throttleAt (c : Chip) (s : Nat) : Nat :=
  if s < 4 ∨ s = 8 then c.fld Reg.pwrThermalCtrl 55 48 else if s < 8 then c.fld Reg.pwrThermalCtrl 47 40 else 110

/-- R440: the trip point of a sensor, in °C. -/
def tripAt (s : Nat) : Nat := if s < 4 ∨ s = 8 then 115 else if s < 8 then 105 else 125

/-- R440: below which temperature a tripped sensor restarts, in °C. -/
def Chip.restartBelow (c : Chip) (s : Nat) : Nat :=
  if s < 4 then c.fld Reg.pwrThermalCtrl 55 48 - 10 else if s < 8 then 85 else 90

/-- A sensor's last reading, in 1/8 °C (R441). -/
def Chip.temp (c : Chip) (s : Nat) : Int := (BitVec.ofNat 12 (c.fld (Reg.pwrThermalStatus s) 63 52)).toInt

/-- R441: the zone of a sensor that is not tripped. -/
def Chip.zone (c : Chip) (s : Nat) (t : Int) : Nat :=
  if (8 * c.throttleAt s : Int) < t ∨ 0 < c.pwr.therm.getD s 0 then 1 else 0

/-- R441: the reading of a sensor shown, with its zone. -/
def Chip.showTemp (c : Chip) (s : Nat) (t : Int) (zone : Nat) : Chip :=
  let m := match c.pwr.thermMax.getD s none with
    | some m => if m < t then t else m
    | none => t
  let c := { c with pwr := { c.pwr with thermMax := c.pwr.thermMax.set s (some m) } }
  c.setReg (Reg.pwrThermalStatus s)
    (wordOf [(63, 52, (BitVec.ofInt 12 t).toNat), (51, 44, (BitVec.ofInt 8 (m / 8)).toNat), (43, 42, zone)])

/-- R440: a trip. -/
def Chip.trip (c : Chip) (s : Nat) : Chip :=
  let c := (c.bump (Reg.pwrCnt 6)).log { code := 0x020D, refKind := 3, ref := s }
  if s < 4 then
    let c := (c.overtake (8 + s)).overtake (12 + s)
    (c.takeDown (8 + s) 3 false .thermal).takeDown (12 + s) 3 false .thermal
  else if s < 8 then (c.overtake (12 + s)).takeDown (12 + s) 3 false .thermal
  else
    let zones := c.reg (Reg.pwrThermalStatus s)
    let c := c.shed
    ({ c with pwr := { c.pwr with inCold := some 5, normRun := 0 } }).setReg (Reg.pwrThermalStatus s) zones

/-- R440: one sensor read. -/
def Chip.sense (c : Chip) (s : Nat) (t : Int) : Chip :=
  if c.tripped s then
    if t < (8 * c.restartBelow s : Int) then
      let c := c.showTemp s t (c.zone s t)
      if s < 4 then (c.coolRise (8 + s)).coolRise (12 + s) else if s < 8 then c.coolRise (12 + s) else c
    else c.showTemp s t 2
  else if (8 * tripAt s : Int) ≤ t then (c.showTemp s t 2).trip s
  else c.showTemp s t (c.zone s t)

/-- R440: the stacks above 85 °C refresh twice as often. -/
def Chip.refreshRates (c : Chip) (temps : List Int) : Chip :=
  { c with pwr := { c.pwr with halved := (upTo 4).map (fun q => decide (680 < temps.getD (q + 4) 0)) } }

/-- THERMAL_SAMPLE (R440): the sensors in order. A device held after a trip leaves its cold reset once the tripped
sensor is below 90 °C. -/
def thermalSample (c : Chip) (nv : Nv) (temps : List Int) : Chip :=
  if c.pwr.inCold = some 5 then
    let c := [8, 9].foldl (fun c s => if c.tripped s then c.sense s (temps.getD s 0) else c) c
    if c.tripped 8 || c.tripped 9 then c else c.coldReset nv 5
  else if c.held || !c.domUp 1 then c
  else
    let c := c.refreshRates temps
    (temps.zipIdx.foldl (fun c x => if c.held || !c.domUp 1 then c else c.sense x.2 x.1) c).checkPairs

/-- A thermal level set, with the zone it makes. -/
def Chip.setTherm (c : Chip) (s n : Nat) : Chip :=
  let c := { c with pwr := { c.pwr with therm := c.pwr.therm.set s n } }
  let c := if c.tripped s then c else c.setFld (Reg.pwrThermalStatus s) 43 42 (c.zone s (c.temp s))
  c.showLevels

/-- THERMAL_LEVEL_RISE (R440). -/
def thermalRise (c : Chip) (s : Nat) : Chip :=
  if c.held || !c.domUp 1 || !decide ((8 * c.throttleAt s : Int) < c.temp s) then c
  else
    let seen := c.pwr.thermSeen.getD s false
    let c := { c with pwr := { c.pwr with thermSeen := c.pwr.thermSeen.set s true } }
    let c := c.setTherm s (min 15 (c.pwr.therm.getD s 0 + 1))
    if seen then c else c.log { code := 0x020C, refKind := 3, ref := s }

/-- THERMAL_LEVEL_FALL (R440). -/
def thermalFall (c : Chip) (s : Nat) : Chip :=
  let n := c.pwr.therm.getD s 0
  let hyst := c.fld Reg.pwrThermalCtrl 39 32
  if c.held || !c.domUp 1 || n == 0 || !decide (c.temp s ≤ (8 * (c.throttleAt s - hyst) : Nat)) then c
  else
    let c := { c with pwr := { c.pwr with thermSeen := if n = 1 then c.pwr.thermSeen.set s false else c.pwr.thermSeen } }
    c.setTherm s (n - 1)

end Sys2Proof.Machine
end

