-- ==== Sys2Proof/Machine/SlhDsa.lean ====
section
/-!
DEFINITION. HMAC and HKDF over SHA-256 (RFC 2104, RFC 5869), and SLH-DSA of FIPS 205 with SHA-256, 16-byte values and chains of
16: the key pair and the signature of SLH-DSA-SHA2-128f, which the attestation key is (R406, R407), and the verification of
SLH-DSA-SHA2-128s, by which a configuration image is accepted (R401). A signature is held as its 16-byte pieces in order.
-/
namespace Sys2Proof.Machine

/-- HMAC-SHA-256 with a key of at most 64 bytes. -/
def hmac256 (key msg : List Byte) : List Byte :=
  let k := key ++ List.replicate (64 - key.length) 0#8
  sha256 (k.map (· ^^^ 0x5C#8) ++ sha256 (k.map (· ^^^ 0x36#8) ++ msg))

/-- The blocks of the expansion of RFC 5869: `n` further blocks, the `i`-th after the block `t`. -/
def hkdfExpand (prk info : List Byte) : Nat → Nat → List Byte → List Byte
  | 0, _, _ => []
  | n + 1, i, t =>
    let t := hmac256 prk (t ++ info ++ [BitVec.ofNat 8 i])
    t ++ hkdfExpand prk info n (i + 1) t

/-- HKDF-SHA-256: `len` bytes. -/
def hkdf256 (ikm salt info : List Byte) (len : Nat) : List Byte :=
  (hkdfExpand (hmac256 salt ikm) info (cdiv len 32) 1 []).take len

/-- A parameter set of SLH-DSA: the height of one tree and the number of layers, the height and the number of the forests. -/
structure SlhParams where
  hp : Nat
  d  : Nat
  a  : Nat
  k  : Nat
  deriving DecidableEq, Repr

/-- SLH-DSA-SHA2-128s: 7 layers of height 9, 14 forests of height 12. -/
def slh128s : SlhParams := ⟨9, 7, 12, 14⟩

/-- SLH-DSA-SHA2-128f: 22 layers of height 3, 33 forests of height 6. -/
def slh128f : SlhParams := ⟨3, 22, 6, 33⟩

/-- What an SLH-DSA address says: layer, tree, kind, and its last three words. -/
structure SlhAdr where
  layer : Nat
  tree  : Nat
  kind  : Nat
  w1    : Nat
  w2    : Nat
  w3    : Nat
  deriving DecidableEq, Repr

/-- The 22 compressed bytes of an address. -/
def SlhAdr.bytes (a : SlhAdr) : List Byte :=
  beBytes a.layer 1 ++ beBytes a.tree 8 ++ beBytes a.kind 1 ++ beBytes a.w1 4 ++ beBytes a.w2 4 ++ beBytes a.w3 4

/-- The tweakable hash of SLH-DSA under the public seed; with a secret seed as message, its pseudorandom function. -/
def slhHash (ps : List Byte) (a : SlhAdr) (m : List Byte) : List Byte :=
  (sha256 (ps ++ List.replicate 48 0#8 ++ a.bytes ++ m)).take 16

/-- The first `c` digits of `w` bits of a byte string, most significant first. -/
def slhDigits (b : List Byte) (w c : Nat) : List Nat :=
  (upTo c).map (fun i => natOfBe b / 2 ^ (8 * b.length - w * (i + 1)) % 2 ^ w)

/-- `s` steps of a WOTS+ chain from position `i`. -/
def slhChain (ps : List Byte) (a : SlhAdr) : Nat → Nat → List Byte → List Byte
  | 0, _, x => x
  | s + 1, i, x => slhChain ps a s (i + 1) (slhHash ps { a with w3 := i } x)

/-- The chains of a WOTS+ key from chain `c` on, each walked as far as its digit says. -/
def slhWots (ss ps : List Byte) (layer tree kp : Nat) : List Nat → Nat → List (List Byte)
  | [], _ => []
  | v :: vs, c => slhChain ps ⟨layer, tree, 0, kp, c, 0⟩ v 0 (slhHash ps ⟨layer, tree, 5, kp, c, 0⟩ ss) ::
      slhWots ss ps layer tree kp vs (c + 1)

/-- The node of height `z` and index `i` of a tree of WOTS+ keys, whose chains are walked to their ends. -/
def slhNode (ss ps : List Byte) (layer tree : Nat) : Nat → Nat → List Byte
  | 0, i => slhHash ps ⟨layer, tree, 1, i, 0, 0⟩ (slhWots ss ps layer tree i (List.replicate 35 15) 0).flatten
  | z + 1, i => slhHash ps ⟨layer, tree, 2, 0, z + 1, i⟩
      (slhNode ss ps layer tree z (2 * i) ++ slhNode ss ps layer tree z (2 * i + 1))

/-- The node of height `z` and index `i` of the forest of a key. -/
def slhForest (ss ps : List Byte) (tree kp : Nat) : Nat → Nat → List Byte
  | 0, i => slhHash ps ⟨0, tree, 3, kp, 0, i⟩ (slhHash ps ⟨0, tree, 6, kp, 0, i⟩ ss)
  | z + 1, i => slhHash ps ⟨0, tree, 3, kp, z + 1, i⟩
      (slhForest ss ps tree kp z (2 * i) ++ slhForest ss ps tree kp z (2 * i + 1))

/-- The digits a WOTS+ key signs: those of the message and of their checksum. -/
def slhWotsDigits (m : List Byte) : List Nat :=
  let v := slhDigits m 4 32
  v ++ slhDigits (beBytes (sumN (v.map (fun x => 15 - x)) * 16) 2) 4 3

/-- The authentication path of leaf `i`: the sibling at each of `n` heights from `z` on. -/
def slhPath (node : Nat → Nat → List Byte) : Nat → Nat → Nat → List (List Byte)
  | 0, _, _ => []
  | n + 1, z, i => node z (if i % 2 = 0 then i + 1 else i - 1) :: slhPath node n (z + 1) (i / 2)

/-- The signature of the trees from a layer up, `n` further layers. -/
def slhHyper (p : SlhParams) (ss ps : List Byte) : Nat → Nat → Nat → Nat → List Byte → List (List Byte)
  | 0, _, _, _, _ => []
  | n + 1, layer, tree, leaf, m =>
    (slhWots ss ps layer tree leaf (slhWotsDigits m) 0 ++ slhPath (slhNode ss ps layer tree) p.hp 0 leaf) ++
      slhHyper p ss ps n (layer + 1) (tree / 2 ^ p.hp) (tree % 2 ^ p.hp) (slhNode ss ps layer tree p.hp 0)

/-- The signature of the forests: of forest `i` on, the secret of each leaf with its path. -/
def slhForests (p : SlhParams) (ss ps : List Byte) (tree kp : Nat) : List Nat → Nat → List (List Byte)
  | [], _ => []
  | x :: xs, i =>
    (slhHash ps ⟨0, tree, 6, kp, 0, i * 2 ^ p.a + x⟩ ss :: slhPath (slhForest ss ps tree kp) p.a 0 (i * 2 ^ p.a + x)) ++
      slhForests p ss ps tree kp xs (i + 1)

/-- The forests' public key: the hash of their roots. -/
def slhForestPk (p : SlhParams) (ss ps : List Byte) (tree kp : Nat) : List Byte :=
  slhHash ps ⟨0, tree, 4, kp, 0, 0⟩ ((upTo p.k).map (fun i => slhForest ss ps tree kp p.a i)).flatten

/-- The public root of the key pair with these secret and public seeds. -/
def slhRoot (p : SlhParams) (ss ps : List Byte) : List Byte := slhNode ss ps (p.d - 1) 0 p.hp 0

/-- The leaves of the forests, the tree and the leaf that sign a message, from its randomizer and the public key. -/
def slhPlace (p : SlhParams) (r ps root m : List Byte) : List Nat × Nat × Nat :=
  let seed := r ++ ps ++ sha256 (r ++ ps ++ root ++ m)
  let d := sha256 (seed ++ beBytes 0 4) ++ sha256 (seed ++ beBytes 1 4)
  let n := cdiv (p.k * p.a) 8
  let t := cdiv (p.hp * (p.d - 1)) 8
  (slhDigits (d.take n) p.a p.k, natOfBe ((d.drop n).take t) % 2 ^ (p.hp * (p.d - 1)),
    natOfBe ((d.drop (n + t)).take (cdiv p.hp 8)) % 2 ^ p.hp)

/-- FIPS 205: the pieces of a signature in pure form with an empty context string, hedged with `rnd` (16 bytes); the key is SK.seed,
SK.prf, PK.seed and PK.root. -/
def slhPieces (p : SlhParams) (ss prf ps root msg rnd : List Byte) : List (List Byte) :=
  let m := 0#8 :: 0#8 :: msg
  let r := (hmac256 prf (rnd ++ m)).take 16
  let x := slhPlace p r ps root m
  r :: slhForests p ss ps x.2.1 x.2.2 x.1 0 ++ slhHyper p ss ps p.d 0 x.2.1 x.2.2 (slhForestPk p ss ps x.2.1 x.2.2)

/-- FIPS 205: the bytes of the signature. -/
def slhSign (p : SlhParams) (ss prf ps root msg rnd : List Byte) : List Byte := (slhPieces p ss prf ps root msg rnd).flatten

/-! Verification. -/

/-- The root that a node of height `z` and index `i` and the siblings above it give; `f` hashes two nodes into the one above. -/
def slhClimb (f : Nat → Nat → List Byte → List Byte) : List (List Byte) → Nat → Nat → List Byte → List Byte
  | [], _, _, n => n
  | s :: t, z, i, n => slhClimb f t (z + 1) (i / 2) (f (z + 1) (i / 2) (if i % 2 = 0 then n ++ s else s ++ n))

/-- The ends of the chains from chain `c` on, from what a signature holds of each. -/
def slhEnds (ps : List Byte) (layer tree kp : Nat) : List Nat → Nat → List (List Byte) → List (List Byte)
  | [], _, _ => []
  | v :: vs, c, l => slhChain ps ⟨layer, tree, 0, kp, c, 0⟩ (15 - v) v (l.headD []) :: slhEnds ps layer tree kp vs (c + 1) l.tail

/-- The root of one tree from the pieces that sign `m`. -/
def slhTreeRoot (ps : List Byte) (layer tree leaf : Nat) (m : List Byte) (l : List (List Byte)) : List Byte :=
  slhClimb (fun z i x => slhHash ps ⟨layer, tree, 2, 0, z, i⟩ x) (l.drop 35) 0 leaf
    (slhHash ps ⟨layer, tree, 1, leaf, 0, 0⟩ (slhEnds ps layer tree leaf (slhWotsDigits m) 0 (l.take 35)).flatten)

/-- The root of the topmost tree from the pieces of the trees from a layer up. -/
def slhUp (p : SlhParams) (ps : List Byte) : Nat → Nat → Nat → Nat → List Byte → List (List Byte) → List Byte
  | 0, _, _, _, m, _ => m
  | n + 1, layer, tree, leaf, m, l =>
    slhUp p ps n (layer + 1) (tree / 2 ^ p.hp) (tree % 2 ^ p.hp) (slhTreeRoot ps layer tree leaf m (l.take (35 + p.hp)))
      (l.drop (35 + p.hp))

/-- The roots of the forests from forest `i` on, from the pieces of the signature. -/
def slhRoots (p : SlhParams) (ps : List Byte) (tree kp : Nat) : List Nat → Nat → List (List Byte) → List (List Byte)
  | [], _, _ => []
  | x :: xs, i, l =>
    slhClimb (fun z j m => slhHash ps ⟨0, tree, 3, kp, z, j⟩ m) ((l.take (1 + p.a)).drop 1) 0 (i * 2 ^ p.a + x)
        (slhHash ps ⟨0, tree, 3, kp, 0, i * 2 ^ p.a + x⟩ (l.headD [])) ::
      slhRoots p ps tree kp xs (i + 1) (l.drop (1 + p.a))

/-- The 16-byte pieces of a signature. -/
def SlhParams.pieces (p : SlhParams) : Nat := 1 + p.k * (1 + p.a) + p.d * (35 + p.hp)

/-- FIPS 205: verification in pure form with an empty context string. -/
def slhVerify (p : SlhParams) (ps root msg sig : List Byte) : Bool :=
  let l := chunksOf 16 p.pieces sig
  let m := 0#8 :: 0#8 :: msg
  let x := slhPlace p (l.headD []) ps root m
  let pk := slhHash ps ⟨0, x.2.1, 4, x.2.2, 0, 0⟩ (slhRoots p ps x.2.1 x.2.2 x.1 0 l.tail).flatten
  sig.length == 16 * p.pieces && slhUp p ps p.d 0 x.2.1 x.2.2 pk (l.tail.drop (p.k * (1 + p.a))) == root

end Sys2Proof.Machine
end

