-- ==== Sys2Proof/Machine/BootBase.lean ====
section
/-!
DEFINITION. Boot commands and documents (R392, R403 to R419): the calibration copies (R414, R415), the units of a flash or
fuse write (R411, R412), SVN_COMMIT (R404), the device state commands (R392), BOOT_CMD (R417) and the signed documents
(R406 to R408).
-/
namespace Sys2Proof.Machine

/-! Calibration (R414, R415). -/

/-- R414: the bytes of a copy's entries. -/
def calBytes (l : List (Nat × Nat × List Byte)) : List Byte :=
  l.flatMap (fun e => leBytes e.1 2 ++ leBytes e.2.1 2 ++ leBytes e.2.2.length 4 ++ padTo 8 e.2.2)

/-- R414: the bytes of a copy: its header of 64 bytes, then its entries. -/
def CalCopy.bytes (k : CalCopy) : List Byte :=
  let es := calBytes k.entries
  leBytes k.magic 4 ++ leBytes k.format 2 ++ leBytes k.rsvd 2 ++ leBytes k.seq 4 ++ leBytes es.length 4 ++
    leBytes (k.rsvd / 2 ^ 16) 16 ++ leBytes k.digest 32 ++ es

/-- R414: the `MAGIC` of a calibration copy. -/
def calMagic : Nat := 0x4C414346

/-- R414: the digest of a copy's entries. -/
def calDigest (l : List (Nat × Nat × List Byte)) : Nat := natOfLe (sha256 (calBytes l))

/-- R414: whether a copy may be used: its magic, format and digest check. -/
def CalCopy.good (k : CalCopy) : Bool :=
  k.present && k.magic == calMagic && k.format == 1 && k.digest == calDigest k.entries

/-- R414: a copy of entries with a `SEQ`. -/
def CalCopy.of (seq : Nat) (es : List (Nat × Nat × List Byte)) : CalCopy :=
  { present := true, magic := calMagic, format := 1, rsvd := 0, seq := seq, digest := calDigest es, entries := es }

/-- R414: the overlay copy in use: 0 A, 1 B. -/
def Nv.overlay (nv : Nv) : Option (Nat × CalCopy) :=
  if nv.copyA.good then
    if nv.copyB.good && precedes 32 nv.copyA.seq nv.copyB.seq then some (1, nv.copyB) else some (0, nv.copyA)
  else if nv.copyB.good then some (1, nv.copyB)
  else none

/-- The factory entries, none when the factory record fails its digest. -/
def Nv.factoryCal (nv : Nv) : List (Nat × Nat × List Byte) := if nv.factory.good then nv.factory.entries else []

/-- R414: the entries of `b` with each entry of `o` replacing the one of equal (kind, index). -/
def calMerge (b o : List (Nat × Nat × List Byte)) : List (Nat × Nat × List Byte) :=
  b.filter (fun e => !(o.any (fun x => x.1 == e.1 && x.2.1 == e.2.1))) ++ o

/-- R414: the calibration that the flash gives. -/
def Nv.effectiveCal (nv : Nv) : List (Nat × Nat × List Byte) :=
  match nv.overlay with
  | some o => calMerge nv.factoryCal o.2.entries
  | none => nv.factoryCal

/-- R418: word 1 of BOOT_HOLDUP_STATUS from calibration kind 5: C in bits 15:0, V_HOLD_MIN in bits 23:16 of its contents
(log entry 30). -/
def Chip.showBulk (c : Chip) : Chip :=
  let v := match c.boot.trained.find? (fun e => e.1 == 5) with
    | some e => natOfLe e.2.2
    | none => 0
  c.setReg (Reg.bootHoldupStatus + 8) (wordOf [(63, 48, v % 65536), (47, 40, v / 65536 % 256)])

/-- R405: slot 4 extended with the factory record, then with the overlay copy in use. -/
def Chip.extendCal (c : Chip) (nv : Nv) : Chip :=
  let c := c.extend 4 5 0 (sha256 (calBytes nv.factory.entries))
  match nv.overlay with
  | some o => c.extend 4 5 0 (sha256 (calBytes o.2.entries))
  | none => c

/-- R414: a record that fails its check is reported. -/
def Chip.checkCal (c : Chip) (nv : Nv) : Chip :=
  let c := if nv.factory.good then c else c.log { code := 0x0109 }
  let bad := fun (c : Chip) (k : CalCopy) => if k.present && !k.good then c.log { code := 0x010A } else c
  bad (bad c nv.copyA) nv.copyB

/-- R393 step 3: the calibration is read; trims apply to what is powered. -/
def Chip.readCal (c : Chip) (nv : Nv) : Chip :=
  let l := nv.effectiveCal
  let use := l.filter (fun e => e.1 == 5 || (e.1 == 6 && c.domUp e.2.1))
  let c := { c with boot := { c.boot with calUse := l, trained := use } }
  ((c.checkCal nv).showBulk).extendCal nv

/-! BOOT_CMD_STATUS and the running command (R417). -/

/-- BOOT_CMD_STATUS written. -/
def Chip.bootStatus (c : Chip) (busy : Bool) (cmd st progress : Nat) : Chip :=
  c.setReg Reg.bootCmdStatus (wordOf [(63, 63, bitN busy), (55, 48, cmd), (47, 32, st), (31, 0, progress)])

/-- A command that ends at once. -/
def Chip.bootDone (c : Chip) (cmd st : Nat) : Chip := c.bootStatus false cmd st 0

/-- The running command replaced or removed. -/
def Chip.setRun (c : Chip) (r : Option BootRun) : Chip := { c with boot := { c.boot with run := r } }

/-- The running command ends. -/
def Chip.bootEnd (c : Chip) (st : Nat) : Chip :=
  match c.boot.run with
  | some r => (c.setRun none).bootStatus false r.cmd st (c.fld Reg.bootCmdStatus 31 0)
  | none => c

/-- A command with no image, no calibration and nothing left to do. -/
def BootRun.mk0 (cmd : Nat) (word : W64) : BootRun :=
  { cmd := cmd, word := word, slot := 0, img := none, seq := 0, cal := [], units := 0, waits := false, cut := false }

/-! Units of a flash or fuse write (R411, R412). -/

/-- R411: the longest time of a unit in microseconds: 1 ms for a fuse word, else a sector. -/
def unitUs (nv : Nv) (cmd : Nat) : Nat := if cmd = 8 then 1000 else nv.flash.sectorUs

/-- R404: the fuses of a fuse word. -/
def fuseWord : Nat := max 1 Config.fuseWordBits

/-- R404: the fuse words that raise the thermometer from `a` to `b`. -/
def svnWords (a b : Nat) : Nat := if a < b then (b - 1) / fuseWord - a / fuseWord + 1 else 0

/-- R404: the key slots that SVN_COMMIT revokes. -/
def revokes (nv : Nv) (i : CfgImage) : List Nat :=
  if i.revokeLower then
    (upTo 4).filter (fun k => decide (k < i.keyIndex) && (nv.keys.getD k none).isSome && !(nv.revoked.getD k false))
  else []

/-- R404: the fuse words that SVN_COMMIT programs. -/
def svnUnits (nv : Nv) (i : CfgImage) : Nat :=
  svnWords nv.svnFused i.securityVer + (if (revokes nv i).isEmpty then 0 else 1)

/-- R405: slot 0 extended with the ROM and the fuses. -/
def Chip.extendFuses (c : Chip) (nv : Nv) : Chip :=
  let bits := fun (f : Nat → Bool) => sumN ((upTo 4).map (fun k => if f k then 2 ^ k else 0))
  c.extend 0 1 0 (leBytes (Config.fuseDigest nv.svnFused (bits (fun k => (nv.keys.getD k none).isSome))
    (bits (fun k => nv.revoked.getD k false))) 32)

/-- R404: one fuse word programmed: first the thermometer of 128 fuses, then the revoke bits. -/
def Nv.fuse (nv : Nv) (i : CfgImage) : Nv :=
  if nv.svnFused < min i.securityVer 128 then
    { nv with svnFused := min (min i.securityVer 128) ((nv.svnFused / fuseWord + 1) * fuseWord) }
  else { nv with revoked := (upTo 4).map (fun k => nv.revoked.getD k false || (revokes nv i).contains k) }

/-- R412: what the start of a write does to what it overwrites: the old contents no longer pass their check. -/
def Nv.spoil (nv : Nv) (r : BootRun) : Nv :=
  let bad : CalCopy := { CalCopy.of r.seq [] with digest := 0 }
  if r.cmd = 5 then { nv with slots := nv.slots.set r.slot none }
  else if r.cmd = 6 then (if r.slot = 0 then { nv with copyA := bad } else { nv with copyB := bad })
  else if r.cmd = 7 then (if 128 < r.units then { nv with copyA := .none } else { nv with copyB := .none })
  else nv

/-- R404: SVN_COMMIT has run. -/
def State.svnEnds (s : State) (st : Nat) : State :=
  let c := (s.chip.bootEnd st).extendFuses s.nv
  { s with chip := if st = stOk then c.log { code := 0x010B } else c }

/-- The command that runs ends with a status, after its last unit or for want of energy. -/
def State.runEnds (s : State) (st : Nat) : State :=
  match s.chip.boot.run with
  | some r => if r.cmd = 8 then s.svnEnds st else { s with chip := s.chip.bootEnd st }
  | none => s

/-- R411: the next unit starts if the energy suffices; else the command ends with ST_HOLDUP_INSUFFICIENT. -/
def State.nextUnit (s : State) (r : BootRun) : State :=
  let (ok, c) := holdup s.chip (unitUs s.nv r.cmd) r.cmd
  if ok then { s with chip := c.setRun (some r), nv := s.nv.spoil r }
  else ({ s with chip := c.setRun (some r) } : State).runEnds stHoldup

/-- A command that writes units starts. -/
def State.startUnits (s : State) (r : BootRun) : State :=
  ({ s with chip := s.chip.bootStatus true r.cmd 0 0 } : State).nextUnit r

/-- R404: SVN_COMMIT. One that would change nothing ends with ST_OK. -/
def State.svnCommit (s : State) (word : W64) : State :=
  match s.chip.boot.img with
  | none => { s with chip := s.chip.bootDone 8 stNotReady }
  | some i =>
    let n := svnUnits s.nv i
    if n = 0 then { s with chip := (s.chip.bootDone 8 stOk).extendFuses s.nv }
    else s.startUnits { BootRun.mk0 8 word with img := some i, units := n }

/-- R404: SVN_COMMIT runs by itself once it is due and no command runs. -/
def State.svnAuto (s : State) : State :=
  if s.chip.boot.svnDue && s.chip.boot.run.isNone then
    ({ s with chip := { s.chip with boot := { s.chip.boot with svnDue := false } } } : State).svnCommit 0#64
  else s

/-- R415: CAL_SAVE: the values in use of the selected kinds, with the overlay entries of the others, into the older copy. -/
def State.calSave (s : State) (word : W64) (kinds : Nat) : State :=
  let sel := fun (k : Nat) => decide (1 ≤ k) && kinds.testBit (k - 1)
  let (old, seq, have_) : Nat × Nat × List (Nat × Nat × List Byte) := match s.nv.overlay with
    | some (w, o) => (1 - w, wrapSucc 32 o.seq, o.entries)
    | none => (0, 1, [])
  let cal := s.chip.boot.trained.filter (fun e => sel e.1) ++ have_.filter (fun e => !sel e.1)
  s.startUnits { BootRun.mk0 6 word with slot := old, seq := seq, cal := cal, units := cdiv (CalCopy.of seq cal).bytes.length 4096 }

/-- R415: CAL_RESTORE_FACTORY: the 128 sectors of both copies. -/
def State.calRestore (s : State) (word : W64) : State := s.startUnits { BootRun.mk0 7 word with units := 256 }

/-- R412: what the last unit of a command leaves in the flash. -/
def Nv.finish (nv : Nv) (r : BootRun) (readBackOk : Bool) : Nv :=
  if r.cmd = 5 then { nv with slots := nv.slots.set r.slot (if readBackOk then r.img else none) }
  else if r.cmd = 6 then
    let k := CalCopy.of r.seq r.cal
    if r.slot = 0 then { nv with copyA := k } else { nv with copyB := k }
  else nv

/-- R413, R415: the command has written its last unit. -/
def State.written (s : State) (r : BootRun) (readBackOk : Bool) : State :=
  let c := s.chip
  let useNow := fun (c : Chip) => { c with boot := { c.boot with calUse := s.nv.effectiveCal } }
  if r.cmd = 5 then s.runEnds (if readBackOk then stOk else stUncorrectable)
  else if r.cmd = 6 then
    ({ s with chip := ((useNow c).log { code := 0x0107 }).extendCal s.nv } : State).runEnds stOk
  else if r.cmd = 7 then
    let c := useNow c
    let c := (c.boot.calUse.filter (fun e => e.1 == 5)).foldl (fun c e => c.trainAs 5 e.2.1 e.2.2) c
    ({ s with chip := ((c.showBulk).log { code := 0x0108 }).extendCal s.nv } : State).runEnds stOk
  else s.runEnds stOk

/-- R404, R412: what a completed unit leaves in the flash and the fuses: a fuse word at once, a sector's contents with the last. -/
def Nv.unitDone (nv : Nv) (r : BootRun) (readBackOk : Bool) : Nv :=
  match r.cmd, r.img with
  | 8, some i => nv.fuse i
  | _, _ => if r.units ≤ 1 then nv.finish r readBackOk else nv

/-- FLASH_UNIT_COMPLETES (R411, R412): the unit in progress ends; then the next one is checked, or the command ends. -/
def flashUnit (s : State) (readBackOk : Bool) : State :=
  match s.chip.boot.run with
  | none => s
  | some r =>
    if r.waits then s
    else
      let s : State := { s with nv := s.nv.unitDone r readBackOk,
                                chip := if r.cmd = 8 then s.chip else s.chip.bump Reg.bootFlashUnits }
      if r.cut then { s with chip := s.chip.setRun none }
      else
        let s : State := { s with chip := s.chip.setFld Reg.bootCmdStatus 31 0 (s.chip.fld Reg.bootCmdStatus 31 0 + 1) }
        if r.units ≤ 1 then (s.written r readBackOk).svnAuto
        else (s.nextUnit { r with units := r.units - 1 }).svnAuto

/-! The device state (R392). -/

/-- R392: the first entry to SERVICE after a cold reset; SVN_COMMIT follows where the image sets `COMMIT_SVN`. -/
def State.toService (s : State) : State :=
  let c := s.chip.enterState 3
  if c.boot.completed then { s with chip := c }
  else
    let c := c.log { code := 0x0104 }
    let due := match c.boot.img with
      | some i => i.commitSvn
      | none => false
    ({ s with chip := { c with boot := { c.boot with completed := true, svnDue := due } } } : State).svnAuto

/-- R392, R494: how a state command ends: `k` 1 ENTER_SERVICE, 2 ENTER_TEST, 3 ENTER_RECOVERY. -/
def Chip.enterCheck (c : Chip) (k : Nat) : Nat :=
  let s := c.devState
  if s = 2 ∧ k ≠ 3 ∧ !c.board.collarOk then stPartFull
  else if k = 2 ∧ s ≠ 2 ∧ s ≠ 4 then stBusy
  else if k = 3 ∧ s = 2 then stBusy
  else stOk

/-- ENTER_SERVICE, ENTER_TEST, ENTER_RECOVERY (R392). -/
def State.enterCmd (s : State) (k : Nat) : State :=
  let st := s.chip.enterCheck k
  let s : State := { s with chip := s.chip.bootDone k st }
  if st ≠ stOk then s
  else if k = 1 then s.toService
  else { s with chip := s.chip.enterState (if k = 2 then 4 else 5) }

/-- R392, R494: START_UP enters SERVICE once every declared partition has left LOADING and `START_MODE` is 0. -/
def State.bootCheck (s : State) : State :=
  let c := s.chip
  let auto := match c.boot.img with
    | some i => i.composition.startMode == 0
    | none => false
  if c.devState = 2 && auto && c.board.collarOk && (upTo 16).all (fun p => c.partState p != 1) then s.toService else s

/-- R401, R413: the slot that the device booted from: the one accepted. -/
def Chip.bootedFrom (c : Chip) : Option Nat :=
  if c.fld Reg.idBootStatus 53 51 = 1 then some 0 else if c.fld Reg.idBootStatus 50 48 = 1 then some 1 else none

/-- R410, R413, R417: the status with which a command that reads an image ends before it reads: `k` 4 APPLY_IMAGE,
5 WRITE_SLOT. -/
def Chip.readCheck (c : Chip) (word : W64) (k : Nat) : Nat :=
  let slot := fieldOf word 13 13
  let window := k == 5 || bitOf word 12
  if k = 4 ∧ c.devState = 3 then stBusy
  else if k = 5 ∧ c.bootedFrom = some slot then stBusy
  else if window && !c.windowOk (fieldOf word 19 18) (fieldOf word 17 14) (c.fld Reg.bootCmdArg 47 0) 128 false then stDenied
  else stOk

/-- BOOT_CMD (R417) with `GO`, from the owner port. APPLY_IMAGE and WRITE_SLOT then wait for their image to be read. -/
def State.bootCommand (s : State) (word : W64) : State :=
  let cmd := fieldOf word 7 0
  let c := s.chip
  if c.boot.run.isSome then { s with chip := c.log (refused 0x0105 Reg.bootCmd) }
  else if 1 ≤ cmd ∧ cmd ≤ 3 then s.enterCmd cmd
  else if cmd = 4 ∨ cmd = 5 then
    let st := c.readCheck word cmd
    if st = stOk then
      { s with chip := (c.setRun (some { BootRun.mk0 cmd word with slot := fieldOf word 13 13, waits := true })).bootStatus true cmd 0 0 }
    else { s with chip := c.bootDone cmd st }
  else if cmd = 6 then s.calSave word (fieldOf word 25 20)
  else if cmd = 7 then s.calRestore word
  else if cmd = 8 then s.svnCommit word
  else { s with chip := c.bootDone cmd stMalformed }

/-! Documents (R406 to R408). -/

/-- Bytes cut or padded to a length. -/
def fixLen (n : Nat) (l : List Byte) : List Byte := (l ++ List.replicate n 0#8).take n

/-- R406: the 10 ASCII bytes "FK9600 AIK". -/
def aikInfo : List Byte := [0x46#8, 0x4B#8, 0x39#8, 0x36#8, 0x30#8, 0x30#8, 0x20#8, 0x41#8, 0x49#8, 0x4B#8]

/-- R406: SK.seed, SK.prf and PK.seed of the attestation key, of 16 bytes each; the device secret's bytes lowest first (log
entry 25). -/
def aikSeeds (nv : Nv) : List Byte := hkdf256 (leBytes nv.secret 32) (List.replicate 32 0#8) aikInfo 48

/-- R406: the public root of the attestation key. -/
def aikRoot (nv : Nv) : List Byte := slhRoot slh128f ((aikSeeds nv).take 16) ((aikSeeds nv).drop 32)

/-- R406: the attestation public key, PK.seed and PK.root. -/
def aikPublic (nv : Nv) : List Byte := (aikSeeds nv).drop 32 ++ aikRoot nv

/-- R407: the attestation key's signature over a document, hedged with 16 random bytes. -/
def aikSign (nv : Nv) (msg rnd : List Byte) : List Byte :=
  let k := aikSeeds nv
  slhSign slh128f (k.take 16) ((k.drop 16).take 16) (k.drop 32) (aikRoot nv) msg rnd

/-- R406: the endorsement record. -/
def endorsementRecord (c : Chip) (nv : Nv) : List Byte :=
  let part := c.reg Reg.idPart
  let d := leBytes nv.serial.toNat 8 ++ leBytes (fieldOf part 31 16) 2 ++ leBytes (fieldOf part 47 32) 2 ++ leBytes 0 4 ++
    aikPublic nv ++ leBytes 0 16
  d ++ fixLen 7856 (Config.endorsement d)

/-- R407: the body prefix of a quote (1) or a service report (2). -/
def docPrefix (c : Chip) (nv : Nv) (kind : Nat) : List Byte :=
  let part := c.reg Reg.idPart
  let (ver, svn, key) := match c.boot.img with
    | some i => (i.imageVer, i.securityVer, i.keyIndex)
    | none => (0, 0, 0)
  leBytes 0x51414B46 4 ++ leBytes 1 2 ++ leBytes kind 2 ++ leBytes (fieldOf part 31 16) 2 ++ leBytes (fieldOf part 47 32) 2 ++
    leBytes c.deviceId 2 ++ leBytes c.devState 1 ++ leBytes nv.svnFused 1 ++ leBytes nv.serial.toNat 8 ++ leBytes ver 8 ++
    leBytes svn 2 ++ leBytes (c.fld Reg.idBootStatus 55 54) 1 ++ leBytes key 1 ++ leBytes 0 4 ++ leBytes (c.boot.docSeq + 1) 8 ++
    leBytes (c.reg (Reg.secBootId 0)).toNat 8 ++ leBytes (c.reg (Reg.secBootId 1)).toNat 8 ++
    ((upTo 4).map (fun w => leBytes (c.boot.nonce.getD w 0#64).toNat 8)).flatten ++ aikPublic nv ++
    ((upTo 8).map (fun n => c.meas n)).flatten

/-- R407: what a service report adds. -/
def docReport (c : Chip) (cust : Nat) : List Byte :=
  let rate := c.reg (Reg.tenRate cust)
  leBytes cust 2 ++ leBytes 0 2 ++ leBytes 0 4 ++ leBytes (fieldOf rate 63 32) 4 ++ leBytes (fieldOf rate 23 0) 4 ++
    leBytes (c.reg (Reg.tenCounted cust)).toNat 8 ++ leBytes (c.reg (Reg.tenExcess cust)).toNat 8 ++
    ((upTo 64).map (fun b => leBytes (c.reg (Reg.tenHistSnapBin b)).toNat 8)).flatten

/-- R405, R408: `N_LOG`, `LOG_FLAGS` and the log entries. -/
def docLog (c : Chip) : List Byte :=
  leBytes c.boot.log.length 4 ++ leBytes (bitN c.boot.overflow) 4 ++
    (c.boot.log.map (fun e => leBytes e.1 1 ++ leBytes e.2.1 1 ++ leBytes 0 2 ++ leBytes e.2.2.1 4 ++ fixLen 32 e.2.2.2)).flatten

/-- SEC_QUOTE_STATUS written. -/
def Chip.docStatus (c : Chip) (busy : Bool) (st len : Nat) : Chip :=
  c.setReg Reg.secQuoteStatus (wordOf [(63, 63, bitN busy), (47, 32, st), (31, 0, len)])

/-- R387, R408: the bytes of a document start on their way to the host. -/
def Chip.docSend (c : Chip) (d : DocRun) (bytes : List Byte) : Chip :=
  let c := { c with boot := { c.boot with doc := some { d with signed := true, length := bytes.length } } }
  let (ok, c) := c.bulkStart d.port d.window true d.offset bytes.length bytes .document 0
  if ok then c else c.endDoc stDenied 0

/-- R408: the status with which a request ends before it starts; `len` the bytes it would write. -/
def Chip.docCheck (c : Chip) (v : W64) (len : Nat) : Nat :=
  let kind := fieldOf v 17 16
  if kind = 0 ∨ fieldOf v 61 36 ≠ 0 ∨ fieldOf v 15 0 ≠ 0 then stMalformed
  else if !c.domUp 7 then stOffline
  else if !c.windowOk (fieldOf v 23 22) (fieldOf v 21 18) (c.fld Reg.secQuoteArg 47 0) len true then stDenied
  else stOk

/-- SEC_QUOTE_CMD with `GO`, from the owner port (R408). -/
def docRequest (c : Chip) (nv : Nv) (v : W64) : Chip :=
  if c.boot.doc.isSome then c.log (refused 0x0105 Reg.secQuoteCmd)
  else
    let kind := fieldOf v 17 16
    let cust := fieldOf v 35 24
    let len := if kind = 3 then 7920 else (if kind = 2 then 928 else 384) + 17088 + 8 + 40 * c.boot.log.length
    let st := c.docCheck v len
    if st ≠ stOk then c.docStatus false st 0
    else
      let c := c.docStatus true 0 0
      let d : DocRun := { kind := kind, port := fieldOf v 23 22, window := fieldOf v 21 18, offset := c.fld Reg.secQuoteArg 47 0,
                          body := [], log := [], signed := false, length := 0 }
      if kind = 3 then c.docSend d (endorsementRecord c nv)
      else
        let c := if kind = 2 then tenHistSnap c cust (bitOf v 62) else c
        let body := docPrefix c nv kind ++ (if kind = 2 then docReport c cust else [])
        { c with boot := { c.boot with doc := some { d with body := body, log := docLog c } } }

/-- DOCUMENT_SIGNED (R407, R408): the randomness is two free values. -/
def documentSigned (nv : Nv) (c : Chip) : Chip :=
  match c.boot.doc with
  | none => c
  | some d =>
    if d.signed then c
    else
      let (k, c) := c.takeFree
      let (j, c) := c.takeFree
      let rnd := leBytes (Config.freeWord k).toNat 8 ++ leBytes (Config.freeWord j).toNat 8
      let c := ({ c with boot := { c.boot with docSeq := c.boot.docSeq + 1 } }).bump Reg.secDocsSigned
      c.docSend d (d.body ++ aikSign nv d.body rnd ++ d.log)

/-- R408: the bulk write of a document has ended. -/
def Chip.docWritten (c : Chip) (st : Nat) : Chip :=
  match c.boot.doc with
  | some d => c.endDoc st (if st = stOk then d.length else 0)
  | none => c

end Sys2Proof.Machine
end

