-- ==== Sys2Proof/Machine/RegWrite.lean ====
section
/-!
DEFINITION. Reading and writing the register space (R5 to R7, R453 to R475): the writable registers of each block with their
writers, clamps and effects, half accesses (R454, R460), the windows (R463 to R465), and the route tables (R323 to R327).
A write answers whether it was accepted: false where the owning chapter ignores or refuses it (R400 asks).
-/
namespace Sys2Proof.Machine

/-- A write that only some writers may make: another one's is ignored, and logged where the chapter names an event. -/
def guardW (ok : Bool) (code off : Nat) (c : Chip) (f : Chip → Bool × Chip) : Bool × Chip :=
  if ok then f c else (false, if code = 0 then c else c.log (refused code off))

/-- R6, R7: the fields of a register written under their clamps. -/
def Chip.putFields (c : Chip) (off : Nat) (fs : List RwField) (clamped : Option Nat) (v : W64) : Chip :=
  c.setReg off (rwWrite fs clamped (c.reg off) v)

/-- R252, R351, R388: a register whose values a write of another register puts outside their range is clamped. -/
def Chip.reclamp (c : Chip) (off : Nat) (fs : List RwField) (clamped : Nat) : Chip :=
  if writeClamps (c.reg off) fs then c.putFields off fs (some clamped) (c.reg off) else c

/-- A register of plain fields. -/
def plainW (off : Nat) (fs : List RwField) (clamped : Option Nat) (v : W64) (c : Chip) : Bool × Chip :=
  (true, c.putFields off fs clamped v)

/-! Ranges that depend on other registers. -/

/-- R252: a move timer is at most a quarter of DECODE_SILENCE_LIMIT. -/
def Chip.movFields (c : Chip) : List RwField :=
  let m := min 2000 (25 * c.fld Reg.movPhaseTimers 15 0)
  [⟨47, 32, 10, m⟩, ⟨31, 16, 10, m⟩, ⟨15, 0, 10, m⟩]

/-- R351: REPLAY_HOLD is at least 2 × `TRIES` × `ATOMIC_TIMEOUT`, WRITE_TIMEOUT at most half of MOVE_ACK_WAIT. -/
def Chip.rmaFields (c : Chip) (v : W64) : List RwField :=
  let tries := clampN 1 7 (fieldOf v 62 60)
  let atomic := clampN 7 63 (fieldOf v 59 54)
  [⟨62, 60, 1, 7⟩, ⟨59, 54, 7, 63⟩, ⟨53, 48, 1, 32⟩, ⟨47, 40, 2, min 200 (c.fld Reg.movTimers 47 32 / 2)⟩,
   ⟨39, 32, max 10 (cdiv (2 * tries * atomic) 10), 200⟩, ⟨31, 24, 1, 200⟩, ⟨23, 16, 1, 100⟩, ⟨15, 8, 10, 255⟩]

/-- R351: SW_COMBINE_HOLD is at most `ATOMIC_TIMEOUT` less 1 µs. -/
def Chip.swFields (c : Chip) : List RwField :=
  [⟨28, 25, 1, 15⟩, plainField 24 24, plainField 23 23, ⟨22, 16, 1, 100⟩, ⟨15, 8, 1, 100⟩,
   ⟨7, 0, 10, min 70 ((c.fld Reg.rmaTimers 59 54 - 1) * 10)⟩]

/-- R388: HL_DOWN_HOLD is at least `TRAIN_LIMIT` × `TRAIN_TRIES`. -/
def Chip.hostFields (c : Chip) : List RwField :=
  let t := c.reg Reg.hlLinkTimers
  [⟨62, 60, 1, 7⟩, ⟨59, 47, max 1 (cdiv (fieldOf t 46 37 * fieldOf t 62 60) 10), 6000⟩, ⟨46, 37, 1, 1000⟩, ⟨36, 29, 1, 255⟩,
   ⟨28, 21, 1, 200⟩]

/-- R439: `P_PEAK_W` is at least `P_CONT_W`. -/
def limitFields (v : W64) : List RwField :=
  [⟨59, 48, 1000, 2600⟩, ⟨47, 36, clampN 1000 2600 (fieldOf v 59 48), 3000⟩, ⟨35, 28, 1, 10⟩, plainField 27 24,
   plainField 23 23]

/-! Boot, configuration and security. -/

/-- R409: a protection write is logged and measured. -/
def Chip.protected (c : Chip) (off : Nat) (v : W64) : Chip :=
  (c.log { code := 0x010C }).extend 7 9 0 (sha256 (leBytes off 4 ++ leBytes 0 4 ++ leBytes v.toNat 8))

/-- R409: SEC_HOST_ACCESS: the owner port's bits read 1. -/
def Chip.hostAccessSet (c : Chip) (p bits : Nat) : Chip :=
  c.setReg (Reg.secHostAccess p) (BitVec.ofNat 64 ((bits % 256) ||| (3 * 4 ^ c.fld Reg.idDevice 47 46)))

/-- R409: SEC_PROTECT: `SMB_LEVEL` 3 is written as 2, and `JTAG_OFF` stays once set. -/
def Chip.protectSet (c : Chip) (smb : Nat) (jtag : Bool) : Chip :=
  c.setReg Reg.secProtect (wordOf [(3, 2, min 2 smb), (1, 1, bitN (jtag || c.bit Reg.secProtect 1))])

/-- The boot and security block (R408, R409, R417, R418). -/
def bootWrite (s : State) (a : Accessor) (off : Nat) (v : W64) : Bool × State :=
  let c := s.chip
  let put := fun (c : Chip) => (true, ({ s with chip := c } : State))
  if !c.accOwner a then (false, { s with chip := c.log (refused 0x010D off) })
  else if off = Reg.bootCmd then
    if bitOf v 63 then (c.boot.run.isNone, s.bootCommand v) else (true, s)
  else if off = Reg.bootCmdArg then put (c.putFields off [plainField 47 0] none v)
  else if off = Reg.bootHoldup then put (c.putFields off holdupFields (some 63) v)
  else if off = Reg.secQuoteArg then put (c.putFields off [plainField 47 0] none v)
  else if off = Reg.secQuoteCmd then
    if bitOf v 63 then (c.boot.doc.isNone, { s with chip := docRequest c s.nv v }) else (true, s)
  else if Reg.secQuoteNonce 0 ≤ off ∧ off ≤ Reg.secQuoteNonce 3 then
    put { c with boot := { c.boot with nonce := c.boot.nonce.set ((off - Reg.secQuoteNonce 0) / 8) v } }
  else if off = Reg.secProtect then put ((c.protectSet (fieldOf v 3 2) (bitOf v 1)).protected off v)
  else put ((c.hostAccessSet ((off - Reg.secHostAccess 0) / 8) (fieldOf v 7 0)).protected off v)

/-! Power, clocks and reset. -/

/-- PWR_MODULE_RESET (R436): a confirmed write asks for a module cold reset. -/
def moduleReset (c : Chip) (a : Accessor) (v : W64) : Bool × Chip :=
  if !c.accOwner a || fieldOf v 15 0 != 0x0C0D then (false, c.log (refused 0x0204 Reg.pwrModuleReset))
  else if bitOf v 63 then (true, { c with pwr := { c.pwr with modReset := true } })
  else (true, c)

/-- The power block (R428, R436, R439, R441). -/
def pwrWrite (c : Chip) (a : Accessor) (off : Nat) (v : W64) : Bool × Chip :=
  let own := c.accOwner a
  if off = Reg.pwrDomainCmd then
    if own && !bitOf v 63 then (true, c)
    else (own && c.pwr.cmd.isNone, pwrCommand c a (fieldOf v 10 8) (fieldOf v 4 0) (bitOf v 62))
  else if off = Reg.pwrModuleReset then moduleReset c a v
  else if off = Reg.pwrLimitCtrl then guardW own 0x0204 off c (plainW off (limitFields v) (some 63) v)
  else guardW own 0x0204 off c (plainW off thermalFields (some 63) v)

/-! Events and counters. -/

/-- The events block (R449, R450, R452, R455). -/
def evtWrite (c : Chip) (nv : Nv) (a : Accessor) (off : Nat) (v : W64) : Bool × Chip :=
  guardW (c.accOwner a) 0x0302 off c (fun c =>
    if off = Reg.evtRateSel then (true, c.putFields off [plainField 15 0] none v)
    else if off = Reg.evtRate then (codeDefined (c.fld Reg.evtRateSel 15 0), evtSetRate c v)
    else if off = Reg.evtReadSel then (true, evtSelect c v)
    else if off = Reg.evtMirrorSel then (true, evtMirrorSelect nv c v)
    else (true, cntClearAll c v))

/-! Requests, partitions and customers. -/

/-- R206: PART_SPEC_CTRL: a `K_INIT` above `K_MAX` reads as `K_MAX`. -/
def Chip.specCtrlSet (c : Chip) (off : Nat) (v : W64) : Chip :=
  let c := c.putFields off specCtrlFields (some 63) v
  if c.fld off 7 4 < c.fld off 3 0 then c.setFld off 3 0 (c.fld off 7 4) else c

/-- R240: a write of TEN_HIST_SNAP by owner software. -/
def Chip.snapWrite (c : Chip) (v : W64) : Chip :=
  if bitOf v 63 then tenHistSnap c (fieldOf v 11 0) (bitOf v 62) else c

/-- The requests block (R84, R206, R218, R234 to R236, R240). -/
def reqWrite (c : Chip) (a : Accessor) (off : Nat) (v : W64) : Bool × Chip :=
  let own := c.accOwner a
  if off = Reg.partStepWatchdog then guardW own 0 off c (plainW off watchdogFields (some 63) v)
  else if off = Reg.partReload then
    if own && !bitOf v 63 then (true, c)
    else
      let p := fieldOf v 3 0
      let st := c.partState p
      (own && st != 0 && st != 1 && st != 6, partReload c a p)
  else if off = Reg.tenRefillCtrl then guardW own 0x040B off c (plainW off refillFields (some 63) v)
  else if off = Reg.tenHistSnap then guardW own 0 off c (fun c => (true, c.snapWrite v))
  else if off < Reg.partState 0 then guardW own 0x040F off c (fun c => (true, c.specCtrlSet off v))
  else if off < Reg.tenRefillCtrl then guardW own 0x040B off c (plainW off admitCtrlFields (some 31) v)
  else if off % 0x40 = 0 then guardW own 0x040B off c (plainW off tenRateFields none v)
  else guardW own 0x040B off c (plainW off tenPolicyFields (some 15) v)

/-! State mover, KV manager and embedding station. -/

/-- R351: MOVE_ACK_WAIT bounds WRITE_TIMEOUT. DESIGN CHOICE (log entry 27): the bound holds at a write of either of the two. -/
def Chip.moveTimersBound (c : Chip) : Chip := c.reclamp Reg.rmaTimers (c.rmaFields (c.reg Reg.rmaTimers)) 63

/-- R270: DECODE_SILENCE_LIMIT bounds the move timers (R252). -/
def Chip.phaseTimersSet (c : Chip) (v : W64) : Chip :=
  let c := c.putFields Reg.movPhaseTimers phaseTimerFields (some 63) v
  (c.reclamp Reg.movTimers c.movFields 63).moveTimersBound

/-- R271: MOV_PART_TIER: a `PAUSE_TARGET` of 3 is written as 0, and `CLAMPED` is set. -/
def Chip.partTierSet (c : Chip) (off : Nat) (v : W64) : Chip :=
  let c := c.putFields off partTierFields (some 63) v
  let t := fieldOf v 21 20
  if t = 3 then c.setFlds off [(63, 63, 1), (21, 20, 0)] else c.setFld off 21 20 t

/-- The state mover block (R269 to R271). -/
def movWrite (c : Chip) (a : Accessor) (off : Nat) (v : W64) : Bool × Chip :=
  guardW (c.accOwner a) 0x0808 off c (fun c =>
    if off = Reg.movTimers then (true, (c.putFields off c.movFields (some 63) v).moveTimersBound)
    else if off = Reg.movPhaseTimers then (true, c.phaseTimersSet v)
    else (true, c.partTierSet off v))

/-- The KV block (R150, R189, R473). -/
def kvWrite (c : Chip) (a : Accessor) (off : Nat) (v : W64) : Bool × Chip :=
  let own := c.accOwner a
  if off = Reg.kvDescSel then guardW own 0 off c (fun c => (true, kvDescSelect c v))
  else if off < Reg.kvPartPressure 0 then
    guardW own 0x0A02 off c (fun c => (true, kvShareSet c ((off - Reg.kvPartShare 0) / 8) v))
  else guardW own 0x0A02 off c (plainW off pressureFields (some 63) v)

/-- The embedding block (R297, R298). -/
def embWrite (c : Chip) (a : Accessor) (off : Nat) (v : W64) : Bool × Chip :=
  guardW (c.accOwner a) 0x1405 off c (fun c =>
    if off = Reg.embCtrl then (true, c.putFields off embCtrlFields (some 63) v)
    else (true, replicaStore c ((off - Reg.embPartCtrl 0) / 8) v))

/-! The seam (R309, R311, R323 to R328, R337, R338). -/

/-- R309, R328: who may write the seam's registers. -/
def Chip.accSeam (c : Chip) (a : Accessor) : Bool :=
  match a with
  | .manager => true
  | _ => c.accOwner a

/-- R323: whether an entry names a port value from 17 to 31. -/
def routeBad (v : W64) : Bool := (upTo 8).any (fun j => decide (17 ≤ fieldOf v (5 * j + 4) (5 * j)))

/-- R323: an entry as it is kept: slots at or above the set size hold 0. -/
def routeWord (v : W64) : W64 :=
  let n := fieldOf v 62 60 + 1
  wordOf [(63, 63, fieldOf v 63 63), (62, 60, fieldOf v 62 60), (5 * n - 1, 0, fieldOf v (5 * n - 1) 0)]

/-- ROUTE_ENTRY_WRITE (R323, R324). -/
def routeWrite (c : Chip) (a : Accessor) (off : Nat) (v : W64) (half : Bool) : Bool × Chip :=
  guardW (c.accSeam a && !half && !routeBad v) 0x0C09 off c (fun c => (true, c.setReg off (routeWord v)))

/-- R326: the live table and the shadow table. -/
def Chip.liveTable (c : Chip) : RegFile :=
  (c.regs.filter (fun e => decide (0xC80000 ≤ e.1) && decide (e.1 < 0xD00000))).map (fun e => ((e.1 - 0xC80000) / 8, e.2))

/-- R326: the shadow contents become the current table, and the shadow keeps them. -/
def Chip.shadowToLive (c : Chip) : Chip :=
  let low := c.regs.filter (fun e => decide (e.1 < 0xC80000))
  let sh := c.regs.filter (fun e => decide (0xD00000 ≤ e.1) && decide (e.1 < 0xD80000))
  let high := c.regs.filter (fun e => decide (0xD00000 ≤ e.1))
  { c with regs := low ++ sh.map (fun e => (e.1 - 0x80000, e.2)) ++ high }

/-- SW_EPOCH_COMMIT (R326). -/
def epochCommit (c : Chip) (a : Accessor) (e : Nat) : Bool × Chip :=
  if !c.accSeam a then (false, c.log (refused 0x0C09 Reg.swEpochCommit))
  else
    let cur := c.fld Reg.swCtrl 60 45
    let st := c.devState
    if (st == 2 || st == 4 || st == 5) && e == wrapSucc 16 cur then
      let c := { c with fab := { c.fab with prev := c.liveTable } }
      let c := c.shadowToLive
      (true, (c.setFlds Reg.swCtrl [(62, 62, 0), (61, 61, 1), (60, 45, e)]).log { code := 0x0C0A, param1 := e })
    else (false, (c.setFld Reg.swCtrl 62 62 1).log (refused 0x0C09 Reg.swEpochCommit))

/-- SW_DRAIN (R326): the previous table is discarded. -/
def swDrain (c : Chip) : Chip :=
  if c.bit Reg.swCtrl 61 then ({ c with fab := { c.fab with prev := [] } }).setFld Reg.swCtrl 61 61 0 else c

/-- The seam block. -/
def fabWrite (c : Chip) (a : Accessor) (off : Nat) (v : W64) : Bool × Chip :=
  let ok := c.accSeam a
  if off < Reg.fabPortStatus 0 then guardW ok 0x0C09 off c (fun c => (true, c.portCtrl (.fabric ((off - Reg.fabPortCtrl 0) / 8)) v))
  else if off = Reg.fabLinkTimers then guardW ok 0x0C09 off c (plainW off linkTimerFields (some 63) v)
  else if off = Reg.swCtrl then guardW ok 0x0C09 off c (fun c => (true, c.putFields off c.swFields (some 63) v))
  else if off = Reg.swEpochCommit then
    if bitOf v 63 then epochCommit c a (fieldOf v 15 0) else guardW ok 0x0C09 off c (fun c => (true, c))
  else if off = Reg.swParams then guardW ok 0x0C09 off c (plainW off swParamsFields (some 39) v)
  else if off = Reg.fabCcCtrl then guardW ok 0x0C09 off c (plainW off ccCtrlFields (some 63) v)
  else if off = Reg.fabEgressTc then guardW ok 0x0C09 off c (plainW off egressTcFields (some 63) v)
  else if off < Reg.fabCnt 0 then guardW ok 0x0C09 off c (plainW off egressPartFields (some 15) v)
  else routeWrite c a off v false

/-! The remote memory engine (R342, R344, R351, R359 to R362). -/

/-- R342: whether a region word may be written, whatever `VALID` says; a word that names no tier and is not valid places no region (log
entry 29). -/
def Chip.regionAccepts (c : Chip) (r w : Nat) (v : W64) : Bool :=
  let w0 := if w = 0 then v else c.reg (Reg.rmaRegion r 0)
  let w1 := if w = 1 then v else c.reg (Reg.rmaRegion r 1)
  let base := fieldOf w0 47 0
  let len := fieldOf w1 47 0
  let p := fieldOf w0 58 55
  let others := c.regs.any (fun e => decide (0xE00000 ≤ e.1) && decide (e.1 < 0xE10000) && e.1 % 16 == 0 &&
    e.1 != Reg.rmaRegion r 0 && bitOf e.2 59 && fieldOf e.2 58 55 == p)
  base % 4096 == 0 && len % 4096 == 0 &&
    ((!bitOf w0 63 && fieldOf w0 62 61 == 0) || c.inShare p (fieldOf w0 62 61) base len) && !(bitOf w0 59 && others)

/-- A region word written. -/
def regionWrite (c : Chip) (a : Accessor) (r w : Nat) (v : W64) : Bool × Chip :=
  let off := Reg.rmaRegion r w
  guardW (c.accOwner a && c.regionAccepts r w v) 0x0E01 off c
    (plainW off (if w = 0 then regionFields0 else regionFields1) none v)

/-- R344: a grant's word 0 written by owner software or the fabric manager; word 1 is read only. -/
def grantWordWrite (c : Chip) (a : Accessor) (g w : Nat) (v : W64) : Bool × Chip :=
  let ok := match a with
    | .manager => true
    | _ => c.accOwner a
  if w = 1 then (false, c.log (refused 0x0E01 (Reg.rmaGrant g 1)))
  else guardW ok 0x0E01 (Reg.rmaGrant g 0) c
    (fun c => grantWrite c g v (match a with | .manager => c.mgrDevice | _ => c.deviceId))

/-- R359: a list header's word 0 written; word 1 is read only. -/
def listHdrWrite (c : Chip) (a : Accessor) (l w : Nat) (v : W64) : Bool × Chip :=
  let off := Reg.rmaWlHdr l w
  let armed := c.fld (Reg.rmaWlHdr l 0) 63 62 == 1
  let ok := c.accOwner a && !c.wlReserved l && (!armed || (w == 0 && fieldOf v 63 62 == 0))
  if !ok then (false, c.log (refused 0x0E01 off))
  else if w = 1 then (false, c)
  else (true, wlHdrWrite c l v)

/-- R351: RMA_TIMERS, with the clamp of SW_COMBINE_HOLD. -/
def Chip.rmaTimersSet (c : Chip) (v : W64) : Chip :=
  let c := c.putFields Reg.rmaTimers (c.rmaFields v) (some 63) v
  c.reclamp Reg.swCtrl c.swFields 63

/-- The remote memory block. -/
def rmaBlockWrite (c : Chip) (a : Accessor) (off : Nat) (v : W64) : Bool × Chip :=
  let own := c.accOwner a
  if off < 0xE10000 then regionWrite c a ((off - 0xE00000) / 16) ((off / 8) % 2) v
  else if off < 0xE20000 then grantWordWrite c a ((off - 0xE10000) / 16) ((off / 8) % 2) v
  else if off < 0xE30000 then listHdrWrite c a ((off - 0xE20000) / 16) ((off / 8) % 2) v
  else if off < 0xE31000 then
    let l := c.fld Reg.rmaWlSelect 11 0
    let armed := c.fld (Reg.rmaWlHdr l 0) 63 62 == 1
    guardW own 0x0E01 off c (fun c =>
      (!(c.wlReserved l) && !armed, wlEntryWrite c ((off - 0xE30000) / 32) ((off / 8) % 4) v))
  else guardW own 0x0E01 off c (fun c =>
    if off = Reg.rmaTimers then (true, c.rmaTimersSet v)
    else if off = Reg.rmaWlSelect then (true, c.putFields off [plainField 11 0] none v)
    else if off = Reg.rmaWlAdvance then (true, wlAdvanceWrite c v)
    else if off = Reg.rmaKeySel then (true, c.keySelect v)
    else (true, { c with rma := { c.rma with keyData := c.rma.keyData.set ((off - Reg.rmaKeyData 0) / 8) v } }))

/-! The Lateter link (R386, R389). -/

/-- R386: a window that swaps. -/
def winSwaps (w0 : W64) : Bool := bitOf w0 63 && bitOf w0 60

/-- HOST_WINDOW_WRITE (R386): clearing `VALID` or `SWAP` of a swap window, or giving it to another partition, loses its
pages. -/
def hostWindow (c : Chip) (a : Accessor) (p w d : Nat) (v : W64) : Bool × Chip :=
  let off := Reg.hlHostWin p w d
  let old := c.reg (Reg.hlHostWin p w 0)
  let other := match c.swapWindow (fieldOf v 59 56) with
    | some x => x != (p, w)
    | none => false
  let two := d == 0 && winSwaps v && (other || ((upTo 64).any (fun i => i != 16 * p + w &&
    winSwaps (c.reg (Reg.hlHostWin (i / 16) (i % 16) 0)) && fieldOf (c.reg (Reg.hlHostWin (i / 16) (i % 16) 0)) 59 56 == fieldOf v 59 56)))
  guardW (c.accOwner a && !two) 0x1009 off c (fun c =>
    if d = 1 then (true, c.setReg off v)
    else
      let lost := winSwaps old && (!winSwaps v || fieldOf old 59 56 != fieldOf v 59 56)
      let c := if lost then c.loseWindow p w else c
      (true, c.putFields off hostWinFields0 none v))

/-- R389: a write of HL_PORT_CTRL: not a `FENCE` of the owner port. -/
def hlCtrlWrite (c : Chip) (a : Accessor) (p : Nat) (v : W64) : Bool × Chip :=
  guardW (c.accOwner a && !(bitOf v 63 && c.isOwner p)) 0x1009 (Reg.hlPortCtrl p) c (fun c => (true, c.portCtrl (.lateter p) v))

/-- R388: HL_LINK_TIMERS, with the clamp of HL_DOWN_HOLD. -/
def Chip.hlTimersSet (c : Chip) (v : W64) : Chip :=
  let c := c.putFields Reg.hlLinkTimers linkTimerFields (some 63) v
  c.reclamp Reg.hlHostTimers c.hostFields 63

/-- The Lateter block. -/
def hlWrite (c : Chip) (a : Accessor) (off : Nat) (v : W64) : Bool × Chip :=
  let own := c.accOwner a
  if off < Reg.hlPortStatus 0 then hlCtrlWrite c a ((off - Reg.hlPortCtrl 0) / 8) v
  else if off = Reg.hlLinkTimers then guardW own 0x1009 off c (fun c => (true, c.hlTimersSet v))
  else if off = Reg.hlHostTimers then guardW own 0x1009 off c (fun c => (true, c.putFields off c.hostFields (some 63) v))
  else
    let i := (off - 0x1001000) / 16
    hostWindow c a (i / 16) (i % 16) ((off / 8) % 2) v

/-- A quadrant's writable registers: the station fence (R63) and the arithmetic flags (R53). -/
def quadWrite (c : Chip) (a : Accessor) (off : Nat) (v : W64) : Bool × Chip :=
  let q := (off - 0x2000000) / 0x400000
  if off = Reg.stnFence q then
    let i := fieldOf v 6 0
    let k := 128 * q + i
    let ok := c.accOwner a && decide (i ≤ 123) && (bitOf v 63 || c.fld (stnReg k) 34 31 == 4)
    (ok, stationFence c a q i (bitOf v 63))
  else guardW (c.accOwner a) 0 off c (fun c => (true, c.clearFlags off v))

/-! The whole space. -/

/-- R460, R462: a 64-bit write of the register at an offset, and whether it was accepted. Where no register lies, and at
a read-only one, the write is ignored. -/
def State.regWrite (s : State) (a : Accessor) (off : Nat) (v : W64) : Bool × State :=
  let up := fun (r : Bool × Chip) => (r.1, ({ s with chip := r.2 } : State))
  let go :=
    if off < 0x200000 then bootWrite s a off v
    else if off < 0x300000 then up (pwrWrite s.chip a off v)
    else if off < 0x400000 then up (evtWrite s.chip s.nv a off v)
    else if off < 0x800000 then up (reqWrite s.chip a off v)
    else if off < 0xA00000 then up (movWrite s.chip a off v)
    else if off < 0xC00000 then up (kvWrite s.chip a off v)
    else if off < 0xE00000 then up (fabWrite s.chip a off v)
    else if off < 0x1000000 then up (rmaBlockWrite s.chip a off v)
    else if off < 0x1200000 then up (hlWrite s.chip a off v)
    else if off < 0x2000000 then up (embWrite s.chip a off v)
    else up (quadWrite s.chip a off v)
  match regAccess off with
  | some .rw => go
  | some .w1c => go
  | some .wo => go
  | _ => (false, s)

/-- R5, R459: the register at an offset as a 64-bit read returns it. -/
def State.regRead (s : State) (off : Nat) : W64 :=
  let c := s.chip
  let bits := fun (f : Nat → Bool) => sumN ((upTo 4).map (fun k => if f k then 2 ^ k else 0))
  match regAccess off with
  | none => 0#64
  | some .wo => 0#64
  | _ =>
    if off = Reg.idSerial then s.nv.serial
    else if off = Reg.idCapStations then capStations c
    else if off = Reg.idCapLinks then capLinks c
    else if off = Reg.idCapMem then capMem c
    else if off = Reg.idBootStatus then putField (c.reg off) 47 40 s.nv.svnFused
    else if off = Reg.idHealth then c.health
    else if Reg.secAikPublic 0 ≤ off ∧ off ≤ Reg.secAikPublic 3 then
      BitVec.ofNat 64 (natOfLe (((aikPublic s.nv).drop (off - Reg.secAikPublic 0)).take 8))
    else if off = Reg.secFuseStatus then
      wordOf [(63, 63, bitN s.nv.factoryLock), (55, 48, s.nv.svnFused), (47, 44, bits (fun k => (s.nv.keys.getD k none).isSome)),
        (43, 40, bits (fun k => s.nv.revoked.getD k false))]
    else if Reg.secKeyHash 0 0 ≤ off ∧ off < Reg.secKeyHash 4 0 then
      let i := (off - Reg.secKeyHash 0 0) / 8
      match s.nv.keys.getD (i / 4) none with
      | some h => BitVec.ofNat 64 (h / 2 ^ (64 * (i % 4)))
      | none => 0#64
    else if off = Reg.clkLocalTime then BitVec.ofNat 64 c.time
    else if off = Reg.evtRingStatus ∨ off = Reg.evtRingOldest ∨ off = Reg.evtRingFill then evtRingView c off
    else if off = Reg.evtRate then evtRateView c
    else if Reg.kvPoolStatus 0 0 ≤ off ∧ off < Reg.kvDescSel then
      let i := (off - Reg.kvPoolStatus 0 0) / 8
      c.poolStatus (i / 4) (i % 4)
    else if 0xE30000 ≤ off ∧ off < 0xE31000 then
      c.wlWord (c.fld Reg.rmaWlSelect 11 0) ((off - 0xE30000) / 32) ((off / 8) % 4)
    else if Reg.embTableStatus 0 0 ≤ off ∧ off < Reg.embCnt 0 then
      c.embTableView ((off - Reg.embTableStatus 0 0) / 16) ((off / 8) % 2)
    else c.reg off

/-! Half accesses (R454, R460). -/

/-- The latch of a Lateter port. -/
def Chip.latchOf (c : Chip) (p : Nat) : Option HalfLatch := c.latch.getD p none

/-- The latch of a Lateter port loaded. -/
def Chip.setLatch (c : Chip) (p : Nat) (l : HalfLatch) : Chip := { c with latch := c.latch.set p (some l) }

/-- Whether a register is read-latched (R5). -/
def readLatched (off : Nat) : Bool := regAccess off == some .rl || regAccess off == some .cnt

/-- R460: a 32-bit write by a port: `off` a multiple of 4, `x` the half. -/
def State.regWriteHalf (s : State) (p : Nat) (off x : Nat) : State :=
  let base := off - off % 8
  let high := off % 8 == 4
  let whole := fun (lo hi : Nat) => (s.regWrite (.port p) base (BitVec.ofNat 64 (lo + hi * 2 ^ 32))).2
  if 0xC80000 ≤ base ∧ base < 0xE00000 ∧ (regAccess base).isSome then
    { s with chip := (routeWrite s.chip (.port p) base 0#64 true).2 }
  else match regAccess base with
    | some .wo =>
      if high then
        let lo := match s.chip.latchOf p with
          | some l => if l.write && l.off == base then l.value else 0
          | none => 0
        whole lo x
      else { s with chip := s.chip.setLatch p { off := base, write := true, value := x } }
    | some .rw =>
      let cur := (s.regRead base).toNat
      if high then whole (cur % 2 ^ 32) x else whole x (cur / 2 ^ 32)
    | some .w1c => if high then whole 0 x else whole x 0
    | _ => s

/-- R454: a 32-bit read by a port: the half, and the latch it leaves. -/
def State.regReadHalf (s : State) (p : Nat) (off : Nat) : Nat × State :=
  let base := off - off % 8
  let v := (s.regRead base).toNat
  if off % 8 = 4 then
    match s.chip.latchOf p with
    | some l => if !l.write && l.off == base then (l.value, s) else (v / 2 ^ 32, s)
    | none => (v / 2 ^ 32, s)
  else if readLatched base then
    (v % 2 ^ 32, { s with chip := s.chip.setLatch p { off := base, write := false, value := v / 2 ^ 32 } })
  else (v % 2 ^ 32, s)

/-! Windows (R463 to R465). -/

/-- R464, R465: the partition in whose window a register lies. -/
def Chip.windowPart (c : Chip) (off : Nat) : Option Nat :=
  let o := off - off % 8
  let at8 := fun (base : Nat) => decide (base ≤ o) && decide (o < base + 128)
  let bases := [0x100200, 0x402000, 0x402080, 0x402180, 0x402200, 0x402300, 0x800100, 0xA00000, 0xA00080, 0xC02100, 0x1400100]
  match bases.find? at8 with
  | some b => some ((o - b) / 8)
  | none =>
    if 0x403000 ≤ o ∧ o < 0x403400 then some ((o - 0x403000) / 0x40)
    else if 0xA00200 ≤ o ∧ o < 0xA00400 then some ((o - 0xA00200) / 0x20)
    else if 0x404000 ≤ o ∧ o < 0x408000 then
      let i := (o - 0x404000) / 16
      if c.fld (Reg.adapterSlot i 1) 63 61 = 0 then none else some (c.fld (Reg.adapterSlot i 0) 3 0)
    else none

/-- R409, R463: whether a port holds `ACCESS` for a partition. -/
def Chip.portAccess (c : Chip) (port p : Nat) : Bool := c.bit (Reg.secHostAccess p) (2 * port)

/-- R463: whether a port's window holds an offset. -/
def Chip.inWindow (c : Chip) (port off : Nat) : Bool :=
  if c.devState < 2 then off < 0x100000
  else if c.isOwner port then off < 0x4000000
  else decide (off < 0x100000) || (match c.windowPart off with
    | some p => decide (p < 16) && c.portAccess port p
    | none => false)

/-- RL_LOW_HALF_READ (R454). -/
def rlLowRead (s : State) (port off : Nat) : State :=
  if s.chip.inWindow port off then (s.regReadHalf port off).2 else s

/-- R463: whether register writes reach the device: the hub is up and an image is applied. -/
def Chip.writeOpen (c : Chip) : Bool := c.domUp 1 && decide (2 ≤ c.devState)

/-- REGISTER_WRITE (R460). -/
def registerWrite (s : State) (a : Accessor) (off : Nat) (v : W64) (half : Bool) : State :=
  if !s.chip.writeOpen then s
  else if half then
    match a with
    | .port p => s.regWriteHalf p off (v.toNat % 2 ^ 32)
    | _ => s
  else (s.regWrite a off v).2

/-! Writes by the fabric manager (R327, R344). -/

/-- R327: the entries applied in order: the status and the entries applied. -/
def swEntries (lo hi : Nat) (strict : Bool) : List (Nat × Nat × W64) → Nat → State → Nat × Nat × State
  | [], n, s => (stOk, n, s)
  | (off, _, v) :: t, n, s =>
    if off < lo ∨ hi < off then (stPrivilege, n, s)
    else if off % 8 ≠ 0 then (stMalformed, n, s)
    else
      let (ok, s) := s.regWrite .manager off v
      if strict && !ok then (stPrivilege, n, s) else swEntries lo hi strict t (n + 1) s

/-- FAB_PKT_SW_WRITE and FAB_PKT_RMA_GRANT (R327, R344): the writes and the answer. -/
def managerWrite (s : State) (h : FabHdr) (b : SwWriteBody) (grants : Bool) : State :=
  let mgr := s.chip.mgrDevice
  let (st, n, s) := if h.src ≠ mgr ∨ mgr = 0xFFFF then (stPrivilege, 0, s)
    else if grants then swEntries 0xE10000 0xE1FFFF true b.entries 0 s
    else swEntries 0xC00000 0xD7FFFF false b.entries 0 s
  { s with chip := s.chip.reply .device h (.swWriteAck { status := st, applied := n, rsvd := 0 }) }

end Sys2Proof.Machine
end

