-- ==== Sys2Proof/Machine/Boot.lean ====
section
/-!
DEFINITION. Power-on to service (R391 to R394), the checks of a configuration image (R396 to R401), its application
(R400, R410), and module reset (R435, R436, R484).
-/
namespace Sys2Proof.Machine

/-! The checks of an image (R401). -/

/-- R401 check 1, with the ranges of the header's fields (R396). -/
def imgHeaderOk (i : CfgImage) : Bool :=
  i.magic == 0x36394B46 && i.formatVer == 1 && i.headerLen == 128 && decide (256 ≤ i.totalLen) &&
    decide (i.totalLen ≤ 33546576) && i.hdrRsvd == 0 && decide (i.securityVer ≤ 128)

/-- R401 check 2. -/
def imgDeviceOk (i : CfgImage) (part : W64) (serial : Nat) : Bool :=
  i.partCode == 0x9600 && decide (i.minStepping ≤ fieldOf part 47 32) && (i.targetSerial == 0 || i.targetSerial == serial)

/-- R401 check 3. -/
def imgKeyOk (i : CfgImage) (nv : Nv) : Bool :=
  nv.keys.getD i.keyIndex none == some (natOfLe (sha256 i.publicKey)) && !(nv.revoked.getD i.keyIndex false)

/-- R401 check 5: the signature over the signed bytes under `PUBLIC_KEY`, which is PK.seed and then PK.root (R396). -/
def imgSigned (i : CfgImage) : Bool := slhVerify slh128s (i.publicKey.take 16) (i.publicKey.drop 16) (cfgBytes i) i.sig

/-- R397: one directory entry. -/
def sectionOk (total n : Nat) (s : SectionEnt) : Bool :=
  s.rsvd == 0 && s.offset % 64 == 0 && decide (128 + 16 * n ≤ s.offset) && decide (s.offset + s.length ≤ total) &&
    (if s.type = 1 then s.inst == 0 && s.length == 64
     else if s.type = 2 then decide (s.inst < 16) && s.length == 640
     else if s.type = 3 then s.inst == 0 && s.length % 16 == 0
     else s.type == 4 && s.inst == 0 && decide (65536 ≤ s.length) && decide (s.length ≤ 16777216))

/-- Whether two sections do not overlap. -/
def sectionsApart (a b : SectionEnt) : Bool := decide (a.offset + a.length ≤ b.offset) || decide (b.offset + b.length ≤ a.offset)

/-- Whether every pair of a list passes a test. -/
def allPairs {α : Type} (f : α → α → Bool) : List α → Bool
  | [] => true
  | a :: t => t.all (f a) && allPairs f t

/-- R397: the section directory. -/
def imgDirectoryOk (i : CfgImage) : Bool :=
  let count := fun (t : Nat) => (i.sections.filter (fun s => s.type == t)).length
  let parts := (i.sections.filter (fun s => s.type == 2)).map SectionEnt.inst
  i.nSections == i.sections.length && decide (2 ≤ i.nSections) && decide (i.nSections ≤ 20) &&
    i.sections.all (sectionOk i.totalLen i.nSections) && allPairs sectionsApart i.sections && count 1 == 1 && count 4 == 1 &&
    decide (count 3 ≤ 1) && decide (count 2 ≤ 16) && allPairs (fun a b => a != b) parts &&
    parts == i.partitions.map PartDecl.part &&
    (i.sections.filter (fun s => s.type == 3)).map SectionEnt.length ==
      (if count 3 = 0 then [] else [16 * i.regInit.length]) && (count 3 == 1 || i.regInit.isEmpty) &&
    (i.sections.filter (fun s => s.type == 4)).map SectionEnt.length == [i.firmware.length]

/-- R398, R9, R211: the composition. -/
def compositionOk (m : Composition) : Bool :=
  decide (m.deviceId ≤ 0xFFFE) && decide (1 ≤ m.role) && decide (m.role ≤ 4) && decide (m.ownerPort ≤ 3) &&
    decide (m.startMode ≤ 2) && decide (1 ≤ m.collarSlots) && decide (m.collarSlots ≤ 4194304) &&
    (m.collarTier == 1 || m.collarTier == 2) && decide (64 ≤ m.listsInternal) && decide (m.listsInternal ≤ 1024) &&
    decide (1 ≤ m.collarLogMib) && decide (m.collarLogMib ≤ 4194304) && m.rsvd == 0 &&
    (m.collarTier == 2 || decide (collarBytesOf m ≤ 1024 * 2 ^ 20))

/-- R399: a source descriptor of one of some kinds. -/
def srcOk (d : SrcDesc) (kinds : List Nat) : Bool :=
  kinds.contains d.kind && d.rsvd == 0 && (d.kind != 0 || (decide (d.port ≤ 3) && decide (d.region ≤ 15)))

/-- R60, R399: the stations of each kind of a share that a quadrant has. -/
def shareMax : List Nat := [48, 16, 16, 8, 8, 8, 1, 1, 1, 1, 8, 8]

/-- R399: a partition section. -/
def declOk (d : PartDecl) : Bool :=
  decide (d.flags < 64) && decide (d.quadMask < 16) && d.rsvd == 0 && decide (d.prompts.length ≤ 64) &&
    decide (d.gens.length ≤ 64) && decide (d.caches.length ≤ 64) && d.share.length == 12 &&
    (d.share.zip shareMax).all (fun x => decide (x.1 ≤ x.2)) && srcOk d.baseSrc [0, 1] && srcOk d.base2 [0, 1, 2, 0xFF] &&
    (if d.draftMeas = 0 then srcOk d.draftSrc [0xFF] && srcOk d.draft2 [0xFF]
     else srcOk d.draftSrc [0, 1] && srcOk d.draft2 [0, 1, 2, 0xFF])

/-- R401 check 6: the sums over the partitions. -/
def partSumsOk (l : List PartDecl) : Bool :=
  (upTo 4).all (fun q =>
    (upTo 12).all (fun k =>
      decide (sumN ((l.filter (fun d => d.quadMask.testBit q)).map (fun d => d.share.getD k 0)) ≤ shareMax.getD k 0)) &&
    decide (sumN (l.map (fun d => d.t1Mib.getD q 0)) ≤ 48128)) &&
  decide (sumN (l.map PartDecl.mvCount) ≤ 32) && decide (sumN (l.map PartDecl.emCount) ≤ 4)

/-! Recording an image (R393 step 6). -/

/-- R298: `STALE_OK` of a partition: its flag, on a role that issues gathers (R22). -/
def Chip.staleSet (c : Chip) (p : Nat) : Chip :=
  let on := c.declFlag p 4 && (c.role == 1 || c.role == 4)
  let off := Reg.embPartCtrl p
  let c := if c.bit off 0 && !on then c.dropReplicas (fun r => r.part == p) else c
  c.setFld off 0 0 (bitN on)

/-- R393 step 6, R467: the composition and the partitions are recorded. -/
def Chip.recordImage (c : Chip) (i : CfgImage) : Chip :=
  let m := i.composition
  let c := { c with boot := { c.boot with img := some i } }
  let c := c.setReg Reg.idDevice
    (wordOf [(63, 63, 1), (50, 48, m.role), (47, 46, m.ownerPort), (31, 16, m.mgrDevice), (15, 0, m.deviceId)])
  let c := c.setFlds Reg.swParams [(31, 16, m.deviceId), (15, 0, m.mgrDevice)]
  let c := (upTo 4).foldl (fun c p => c.setFld (Reg.hlPortStatus p) 44 44 (bitN (p == m.ownerPort))) c
  let c := c.setFld Reg.idBootStatus 39 32 i.securityVer
  (upTo 16).foldl (fun c p => c.staleSet p) c

/-- The access bits that an image declares for a partition (R409). -/
def accessOf (i : CfgImage) (p : Nat) : Nat :=
  match i.partitions.find? (fun d => d.part == p) with
  | some d => d.access
  | none => 0

/-- R409: the protection that an image sets. -/
def Chip.recordProtection (c : Chip) (i : CfgImage) : Chip :=
  let c := (upTo 16).foldl (fun c p => c.hostAccessSet p (accessOf i p)) c
  c.protectSet i.composition.smbLevel i.composition.jtagOff

/-! `REG_INIT` (R400). -/

/-- R400: whether an entry names a register that owner software may write. -/
def initOffsetOk (e : RegInit) : Bool :=
  e.rsvd == 0 && e.offset % 8 == 0 && decide (0x200000 ≤ e.offset) && decide (e.offset ≤ 0x2FFFFFF) &&
    (regAccess e.offset == some .rw || regAccess e.offset == some .w1c || regAccess e.offset == some .wo)

/-- R400: the entries applied in order; whether each was accepted. -/
def applyInit : List RegInit → State → Bool × State
  | [], s => (true, s)
  | e :: t, s =>
    let (ok, s) := s.regWrite .regInit e.offset e.value
    let (rest, s) := applyInit t s
    (ok && rest, s)

/-- R400, R401 check 6: whether every entry would be accepted in the state that the image produces. -/
def State.initOk (s : State) (i : CfgImage) : Bool :=
  i.regInit.all initOffsetOk && (applyInit i.regInit { s with chip := (s.chip.recordImage i).recordProtection i }).1

/-- R401: the result code of the checks on an image that was read. -/
def State.imageResult (s : State) (i : CfgImage) : Nat :=
  if !imgHeaderOk i then 2
  else if !imgDeviceOk i (s.chip.reg Reg.idPart) s.nv.serial.toNat then 6
  else if !imgKeyOk i s.nv then 3
  else if i.securityVer < s.nv.svnFused then 5
  else if !imgSigned i then 4
  else if !(imgDirectoryOk i && compositionOk i.composition && i.partitions.all declOk && partSumsOk i.partitions) || !s.initOk i then 2
  else 1

/-- R401: a rejected image is logged with its code. -/
def Chip.rejectImage (c : Chip) (code : Nat) : Chip := c.log { code := 0x0101, param0 := code }

/-- R405: slot 0 extended with an accepted image's key. -/
def Chip.extendKey (c : Chip) (i : CfgImage) : Chip :=
  c.extend 0 11 0 (sha256 (leBytes i.keyIndex 1 ++ leBytes i.securityVer 2))

/-- R405: slots 1 to 3 extended with the image, its firmware and its composition. -/
def Chip.extendImage (c : Chip) (i : CfgImage) : Chip :=
  ((c.extend 1 2 0 (sha256 (cfgBytes i))).extend 2 3 0 (sha256 i.firmware)).extend 3 4 0 (sha256 (compositionBytes i.composition))

/-! Power-on (R393). -/

/-- R393 step 7: the domains powered after the image is applied; R11: not the engines of a cache device. -/
def Chip.laterDomains (c : Chip) : List Nat :=
  fallOrder.filter (fun d => d != 1 && d != 4 && d != 7 && !c.roleDown d)

/-- R393 step 7: the remaining domains start. -/
def Chip.startDomains (c : Chip) : Chip :=
  (c.laterDomains.foldl (fun c d => if c.domState d = 0 then c.setRet d .dependency else c) c).rise

/-- R393 steps 5 to 7: an accepted image is measured, recorded and applied. -/
def State.bootApply (s : State) (i : CfgImage) (slot : Nat) : State :=
  let c := (s.chip.extendKey i).setFld Reg.idBootStatus 60 56 6
  let c := (c.recordImage i).recordProtection i
  let c := c.setFlds Reg.idBootStatus [(55, 54, slot), (31, 16, (c.fld Reg.idBootStatus 31 16 + 1) % 65536)]
  let (_, s) := applyInit i.regInit { s with chip := c }
  let c := s.chip
  let c := c.onWork (fun w => { w with refill := c.fld Reg.tenRefillCtrl 15 0 })
  let c := (c.extendImage i).setFld Reg.idBootStatus 60 56 7
  { s with chip := c.startDomains }

/-- R401: one slot tried: its result code and image. -/
def State.trySlot (s : State) (slot : Nat) (read : Bool) : Nat × Option CfgImage :=
  if !read then (7, none)
  else match s.nv.slots.getD slot none with
    | none => (2, none)
    | some i => (s.imageResult i, some i)

/-- `SLOTn_RESULT` set. -/
def Chip.slotResult (c : Chip) (slot code : Nat) : Chip :=
  if slot = 0 then c.setFld Reg.idBootStatus 53 51 code else c.setFld Reg.idBootStatus 50 48 code

/-- R401: the slots tried in an order until one is accepted. -/
def bootSlots (read : Nat → Bool) : List Nat → State → State
  | [], s => { s with chip := s.chip.enterState 1 }
  | k :: t, s =>
    let (code, img) := s.trySlot k (read k)
    let s : State := { s with chip := s.chip.slotResult k code }
    match code, img with
    | 1, some i => s.bootApply i k
    | _, _ => bootSlots read t { s with chip := s.chip.rejectImage code }

/-- R401: the slot tried first: the larger `IMAGE_VERSION`, slot 0 when they are equal. -/
def Nv.slotOrder (nv : Nv) : List Nat :=
  let ver := fun (k : Nat) => match nv.slots.getD k none with
    | some i => i.imageVer
    | none => 0
  if ver 0 < ver 1 then [1, 0] else [0, 1]

/-- IMAGE_SLOT_VERIFIED (R401): the slots as the flash reads give them. -/
def imageVerified (s : State) (read0 read1 : Bool) : State :=
  let c := s.chip
  if c.held || c.fld Reg.idBootStatus 60 56 != 5 || c.devState != 0 || !c.domUp 1 then s
  else bootSlots (fun k => if k = 0 then read0 else read1) s.nv.slotOrder
    { s with chip := c.setFlds Reg.idBootStatus [(53, 51, 0), (50, 48, 0)] }

/-- R393 step 7: one domain as its ramp and its training leave it. -/
def Chip.bootDomain (c : Chip) (d : Nat) (failed : List StationRef) (stackOk : List Bool) (channels : List ChannelInfo) : Chip :=
  let c := c.rise
  if c.domState d ≠ 1 then c
  else if 16 ≤ d ∧ !stackOk.getD (d - 16) true then c.rampFails d
  else c.domainUp d failed channels

/-- R393 step 8: the declared partitions start to load. -/
def Chip.startLoads (c : Chip) : Chip :=
  if !c.board.collarOk then c
  else (upTo 16).foldl (fun c p => if (c.decl p).isSome then c.setPartState p 1 else c) c

/-- DOMAINS_TRAINED (R393 steps 7 and 8, R392, R446, R494). -/
def domainsTrained (s : State) (failed : List StationRef) (stackOk : List Bool) (channels : List ChannelInfo) : State :=
  let c := s.chip
  if c.held || c.fld Reg.idBootStatus 60 56 != 7 || !c.domUp 1 then s
  else
    let c := ((failed.map stnKey).filter (fun k => keyDomain k == 1 && c.stnState k == 0)).foldl (fun c k => c.fence k 1) c
    let c := if c.domState 5 = 1 then c else c.settleChannels []
    let c := fallOrder.reverse.foldl (fun c d => c.bootDomain d failed stackOk channels) c
    let c := ringLive c
    let c := ({ c with boot := { c.boot with healthHold := none } }).setFld Reg.idBootStatus 60 56 8
    let c := ((c.enterState 2).log { code := 0x0102 }).startLoads
    let mode := match c.boot.img with
      | some i => i.composition.startMode
      | none => 0
    let c := if mode = 2 && c.board.collarOk then c.enterState 4 else c
    ({ s with chip := c.checkPairs } : State).bootCheck

/-- A fresh 64-bit random word into a register. -/
def Chip.drawWord (c : Chip) (off : Nat) (f : W64 → W64) : Chip :=
  let (k, c) := c.takeFree
  c.setReg off (f (Config.freeWord k))

/-- R393 step 2 at a module cold reset: `BOOT_ID`, and `RMA_EPOCH`, which is never 0. -/
def Chip.drawBoot (c : Chip) : Chip :=
  let c := (c.drawWord (Reg.secBootId 0) id).drawWord (Reg.secBootId 1) id
  c.drawWord Reg.rmaEpoch (fun w => BitVec.ofNat 64 (max 1 (fieldOf w 15 0)))

/-- A hub-side domain comes up at step 2, unless it is locked off. -/
def Chip.upAtTwo (c : Chip) (d : Nat) : Chip :=
  if c.domState d = 4 ∨ c.domState d = 2 then c
  else (((c.setDom d 2).setRet d .stay).log { code := 0x0201, domain := some d }).takeTrim d

/-- R393 steps 2 to 4: the hub-side domains come up, the random values are drawn, the calibration is read and the mirror
position found; the slots come next. -/
def State.stepTwo (s : State) (cold : Bool) : State :=
  let c := [1, 7, 4].foldl (fun c d => c.upAtTwo d) s.chip
  let c := c.stationsUp 1 []
  let c := if cold then c.drawBoot else c
  let c := c.drawSession
  let c := { c with rma := { c.rma with emptyAt := c.time } }
  let s := mirStart { s with chip := c.readCal s.nv }
  { s with chip := s.chip.setFld Reg.idBootStatus 60 56 5 }

/-- ROOT_PLL_LOCKED (R393 step 2, R424). -/
def rootLocked (s : State) : State :=
  let c := s.chip
  if c.held || c.fld Reg.idBootStatus 60 56 != 1 || !c.pwr.refPresent then s
  else
    let c := { c with timeOn := true, pwr := { c.pwr with rootLocked := true } }
    ({ s with chip := c.setFld Reg.clkStatus 63 63 1 } : State).stepTwo true

/-- DOWN_SEQUENCE_ENDS of PD_HUB (R427, R434): the restart runs R393 from step 2, or the hub stays locked off. -/
def hubDownEnds (s : State) : State :=
  let c := s.chip
  if c.domState 1 ≠ 3 then s
  else
    let c := (hubDomains.filter (fun d => d != 1 && c.domState d == 3)).foldl (fun c d =>
      c.setDom d (if 3 ≤ c.railFaults d then 4 else 0)) c
    if 3 ≤ c.railFaults 1 then { s with chip := c.setDom 1 4 }
    else
      let s := ({ s with chip := c } : State).stepTwo false
      { s with chip := s.chip.checkCmd 1 }

/-- DOWN_SEQUENCE_ENDS (R427, R430). -/
def downSequenceEnds (s : State) (d : Nat) : State :=
  if s.chip.held then s
  else if d = 1 then hubDownEnds s
  else { s with chip := s.chip.downEnds d }

/-- POWER_GOOD (R393 step 1, R436, R486): PD_AON is supplied: everything but flash and fuses starts afresh, with cause 0. -/
def powerGood (s : State) (straps : Nat) : State :=
  let c : Chip := { Chip.init with free := s.chip.free, pwr := { Pwr.init with vMv := s.chip.pwr.vMv },
                                   boot := { Boot.init with straps := straps % 8 } }
  { s with chip := c.stepOne s.nv }

/-- Whether PD_AON has been supplied. -/
def Chip.powered (c : Chip) : Bool := c.fld Reg.idBootStatus 60 56 != 0

/-- REFERENCE_PRESENT (R393, R423): the reference has been present for 10 ms. -/
def referencePresent (s : State) : State :=
  let c := s.chip
  if !c.powered then s
  else
    let c := ({ c with pwr := { c.pwr with refPresent := true } }).setFld Reg.clkStatus 62 62 1
    { s with chip := if c.pwr.clockHold && c.pwr.inCold.isNone then c.coldReset s.nv 4 else c }

/-- INPUT_RECOVERED (R421): the input has been in range for 100 ms. -/
def inputRecovered (s : State) : State :=
  match s.chip.pwr.inCold with
  | some k => if k = 3 ∨ k = 10 then { s with chip := s.chip.coldReset s.nv k } else s
  | none => s

/-- RESET_N_ASSERTED (R484): low for 10 µs or more resets; below 1 µs it is ignored; between, it depends on the part. An
input fault or a trip keeps the device in reset all the same. -/
def resetN (s : State) (lowNs : Nat) : State :=
  if !s.chip.powered || s.chip.pwr.inCold.isSome then s
  else if 10000 ≤ lowNs || (decide (1000 ≤ lowNs) && Config.resetPulse lowNs) then { s with chip := s.chip.coldReset s.nv 1 }
  else s

/-- R436: a module cold reset that owner software asked for starts. -/
def State.settleReset (s : State) : State :=
  if s.chip.pwr.modReset then { s with chip := s.chip.coldReset s.nv 2 } else s

/-- HUB_WATCHDOG (R434). -/
def hubWatchdog (c : Chip) : Chip := if c.domUp 1 then c.hubRestart 8 else c

/-! Changing the composition (R410, R413). -/

/-- R410: what changes only at module cold reset. -/
def imageFixed (a b : CfgImage) : Bool :=
  let x := a.composition
  let y := b.composition
  x.deviceId == y.deviceId && x.ownerPort == y.ownerPort && x.collarSlots == y.collarSlots && x.collarTier == y.collarTier &&
    x.collarLogMib == y.collarLogMib && x.listsInternal == y.listsInternal && a.firmware == b.firmware

/-- R410: whether a change of a partition's declaration reloads it. -/
def reloads (a b : PartDecl) : Bool :=
  !(a.baseMeas == b.baseMeas && a.draftMeas == b.draftMeas && a.baseSrc == b.baseSrc && a.draftSrc == b.draftSrc &&
    a.base2 == b.base2 && a.draft2 == b.draft2 && a.quadMask == b.quadMask && a.share == b.share && a.mvCount == b.mvCount &&
    a.emCount == b.emCount && a.t1Mib == b.t1Mib && a.t2Mib == b.t2Mib && a.kvFrames == b.kvFrames && a.salt == b.salt)

/-- R410: a removed partition is unloaded. -/
def Chip.unloadPart (c : Chip) (p : Nat) : Chip :=
  let c := c.dropSteps p
  let c := (c.work.collars.filter (fun k => k.img.part == p)).foldl (fun c k => c.endReq k.img.requestId stAborted) c
  let c := (c.stopPart p).releaseStations p
  let c := ((upTo 1024).filter (fun s => c.slotState s != 0 && c.fld (Reg.adapterSlot s 0) 3 0 == p)).foldl
    (fun c s => c.freeAdapter s) c
  let c := c.onWork (fun w => { w with installs := dropWhere (fun i => i.part == p) w.installs })
  ((c.setPartState p 0).setReg (Reg.partModeStatus p) 0#64).setPart p .init

/-- R410: a partition whose declaration changed is reloaded. -/
def Chip.reloadPart (c : Chip) (p : Nat) : Chip :=
  let s := c.partState p
  if s = 1 ∨ s = 6 then c
  else ((c.setPartState p 6).setFld (Reg.partModeStatus p) 15 15 0).stopPart p

/-- R410: whether the role accepts the phase that a sequence runs. -/
def Chip.phaseAccepted (c : Chip) (s : Seq) : Bool :=
  match s.phase with
  | .prompt => c.roleAccepts true
  | .restoring => c.roleAccepts s.toPrompt
  | .decode => c.roleAccepts false
  | .waitD => c.roleAccepts false
  | .hold => true

/-- R410: a sleeve whose phase the new role does not accept. -/
def Chip.roleRelease (c : Chip) (s : Seq) : Chip :=
  if s.anchor = c.deviceId then
    let c := c.purge s.requestId stReset
    match c.collar s.requestId with
    | some k => c.replace k (some c.deviceId)
    | none => c
  else c.failSeq s stReset

/-- R410, R11: a change of role: the sleeves and the engines' power domains. -/
def Chip.changeRole (c : Chip) : Chip :=
  let bad := c.work.seqs.filter (fun s => !c.phaseAccepted s)
  let c := ((upTo 16).filter (fun p => bad.any (fun s => s.part == p))).foldl (fun c p => c.dropSteps p) c
  let c := bad.foldl (fun c s => c.roleRelease s) c
  let engines := [8, 9, 10, 11, 12, 13, 14, 15]
  if c.role = 3 then engines.foldl (fun c d => (c.overtake d).takeDown d 1 true .stay) c
  else
    let waits := fun (c : Chip) (d : Nat) => (c.domState d == 0 || c.domState d == 3) && !c.ownerOff d && c.ret d == .stay
    (engines.foldl (fun c d =>
      if waits c d then c.setRet d (if c.tripped (sensorOf d) then .thermal else .dependency) else c) c).rise

/-- R410: the items of the partitions applied, from the image before to the new one, which is recorded. -/
def Chip.changeParts (c : Chip) (old new : CfgImage) : Chip :=
  (upTo 16).foldl (fun c p =>
    let find := fun (i : CfgImage) => i.partitions.find? (fun d => d.part == p)
    match find old, find new with
    | some a, some b =>
      let c := if a.access = b.access then c else c.hostAccessSet p b.access
      if reloads a b then c.reloadPart p else c
    | none, some b => if c.board.collarOk then (c.hostAccessSet p b.access).setPartState p 1 else c.hostAccessSet p b.access
    | some _, none => c.hostAccessSet p 0
    | none, none => c) c

/-- R410: an image that passed every check and comparison is applied as a whole. -/
def State.applyImage (s : State) (old new : CfgImage) (slot : Nat) : State :=
  let c := s.chip
  let gone := (old.partitions.filter (fun d => !(new.partitions.any (fun e => e.part == d.part)))).map PartDecl.part
  let c := gone.foldl (fun c p => c.unloadPart p) c
  let c := c.recordImage new
  let c := { c with board := { c.board with t2Ok := (c.placeT2 c.board.t2Mib).2 } }
  let c := c.changeParts old new
  let x := old.composition
  let y := new.composition
  let c := if x.smbLevel = y.smbLevel ∧ x.jtagOff = y.jtagOff then c else c.protectSet y.smbLevel y.jtagOff
  let c := if x.role = y.role then c else c.changeRole
  let c := c.setFlds Reg.idBootStatus [(55, 54, slot), (31, 16, (c.fld Reg.idBootStatus 31 16 + 1) % 65536)]
  let (_, s) := applyInit new.regInit { s with chip := c }
  { s with chip := (s.chip.extendKey new).extendImage new }

/-- R410, R413: the window holds the whole image and its signature. -/
def Chip.imageInWindow (c : Chip) (word : W64) (i : CfgImage) : Bool :=
  c.windowOk (fieldOf word 19 18) (fieldOf word 17 14) (c.fld Reg.bootCmdArg 47 0) (i.totalLen + 7856) false

/-- APPLY_IMAGE (R410) once its image is read. One that the device's entry into SERVICE overtakes ends with ST_BUSY, as one
started there does (R8; log entry 86). -/
def State.applyRead (s : State) (word : W64) (img : ReadImage) : State :=
  let host := bitOf word 12
  let slot := fieldOf word 13 13
  let done := fun (s : State) (st : Nat) => ({ s with chip := s.chip.bootEnd st } : State)
  let reject := fun (s : State) (code : Nat) => done { s with chip := s.chip.rejectImage code } stImageInvalid
  let go := fun (i : CfgImage) =>
    match s.chip.boot.img with
    | none => done s stNotReady
    | some old =>
      if s.imageResult i ≠ 1 then reject s (s.imageResult i)
      else if !imageFixed old i then done s stUnsupported
      else done (s.applyImage old i (if host then 2 else slot)) stOk
  if s.chip.devState = 3 then done s stBusy
  else match img with
  | .failed st => if host then done s (statusOf st) else reject s 7
  | .image i =>
    if host then (if s.chip.imageInWindow word i then go i else done s stDenied)
    else match s.nv.slots.getD slot none with
      | some k => go k
      | none => reject s 2

/-- WRITE_SLOT (R413) once its image is read: checked, then written by the sector. -/
def State.slotRead (s : State) (word : W64) (img : ReadImage) : State :=
  let done := fun (s : State) (st : Nat) => ({ s with chip := s.chip.bootEnd st } : State)
  match img with
  | .failed st => done s (statusOf st)
  | .image i =>
    if !s.chip.imageInWindow word i then done s stDenied
    else if s.imageResult i ≠ 1 then done { s with chip := s.chip.rejectImage (s.imageResult i) } stImageInvalid
    else s.startUnits { BootRun.mk0 5 word with slot := fieldOf word 13 13, img := some i, units := cdiv (i.totalLen + 7856) 4096 }

/-- APPLY_IMAGE (4) and WRITE_SLOT (5): the command starts, unless it waits for this image already, and its image is
read. -/
def imageCommand (s : State) (port cmd : Nat) (word : W64) (img : ReadImage) : State :=
  let waiting := fun (s : State) => match s.chip.boot.run with
    | some r => if r.cmd = cmd && r.waits then some r.word else none
    | none => none
  let s := if (waiting s).isSome then s else registerWrite s (.port port) Reg.bootCmd word false
  match waiting s with
  | some w => ((if cmd = 4 then s.applyRead w img else s.slotRead w img).svnAuto).bootCheck
  | none => s

/-- The word that a BOOT_CMD row writes (R417). -/
def bootWord (cmd : Nat) (fs : List (Nat × Nat × Nat)) : W64 := wordOf ([(63, 63, 1), (7, 0, cmd)] ++ fs)

/-! The SMBus port (R394). -/

/-- R486: the 7-bit address of the SMBus port, from the straps sampled at step 1. -/
def Chip.smbAddress (c : Chip) : Nat := 0x68 + c.boot.straps % 8

/-- R394: the status of a read at an offset. -/
def Chip.smbCheck (c : Chip) (off : Nat) : Nat :=
  let lvl := c.fld Reg.secProtect 3 2
  if off < 0x100000 then 0
  else if c.boot.img.isNone then 2
  else if 1 ≤ lvl ∧ 0x300000 ≤ off ∧ off < 0x400000 then 0
  else if lvl = 2 ∧ (regAccess off == some .ro || readLatched off) then 0
  else 1

/-- SMBUS_SET_OFFSET (R394). -/
def smbusSet (s : State) (cmd : Nat) (data : List Byte) (pecOk : Bool) : State :=
  let off := natOfLe data
  if !s.chip.powered || s.chip.held || !pecOk || cmd != 0x01 || data.length != 4 || off % 8 != 0 then s
  else { s with chip := { s.chip with boot := { s.chip.boot with smbOffset := off } } }

/-- SMBUS_READ (R394): the nine bytes that are returned. -/
def smbusRead (s : State) (cmd : Nat) (pecOk : Bool) : State :=
  if !s.chip.powered || s.chip.held || !pecOk || cmd != 0x02 then s
  else
    let off := s.chip.boot.smbOffset
    let st := s.chip.smbCheck off
    let out := leBytes st 1 ++ leBytes (if st = 0 then (s.regRead off).toNat else 0) 8
    { s with chip := { s.chip with boot := { s.chip.boot with smbOut := out } } }

/-! The test port (R487). -/

/-- R487: the IDCODE: version 1, part code 0x9600, identity code 0x1FB, and 1. -/
def jtagIdcode : W64 := wordOf [(31, 28, 1), (27, 12, 0x9600), (11, 1, 0x1FB), (0, 0, 1)]

/-- An instruction of the test port. -/
inductive JtagInstr where
  | bypass | idcode | other (code : Nat)
  deriving DecidableEq, Repr

/-- R487, R409: an instruction as the port decodes it: while `JTAG_OFF` is 1, every other one is BYPASS. -/
def Chip.jtagDecode (c : Chip) (i : JtagInstr) : JtagInstr :=
  match i with
  | .other _ => if c.bit Reg.secProtect 1 then .bypass else i
  | _ => i

/-- R484: whether the device drives ALERT_N low. -/
def Chip.alertLow (c : Chip) : Bool := fieldOf c.health 63 58 != 0

end Sys2Proof.Machine
end

