-- ==== Sys2Proof/Machine/HostLink.lean ====
section
/-!
DEFINITION. Messages from the hosts: class, sequence and form (R369 to R372, R380), LINK_SYNC and the resend (R373, R374),
register access (R379), and the replies and the timer of bulk transfers (R387).
-/
namespace Sys2Proof.Machine

/-- What the transaction layer holds of a message type (R369, R370, R478): its code, its class, the
reserved bits of its body, and whether it is known early (R380). -/
structure HlMeta where
  type  : Nat
  hc    : Nat
  rsvd  : Nat
  early : Bool
  deriving DecidableEq, Repr

/-- The outcome of R372's check of a sequenced message. -/
inductive SeqResult where
  | expected | duplicate | gap
  deriving DecidableEq, Repr

/-- R372: an `XSEQ` against the next expected value, by serial comparison. -/
def seqResult (expect x : Nat) : SeqResult :=
  if x = expect then .expected else if precedes 32 x expect then .duplicate else .gap

/-- The next expected value of HC0 or HC1, and whether a gap is open. -/
def HlPort.expect (r : HlPort) (hc : Nat) : Nat := if hc = 0 then r.expect0 else r.expect1

/-- The expected value of a class set, with its gap. -/
def HlPort.setExpect (r : HlPort) (hc n : Nat) (gap : Bool) : HlPort :=
  if hc = 0 then { r with expect0 := n, gap0 := gap } else { r with expect1 := n, gap1 := gap }

/-- R372: a sequenced message taken, dropped as a duplicate, or dropped in a gap. -/
def Chip.takeSeq (c : Chip) (p hc x : Nat) : Bool × Chip :=
  let r := c.hlPort p
  match seqResult (r.expect hc) x with
  | .expected => (true, c.setHlPort p (r.setExpect hc (wrapSuccSkip0 32 x) false))
  | .duplicate => (false, c.bump (Reg.hlCnt 7))
  | .gap =>
    let open_ := if hc = 0 then r.gap0 else r.gap1
    if open_ then (false, c)
    else
      let c := (c.setHlPort p (r.setExpect hc (r.expect hc) true)).bump (Reg.hlCnt 8)
      (false, (c.log { code := 0x1005, refKind := 3, ref := p }).sendSync p)

/-- The body bytes of a message that arrived. -/
def bodyLenOf (h : HlHdr) : Nat := sumN (h.pkts.map HlPkt.payLen)

/-- R319, R371: whether every packet of a message passes the length and `LAST` checks. -/
def lenOk (h : HlHdr) : Bool :=
  h.pkts.all (fun p => decide (p.payLen ≤ 4096) && decide (p.msgOffset + p.payLen ≤ p.totalLen) &&
    p.last == (p.msgOffset + p.payLen == p.totalLen))

/-- R371: whether each packet continues the message at the current offset, which starts at `at_`. -/
def offsOk : List HlPkt → Nat → Bool
  | [], _ => true
  | p :: ps, at_ => p.msgOffset == at_ && offsOk ps (at_ + p.payLen)

/-- R371: whether every packet's offset is the current offset. -/
def offOk (h : HlHdr) : Bool := offsOk h.pkts 0

/-- R371: the `HOST_TAG` of a refusal. -/
def refusalTag (h : HlHdr) : Nat := if 8 ≤ bodyLenOf h then h.rawTag else 0

/-- R369: the class of the ACK of a message type. -/
def ackClass (type : Nat) : Nat := if type = 0x10 ∨ type = 0x11 then 2 else 0

/-- A message refused by the transaction layer, which reads no request of it: its ACK goes to its sender at once. -/
def Chip.refuseMsg (c : Chip) (h : HlHdr) (status : Nat) : Chip :=
  c.ackIn h.port (ackClass h.msgType) (refusalTag h) 0 status 0

/-- R369, R371: the status of a message that the transaction layer refuses. -/
def formStatus (h : HlHdr) (m : HlMeta) : Nat :=
  if h.msgType ≠ m.type then stUnsupported
  else if h.hc ≠ m.hc ∨ lenOk h = false ∨ offOk h = false ∨ h.rsvd ≠ 0 ∨ m.rsvd ≠ 0 ∨ (h.hc = 0 ∧ 1 < h.pkts.length) then stMalformed
  else stOk

/-- R366, R368: whether the port carries the message: ACTIVE, or SYNC for LINK_SYNC. -/
def Chip.hlCarries (c : Chip) (p type : Nat) : Bool :=
  c.linkPower (.lateter p) && (c.hlState p == 3 || (c.hlState p == 5 && type == 0x01))

/-- R369, R371: whether a message takes a number of its class: every one in HC0 or HC1 but LINK_SYNC. -/
def sequenced (h : HlHdr) : Bool := decide (h.hc < 2) && !(h.hc == 0 && h.msgType == 0x01)

/-- A message from the host, up to the hand-over to its unit (R371, R372, R376, R380). -/
def State.onHost (s : State) (h : HlHdr) (m : HlMeta) (f : State → State) : State :=
  if !s.chip.hlCarries h.port m.type then s
  else
    let (go, c) := if sequenced h then s.chip.takeSeq h.port h.hc h.xseq else (true, s.chip)
    if !go then { s with chip := c }
    else if formStatus h m ≠ stOk then { s with chip := (c.bump (Reg.hlCnt 8)).refuseMsg h (formStatus h m) }
    else
      let c := c.bump (Reg.hlCnt 4)
      if c.devState < 2 ∧ m.early = false then
        { s with chip := (c.bump (Reg.hlCnt 9)).refuseMsg h stNotReady }
      else f { s with chip := c }

/-! LINK_SYNC (R373, R374, R375). -/

/-- R375: whether an expected value precedes the oldest entry of a resend log. -/
def beforeLog (log : List (Nat × HostMsg)) (next expect : Nat) : Bool :=
  precedes 32 expect ((log.head?.map Prod.fst).getD next)

/-- R374: the messages a LINK_SYNC asks for again. -/
def resendOf (log : List (Nat × HostMsg)) (expect : Nat) : List (Nat × HostMsg) :=
  log.filter (fun e => !(precedes 32 e.1 expect))

/-- R374: the messages of one class up to the last one sent are sent again under their own numbers, and then those never sent; those the
host no longer expects are delivered. -/
def Chip.resend (c : Chip) (p hc expect : Nat) : Chip :=
  let r := c.hlPort p
  let log := if hc = 0 then r.log0 else r.log2
  let again := resendOf log expect
  let out := r.link.out.filter (fun o => !(o.tc == hc && o.item.1 != 0 && !o.begun))
  let l := again.foldl (fun l e => l.push hc (hostPkts hc e.1 e.2) e) { r.link with out := out }
  let sent := again.filter (fun e => !r.unsent.contains (hc, e.1))
  let c := (c.setHlPort p ({ r with link := l } : HlPort).flush).bumpBy (Reg.hlCnt 6) sent.length
  (log.filter (fun e => precedes 32 e.1 expect)).foldl (fun c e => c.delivered e.2) c

/-- HL_MSG_LINK_SYNC with the session of the port (R368, R374, R375). -/
def Chip.synced (c : Chip) (p : Nat) (b : SyncBody) : Chip :=
  let r := c.hlPort p
  let c := if beforeLog r.log0 r.next0 b.expect0 || beforeLog r.log2 r.next2 b.expect2 then c.sessionEnd p else c
  let c := if c.hlState p = 5 then ((c.setFld (Reg.hlPortStatus p) 63 61 3).linkLog (.lateter p) 1).stopHold p else c
  ((c.sendSync p).resend p 0 b.expect0).resend p 2 b.expect2

/-- HL_MSG_LINK_SYNC (R373). -/
def linkSync (c : Chip) (p : Nat) (b : SyncBody) : Chip :=
  if b.session = (c.reg (Reg.hlPortSession p)).toNat then c.synced p b else c.retrainNow (.lateter p)

/-! Register access (R379). -/

/-- R379: whether the form of a register message is legal. -/
def regFormOk (off : Nat) (half : Bool) (count : Nat) : Bool :=
  decide (1 ≤ count) && decide (count ≤ 64) && off % (if half then 4 else 8) == 0

/-- The status of a register outside the port's window (R379, R380). -/
def Chip.outside (c : Chip) : Nat := if c.devState < 2 then stNotReady else stPrivilege

/-- R379: registers read in order, up to the first outside the window. -/
def regReads (p : Nat) (half : Bool) : Nat → Nat → State → Nat × List W64 × State
  | 0, _, s => (stOk, [], s)
  | n + 1, off, s =>
    if !s.chip.inWindow p off then (s.chip.outside, [], s)
    else
      let (v, s) := if half then let (x, s) := s.regReadHalf p off; (BitVec.ofNat 64 x, s) else (s.regRead off, s)
      let (st, vs, s) := regReads p half n (off + (if half then 4 else 8)) s
      (st, v :: vs, s)

/-- R379: registers written in order, up to the first outside the window. -/
def regWrites (p : Nat) (half : Bool) : List W64 → Nat → Nat → State → Nat × Nat × State
  | [], _, n, s => (stOk, n, s)
  | v :: t, off, n, s =>
    if !s.chip.inWindow p off then (stPrivilege, n, s)
    else
      let s := if half then s.regWriteHalf p off (v.toNat % 2 ^ 32) else (s.regWrite (.port p) off v).2
      regWrites p half t (off + (if half then 4 else 8)) (n + 1) s

/-- A register message whose form is illegal. -/
def State.badReg (s : State) (p tag : Nat) : State :=
  { s with chip := (s.chip.bump (Reg.hlCnt 8)).ack p tag 0 stMalformed 0 }

/-- HL_MSG_REG_READ (R379, R380). -/
def regReadMsg (s : State) (p : Nat) (b : RegReadBody) : State :=
  if !regFormOk b.offset b.half b.count then s.badReg p b.hostTag
  else
    let (st, vs, s) := regReads p b.half b.count b.offset s
    let c := if st = stNotReady then s.chip.bump (Reg.hlCnt 9) else s.chip
    { s with chip := c.hlSend p 0 (.regData b.hostTag st vs) }

/-- HL_MSG_REG_WRITE (R379). -/
def regWriteMsg (s : State) (p : Nat) (b : RegWriteBody) : State :=
  if !regFormOk b.offset b.half b.values.length then s.badReg p b.hostTag
  else
    let (st, n, s) := regWrites p b.half b.values b.offset 0 s
    { s with chip := s.chip.ack p b.hostTag 0 st n }

/-! Bulk transfers (R387). -/

/-- The owner of a bulk transfer is told how it ended. -/
def Chip.bulkEnded (c : Chip) (b : Bulk) (status : Nat) (data : List Byte) : Chip :=
  match b.owner with
  | .swapOut req => if status = stOk then c.swapOutDone req b.item else c.swapFailed req b.item
  | .swapIn req =>
    if status = stOk then
      let (ends, c) := c.swapInDone req b.item data
      match (if ends then c.seq req else none) with
      | some q => c.failSeq q stDamaged
      | none => c
    else match c.seq req with
      | some q =>
        let c := if status = stUncorrectable then
            (c.bump (Reg.movCnt 13)).log { code := 0x0802, refKind := 1, ref := req, part := q.part }
          else c
        c.swapLost q
      | none => c
  | .document => c.docWritten status

/-- The pending transfer a reply names: by its tag, its direction and its port. -/
def Chip.bulkFor (c : Chip) (p tag : Nat) (write : Bool) : Option Bulk :=
  c.hl.bulks.find? (fun b => b.tag == tag && b.write == write && b.port == p)

/-- HL_MSG_BULK_DATA (R387). -/
def bulkData (c : Chip) (h : HlHdr) (b : BulkDataBody) : Chip :=
  match c.bulkFor h.port b.tag false with
  | none => c.bump (Reg.hlCnt 11)
  | some k =>
    if b.data.length ≠ (if b.status = stOk then k.length else 0) then
      (c.bump (Reg.hlCnt 8)).ack h.port (refusalTag h) 0 stMalformed 0
    else ((c.bulkTake b.tag).2).bulkEnded k (statusOf b.status) b.data

/-- HL_MSG_BULK_WRITE_ACK (R387). -/
def bulkWriteAck (c : Chip) (h : HlHdr) (b : BulkAckBody) : Chip :=
  match c.bulkFor h.port b.tag true with
  | none => c.bump (Reg.hlCnt 11)
  | some k => ((c.bulkTake b.tag).2).bulkEnded k (statusOf b.status) []

/-- HL_BULK_TIMEOUT (R387, R388): sent again under a new tag, or ended. -/
def bulkTimeout (c : Chip) (tag : Nat) : Chip :=
  match c.bulkTake tag with
  | (none, _) => c
  | (some b, c) =>
    let c := c.bump (Reg.hlCnt 10)
    if c.fld Reg.hlHostTimers 62 60 ≤ b.sends then c.bulkEnded b stTimeout []
    else if !c.windowOk b.port b.window b.offset b.length b.write then c.bulkEnded b stDenied []
    else
      let t := wrapSucc 32 c.hl.bulkTag
      let b := { b with tag := t, sends := b.sends + 1 }
      ({ c with hl := { c.hl with bulks := c.hl.bulks ++ [b], bulkTag := t } }).bulkSend b

/-- R387: a bulk timer runs while PD_HUB is UP. -/
def hlBulkTimeout (c : Chip) (tag : Nat) : Chip := if c.domUp 1 then bulkTimeout c tag else c

end Sys2Proof.Machine
end

