-- ==== Sys2Proof/WellFormed.lean ====
section
/-!
DEFINITION. Which commands exist: every field fits the width that the specification gives it, and every index names something
the device has. What a unit checks of a value (a reserved bit, a range, a permission) is the command's own matter.
-/
namespace Sys2Proof

/-- A value of `w` bits. -/
def fits (n w : Nat) : Bool := decide (n < 2 ^ w)

/-- Every value of a list has `w` bits. -/
def allFit (l : List Nat) (w : Nat) : Bool := l.all (fun n => fits n w)

/-- A list of at most `n` elements. -/
def atMost {α : Type} (l : List α) (n : Nat) : Bool := decide (l.length ≤ n)

/-! Host messages. -/

/-- The host message types that a host sends (R478). -/
def hostTypes : List Nat :=
  [0x01, 0x10, 0x11, 0x12, 0x13, 0x14, 0x18, 0x20, 0x21, 0x22, 0x23, 0x30, 0x31, 0x51, 0x53]

/-- R370. -/
def HlPkt.wf (p : HlPkt) : Bool := fits p.payLen 13 && fits p.msgOffset 24 && fits p.totalLen 25

/-- R370: a transaction header. A message row carries its own type or an unknown one (R371). -/
def HlHdr.wf (h : HlHdr) (type : Nat) : Bool :=
  fits h.port 2 && fits h.hc 2 && fits h.msgType 8 && (h.msgType == type || !hostTypes.contains h.msgType) &&
    fits h.xseq 32 && fits h.rawTag 64 && !h.pkts.isEmpty && h.pkts.all HlPkt.wf

/-- A prompt entry (R224). -/
def PromptTok.wf (t : PromptTok) : Bool := fits t.tok 24 && fits t.rsvd 7

/-- R224. -/
def AdmitBody.wf (b : AdmitBody) : Bool :=
  fits b.hostTag 64 && fits b.part 4 && fits b.customer 12 && fits b.adapter 16 && fits b.nStop 16 && fits b.promptLen 32 &&
    fits b.maxNew 32 && b.samp.length == 4 && b.stop.length == 8 && allFit b.stop 32 && b.prompt.all PromptTok.wf

/-- R226. -/
def ResumeBody.wf (b : ResumeBody) : Bool :=
  fits b.hostTag 64 && fits b.requestId 64 && fits b.nAppend 32 && fits b.maxNew 32 && b.append.all PromptTok.wf

/-- R226. -/
def ReqBody.wf (b : ReqBody) : Bool := fits b.hostTag 64 && fits b.requestId 64

/-- R220. -/
def AdapterBody.wf (b : AdapterBody) : Bool :=
  fits b.hostTag 64 && fits b.part 4 && fits b.adapter 16 && fits b.customer 16 && fits b.rank 16 && fits b.srcKind 8 &&
    fits b.srcDevice 16 && fits b.srcRegion 16 && fits b.srcOffset 64 && fits b.srcLength 64 && fits b.measurement 256

/-- R275. -/
def ShardEnt.wf (e : ShardEnt) : Bool := fits e.device 16 && fits e.region 16 && fits e.rsvd 32 && fits e.offset 64

/-- R275. -/
def EmbTableBody.wf (b : EmbTableBody) : Bool :=
  fits b.hostTag 64 && fits b.action 8 && fits b.table 8 && fits b.partMask 16 && fits b.version 32 && fits b.rows 64 &&
    fits b.width 16 && fits b.fmt 8 && fits b.log2Shard 8 && fits b.nShards 32 && b.map.all ShardEnt.wf

/-- R279. -/
def BagIn.wf (b : BagIn) : Bool :=
  fits b.pool 2 && fits b.outFmt 8 && allFit b.idx 40 && atMost b.idx 65535 &&
    b.weights.length == (if b.weighted then b.idx.length else 0)

/-- R279. -/
def GatherBody.wf (b : GatherBody) : Bool :=
  fits b.hostTag 64 && fits b.part 4 && fits b.table 6 && fits b.deadlineUs 32 && b.bags.all BagIn.wf && atMost b.bags 65535

/-- R285. -/
def UpdateBody.wf (b : UpdateBody) : Bool :=
  fits b.hostTag 64 && fits b.part 8 && fits b.table 8 && b.rows.all (fun r => fits r.1 40) && atMost b.rows 65535

/-- R293. -/
def MigrateBody.wf (b : MigrateBody) : Bool :=
  fits b.hostTag 64 && fits b.action 8 && fits b.table 8 && fits b.log2Rows 8 && fits b.version 32 && fits b.firstRow 64 &&
    fits b.newDevice 16 && fits b.newRegion 16 && fits b.newOffset 64

/-- R379. -/
def RegReadBody.wf (b : RegReadBody) : Bool := fits b.hostTag 64 && fits b.offset 32 && fits b.count 8

/-- R379. -/
def RegWriteBody.wf (b : RegWriteBody) : Bool := fits b.hostTag 64 && fits b.offset 32 && atMost b.values 255

/-- R373. -/
def SyncBody.wf (b : SyncBody) : Bool := fits b.session 64 && fits b.expect0 32 && fits b.expect1 32 && fits b.expect2 32

/-- R387. -/
def BulkDataBody.wf (b : BulkDataBody) : Bool := fits b.tag 32 && fits b.status 16 && atMost b.data (2 ^ 24)

/-- R387. -/
def BulkAckBody.wf (b : BulkAckBody) : Bool := fits b.tag 32 && fits b.status 16

/-! Fabric packets. -/

/-- R317, R363: a packet header. -/
def FabHdr.wf (h : FabHdr) : Bool :=
  fits h.dst 16 && fits h.src 16 && fits h.mapEpoch 16 && fits h.tc 2 && fits h.hops 4 && fits h.pktType 8 && fits h.payLen 13 &&
    fits h.msgId 32 && fits h.msgOffset 24 && fits h.totalLen 25 && fits h.tsStamp 32 && fits h.tsEcho 32 && fits h.encPart 8 &&
    fits h.encEpoch 8 && fits h.nonce 64

/-- R320. -/
def NackBody.wf (b : NackBody) : Bool := fits b.status 16 && fits b.droppedType 8 && fits b.msgId 32 && fits b.msgOffset 32

/-- R327, R344. -/
def SwWriteBody.wf (b : SwWriteBody) : Bool := b.entries.all (fun e => fits e.1 32 && fits e.2.1 32) && atMost b.entries 65535

/-- R327. -/
def SwAckBody.wf (b : SwAckBody) : Bool := fits b.status 16 && fits b.applied 16

/-- R248. -/
def MoveCommon.wf (m : MoveCommon) : Bool := fits m.requestId 64 && fits m.placement 16 && fits m.moveId 32

/-- R248. -/
def PlaceBody.wf (b : PlaceBody) : Bool := b.common.wf && fits b.pktIndex 16 && atMost b.data 4096

/-- R248. -/
def ReportBody.wf (b : ReportBody) : Bool :=
  b.common.wf && fits b.kind 8 && fits b.status 16 && fits b.firstIndex 32 && fits b.committed 32 && fits b.next 8 &&
    b.tokens.all (fun t => fits t.1 24) && atMost b.tokens 255 && atMost b.values (2 ^ 24)

/-- R248. -/
def PhaseCtrlBody.wf (b : PhaseCtrlBody) : Bool := b.common.wf && fits b.action 8 && fits b.status 16

/-- R248. -/
def OfferBody.wf (b : OfferBody) : Bool :=
  b.common.wf && fits b.kind 8 && fits b.commitWait 16 && fits b.silenceMs 16 && fits b.adapter 16 && fits b.adapterVer 32 &&
    fits b.ttlLeftMs 32 && fits b.pages 32 && fits b.baseMeas 256 && fits b.draftMeas 256

/-- R248. -/
def MoveReplyBody.wf (b : MoveReplyBody) : Bool := b.common.wf && fits b.status 16 && fits b.rxRegion 16 && fits b.rxOffset 64

/-- R248, R287. -/
def MoveAckBody.wf (b : MoveAckBody) : Bool := b.common.wf && fits b.bytes 64 && fits b.phase 8

/-- R248. -/
def MoveBareBody.wf (b : MoveBareBody) : Bool := b.common.wf

/-- R248. -/
def MoveAbortBody.wf (b : MoveAbortBody) : Bool := b.common.wf && fits b.status 16

/-- R248. -/
def MoveAnswerBody.wf (b : MoveAnswerBody) : Bool := b.common.wf && fits b.answer 8

/-- R248. -/
def MovePullBody.wf (b : MovePullBody) : Bool := b.common.wf && fits b.deadline 32

/-- R350. -/
def LoadBody.wf (b : LoadBody) : Bool := fits b.region 16 && fits b.offset 64

/-- R350. -/
def LoadReplyBody.wf (b : LoadReplyBody) : Bool := fits b.status 16 && atMost b.data 4096

/-- R350. -/
def StoreBody.wf (b : StoreBody) : Bool := fits b.region 16 && fits b.offset 64 && atMost b.data 255

/-- R350. -/
def AckBody.wf (b : AckBody) : Bool := fits b.status 16

/-- R350. -/
def ReadBody.wf (b : ReadBody) : Bool := fits b.region 16 && fits b.readTag 32 && fits b.offset 64 && fits b.length 32

/-- R350. -/
def ReadDataBody.wf (b : ReadDataBody) : Bool :=
  fits b.status 16 && fits b.pktIndex 16 && fits b.readTag 32 && fits b.dataOffset 64 && atMost b.data 4096

/-- R350. -/
def WriteBody.wf (b : WriteBody) : Bool :=
  fits b.region 16 && fits b.pktIndex 16 && fits b.trigger 16 && fits b.dstOffset 64 && atMost b.data 4096

/-- R350. -/
def AtomicBody.wf (b : AtomicBody) : Bool :=
  fits b.region 16 && fits b.op 8 && fits b.try_ 8 && fits b.seq 32 && fits b.offset 64 && fits b.tgtEpoch 16

/-- R350. -/
def AtomicReplyBody.wf (b : AtomicReplyBody) : Bool := fits b.status 16 && fits b.tgtEpoch 16 && fits b.seq 32

/-- R331. -/
def CombinedBody.wf (b : CombinedBody) : Bool :=
  fits b.region 16 && fits b.offset 64 && b.entries.all (fun e => fits e.1 16 && fits e.2.1 32) && atMost b.entries 255

/-- R331. -/
def CombinedReplyBody.wf (b : CombinedReplyBody) : Bool := fits b.status 16 && atMost b.results 255

/-- R350. -/
def CancelBody.wf (b : CancelBody) : Bool := fits b.cancelId 32

/-- R350. -/
def CancelAckBody.wf (b : CancelAckBody) : Bool := fits b.status 16 && fits b.cancelId 32

/-- R350. -/
def RevokeDoneBody.wf (b : RevokeDoneBody) : Bool := fits b.target 16 && fits b.region 16 && fits b.status 16 && fits b.unsettled 32

/-- R287. -/
def EmbReadBody.wf (b : EmbReadBody) : Bool :=
  fits b.table 8 && fits b.version 32 && fits b.deadline 32 && allFit b.rows 64 && atMost b.rows 65535

/-- R287. -/
def EmbRowsBody.wf (b : EmbRowsBody) : Bool := fits b.status 16 && fits b.version 32 && atMost b.rows 65535

/-- R287. -/
def EmbScatterBody.wf (b : EmbScatterBody) : Bool :=
  fits b.table 8 && fits b.version 32 && fits b.seq 32 && fits b.row 64 && atMost b.delta 1024 &&
    (b.head || (b.table == 0 && b.version == 0 && b.seq == 0 && b.row == 0))

/-- R287. -/
def EmbScatterAckBody.wf (b : EmbScatterAckBody) : Bool := fits b.status 16 && fits b.seq 32

/-- R287. -/
def EmbRedirectBody.wf (b : EmbRedirectBody) : Bool :=
  fits b.status 16 && fits b.table 8 && fits b.log2Rows 8 && fits b.version 32 && fits b.firstRow 64 && fits b.newDevice 16 &&
    fits b.newRegion 16 && fits b.newOffset 64

/-- R287. -/
def MigOfferBody.wf (b : MigOfferBody) : Bool :=
  fits b.table 8 && fits b.log2Rows 8 && fits b.version 32 && fits b.firstRow 64 && fits b.migId 32

/-- The body of a packet. -/
def FabBody.wf : FabBody → Bool
  | .nack b => b.wf
  | .ccEcho => true
  | .swWrite b => b.wf
  | .swWriteAck b => b.wf
  | .load b => b.wf
  | .loadReply b => b.wf
  | .store b => b.wf
  | .storeAck b => b.wf
  | .read b => b.wf
  | .readData b => b.wf
  | .write b => b.wf
  | .writeAck b => b.wf
  | .atomic b => b.wf
  | .atomicReply b => b.wf
  | .atomicCombined b => b.wf
  | .atomicCombinedReply b => b.wf
  | .cancel b => b.wf
  | .cancelAck b => b.wf
  | .rmaGrant b => b.wf
  | .revokeDone b => b.wf
  | .phasePlace b => b.wf
  | .phaseReport b => b.wf
  | .phaseCtrl b => b.wf
  | .moveOffer b => b.wf
  | .moveReply b => b.wf
  | .moveAck b => b.wf
  | .moveCommit b => b.wf
  | .moveAbort b => b.wf
  | .moveQuery b => b.wf
  | .moveAnswer b => b.wf
  | .movePull b => b.wf
  | .embRead b => b.wf
  | .embRows b => b.wf
  | .embScatter b => b.wf
  | .embScatterAck b => b.wf
  | .embRedirect b => b.wf
  | .migOffer b => b.wf
  | .migReply b => b.wf
  | .migAck b => b.wf
  | .migCommit b => b.wf
  | .migAbort b => b.wf
  | .raw bs => atMost bs 4096

/-- A packet. -/
def FabPkt.wf (p : FabPkt) : Bool := p.hdr.wf && p.body.wf

/-! Links, tiles, images and the environment. -/

/-- R302, R366: 16 fabric ports, four Lateter ports. -/
def LinkPort.wf : LinkPort → Bool
  | .fabric p => fits p 4
  | .lateter p => fits p 2

/-- R312: a flit is 256 bytes. -/
def Flit.wf (f : Flit) : Bool := f.bytes.length == 256

/-- R304, R366: what training reports. -/
def TrainInfo.wf (i : TrainInfo) : Bool :=
  fits i.partnerDevice 16 && fits i.partnerPort 5 && fits i.session 64 && fits i.partnerLanes 8 && fits i.failedLanes 8

/-- R306: a lane of a port. -/
def RetrainCause.wf : RetrainCause → Bool
  | .noisyLane i => fits i 3
  | _ => true

/-- R463: a port, or the fabric manager; the image's own writes are no command. -/
def Accessor.wf : Accessor → Bool
  | .port p => fits p 2
  | .manager => true
  | .regInit => false

/-- R60: a station of a quadrant, an MV channel or an EM channel. -/
def StationRef.wf : StationRef → Bool
  | .quad q i => fits q 2 && decide (i < 124)
  | .mv c => fits c 5
  | .em c => fits c 2

/-- R57. -/
def TileTag.wf (t : TileTag) : Bool :=
  fits t.streamId 16 && fits t.tileIndex 32 && fits t.fmt 4 && fits t.arithFlags 7 && fits t.rows 8 && fits t.cols 8 &&
    fits t.redIndex 16 && fits t.colIndex 16 && fits t.band 16 && fits t.parts 8 && fits t.resetEpoch 16 && fits t.planId 16 &&
    fits t.layer 16 && fits t.stepSeq 32

/-- R57. -/
def Tile.wf (t : Tile) : Bool := t.tag.wf

/-- R57, R126. -/
def Refetched.wf (r : Refetched) : Bool := r.move.all (fun m => fits m.1 16 && fits m.2 32) && r.tile.wf

/-- R399. -/
def SrcDesc.wf (d : SrcDesc) : Bool :=
  fits d.kind 8 && fits d.port 8 && fits d.device 16 && fits d.region 16 && fits d.offset 64 && fits d.length 64 && fits d.rsvd 16

/-- R399. -/
def PartDecl.wf (d : PartDecl) : Bool :=
  fits d.part 8 && fits d.flags 8 && fits d.rsvd 56 && fits d.quadMask 8 && fits d.access 8 && allFit d.prompts 16 && allFit d.gens 16 &&
    allFit d.caches 16 && d.share.length == 12 && allFit d.share 8 && fits d.mvCount 8 && fits d.emCount 8 &&
    d.t1Mib.length == 4 && allFit d.t1Mib 32 && d.kvFrames.length == 4 && allFit d.kvFrames 32 && fits d.t2Mib 32 &&
    fits d.salt 256 && fits d.baseMeas 256 && fits d.draftMeas 256 && d.baseSrc.wf && d.draftSrc.wf && d.base2.wf && d.draft2.wf

/-- R398. -/
def Composition.wf (c : Composition) : Bool :=
  fits c.deviceId 16 && fits c.mgrDevice 16 && fits c.role 3 && fits c.ownerPort 8 && fits c.startMode 8 && fits c.smbLevel 2 &&
    fits c.collarSlots 32 && fits c.collarTier 8 && fits c.listsInternal 16 && fits c.collarLogMib 32 && fits c.rsvd 370

/-- R396 to R400. -/
def CfgImage.wf (i : CfgImage) : Bool :=
  fits i.magic 32 && fits i.formatVer 16 && fits i.headerLen 16 && fits i.partCode 16 && fits i.minStepping 16 &&
    fits i.nSections 16 && fits i.keyIndex 8 && fits i.securityVer 16 && fits i.totalLen 32 && fits i.imageVer 64 &&
    fits i.targetSerial 64 && i.publicKey.length == 32 && fits i.hdrRsvd 470 &&
    i.sections.all (fun s => fits s.type 16 && fits s.inst 16 && fits s.rsvd 32 && fits s.offset 32 && fits s.length 32) &&
    i.composition.wf && i.partitions.all PartDecl.wf && i.regInit.all (fun e => fits e.offset 32 && fits e.rsvd 32)

/-- What reading an image gives. -/
def ReadImage.wf : ReadImage → Bool
  | .image i => i.wf
  | .failed st => fits st 16

/-- A pull gives an image with the digests of its chunks, or the status of its failure (R402). -/
def PullResult.wf : PullResult → Bool
  | .none => true
  | .image m => allFit m.chunkDigests 256 && fits m.vocab 32 && fits m.ctxLimit 32 && fits m.eosToken 32
  | .failed st => fits st 16

/-- R492, R493. -/
def DimmInfo.wf (d : DimmInfo) : Bool :=
  fits d.width 8 && fits d.ranks 8 && fits d.capGib 16 && allFit d.rates 16 && fits d.serial 32

/-- R492: a channel takes at most two DIMMs. -/
def ChannelInfo.wf (c : ChannelInfo) : Bool := atMost c.dimms 2 && c.dimms.all DimmInfo.wf

/-- R425: the power domains 0 to 19. -/
def domainOk (d : Nat) : Bool := decide (d < 20)

/-- R440: the sensors 0 to 9. -/
def sensorOk (s : Nat) : Bool := decide (s < 10)

/-- Whether a command exists. -/
def Instr.wf : Instr → Bool
  | .hlMsgAdmit h b => h.wf 0x10 && b.wf
  | .hlMsgResume h b => h.wf 0x11 && b.wf
  | .hlMsgCancel h b => h.wf 0x12 && b.wf
  | .hlMsgPause h b => h.wf 0x13 && b.wf
  | .hlMsgQuery h b => h.wf 0x14 && b.wf
  | .hlMsgAdapterInstall h b => h.wf 0x18 && b.wf
  | .hlMsgEmbTable h b => h.wf 0x20 && b.wf
  | .hlMsgEmbGather h b => h.wf 0x21 && b.wf
  | .hlMsgEmbUpdate h b => h.wf 0x22 && b.wf
  | .hlMsgEmbMigrate h b => h.wf 0x23 && b.wf
  | .hlMsgRegRead h b => h.wf 0x30 && b.wf
  | .hlMsgRegWrite h b => h.wf 0x31 && b.wf
  | .hlMsgLinkSync h b => h.wf 0x01 && b.wf
  | .hlMsgBulkData h b => h.wf 0x51 && b.wf
  | .hlMsgBulkWriteAck h b => h.wf 0x53 && b.wf
  | .hc2Emit port => fits port 2
  | .fabPktPhasePlace h b => h.wf && b.wf
  | .fabPktPhaseReport h b => h.wf && b.wf
  | .fabPktPhaseCtrl h b => h.wf && b.wf
  | .fabPktMoveOffer h b => h.wf && b.wf
  | .fabPktMoveReply h b => h.wf && b.wf
  | .moveDataSent requestId => fits requestId 64
  | .fabPktMoveAck h b => h.wf && b.wf
  | .fabPktMoveCommit h b => h.wf && b.wf
  | .fabPktMoveAbort h b => h.wf && b.wf
  | .fabPktMoveQuery h b => h.wf && b.wf
  | .fabPktMoveAnswer h b => h.wf && b.wf
  | .fabPktMovePull h b => h.wf && b.wf
  | .localMoveCompletes requestId => fits requestId 64
  | .moveOfferWait requestId => fits requestId 64
  | .moveAckWait moveId => fits moveId 32
  | .moveCommitWait source moveId => fits source 16 && fits moveId 32
  | .moveRecordExpires moveId => fits moveId 32
  | .phaseReportInterval requestId => fits requestId 64
  | .decodeSilenceLimit requestId => fits requestId 64
  | .restoreMs requestId => fits requestId 64
  | .ttlFull requestId => fits requestId 64
  | .stepLaunch part engine => fits part 4 && fits engine 3
  | .selfPauseRetry requestId => fits requestId 64
  | .selfPauseLimit requestId => fits requestId 64
  | .tileArrives part sink tile _ _ => fits part 4 && fits sink 16 && tile.wf
  | .pleatRefetchCompletes part sink got _ => fits part 4 && fits sink 16 && got.wf
  | .streamCompletes part stepSeq streamId layer creditStall anchorWait expanderStall tierWait =>
    fits part 4 && fits stepSeq 32 && fits streamId 16 && fits layer 16 && fits creditStall 32 && fits anchorWait 32 &&
      fits expanderStall 32 && fits tierWait 32
  | .streamDeadline part stepSeq streamId layer => fits part 4 && fits stepSeq 32 && fits streamId 16 && fits layer 16
  | .commitJoin part stepSeq => fits part 4 && fits stepSeq 32
  | .stepWatchdog part stepSeq => fits part 4 && fits stepSeq 32
  | .stationStorageError s => s.wf
  | .stationFence port quad station => fits port 2 && (StationRef.quad quad station).wf
  | .stationUnfence port quad station => fits port 2 && (StationRef.quad quad station).wf
  | .refitCompletes part => fits part 4
  | .partReload port part => fits port 2 && fits part 4
  | .partitionLoadCompletes part base draft => fits part 4 && base.wf && draft.wf
  | .adapterLoadCompletes slot _ digest status => fits slot 10 && fits digest 256 && fits status 16
  | .secondSourceReadCompletes part _ stepSeq streamId layer status =>
    fits part 4 && fits stepSeq 32 && fits streamId 16 && fits layer 16 && fits status 16
  | .tenRefill => true
  | .tenHistSnap port customer _ => fits port 2 && fits customer 12
  | .kvShareWrite port part _ => fits port 2 && fits part 4
  | .kvDescSel port _ => fits port 2
  | .flitReceived lp f => lp.wf && f.wf
  | .fabReplayTimeout lp => lp.wf
  | .seamBufferEccError p _ => p.wf
  | .signalDetected lp => lp.wf
  | .lossOfSignal lp => lp.wf
  | .trainingAttemptPasses lp info => lp.wf && info.wf
  | .trainingAttemptFails lp _ => lp.wf
  | .retrainTrigger lp cause => lp.wf && cause.wf
  | .retrainPasses lp info => lp.wf && info.wf
  | .retrainFails lp => lp.wf
  | .fabTrainLimit lp => lp.wf
  | .fabRetrainLimit lp => lp.wf
  | .fabRetryInterval lp => lp.wf
  | .fabPortFence acc port => acc.wf && fits port 4
  | .fabPortUnfence acc port => acc.wf && fits port 4
  | .fabPortDrain acc port _ => acc.wf && fits port 4
  | .fabPortRetrain acc port => acc.wf && fits port 4
  | .fabLaneFence acc port lanes => acc.wf && fits port 4 && fits lanes 8
  | .seamForward ingress p => fits ingress 4 && p.wf
  | .routeEntryWrite acc _ dst _ _ => acc.wf && fits dst 16
  | .swEpochCommit acc newEpoch => acc.wf && fits newEpoch 16
  | .swDrain => true
  | .fabPktSwWrite h b => h.wf && b.wf
  | .fabPktRmaGrant h b => h.wf && b.wf
  | .egressDequeue port => fits port 4
  | .swCombineWindow _ => true
  | .swCombineHold _ => true
  | .hotspotDetected port tc => decide (port ≤ 16) && fits tc 2
  | .pacedRelease dst => fits dst 16
  | .ccNoSample dst => fits dst 16
  | .fabPktCcEcho h => h.wf
  | .fabPktNack h b => h.wf && b.wf
  | .fabPktLoad h b _ => h.wf && b.wf
  | .fabPktLoadReply h b => h.wf && b.wf
  | .fabPktStore h b _ => h.wf && b.wf
  | .fabPktStoreAck h b => h.wf && b.wf
  | .fabPktRead h b _ => h.wf && b.wf
  | .fabPktReadData h b => h.wf && b.wf
  | .fabPktWrite h b _ => h.wf && b.wf
  | .fabPktWriteAck h b => h.wf && b.wf
  | .fabPktAtomic h b _ => h.wf && b.wf
  | .fabPktAtomicReply h b => h.wf && b.wf
  | .fabPktAtomicCombined h b _ => h.wf && b.wf
  | .fabPktAtomicCombinedReply h b => h.wf && b.wf
  | .fabPktCancel h b => h.wf && b.wf
  | .fabPktCancelAck h b => h.wf && b.wf
  | .fabPktRmaRevokeDone h b => h.wf && b.wf
  | .grantActivate acc g _ => acc.wf && fits g 12
  | .grantRevoke acc g => acc.wf && fits g 12
  | .grantInvalidate acc g => acc.wf && fits g 12
  | .rmaAtomicTimeout msgId => fits msgId 32
  | .rmaStoreTimeout msgId => fits msgId 32
  | .rmaWriteTimeout msgId => fits msgId 32
  | .rmaBusyBackoff msgId => fits msgId 32
  | .rmaReplayHold requester seq => fits requester 16 && fits seq 32
  | .replayFloorDiscard requester => fits requester 16
  | .rmaReassemblyLimit source msgId => fits source 16 && fits msgId 32
  | .rmaCancelHold source msgId => fits source 16 && fits msgId 32
  | .wlArm port list _ => fits port 2 && fits list 12
  | .wlStop port list _ => fits port 2 && fits list 12
  | .rmaWlAdvance port _ => fits port 2
  | .keyInstall port _ => fits port 2
  | .keyErase port _ => fits port 2
  | .fabPktEmbRead h b _ => h.wf && b.wf
  | .fabPktEmbRows h b => h.wf && b.wf
  | .fabPktEmbScatter h b _ => h.wf && b.wf && b.head == (h.msgOffset == 0)
  | .fabPktEmbScatterAck h b => h.wf && b.wf
  | .fabPktEmbRedirect h b => h.wf && b.wf
  | .fabPktEmbMigOffer h b => h.wf && b.wf
  | .fabPktEmbMigReply h b => h.wf && b.wf
  | .fabPktEmbMigAck h b => h.wf && b.wf
  | .fabPktEmbMigCommit h b => h.wf && b.wf
  | .fabPktEmbMigAbort h b => h.wf && b.wf
  | .bagPooled _ => true
  | .gatherDeadline _ stallCycles => fits stallCycles 64
  | .replicaRefresh table version row => fits table 6 && fits version 32 && fits row 40
  | .replicaExpiry table version row => fits table 6 && fits version 32 && fits row 40
  | .embEpoch => true
  | .migrationForwardingTimer migId => fits migId 32
  | .replicaStoreWrite port part _ => fits port 2 && fits part 4
  | .hlSyncWait port => fits port 2
  | .hlCreditStall port => fits port 2
  | .hlDownHold port => fits port 2
  | .hlBulkTimeout tag => fits tag 32
  | .hlPortFence acc port => acc.wf && fits port 2
  | .hlPortUnfence acc port => acc.wf && fits port 2
  | .hlPortRetrain acc port => acc.wf && fits port 2
  | .hlLaneFence acc port lanes => acc.wf && fits port 2 && fits lanes 8
  | .hostWindowWrite acc port window word _ => acc.wf && fits port 2 && fits window 4 && fits word 1
  | .enterService port => fits port 2
  | .enterTest port => fits port 2
  | .enterRecovery port => fits port 2
  | .applyImage port _ slot srcPort window img => fits port 2 && fits slot 1 && fits srcPort 2 && fits window 4 && img.wf
  | .writeSlot port slot srcPort window img => fits port 2 && fits slot 1 && fits srcPort 2 && fits window 4 && img.wf
  | .calSave port kinds => fits port 2 && fits kinds 6
  | .calRestoreFactory port => fits port 2
  | .svnCommit port => fits port 2
  | .quote port cmd => fits port 2 && (cmd.toNat / 2 ^ 16) % 4 == 1
  | .serviceReport port cmd => fits port 2 && (cmd.toNat / 2 ^ 16) % 4 == 2
  | .endorsementRecord port cmd => fits port 2 && (cmd.toNat / 2 ^ 16) % 4 == 3
  | .protectionWrite port offset _ =>
    fits port 2 && (offset == 0x100280 || (decide (0x100200 ≤ offset) && decide (offset < 0x100280) && offset % 8 == 0))
  | .powerDown port domain _ => fits port 2 && fits domain 5
  | .powerUp port domain _ => fits port 2 && fits domain 5
  | .reset port domain _ => fits port 2 && fits domain 5
  | .update port domain _ => fits port 2 && fits domain 5
  | .pwrModuleReset port _ => fits port 2
  | .resetNAsserted lowNs => fits lowNs 64
  | .powerGood straps => fits straps 3
  | .referencePresent => true
  | .rootPllLocked => true
  | .imageSlotVerified _ _ => true
  | .domainsTrained failedStations stackOk channels =>
    failedStations.all StationRef.wf && atMost stackOk 4 && atMost channels 16 && channels.all ChannelInfo.wf
  | .smbusSetOffset cmd data _ => fits cmd 8 && atMost data 255
  | .smbusRead cmd _ => fits cmd 8
  | .vInSample mv microsSince => fits mv 32 && fits microsSince 64
  | .inputRecovered => true
  | .referenceLoss absentNs _ => fits absentNs 64
  | .domainRampCompletes domain _ failedStations channels =>
    domainOk domain && failedStations.all StationRef.wf && atMost channels 16 && channels.all ChannelInfo.wf
  | .railFault domain => domainOk domain
  | .downSequenceEnds domain => domainOk domain
  | .hubWatchdog => true
  | .powerSample mv ma => fits mv 32 && fits ma 32
  | .thermalSample temps => temps.length == 10 && temps.all (fun t => decide (-2048 ≤ t) && decide (t ≤ 2047))
  | .thermalLevelRise sensor => sensorOk sensor
  | .thermalLevelFall sensor => sensorOk sensor
  | .evtReadSel port _ => fits port 2
  | .evtRateWrite port _ => fits port 2
  | .evtMirrorSel port _ => fits port 2
  | .mirrorRecordWrite => true
  | .mirrorSectorErase => true
  | .cntClear port _ => fits port 2
  | .rlLowHalfRead port offset => fits port 2 && fits offset 32
  | .registerWrite acc offset _ _ => acc.wf && fits offset 26
  | .patrolScrub addr _ _ => fits addr 64
  | .dimmThermalRead temps => atMost temps 16
  | .channelTrainingTimeout channel => decide (channel < 16)
  | .flashUnitCompletes _ => true
  | .documentSigned => true
  | .fabPktSwWriteAck h b => h.wf && b.wf

end Sys2Proof
end

