-- ==== Sys2Proof/Machine/Operands.lean ====
section
/-!
DEFINITION. How a command's operands reach the block: a host message, a fabric packet, a register word or one of its fields, a
report of the environment; and what follows every command of a kind (R233, R436).
-/
namespace Sys2Proof.Machine

/-- A command: an existing one has its effect. DESIGN CHOICE: one that names an object the block does not have, or a value
wider than its field, is nothing that can arrive, and leaves every thing as it is (log entry 8). -/
def command (i : Instr) (s : State) (f : State → State) : Host.Outcome State Fault Refusal :=
  if i.wf then .next (f s) else .next s

/-- An effect on the chip alone. -/
def onChip (f : Chip → Chip) (s : State) : State := { s with chip := f s.chip }

/-- R233, R436: a request that waits for a slot takes a freed one, and a module cold reset that was asked for starts. -/
def State.settled (s : State) : State := State.settleReset (onChip Chip.drainSlots s)

/-- An effect on the chip that may free a request slot (R233). -/
def freeing (f : Chip → Chip) (s : State) : State := onChip (fun c => (f c).drainSlots) s

/-- A packet of a fabric row. -/
def onFab (h : FabHdr) (b : FabBody) (rsvd : Nat) (f : Chip → Chip) (s : State) : State :=
  onChip (fun c => onPkt c ⟨h, b⟩ rsvd f) s

/-- A packet that may free a request slot. -/
def onFabFreeing (h : FabHdr) (b : FabBody) (rsvd : Nat) (f : Chip → Chip) (s : State) : State :=
  freeing (fun c => onPkt c ⟨h, b⟩ rsvd f) s

/-- A packet whose effect is on registers (R327, R344). -/
def onFabState (h : FabHdr) (b : FabBody) (rsvd : Nat) (f : State → State) (s : State) : State :=
  let r := takePkt s.chip ⟨h, b⟩ rsvd hdrOk
  let s1 : State := { s with chip := r.2 }
  (if r.1 then f s1 else s1).settled

/-- A host message whose effect is on the chip. -/
def onHostChip (h : HlHdr) (m : HlMeta) (f : Chip → Chip) (s : State) : State := s.onHost h m (onChip f)

/-- A host message that may free a request slot. -/
def onHostFreeing (h : HlHdr) (m : HlMeta) (f : Chip → Chip) (s : State) : State :=
  onChip Chip.drainSlots (s.onHost h m (onChip f))

/-- A 64-bit register write (R460). -/
def writing (acc : Accessor) (off : Nat) (v : W64) (s : State) : State := (registerWrite s acc off v false).settled

/-- A register write of one field, the others as they read (R309, R389). -/
def writingField (acc : Accessor) (off hi lo n : Nat) (s : State) : State := writing acc off (putField (s.regRead off) hi lo n) s

/-- R344: the word that moves a grant to a state. -/
def grantWord (s : State) (g state : Nat) : W64 := putField (s.regRead (Reg.rmaGrant g 0)) 63 62 state

/-- PWR_DOMAIN_CMD's word (R428). -/
def domainWord (k d : Nat) (cascade : Bool) : W64 := wordOf [(63, 63, 1), (62, 62, bitN cascade), (10, 8, k), (4, 0, d)]

/-- APPLY_IMAGE's word (R417). -/
def applyWord (srcHost : Bool) (slot srcPort window : Nat) : W64 :=
  bootWord 4 [(19, 18, srcPort), (17, 14, window), (13, 13, slot), (12, 12, bitN srcHost)]

/-- WRITE_SLOT's word (R417). -/
def slotWord (slot srcPort window : Nat) : W64 := bootWord 5 [(19, 18, srcPort), (17, 14, window), (13, 13, slot)]

/-- The reserved bits of a shard map (R275): each entry's `REGION` is bits 11:0 of its field. -/
def mapRsvd (l : List ShardEnt) : Nat := l.foldl (fun a e => a ||| e.rsvd ||| (if e.region < 4096 then 0 else 1)) 0

/-- The reserved bits of bags (R279). -/
def bagsRsvd (l : List BagIn) : Nat := l.foldl (fun a b => a ||| b.rsvd) 0

/-- The reserved bits of register entries, and a `COUNT` outside 1 to 64 (R327). -/
def entriesRsvd (b : SwWriteBody) : Nat :=
  b.rsvd ||| b.entries.foldl (fun a e => a ||| e.2.1) 0 ||| (if b.entries.length = 0 ∨ 64 < b.entries.length then 1 else 0)

/-- A condition that a packet's layout needs, beside its reserved bits: a code that its table does not list breaks the
layout (log entry 87). -/
def needs (ok : Bool) : Nat := if ok then 0 else 1

/-- R350: `REGION` is bits 11:0 of its field and the bits above are reserved; a layout that needs more than that. -/
def regionRsvd (region rsvd : Nat) (ok : Bool) : Nat := rsvd ||| needs (region < 4096 && ok)

/-- R350: the reserved bits of a store, and its `LEN`. -/
def storeRsvd (b : StoreBody) : Nat := regionRsvd b.region b.rsvd (0 < b.data.length && b.data.length ≤ 64)

/-- R350: the reserved bits of a packet of a write, and its list. -/
def writeRsvd (b : WriteBody) : Nat := regionRsvd b.region b.rsvd (b.trigger < 4096)

/-- R350: the reserved bits of an atomic, its `OP` and its `TRY`. -/
def atomicRsvd (b : AtomicBody) : Nat := regionRsvd b.region b.rsvd (b.op ≤ 3 && b.try_ ≤ 7)

/-- R331: the reserved bits of a combined add, its `N` and its alignment. -/
def combinedRsvd (b : CombinedBody) : Nat :=
  regionRsvd b.region b.rsvd (2 ≤ b.entries.length && b.entries.length ≤ 16 && b.offset % 8 == 0)

/-- R248: the reserved bits of a report, its codes and its `COUNT`. -/
def reportRsvd (b : ReportBody) : Nat :=
  b.rsvd ||| b.common.rsvd ||| needs (b.kind ≤ 6 && b.next ≤ 2 && b.tokens.length ≤ 9)

/-- R248: the reserved bits of a phase control, and its `ACTION`. -/
def ctrlRsvd (b : PhaseCtrlBody) : Nat := b.rsvd ||| b.common.rsvd ||| needs (b.action ≤ 2)

/-- R248: the reserved bits of an OFFER, and its `KIND`. -/
def offerRsvd (b : OfferBody) : Nat := b.rsvd ||| b.common.rsvd ||| needs (b.kind ≤ 2)

/-- R287: the reserved bits of a MIG_ACK, and its phase. -/
def ackRsvd (b : MoveAckBody) : Nat := b.rsvd ||| b.common.rsvd ||| needs (b.phase ≤ 1)

/-- R248: the reserved bits of an ANSWER, and its code. -/
def answerRsvd (b : MoveAnswerBody) : Nat := b.rsvd ||| b.common.rsvd ||| needs (b.answer ≤ 2)

end Sys2Proof.Machine
end

