-- ==== Sys2Proof/Machine/CmdBoot.lean ====
section
/-!
DEFINITION. The commands' meanings: boot, images, calibration, fuses, documents and SMBus (R391 to R418).
-/
namespace Sys2Proof.Machine

/-- ENTER_SERVICE (R392). -/
def execEnterService (port : Nat) (s : State) : Host.Outcome State Fault Refusal :=
  command (.enterService port) s (fun s => writing (Accessor.port port) (Reg.bootCmd) (bootWord 1 []) s)

/-- ENTER_TEST (R392). -/
def execEnterTest (port : Nat) (s : State) : Host.Outcome State Fault Refusal :=
  command (.enterTest port) s (fun s => writing (Accessor.port port) (Reg.bootCmd) (bootWord 2 []) s)

/-- ENTER_RECOVERY (R392). -/
def execEnterRecovery (port : Nat) (s : State) : Host.Outcome State Fault Refusal :=
  command (.enterRecovery port) s (fun s => writing (Accessor.port port) (Reg.bootCmd) (bootWord 3 []) s)

/-- APPLY_IMAGE (R410). -/
def execApplyImage (port : Nat) (srcHost : Bool) (slot srcPort window : Nat) (img : ReadImage) (s : State) : Host.Outcome State Fault Refusal :=
  command (.applyImage port srcHost slot srcPort window img) s (fun s => (imageCommand s port 4 (applyWord srcHost slot srcPort window) img).settled)

/-- WRITE_SLOT (R413). -/
def execWriteSlot (port slot srcPort window : Nat) (img : ReadImage) (s : State) : Host.Outcome State Fault Refusal :=
  command (.writeSlot port slot srcPort window img) s (fun s => (imageCommand s port 5 (slotWord slot srcPort window) img).settled)

/-- CAL_SAVE (R415). -/
def execCalSave (port kinds : Nat) (s : State) : Host.Outcome State Fault Refusal :=
  command (.calSave port kinds) s (fun s => writing (Accessor.port port) (Reg.bootCmd) (bootWord 6 [(25, 20, kinds)]) s)

/-- CAL_RESTORE_FACTORY (R415). -/
def execCalRestoreFactory (port : Nat) (s : State) : Host.Outcome State Fault Refusal :=
  command (.calRestoreFactory port) s (fun s => writing (Accessor.port port) (Reg.bootCmd) (bootWord 7 []) s)

/-- SVN_COMMIT (R404). -/
def execSvnCommit (port : Nat) (s : State) : Host.Outcome State Fault Refusal :=
  command (.svnCommit port) s (fun s => writing (Accessor.port port) (Reg.bootCmd) (bootWord 8 []) s)

/-- QUOTE (R408). -/
def execQuote (port : Nat) (cmd : W64) (s : State) : Host.Outcome State Fault Refusal :=
  command (.quote port cmd) s (fun s => writing (Accessor.port port) (Reg.secQuoteCmd) (putField cmd 63 63 1) s)

/-- SERVICE_REPORT (R408). -/
def execServiceReport (port : Nat) (cmd : W64) (s : State) : Host.Outcome State Fault Refusal :=
  command (.serviceReport port cmd) s (fun s => writing (Accessor.port port) (Reg.secQuoteCmd) (putField cmd 63 63 1) s)

/-- ENDORSEMENT_RECORD (R408). -/
def execEndorsementRecord (port : Nat) (cmd : W64) (s : State) : Host.Outcome State Fault Refusal :=
  command (.endorsementRecord port cmd) s (fun s => writing (Accessor.port port) (Reg.secQuoteCmd) (putField cmd 63 63 1) s)

/-- PROTECTION_WRITE (R409). -/
def execProtectionWrite (port offset : Nat) (value : W64) (s : State) : Host.Outcome State Fault Refusal :=
  command (.protectionWrite port offset value) s (fun s => writing (Accessor.port port) (offset) (value) s)

/-- RESET_N_ASSERTED (R484). -/
def execResetNAsserted (lowNs : Nat) (s : State) : Host.Outcome State Fault Refusal :=
  command (.resetNAsserted lowNs) s (fun s => resetN s lowNs)

/-- POWER_GOOD (R393). -/
def execPowerGood (straps : Nat) (s : State) : Host.Outcome State Fault Refusal :=
  command (.powerGood straps) s (fun s => powerGood s straps)

/-- REFERENCE_PRESENT (R393). -/
def execReferencePresent (s : State) : Host.Outcome State Fault Refusal :=
  command .referencePresent s (fun s => referencePresent s)

/-- ROOT_PLL_LOCKED (R393). -/
def execRootPllLocked (s : State) : Host.Outcome State Fault Refusal :=
  command .rootPllLocked s (fun s => rootLocked s)

/-- IMAGE_SLOT_VERIFIED (R401). -/
def execImageSlotVerified (read0 read1 : Bool) (s : State) : Host.Outcome State Fault Refusal :=
  command (.imageSlotVerified read0 read1) s (fun s => (imageVerified s read0 read1).settled)

/-- DOMAINS_TRAINED (R393). -/
def execDomainsTrained (failedStations : List StationRef) (stackOk : List Bool) (channels : List ChannelInfo) (s : State) : Host.Outcome State Fault Refusal :=
  command (.domainsTrained failedStations stackOk channels) s (fun s => (domainsTrained s failedStations stackOk channels).settled)

/-- SMBUS_SET_OFFSET (R394). -/
def execSmbusSetOffset (cmd : Nat) (data : List Byte) (pecOk : Bool) (s : State) : Host.Outcome State Fault Refusal :=
  command (.smbusSetOffset cmd data pecOk) s (fun s => smbusSet s cmd data pecOk)

/-- SMBUS_READ (R394). -/
def execSmbusRead (cmd : Nat) (pecOk : Bool) (s : State) : Host.Outcome State Fault Refusal :=
  command (.smbusRead cmd pecOk) s (fun s => Sys2Proof.Machine.smbusRead s cmd pecOk)

/-- FLASH_UNIT_COMPLETES (R412). -/
def execFlashUnitCompletes (readBackOk : Bool) (s : State) : Host.Outcome State Fault Refusal :=
  command (.flashUnitCompletes readBackOk) s (fun s => (flashUnit s readBackOk).settled)

/-- DOCUMENT_SIGNED (R408). -/
def execDocumentSigned (s : State) : Host.Outcome State Fault Refusal :=
  command .documentSigned s (fun s => onChip (fun c => Sys2Proof.Machine.documentSigned s.nv c) s)

end Sys2Proof.Machine
end

