-- ==== Sys2Proof/Machine/CmdEmb.lean ====
section
/-!
DEFINITION. The commands' meanings: the embedding station (R273 to R301).
-/
namespace Sys2Proof.Machine

/-- FAB_PKT_EMB_READ (R289). -/
def execFabPktEmbRead (h : FabHdr) (b : EmbReadBody) (tierError : Bool) (s : State) : Host.Outcome State Fault Refusal :=
  command (.fabPktEmbRead h b tierError) s (fun s => onFab h (.embRead b) (b.rsvd) (fun c => embRead c h b tierError) s)

/-- FAB_PKT_EMB_ROWS (R282). -/
def execFabPktEmbRows (h : FabHdr) (b : EmbRowsBody) (s : State) : Host.Outcome State Fault Refusal :=
  command (.fabPktEmbRows h b) s (fun s => onFab h (.embRows b) (b.rsvd) (fun c => Chip.finishOps (embRows c h b)) s)

/-- FAB_PKT_EMB_SCATTER (R286). -/
def execFabPktEmbScatter (h : FabHdr) (b : EmbScatterBody) (tierError : Bool) (s : State) : Host.Outcome State Fault Refusal :=
  command (.fabPktEmbScatter h b tierError) s (fun s => onFab h (.embScatter b) b.rsvd (fun c => embScatter c h b tierError) s)

/-- FAB_PKT_EMB_SCATTER_ACK (R285). -/
def execFabPktEmbScatterAck (h : FabHdr) (b : EmbScatterAckBody) (s : State) : Host.Outcome State Fault Refusal :=
  command (.fabPktEmbScatterAck h b) s (fun s => onFab h (.embScatterAck b) (b.rsvd) (fun c => Chip.finishOps (embScatterAck c b)) s)

/-- FAB_PKT_EMB_REDIRECT (R296). -/
def execFabPktEmbRedirect (h : FabHdr) (b : EmbRedirectBody) (s : State) : Host.Outcome State Fault Refusal :=
  command (.fabPktEmbRedirect h b) s (fun s => onFab h (.embRedirect b) (regionRsvd b.newRegion b.rsvd true) (fun c => Chip.finishOps (embRedirect c h b)) s)

/-- FAB_PKT_EMB_MIG_OFFER (R293). -/
def execFabPktEmbMigOffer (h : FabHdr) (b : MigOfferBody) (s : State) : Host.Outcome State Fault Refusal :=
  command (.fabPktEmbMigOffer h b) s (fun s => onFab h (.migOffer b) (b.rsvd) (fun c => migOffer c h b) s)

/-- FAB_PKT_EMB_MIG_REPLY (R294). -/
def execFabPktEmbMigReply (h : FabHdr) (b : MoveReplyBody) (s : State) : Host.Outcome State Fault Refusal :=
  command (.fabPktEmbMigReply h b) s (fun s => onFab h (.migReply b) (regionRsvd b.rxRegion (b.rsvd ||| b.common.rsvd) true) (fun c => migReply c h b) s)

/-- FAB_PKT_EMB_MIG_ACK (R294). -/
def execFabPktEmbMigAck (h : FabHdr) (b : MoveAckBody) (s : State) : Host.Outcome State Fault Refusal :=
  command (.fabPktEmbMigAck h b) s (fun s => onFab h (.migAck b) (ackRsvd b) (fun c => migAck c h b) s)

/-- FAB_PKT_EMB_MIG_COMMIT (R295). -/
def execFabPktEmbMigCommit (h : FabHdr) (b : MoveBareBody) (s : State) : Host.Outcome State Fault Refusal :=
  command (.fabPktEmbMigCommit h b) s (fun s => onFab h (.migCommit b) (b.rsvd ||| b.common.rsvd) (fun c => migCommit c h b) s)

/-- FAB_PKT_EMB_MIG_ABORT (R294). -/
def execFabPktEmbMigAbort (h : FabHdr) (b : MoveAbortBody) (s : State) : Host.Outcome State Fault Refusal :=
  command (.fabPktEmbMigAbort h b) s (fun s => onFab h (.migAbort b) (b.rsvd ||| b.common.rsvd) (fun c => migAbort c h b) s)

/-- BAG_POOLED (R283). -/
def execBagPooled (gather : Nat) (s : State) : Host.Outcome State Fault Refusal :=
  command (.bagPooled gather) s (fun s => onChip (fun c => bagPooled c gather) s)

/-- GATHER_DEADLINE (R288). -/
def execGatherDeadline (gather stallCycles : Nat) (s : State) : Host.Outcome State Fault Refusal :=
  command (.gatherDeadline gather stallCycles) s (fun s => onChip (fun c => gatherDeadline c gather stallCycles) s)

/-- REPLICA_REFRESH (R291). -/
def execReplicaRefresh (table version row : Nat) (s : State) : Host.Outcome State Fault Refusal :=
  command (.replicaRefresh table version row) s (fun s => onChip (fun c => replicaRefresh c table version row) s)

/-- REPLICA_EXPIRY (R291). -/
def execReplicaExpiry (table version row : Nat) (s : State) : Host.Outcome State Fault Refusal :=
  command (.replicaExpiry table version row) s (fun s => onChip (fun c => replicaExpiry c table version row) s)

/-- EMB_EPOCH (R290). -/
def execEmbEpoch (s : State) : Host.Outcome State Fault Refusal :=
  command .embEpoch s (fun s => onChip (fun c => embEpochTick c) s)

/-- MIGRATION_FORWARDING_TIMER (R294). -/
def execMigrationForwardingTimer (migId : Nat) (s : State) : Host.Outcome State Fault Refusal :=
  command (.migrationForwardingTimer migId) s (fun s => onChip (fun c => migForwarding c migId) s)

/-- REPLICA_STORE_WRITE (R298). -/
def execReplicaStoreWrite (port part : Nat) (value : W64) (s : State) : Host.Outcome State Fault Refusal :=
  command (.replicaStoreWrite port part value) s (fun s => registerWrite s (Accessor.port port) (Reg.embPartCtrl part) (value) false)

end Sys2Proof.Machine
end

