-- ==== Sys2Proof/Machine/CmdEvents.lean ====
section
/-!
DEFINITION. The commands' meanings: events, counters and registers (R443 to R475).
-/
namespace Sys2Proof.Machine

/-- EVT_READ_SEL (R449). -/
def execEvtReadSel (port : Nat) (value : W64) (s : State) : Host.Outcome State Fault Refusal :=
  command (.evtReadSel port value) s (fun s => registerWrite s (Accessor.port port) (Reg.evtReadSel) (value) false)

/-- EVT_RATE_WRITE (R450). -/
def execEvtRateWrite (port : Nat) (value : W64) (s : State) : Host.Outcome State Fault Refusal :=
  command (.evtRateWrite port value) s (fun s => registerWrite s (Accessor.port port) (Reg.evtRate) (value) false)

/-- EVT_MIRROR_SEL (R452). -/
def execEvtMirrorSel (port : Nat) (value : W64) (s : State) : Host.Outcome State Fault Refusal :=
  command (.evtMirrorSel port value) s (fun s => registerWrite s (Accessor.port port) (Reg.evtMirrorSel) (value) false)

/-- MIRROR_RECORD_WRITE (R451). -/
def execMirrorRecordWrite (s : State) : Host.Outcome State Fault Refusal :=
  command .mirrorRecordWrite s (fun s => mirWrite s)

/-- MIRROR_SECTOR_ERASE (R451). -/
def execMirrorSectorErase (s : State) : Host.Outcome State Fault Refusal :=
  command .mirrorSectorErase s (fun s => mirEraseNext s)

/-- CNT_CLEAR (R455). -/
def execCntClear (port : Nat) (value : W64) (s : State) : Host.Outcome State Fault Refusal :=
  command (.cntClear port value) s (fun s => registerWrite s (Accessor.port port) (Reg.cntClear) (value) false)

/-- RL_LOW_HALF_READ (R454). -/
def execRlLowHalfRead (port offset : Nat) (s : State) : Host.Outcome State Fault Refusal :=
  command (.rlLowHalfRead port offset) s (fun s => rlLowRead s port offset)

/-- REGISTER_WRITE (R460). -/
def execRegisterWrite (acc : Accessor) (offset : Nat) (value : W64) (half : Bool) (s : State) : Host.Outcome State Fault Refusal :=
  command (.registerWrite acc offset value half) s (fun s => (registerWrite s acc offset value half).settled)

end Sys2Proof.Machine
end

