-- ==== Sys2Proof/Machine/CmdHost.lean ====
section
/-!
DEFINITION. The commands' meanings: the messages of the hosts (R220 to R232, R275 to R293, R369 to R387).
-/
namespace Sys2Proof.Machine

/-- HL_MSG_ADMIT (R225). -/
def execHlMsgAdmit (h : HlHdr) (b : AdmitBody) (s : State) : Host.Outcome State Fault Refusal :=
  command (.hlMsgAdmit h b) s (fun s => onHostFreeing h ⟨0x10, 1, 0, false⟩ (fun c => admitHost c h.port b) s)

/-- HL_MSG_RESUME (R227). -/
def execHlMsgResume (h : HlHdr) (b : ResumeBody) (s : State) : Host.Outcome State Fault Refusal :=
  command (.hlMsgResume h b) s (fun s => onHostFreeing h ⟨0x11, 1, 0, false⟩ (fun c => resume c h.port b) s)

/-- HL_MSG_CANCEL (R231). -/
def execHlMsgCancel (h : HlHdr) (b : ReqBody) (s : State) : Host.Outcome State Fault Refusal :=
  command (.hlMsgCancel h b) s (fun s => onHostFreeing h ⟨0x12, 0, 0, false⟩ (fun c => cancel c h.port b) s)

/-- HL_MSG_PAUSE (R231). -/
def execHlMsgPause (h : HlHdr) (b : ReqBody) (s : State) : Host.Outcome State Fault Refusal :=
  command (.hlMsgPause h b) s (fun s => onHostFreeing h ⟨0x13, 0, 0, false⟩ (fun c => pause c h.port b) s)

/-- HL_MSG_QUERY (R231). -/
def execHlMsgQuery (h : HlHdr) (b : ReqBody) (s : State) : Host.Outcome State Fault Refusal :=
  command (.hlMsgQuery h b) s (fun s => onHostChip h ⟨0x14, 0, 0, false⟩ (fun c => query c h.port b) s)

/-- HL_MSG_ADAPTER_INSTALL (R221). -/
def execHlMsgAdapterInstall (h : HlHdr) (b : AdapterBody) (s : State) : Host.Outcome State Fault Refusal :=
  command (.hlMsgAdapterInstall h b) s (fun s => onHostChip h ⟨0x18, 1, b.rsvd, false⟩ (fun c => adapterInstall c h.port b) s)

/-- HL_MSG_EMB_TABLE (R276). -/
def execHlMsgEmbTable (h : HlHdr) (b : EmbTableBody) (s : State) : Host.Outcome State Fault Refusal :=
  command (.hlMsgEmbTable h b) s (fun s => onHostChip h ⟨0x20, 1, b.rsvd ||| mapRsvd b.map, false⟩ (fun c => embTable c h.port b) s)

/-- HL_MSG_EMB_GATHER (R282). -/
def execHlMsgEmbGather (h : HlHdr) (b : GatherBody) (s : State) : Host.Outcome State Fault Refusal :=
  command (.hlMsgEmbGather h b) s (fun s => onHostChip h ⟨0x21, 1, b.rsvd ||| bagsRsvd b.bags, false⟩ (fun c => embGather c h.port b) s)

/-- HL_MSG_EMB_UPDATE (R285). -/
def execHlMsgEmbUpdate (h : HlHdr) (b : UpdateBody) (s : State) : Host.Outcome State Fault Refusal :=
  command (.hlMsgEmbUpdate h b) s (fun s => onHostChip h ⟨0x22, 1, b.rsvd, false⟩ (fun c => embUpdate c h.port b) s)

/-- HL_MSG_EMB_MIGRATE (R293). -/
def execHlMsgEmbMigrate (h : HlHdr) (b : MigrateBody) (s : State) : Host.Outcome State Fault Refusal :=
  command (.hlMsgEmbMigrate h b) s (fun s => onHostChip h ⟨0x23, 1, b.rsvd, false⟩ (fun c => embMigrate c h.port b) s)

/-- HL_MSG_REG_READ (R379). -/
def execHlMsgRegRead (h : HlHdr) (b : RegReadBody) (s : State) : Host.Outcome State Fault Refusal :=
  command (.hlMsgRegRead h b) s (fun s => s.onHost h ⟨0x30, 0, b.rsvd, true⟩ (fun s => regReadMsg s h.port b))

/-- HL_MSG_REG_WRITE (R379). -/
def execHlMsgRegWrite (h : HlHdr) (b : RegWriteBody) (s : State) : Host.Outcome State Fault Refusal :=
  command (.hlMsgRegWrite h b) s (fun s => (s.onHost h ⟨0x31, 0, b.rsvd, false⟩ (fun s => regWriteMsg s h.port b)).settled)

/-- HL_MSG_LINK_SYNC (R374). -/
def execHlMsgLinkSync (h : HlHdr) (b : SyncBody) (s : State) : Host.Outcome State Fault Refusal :=
  command (.hlMsgLinkSync h b) s (fun s => onHostFreeing h ⟨0x01, 0, b.rsvd, true⟩ (fun c => linkSync c h.port b) s)

/-- HL_MSG_BULK_DATA (R387). -/
def execHlMsgBulkData (h : HlHdr) (b : BulkDataBody) (s : State) : Host.Outcome State Fault Refusal :=
  command (.hlMsgBulkData h b) s (fun s => onHostFreeing h ⟨0x51, 3, b.rsvd, false⟩ (fun c => bulkData c h b) s)

/-- HL_MSG_BULK_WRITE_ACK (R387). -/
def execHlMsgBulkWriteAck (h : HlHdr) (b : BulkAckBody) (s : State) : Host.Outcome State Fault Refusal :=
  command (.hlMsgBulkWriteAck h b) s (fun s => onHostFreeing h ⟨0x53, 3, b.rsvd, false⟩ (fun c => bulkWriteAck c h b) s)

/-- HC2_EMIT (R382). -/
def execHc2Emit (port : Nat) (s : State) : Host.Outcome State Fault Refusal :=
  command (.hc2Emit port) s (fun s => onChip (fun c => hc2Emit c port) s)

end Sys2Proof.Machine
end

