-- ==== Sys2Proof/Machine/CmdLink.lean ====
section
/-!
DEFINITION. The commands' meanings: the link layer and the controls of the ports (R302 to R316, R366 to R368, R389).
-/
namespace Sys2Proof.Machine

/-- FLIT_RECEIVED (R313). -/
def execFlitReceived (lp : LinkPort) (f : Flit) (s : State) : Host.Outcome State Fault Refusal :=
  command (.flitReceived lp f) s (fun s => freeing (fun c => flitReceived c lp f) s)

/-- FAB_REPLAY_TIMEOUT (R313). -/
def execFabReplayTimeout (lp : LinkPort) (s : State) : Host.Outcome State Fault Refusal :=
  command (.fabReplayTimeout lp) s (fun s => onChip (fun c => replayTimeout c lp) s)

/-- SEAM_BUFFER_ECC_ERROR (R315). -/
def execSeamBufferEccError (p : FabPkt) (headerIntact : Bool) (s : State) : Host.Outcome State Fault Refusal :=
  command (.seamBufferEccError p headerIntact) s (fun s => onChip (fun c => seamEccError c p headerIntact) s)

/-- SIGNAL_DETECTED (R307). -/
def execSignalDetected (lp : LinkPort) (s : State) : Host.Outcome State Fault Refusal :=
  command (.signalDetected lp) s (fun s => onChip (fun c => signalDetected c lp) s)

/-- LOSS_OF_SIGNAL (R307). -/
def execLossOfSignal (lp : LinkPort) (s : State) : Host.Outcome State Fault Refusal :=
  command (.lossOfSignal lp) s (fun s => onChip (fun c => lossOfSignal c lp) s)

/-- TRAINING_ATTEMPT_PASSES (R304). -/
def execTrainingAttemptPasses (lp : LinkPort) (info : TrainInfo) (s : State) : Host.Outcome State Fault Refusal :=
  command (.trainingAttemptPasses lp info) s (fun s => freeing (fun c => trainingPasses c lp info) s)

/-- TRAINING_ATTEMPT_FAILS (R307). -/
def execTrainingAttemptFails (lp : LinkPort) (why : TrainFail) (s : State) : Host.Outcome State Fault Refusal :=
  command (.trainingAttemptFails lp why) s (fun s => onChip (fun c => trainingFails c lp why) s)

/-- RETRAIN_TRIGGER (R306). -/
def execRetrainTrigger (lp : LinkPort) (cause : RetrainCause) (s : State) : Host.Outcome State Fault Refusal :=
  command (.retrainTrigger lp cause) s (fun s => onChip (fun c => retrainTrigger c lp cause) s)

/-- RETRAIN_PASSES (R304). -/
def execRetrainPasses (lp : LinkPort) (info : TrainInfo) (s : State) : Host.Outcome State Fault Refusal :=
  command (.retrainPasses lp info) s (fun s => freeing (fun c => retrainPasses c lp info) s)

/-- RETRAIN_FAILS (R307). -/
def execRetrainFails (lp : LinkPort) (s : State) : Host.Outcome State Fault Refusal :=
  command (.retrainFails lp) s (fun s => onChip (fun c => retrainFails c lp) s)

/-- FAB_TRAIN_LIMIT (R308). -/
def execFabTrainLimit (lp : LinkPort) (s : State) : Host.Outcome State Fault Refusal :=
  command (.fabTrainLimit lp) s (fun s => onChip (fun c => trainLimit c lp) s)

/-- FAB_RETRAIN_LIMIT (R308). -/
def execFabRetrainLimit (lp : LinkPort) (s : State) : Host.Outcome State Fault Refusal :=
  command (.fabRetrainLimit lp) s (fun s => onChip (fun c => retrainFails c lp) s)

/-- FAB_RETRY_INTERVAL (R308). -/
def execFabRetryInterval (lp : LinkPort) (s : State) : Host.Outcome State Fault Refusal :=
  command (.fabRetryInterval lp) s (fun s => onChip (fun c => retryInterval c lp) s)

/-- FAB_PORT_FENCE (R307). -/
def execFabPortFence (acc : Accessor) (port : Nat) (s : State) : Host.Outcome State Fault Refusal :=
  command (.fabPortFence acc port) s (fun s => writingField acc (Reg.fabPortCtrl port) 63 63 1 s)

/-- FAB_PORT_UNFENCE (R307). -/
def execFabPortUnfence (acc : Accessor) (port : Nat) (s : State) : Host.Outcome State Fault Refusal :=
  command (.fabPortUnfence acc port) s (fun s => writingField acc (Reg.fabPortCtrl port) 63 63 0 s)

/-- FAB_PORT_DRAIN (R309). -/
def execFabPortDrain (acc : Accessor) (port : Nat) (drain : Bool) (s : State) : Host.Outcome State Fault Refusal :=
  command (.fabPortDrain acc port drain) s (fun s => writingField acc (Reg.fabPortCtrl port) 62 62 (bitN drain) s)

/-- FAB_PORT_RETRAIN (R309). -/
def execFabPortRetrain (acc : Accessor) (port : Nat) (s : State) : Host.Outcome State Fault Refusal :=
  command (.fabPortRetrain acc port) s (fun s => writingField acc (Reg.fabPortCtrl port) 61 61 1 s)

/-- FAB_LANE_FENCE (R309). -/
def execFabLaneFence (acc : Accessor) (port lanes : Nat) (s : State) : Host.Outcome State Fault Refusal :=
  command (.fabLaneFence acc port lanes) s (fun s => writingField acc (Reg.fabPortCtrl port) 7 0 lanes s)

/-- HL_SYNC_WAIT (R368). -/
def execHlSyncWait (port : Nat) (s : State) : Host.Outcome State Fault Refusal :=
  command (.hlSyncWait port) s (fun s => onChip (fun c => hlSyncWait c port) s)

/-- HL_CREDIT_STALL (R385). -/
def execHlCreditStall (port : Nat) (s : State) : Host.Outcome State Fault Refusal :=
  command (.hlCreditStall port) s (fun s => onChip (fun c => hlCreditStall c port) s)

/-- HL_DOWN_HOLD (R385). -/
def execHlDownHold (port : Nat) (s : State) : Host.Outcome State Fault Refusal :=
  command (.hlDownHold port) s (fun s => freeing (fun c => hlDownHold c port) s)

/-- HL_BULK_TIMEOUT (R387). -/
def execHlBulkTimeout (tag : Nat) (s : State) : Host.Outcome State Fault Refusal :=
  command (.hlBulkTimeout tag) s (fun s => freeing (fun c => hlBulkTimeout c tag) s)

/-- HL_PORT_FENCE (R389). -/
def execHlPortFence (acc : Accessor) (port : Nat) (s : State) : Host.Outcome State Fault Refusal :=
  command (.hlPortFence acc port) s (fun s => writingField acc (Reg.hlPortCtrl port) 63 63 1 s)

/-- HL_PORT_UNFENCE (R389). -/
def execHlPortUnfence (acc : Accessor) (port : Nat) (s : State) : Host.Outcome State Fault Refusal :=
  command (.hlPortUnfence acc port) s (fun s => writingField acc (Reg.hlPortCtrl port) 63 63 0 s)

/-- HL_PORT_RETRAIN (R389). -/
def execHlPortRetrain (acc : Accessor) (port : Nat) (s : State) : Host.Outcome State Fault Refusal :=
  command (.hlPortRetrain acc port) s (fun s => writingField acc (Reg.hlPortCtrl port) 61 61 1 s)

/-- HL_LANE_FENCE (R389). -/
def execHlLaneFence (acc : Accessor) (port lanes : Nat) (s : State) : Host.Outcome State Fault Refusal :=
  command (.hlLaneFence acc port lanes) s (fun s => writingField acc (Reg.hlPortCtrl port) 7 0 lanes s)

/-- HOST_WINDOW_WRITE (R386). -/
def execHostWindowWrite (acc : Accessor) (port window word : Nat) (value : W64) (s : State) : Host.Outcome State Fault Refusal :=
  command (.hostWindowWrite acc port window word value) s (fun s => writing acc (Reg.hlHostWin port window word) (value) s)

end Sys2Proof.Machine
end

