-- ==== Sys2Proof/Machine/CmdPhase.lean ====
section
/-!
DEFINITION. The commands' meanings: phases and moves (R20, R21, R246 to R268).
-/
namespace Sys2Proof.Machine

/-- FAB_PKT_PHASE_PLACE (R248). -/
def execFabPktPhasePlace (h : FabHdr) (b : PlaceBody) (s : State) : Host.Outcome State Fault Refusal :=
  command (.fabPktPhasePlace h b) s (fun s => onFabFreeing h (.phasePlace b) (b.rsvd ||| b.common.rsvd) (fun c => phasePlace c h b) s)

/-- FAB_PKT_PHASE_REPORT (R21). -/
def execFabPktPhaseReport (h : FabHdr) (b : ReportBody) (s : State) : Host.Outcome State Fault Refusal :=
  command (.fabPktPhaseReport h b) s (fun s => onFabFreeing h (.phaseReport b) (reportRsvd b) (fun c => phaseReport c h b) s)

/-- FAB_PKT_PHASE_CTRL (R264). -/
def execFabPktPhaseCtrl (h : FabHdr) (b : PhaseCtrlBody) (s : State) : Host.Outcome State Fault Refusal :=
  command (.fabPktPhaseCtrl h b) s (fun s => onFabFreeing h (.phaseCtrl b) (ctrlRsvd b) (fun c => phaseCtrl c b) s)

/-- FAB_PKT_MOVE_OFFER (R250). -/
def execFabPktMoveOffer (h : FabHdr) (b : OfferBody) (s : State) : Host.Outcome State Fault Refusal :=
  command (.fabPktMoveOffer h b) s (fun s => onFabFreeing h (.moveOffer b) (offerRsvd b) (fun c => moveOffer c h b) s)

/-- FAB_PKT_MOVE_REPLY (R249). -/
def execFabPktMoveReply (h : FabHdr) (b : MoveReplyBody) (s : State) : Host.Outcome State Fault Refusal :=
  command (.fabPktMoveReply h b) s (fun s => onFabFreeing h (.moveReply b) (regionRsvd b.rxRegion (b.rsvd ||| b.common.rsvd) true) (fun c => moveReply c h b) s)

/-- MOVE_DATA_SENT (R249). -/
def execMoveDataSent (requestId : Nat) (s : State) : Host.Outcome State Fault Refusal :=
  command (.moveDataSent requestId) s (fun s => freeing (fun c => moveDataSent c requestId) s)

/-- FAB_PKT_MOVE_ACK (R249). -/
def execFabPktMoveAck (h : FabHdr) (b : MoveAckBody) (s : State) : Host.Outcome State Fault Refusal :=
  command (.fabPktMoveAck h b) s (fun s => onFabFreeing h (.moveAck b) (b.rsvd ||| b.common.rsvd) (fun c => moveAck c h b) s)

/-- FAB_PKT_MOVE_COMMIT (R250). -/
def execFabPktMoveCommit (h : FabHdr) (b : MoveBareBody) (s : State) : Host.Outcome State Fault Refusal :=
  command (.fabPktMoveCommit h b) s (fun s => onFabFreeing h (.moveCommit b) (b.rsvd ||| b.common.rsvd) (fun c => moveCommit c h b) s)

/-- FAB_PKT_MOVE_ABORT (R250). -/
def execFabPktMoveAbort (h : FabHdr) (b : MoveAbortBody) (s : State) : Host.Outcome State Fault Refusal :=
  command (.fabPktMoveAbort h b) s (fun s => onFabFreeing h (.moveAbort b) (b.rsvd ||| b.common.rsvd) (fun c => moveAbort c h b) s)

/-- FAB_PKT_MOVE_QUERY (R249). -/
def execFabPktMoveQuery (h : FabHdr) (b : MoveBareBody) (s : State) : Host.Outcome State Fault Refusal :=
  command (.fabPktMoveQuery h b) s (fun s => onFabFreeing h (.moveQuery b) (b.rsvd ||| b.common.rsvd) (fun c => (c.migQuery h b.common.moveId).getD (moveQuery c h b)) s)

/-- FAB_PKT_MOVE_ANSWER (R250). -/
def execFabPktMoveAnswer (h : FabHdr) (b : MoveAnswerBody) (s : State) : Host.Outcome State Fault Refusal :=
  command (.fabPktMoveAnswer h b) s (fun s => onFabFreeing h (.moveAnswer b) (answerRsvd b) (fun c => migAnswer (moveAnswer c h b) h b.common.moveId b.answer) s)

/-- FAB_PKT_MOVE_PULL (R268). -/
def execFabPktMovePull (h : FabHdr) (b : MovePullBody) (s : State) : Host.Outcome State Fault Refusal :=
  command (.fabPktMovePull h b) s (fun s => onFabFreeing h (.movePull b) (b.rsvd ||| b.common.rsvd) (fun c => movePull c h b) s)

/-- LOCAL_MOVE_COMPLETES (R251). -/
def execLocalMoveCompletes (requestId : Nat) (s : State) : Host.Outcome State Fault Refusal :=
  command (.localMoveCompletes requestId) s (fun s => freeing (fun c => localMoveCompletes c requestId) s)

/-- MOVE_OFFER_WAIT (R252). -/
def execMoveOfferWait (requestId : Nat) (s : State) : Host.Outcome State Fault Refusal :=
  command (.moveOfferWait requestId) s (fun s => freeing (fun c => moveOfferWait c requestId) s)

/-- MOVE_ACK_WAIT (R252). -/
def execMoveAckWait (moveId : Nat) (s : State) : Host.Outcome State Fault Refusal :=
  command (.moveAckWait moveId) s (fun s => freeing (fun c => migWait (moveAckWait c moveId) moveId) s)

/-- MOVE_COMMIT_WAIT (R250). -/
def execMoveCommitWait (source moveId : Nat) (s : State) : Host.Outcome State Fault Refusal :=
  command (.moveCommitWait source moveId) s (fun s => freeing (fun c => migCommitWait (moveCommitWait c source moveId) source moveId) s)

/-- MOVE_RECORD_EXPIRES (R249). -/
def execMoveRecordExpires (moveId : Nat) (s : State) : Host.Outcome State Fault Refusal :=
  command (.moveRecordExpires moveId) s (fun s => onChip (fun c => moveRecordExpires c moveId) s)

/-- PHASE_REPORT_INTERVAL (R263). -/
def execPhaseReportInterval (requestId : Nat) (s : State) : Host.Outcome State Fault Refusal :=
  command (.phaseReportInterval requestId) s (fun s => onChip (fun c => phaseReportInterval c requestId) s)

/-- DECODE_SILENCE_LIMIT (R263). -/
def execDecodeSilenceLimit (requestId : Nat) (s : State) : Host.Outcome State Fault Refusal :=
  command (.decodeSilenceLimit requestId) s (fun s => freeing (fun c => silenceLimit c requestId) s)

/-- RESTORE_MS (R268). -/
def execRestoreMs (requestId : Nat) (s : State) : Host.Outcome State Fault Refusal :=
  command (.restoreMs requestId) s (fun s => freeing (fun c => restoreMs c requestId) s)

/-- TTL_FULL (R267). -/
def execTtlFull (requestId : Nat) (s : State) : Host.Outcome State Fault Refusal :=
  command (.ttlFull requestId) s (fun s => freeing (fun c => ttlFull c requestId) s)

end Sys2Proof.Machine
end

