-- ==== Sys2Proof/Machine/CmdPower.lean ====
section
/-!
DEFINITION. The commands' meanings: power, reset, thermal control and board memory (R419 to R442, R484 to R499).
-/
namespace Sys2Proof.Machine

/-- POWER_DOWN (R427). -/
def execPowerDown (port domain : Nat) (cascade : Bool) (s : State) : Host.Outcome State Fault Refusal :=
  command (.powerDown port domain cascade) s (fun s => writing (Accessor.port port) (Reg.pwrDomainCmd) (domainWord 1 domain cascade) s)

/-- POWER_UP (R427). -/
def execPowerUp (port domain : Nat) (cascade : Bool) (s : State) : Host.Outcome State Fault Refusal :=
  command (.powerUp port domain cascade) s (fun s => writing (Accessor.port port) (Reg.pwrDomainCmd) (domainWord 2 domain cascade) s)

/-- RESET (R427). -/
def execReset (port domain : Nat) (cascade : Bool) (s : State) : Host.Outcome State Fault Refusal :=
  command (.reset port domain cascade) s (fun s => writing (Accessor.port port) (Reg.pwrDomainCmd) (domainWord 3 domain cascade) s)

/-- UPDATE (R427). -/
def execUpdate (port domain : Nat) (cascade : Bool) (s : State) : Host.Outcome State Fault Refusal :=
  command (.update port domain cascade) s (fun s => writing (Accessor.port port) (Reg.pwrDomainCmd) (domainWord 4 domain cascade) s)

/-- PWR_MODULE_RESET (R436). -/
def execPwrModuleReset (port : Nat) (value : W64) (s : State) : Host.Outcome State Fault Refusal :=
  command (.pwrModuleReset port value) s (fun s => writing (Accessor.port port) (Reg.pwrModuleReset) (value) s)

/-- V_IN_SAMPLE (R420). -/
def execVInSample (mv microsSince : Nat) (s : State) : Host.Outcome State Fault Refusal :=
  command (.vInSample mv microsSince) s (fun s => freeing (fun c => vInSample c mv microsSince) s)

/-- INPUT_RECOVERED (R421). -/
def execInputRecovered (s : State) : Host.Outcome State Fault Refusal :=
  command .inputRecovered s (fun s => inputRecovered s)

/-- REFERENCE_LOSS (R423). -/
def execReferenceLoss (absentNs : Nat) (lockLost : Bool) (s : State) : Host.Outcome State Fault Refusal :=
  command (.referenceLoss absentNs lockLost) s (fun s => freeing (fun c => referenceLoss c absentNs lockLost) s)

/-- DOMAIN_RAMP_COMPLETES (R427). -/
def execDomainRampCompletes (domain : Nat) (ok : Bool) (failedStations : List StationRef) (channels : List ChannelInfo) (s : State) : Host.Outcome State Fault Refusal :=
  command (.domainRampCompletes domain ok failedStations channels) s (fun s => freeing (fun c => domainRamp c domain ok failedStations channels) s)

/-- RAIL_FAULT (R427). -/
def execRailFault (domain : Nat) (s : State) : Host.Outcome State Fault Refusal :=
  command (.railFault domain) s (fun s => freeing (fun c => railFault c domain) s)

/-- DOWN_SEQUENCE_ENDS (R430). -/
def execDownSequenceEnds (domain : Nat) (s : State) : Host.Outcome State Fault Refusal :=
  command (.downSequenceEnds domain) s (fun s => (downSequenceEnds s domain).settled)

/-- HUB_WATCHDOG (R434). -/
def execHubWatchdog (s : State) : Host.Outcome State Fault Refusal :=
  command .hubWatchdog s (fun s => freeing (fun c => Sys2Proof.Machine.hubWatchdog c) s)

/-- POWER_SAMPLE (R437). -/
def execPowerSample (mv ma : Nat) (s : State) : Host.Outcome State Fault Refusal :=
  command (.powerSample mv ma) s (fun s => freeing (fun c => powerSample c mv ma) s)

/-- THERMAL_SAMPLE (R440). -/
def execThermalSample (temps : List Int) (s : State) : Host.Outcome State Fault Refusal :=
  command (.thermalSample temps) s (fun s => freeing (fun c => thermalSample c s.nv temps) s)

/-- THERMAL_LEVEL_RISE (R440). -/
def execThermalLevelRise (sensor : Nat) (s : State) : Host.Outcome State Fault Refusal :=
  command (.thermalLevelRise sensor) s (fun s => onChip (fun c => thermalRise c sensor) s)

/-- THERMAL_LEVEL_FALL (R440). -/
def execThermalLevelFall (sensor : Nat) (s : State) : Host.Outcome State Fault Refusal :=
  command (.thermalLevelFall sensor) s (fun s => onChip (fun c => thermalFall c sensor) s)

/-- PATROL_SCRUB (R495). -/
def execPatrolScrub (addr : Nat) (corrected : Bool) (uncorrectable : Bool) (s : State) : Host.Outcome State Fault Refusal :=
  command (.patrolScrub addr corrected uncorrectable) s (fun s => onChip (fun c => patrolScrub c addr corrected uncorrectable) s)

/-- DIMM_THERMAL_READ (R497). -/
def execDimmThermalRead (temps : List (List Int)) (s : State) : Host.Outcome State Fault Refusal :=
  command (.dimmThermalRead temps) s (fun s => onChip (fun c => dimmThermal c temps) s)

/-- CHANNEL_TRAINING_TIMEOUT (R496). -/
def execChannelTrainingTimeout (channel : Nat) (s : State) : Host.Outcome State Fault Refusal :=
  command (.channelTrainingTimeout channel) s (fun s => onChip (fun c => channelTimeout c channel) s)

end Sys2Proof.Machine
end

