-- ==== Sys2Proof/Machine/CmdRma.lean ====
section
/-!
DEFINITION. The commands' meanings: remote memory (R340 to R365).
-/
namespace Sys2Proof.Machine

/-- FAB_PKT_LOAD (R343). -/
def execFabPktLoad (h : FabHdr) (b : LoadBody) (tierError : Bool) (s : State) : Host.Outcome State Fault Refusal :=
  command (.fabPktLoad h b tierError) s (fun s => onFab h (.load b) (regionRsvd b.region b.rsvd true) (fun c => rmaLoad c h b tierError) s)

/-- FAB_PKT_LOAD_REPLY (R347). -/
def execFabPktLoadReply (h : FabHdr) (b : LoadReplyBody) (s : State) : Host.Outcome State Fault Refusal :=
  command (.fabPktLoadReply h b) s (fun s => onFab h (.loadReply b) (b.rsvd) (fun c => Chip.finishOps (rmaLoadReply c h b)) s)

/-- FAB_PKT_STORE (R348). -/
def execFabPktStore (h : FabHdr) (b : StoreBody) (tierError : Bool) (s : State) : Host.Outcome State Fault Refusal :=
  command (.fabPktStore h b tierError) s (fun s => onFab h (.store b) (storeRsvd b) (fun c => rmaStore c h b tierError) s)

/-- FAB_PKT_STORE_ACK (R347). -/
def execFabPktStoreAck (h : FabHdr) (b : AckBody) (s : State) : Host.Outcome State Fault Refusal :=
  command (.fabPktStoreAck h b) s (fun s => onFab h (.storeAck b) (b.rsvd) (fun c => Chip.finishOps (c.plainReply h.msgId .store (statusOf b.status) [])) s)

/-- FAB_PKT_READ (R343). -/
def execFabPktRead (h : FabHdr) (b : ReadBody) (tierError : Bool) (s : State) : Host.Outcome State Fault Refusal :=
  command (.fabPktRead h b tierError) s (fun s => onFab h (.read b) (regionRsvd b.region b.rsvd true) (fun c => rmaRead c h b tierError) s)

/-- FAB_PKT_READ_DATA (R358). -/
def execFabPktReadData (h : FabHdr) (b : ReadDataBody) (s : State) : Host.Outcome State Fault Refusal :=
  command (.fabPktReadData h b) s (fun s => onFabFreeing h (.readData b) (b.rsvd) (fun c => Chip.finishOps (rmaReadData c h b)) s)

/-- FAB_PKT_WRITE (R358). -/
def execFabPktWrite (h : FabHdr) (b : WriteBody) (tierError : Bool) (s : State) : Host.Outcome State Fault Refusal :=
  command (.fabPktWrite h b tierError) s (fun s => onFabFreeing h (.write b) (writeRsvd b) (fun c => rmaWrite c h b tierError) s)

/-- FAB_PKT_WRITE_ACK (R347). -/
def execFabPktWriteAck (h : FabHdr) (b : AckBody) (s : State) : Host.Outcome State Fault Refusal :=
  command (.fabPktWriteAck h b) s (fun s => onFabFreeing h (.writeAck b) (b.rsvd) (fun c => Chip.finishOps (c.plainReply h.msgId .write (statusOf b.status) [])) s)

/-- FAB_PKT_ATOMIC (R354). -/
def execFabPktAtomic (h : FabHdr) (b : AtomicBody) (tierError : Bool) (s : State) : Host.Outcome State Fault Refusal :=
  command (.fabPktAtomic h b tierError) s (fun s => onFab h (.atomic b) (atomicRsvd b) (fun c => rmaAtomic c h b tierError) s)

/-- FAB_PKT_ATOMIC_REPLY (R353). -/
def execFabPktAtomicReply (h : FabHdr) (b : AtomicReplyBody) (s : State) : Host.Outcome State Fault Refusal :=
  command (.fabPktAtomicReply h b) s (fun s => onFab h (.atomicReply b) (b.rsvd) (fun c => Chip.finishOps (rmaAtomicReply c b)) s)

/-- FAB_PKT_ATOMIC_COMBINED (R332). -/
def execFabPktAtomicCombined (h : FabHdr) (b : CombinedBody) (tierError : Bool) (s : State) : Host.Outcome State Fault Refusal :=
  command (.fabPktAtomicCombined h b tierError) s (fun s => onFab h (.atomicCombined b) (combinedRsvd b) (fun c => rmaCombined c h b tierError) s)

/-- FAB_PKT_ATOMIC_COMBINED_REPLY (R332). -/
def execFabPktAtomicCombinedReply (h : FabHdr) (b : CombinedReplyBody) (s : State) : Host.Outcome State Fault Refusal :=
  command (.fabPktAtomicCombinedReply h b) s (fun s => onFab h (.atomicCombinedReply b) (b.rsvd) (fun c => rmaCombinedReply c h b) s)

/-- FAB_PKT_CANCEL (R352). -/
def execFabPktCancel (h : FabHdr) (b : CancelBody) (s : State) : Host.Outcome State Fault Refusal :=
  command (.fabPktCancel h b) s (fun s => onFab h (.cancel b) (b.rsvd) (fun c => rmaCancel c h b) s)

/-- FAB_PKT_CANCEL_ACK (R352). -/
def execFabPktCancelAck (h : FabHdr) (b : CancelAckBody) (s : State) : Host.Outcome State Fault Refusal :=
  command (.fabPktCancelAck h b) s (fun s => onFab h (.cancelAck b) (b.rsvd) (fun c => c.cancelReply b.cancelId (statusOf b.status)) s)

/-- FAB_PKT_RMA_REVOKE_DONE (R356). -/
def execFabPktRmaRevokeDone (h : FabHdr) (b : RevokeDoneBody) (s : State) : Host.Outcome State Fault Refusal :=
  command (.fabPktRmaRevokeDone h b) s (fun s => onFab h (.revokeDone b) (b.rsvd) (fun c => rmaRevokeDone c) s)

/-- GRANT_ACTIVATE (R344). -/
def execGrantActivate (acc : Accessor) (g : Nat) (value : W64) (s : State) : Host.Outcome State Fault Refusal :=
  command (.grantActivate acc g value) s (fun s => writing acc (Reg.rmaGrant g 0) (putField value 63 62 1) s)

/-- GRANT_REVOKE (R356). -/
def execGrantRevoke (acc : Accessor) (g : Nat) (s : State) : Host.Outcome State Fault Refusal :=
  command (.grantRevoke acc g) s (fun s => writing acc (Reg.rmaGrant g 0) (grantWord s g 2) s)

/-- GRANT_INVALIDATE (R344). -/
def execGrantInvalidate (acc : Accessor) (g : Nat) (s : State) : Host.Outcome State Fault Refusal :=
  command (.grantInvalidate acc g) s (fun s => writing acc (Reg.rmaGrant g 0) (grantWord s g 0) s)

/-- RMA_ATOMIC_TIMEOUT (R353). -/
def execRmaAtomicTimeout (msgId : Nat) (s : State) : Host.Outcome State Fault Refusal :=
  command (.rmaAtomicTimeout msgId) s (fun s => freeing (fun c => opTimer c [.load, .atomic, .scatter, .cancel] msgId) s)

/-- RMA_STORE_TIMEOUT (R352). -/
def execRmaStoreTimeout (msgId : Nat) (s : State) : Host.Outcome State Fault Refusal :=
  command (.rmaStoreTimeout msgId) s (fun s => freeing (fun c => opTimer c [.store] msgId) s)

/-- RMA_WRITE_TIMEOUT (R351). -/
def execRmaWriteTimeout (msgId : Nat) (s : State) : Host.Outcome State Fault Refusal :=
  command (.rmaWriteTimeout msgId) s (fun s => freeing (fun c => opTimer c [.write, .read, .embRead] msgId) s)

/-- RMA_BUSY_BACKOFF (R351). -/
def execRmaBusyBackoff (msgId : Nat) (s : State) : Host.Outcome State Fault Refusal :=
  command (.rmaBusyBackoff msgId) s (fun s => freeing (fun c => busyBackoff c msgId) s)

/-- RMA_REPLAY_HOLD (R354). -/
def execRmaReplayHold (requester seq : Nat) (s : State) : Host.Outcome State Fault Refusal :=
  command (.rmaReplayHold requester seq) s (fun s => onChip (fun c => replayHold c requester seq) s)

/-- REPLAY_FLOOR_DISCARD (R354). -/
def execReplayFloorDiscard (requester : Nat) (s : State) : Host.Outcome State Fault Refusal :=
  command (.replayFloorDiscard requester) s (fun s => onChip (fun c => floorDiscard c requester) s)

/-- RMA_REASSEMBLY_LIMIT (R358). -/
def execRmaReassemblyLimit (source msgId : Nat) (s : State) : Host.Outcome State Fault Refusal :=
  command (.rmaReassemblyLimit source msgId) s (fun s => onChip (fun c => reassemblyLimit c source msgId) s)

/-- RMA_CANCEL_HOLD (R352). -/
def execRmaCancelHold (source msgId : Nat) (s : State) : Host.Outcome State Fault Refusal :=
  command (.rmaCancelHold source msgId) s (fun s => onChip (fun c => cancelHold c source msgId) s)

/-- WL_ARM (R359). -/
def execWlArm (port list : Nat) (value : W64) (s : State) : Host.Outcome State Fault Refusal :=
  command (.wlArm port list value) s (fun s => writing (Accessor.port port) (Reg.rmaWlHdr list 0) (putField value 63 62 1) s)

/-- WL_STOP (R359). -/
def execWlStop (port list : Nat) (value : W64) (s : State) : Host.Outcome State Fault Refusal :=
  command (.wlStop port list value) s (fun s => writing (Accessor.port port) (Reg.rmaWlHdr list 0) (putField value 63 62 0) s)

/-- RMA_WL_ADVANCE (R361). -/
def execRmaWlAdvance (port : Nat) (value : W64) (s : State) : Host.Outcome State Fault Refusal :=
  command (.rmaWlAdvance port value) s (fun s => writing (Accessor.port port) (Reg.rmaWlAdvance) (value) s)

/-- KEY_INSTALL (R362). -/
def execKeyInstall (port : Nat) (value : W64) (s : State) : Host.Outcome State Fault Refusal :=
  command (.keyInstall port value) s (fun s => registerWrite s (Accessor.port port) (Reg.rmaKeySel) (putField value 63 63 1) false)

/-- KEY_ERASE (R362). -/
def execKeyErase (port : Nat) (value : W64) (s : State) : Host.Outcome State Fault Refusal :=
  command (.keyErase port value) s (fun s => registerWrite s (Accessor.port port) (Reg.rmaKeySel) (putField value 63 62 1) false)

end Sys2Proof.Machine
end

