-- ==== Sys2Proof/Machine/CmdSeam.lean ====
section
/-!
DEFINITION. The commands' meanings: the seam: routing, egress, combining and congestion (R317 to R339).
-/
namespace Sys2Proof.Machine

/-- R322: a packet that a fabric port delivers to the seam. -/
def seamArrives (c : Chip) (ingress : Nat) (p : FabPkt) : Chip :=
  if c.fabricUp && c.fabState ingress == 3 then c.forward .transit p else c

/-- ROUTE_ENTRY_WRITE (R323, R324): an entry of the live or the shadow table. -/
def routeEntryRow (c : Chip) (a : Accessor) (shadow : Bool) (dst : Nat) (v : W64) (half : Bool) : Chip :=
  if c.writeOpen then (routeWrite c a (if shadow then Reg.routeShadow dst else Reg.routeLive dst) v half).2 else c

/-- SEAM_FORWARD (R322). -/
def execSeamForward (ingress : Nat) (p : FabPkt) (s : State) : Host.Outcome State Fault Refusal :=
  command (.seamForward ingress p) s (fun s => onChip (fun c => seamArrives c ingress p) s)

/-- ROUTE_ENTRY_WRITE (R324). -/
def execRouteEntryWrite (acc : Accessor) (shadow : Bool) (dst : Nat) (value : W64) (half : Bool) (s : State) : Host.Outcome State Fault Refusal :=
  command (.routeEntryWrite acc shadow dst value half) s (fun s => onChip (fun c => routeEntryRow c acc shadow dst value half) s)

/-- SW_EPOCH_COMMIT (R326). -/
def execSwEpochCommit (acc : Accessor) (newEpoch : Nat) (s : State) : Host.Outcome State Fault Refusal :=
  command (.swEpochCommit acc newEpoch) s (fun s => writing acc (Reg.swEpochCommit) (wordOf [(63, 63, 1), (15, 0, newEpoch)]) s)

/-- SW_DRAIN (R326). -/
def execSwDrain (s : State) : Host.Outcome State Fault Refusal :=
  command .swDrain s (fun s => onChip (fun c => swDrain c) s)

/-- FAB_PKT_SW_WRITE (R327). -/
def execFabPktSwWrite (h : FabHdr) (b : SwWriteBody) (s : State) : Host.Outcome State Fault Refusal :=
  command (.fabPktSwWrite h b) s (fun s => onFabState h (.swWrite b) (entriesRsvd b) (fun s => managerWrite s h b false) s)

/-- FAB_PKT_RMA_GRANT (R344). -/
def execFabPktRmaGrant (h : FabHdr) (b : SwWriteBody) (s : State) : Host.Outcome State Fault Refusal :=
  command (.fabPktRmaGrant h b) s (fun s => onFabState h (.rmaGrant b) (entriesRsvd b) (fun s => managerWrite s h b true) s)

/-- EGRESS_DEQUEUE (R336). -/
def execEgressDequeue (port : Nat) (s : State) : Host.Outcome State Fault Refusal :=
  command (.egressDequeue port) s (fun s => onChip (fun c => egressDequeue c port) s)

/-- SW_COMBINE_WINDOW (R331). -/
def execSwCombineWindow (entry : Nat) (s : State) : Host.Outcome State Fault Refusal :=
  command (.swCombineWindow entry) s (fun s => onChip (fun c => combineWindow c entry) s)

/-- SW_COMBINE_HOLD (R332). -/
def execSwCombineHold (entry : Nat) (s : State) : Host.Outcome State Fault Refusal :=
  command (.swCombineHold entry) s (fun s => onChip (fun c => combineHold c entry) s)

/-- HOTSPOT_DETECTED (R339). -/
def execHotspotDetected (port tc : Nat) (s : State) : Host.Outcome State Fault Refusal :=
  command (.hotspotDetected port tc) s (fun s => onChip (fun c => hotspotDetected c port tc) s)

/-- PACED_RELEASE (R335). -/
def execPacedRelease (dst : Nat) (s : State) : Host.Outcome State Fault Refusal :=
  command (.pacedRelease dst) s (fun s => onChip (fun c => pacedRelease c dst) s)

/-- CC_NO_SAMPLE (R334). -/
def execCcNoSample (dst : Nat) (s : State) : Host.Outcome State Fault Refusal :=
  command (.ccNoSample dst) s (fun s => onChip (fun c => ccNoSample c dst) s)

/-- FAB_PKT_CC_ECHO (R333). -/
def execFabPktCcEcho (h : FabHdr) (s : State) : Host.Outcome State Fault Refusal :=
  command (.fabPktCcEcho h) s (fun s => onFab h .ccEcho 0 (fun c => c) s)

/-- FAB_PKT_NACK (R320). -/
def execFabPktNack (h : FabHdr) (b : NackBody) (s : State) : Host.Outcome State Fault Refusal :=
  command (.fabPktNack h b) s (fun s => onFabFreeing h (.nack b) (b.rsvd) (fun c => fabNack c h b) s)

/-- FAB_PKT_SW_WRITE_ACK (R327). -/
def execFabPktSwWriteAck (h : FabHdr) (b : SwAckBody) (s : State) : Host.Outcome State Fault Refusal :=
  command (.fabPktSwWriteAck h b) s (fun s => onFab h (.swWriteAck b) (b.rsvd) (fun c => c) s)

end Sys2Proof.Machine
end

