-- ==== Sys2Proof/Machine/CmdStep.lean ====
section
/-!
DEFINITION. The commands' meanings: steps, streams, stations, partitions, customers and KV pages (R55 to R84, R127, R147 to R189, R216 to R240, R255 to R259).
-/
namespace Sys2Proof.Machine

/-- STEP_LAUNCH (R237). -/
def execStepLaunch (part engine : Nat) (s : State) : Host.Outcome State Fault Refusal :=
  command (.stepLaunch part engine) s (fun s => freeing (fun c => stepLaunch c part engine) s)

/-- SELF_PAUSE_RETRY (R179). -/
def execSelfPauseRetry (requestId : Nat) (s : State) : Host.Outcome State Fault Refusal :=
  command (.selfPauseRetry requestId) s (fun s => freeing (fun c => selfPauseRetry c requestId) s)

/-- SELF_PAUSE_LIMIT (R181). -/
def execSelfPauseLimit (requestId : Nat) (s : State) : Host.Outcome State Fault Refusal :=
  command (.selfPauseLimit requestId) s (fun s => freeing (fun c => selfPauseLimit c requestId) s)

/-- TILE_ARRIVES (R71). -/
def execTileArrives (part sink : Nat) (tile : Tile) (hdrs : List W64) (tierError : Bool) (s : State) : Host.Outcome State Fault Refusal :=
  command (.tileArrives part sink tile hdrs tierError) s (fun s => freeing (fun c => tileArrives c part sink tile hdrs tierError) s)

/-- PLEAT_REFETCH_COMPLETES (R127). -/
def execPleatRefetchCompletes (part sink : Nat) (got : Refetched) (tierError : Bool) (s : State) : Host.Outcome State Fault Refusal :=
  command (.pleatRefetchCompletes part sink got tierError) s
    (fun s => freeing (fun c => pleatRefetch c part sink got.move got.tile got.hdrs tierError) s)

/-- STREAM_COMPLETES (R75). -/
def execStreamCompletes (part stepSeq streamId layer creditStall anchorWait expanderStall tierWait : Nat) (s : State) : Host.Outcome State Fault Refusal :=
  command (.streamCompletes part stepSeq streamId layer creditStall anchorWait expanderStall tierWait) s (fun s => freeing (fun c => streamCompletes c part stepSeq streamId layer creditStall anchorWait expanderStall tierWait) s)

/-- STREAM_DEADLINE (R257). -/
def execStreamDeadline (part stepSeq streamId layer : Nat) (s : State) : Host.Outcome State Fault Refusal :=
  command (.streamDeadline part stepSeq streamId layer) s (fun s => freeing (fun c => streamDeadline c part stepSeq streamId layer) s)

/-- COMMIT_JOIN (R74). -/
def execCommitJoin (part stepSeq : Nat) (s : State) : Host.Outcome State Fault Refusal :=
  command (.commitJoin part stepSeq) s (fun s => freeing (fun c => commitJoin c part stepSeq) s)

/-- STEP_WATCHDOG (R84). -/
def execStepWatchdog (part stepSeq : Nat) (s : State) : Host.Outcome State Fault Refusal :=
  command (.stepWatchdog part stepSeq) s (fun s => freeing (fun c => stepWatchdog c part stepSeq) s)

/-- STATION_STORAGE_ERROR (R81). -/
def execStationStorageError (station : StationRef) (s : State) : Host.Outcome State Fault Refusal :=
  command (.stationStorageError station) s (fun s => freeing (fun c => stationStorageError c station) s)

/-- STATION_FENCE (R63). -/
def execStationFence (port quad station : Nat) (s : State) : Host.Outcome State Fault Refusal :=
  command (.stationFence port quad station) s (fun s => writing (Accessor.port port) (Reg.stnFence quad) (wordOf [(63, 63, 1), (6, 0, station)]) s)

/-- STATION_UNFENCE (R63). -/
def execStationUnfence (port quad station : Nat) (s : State) : Host.Outcome State Fault Refusal :=
  command (.stationUnfence port quad station) s (fun s => writing (Accessor.port port) (Reg.stnFence quad) (wordOf [(6, 0, station)]) s)

/-- REFIT_COMPLETES (R78). -/
def execRefitCompletes (part : Nat) (s : State) : Host.Outcome State Fault Refusal :=
  command (.refitCompletes part) s (fun s => freeing (fun c => refitCompletes c part) s)

/-- PART_RELOAD (R218). -/
def execPartReload (port part : Nat) (s : State) : Host.Outcome State Fault Refusal :=
  command (.partReload port part) s (fun s => writing (Accessor.port port) (Reg.partReload) (wordOf [(63, 63, 1), (3, 0, part)]) s)

/-- PARTITION_LOAD_COMPLETES (R402). -/
def execPartitionLoadCompletes (part : Nat) (base draft : PullResult) (s : State) : Host.Outcome State Fault Refusal :=
  command (.partitionLoadCompletes part base draft) s (fun s => (freeing (fun c => partitionLoaded c part base draft) s).bootCheck)

/-- ADAPTER_LOAD_COMPLETES (R222). -/
def execAdapterLoadCompletes (slot : Nat) (fits : Bool) (digest status : Nat) (s : State) : Host.Outcome State Fault Refusal :=
  command (.adapterLoadCompletes slot fits digest status) s (fun s => freeing (fun c => adapterLoaded c slot fits digest status) s)

/-- SECOND_SOURCE_READ_COMPLETES (R259). -/
def execSecondSourceReadCompletes (part : Nat) (draft : Bool) (stepSeq streamId layer status : Nat) (s : State) : Host.Outcome State Fault Refusal :=
  command (.secondSourceReadCompletes part draft stepSeq streamId layer status) s (fun s => freeing (fun c => secondSourceRead c part draft stepSeq streamId layer status) s)

/-- TEN_REFILL (R236). -/
def execTenRefill (s : State) : Host.Outcome State Fault Refusal :=
  command .tenRefill s (fun s => onChip (fun c => tenRefill c) s)

/-- TEN_HIST_SNAP (R240). -/
def execTenHistSnap (port customer : Nat) (zero : Bool) (s : State) : Host.Outcome State Fault Refusal :=
  command (.tenHistSnap port customer zero) s (fun s => registerWrite s (Accessor.port port) (Reg.tenHistSnap) (wordOf [(63, 63, 1), (62, 62, bitN zero), (11, 0, customer)]) false)

/-- KV_SHARE_WRITE (R150). -/
def execKvShareWrite (port part : Nat) (value : W64) (s : State) : Host.Outcome State Fault Refusal :=
  command (.kvShareWrite port part value) s (fun s => registerWrite s (Accessor.port port) (Reg.kvPartShare part) (value) false)

/-- KV_DESC_SEL (R473). -/
def execKvDescSel (port : Nat) (value : W64) (s : State) : Host.Outcome State Fault Refusal :=
  command (.kvDescSel port value) s (fun s => registerWrite s (Accessor.port port) (Reg.kvDescSel) (value) false)

end Sys2Proof.Machine
end

