-- ==== Sys2Proof/Machine/Dispatch.lean ====
section
/-!
DEFINITION. One arm per command: the direct call of its meaning.
-/
namespace Sys2Proof.Machine

/-- The effect of a command on everything but the queue. -/
def exec (i : Instr) (s : State) : Host.Outcome State Fault Refusal :=
  match i with
  | .hlMsgAdmit h b => Sys2Proof.Machine.execHlMsgAdmit h b s
  | .hlMsgResume h b => Sys2Proof.Machine.execHlMsgResume h b s
  | .hlMsgCancel h b => Sys2Proof.Machine.execHlMsgCancel h b s
  | .hlMsgPause h b => Sys2Proof.Machine.execHlMsgPause h b s
  | .hlMsgQuery h b => Sys2Proof.Machine.execHlMsgQuery h b s
  | .hlMsgAdapterInstall h b => Sys2Proof.Machine.execHlMsgAdapterInstall h b s
  | .hlMsgEmbTable h b => Sys2Proof.Machine.execHlMsgEmbTable h b s
  | .hlMsgEmbGather h b => Sys2Proof.Machine.execHlMsgEmbGather h b s
  | .hlMsgEmbUpdate h b => Sys2Proof.Machine.execHlMsgEmbUpdate h b s
  | .hlMsgEmbMigrate h b => Sys2Proof.Machine.execHlMsgEmbMigrate h b s
  | .hlMsgRegRead h b => Sys2Proof.Machine.execHlMsgRegRead h b s
  | .hlMsgRegWrite h b => Sys2Proof.Machine.execHlMsgRegWrite h b s
  | .hlMsgLinkSync h b => Sys2Proof.Machine.execHlMsgLinkSync h b s
  | .hlMsgBulkData h b => Sys2Proof.Machine.execHlMsgBulkData h b s
  | .hlMsgBulkWriteAck h b => Sys2Proof.Machine.execHlMsgBulkWriteAck h b s
  | .hc2Emit port => Sys2Proof.Machine.execHc2Emit port s
  | .fabPktPhasePlace h b => Sys2Proof.Machine.execFabPktPhasePlace h b s
  | .fabPktPhaseReport h b => Sys2Proof.Machine.execFabPktPhaseReport h b s
  | .fabPktPhaseCtrl h b => Sys2Proof.Machine.execFabPktPhaseCtrl h b s
  | .fabPktMoveOffer h b => Sys2Proof.Machine.execFabPktMoveOffer h b s
  | .fabPktMoveReply h b => Sys2Proof.Machine.execFabPktMoveReply h b s
  | .moveDataSent requestId => Sys2Proof.Machine.execMoveDataSent requestId s
  | .fabPktMoveAck h b => Sys2Proof.Machine.execFabPktMoveAck h b s
  | .fabPktMoveCommit h b => Sys2Proof.Machine.execFabPktMoveCommit h b s
  | .fabPktMoveAbort h b => Sys2Proof.Machine.execFabPktMoveAbort h b s
  | .fabPktMoveQuery h b => Sys2Proof.Machine.execFabPktMoveQuery h b s
  | .fabPktMoveAnswer h b => Sys2Proof.Machine.execFabPktMoveAnswer h b s
  | .fabPktMovePull h b => Sys2Proof.Machine.execFabPktMovePull h b s
  | .localMoveCompletes requestId => Sys2Proof.Machine.execLocalMoveCompletes requestId s
  | .moveOfferWait requestId => Sys2Proof.Machine.execMoveOfferWait requestId s
  | .moveAckWait moveId => Sys2Proof.Machine.execMoveAckWait moveId s
  | .moveCommitWait source moveId => Sys2Proof.Machine.execMoveCommitWait source moveId s
  | .moveRecordExpires moveId => Sys2Proof.Machine.execMoveRecordExpires moveId s
  | .phaseReportInterval requestId => Sys2Proof.Machine.execPhaseReportInterval requestId s
  | .decodeSilenceLimit requestId => Sys2Proof.Machine.execDecodeSilenceLimit requestId s
  | .restoreMs requestId => Sys2Proof.Machine.execRestoreMs requestId s
  | .ttlFull requestId => Sys2Proof.Machine.execTtlFull requestId s
  | .stepLaunch part engine => Sys2Proof.Machine.execStepLaunch part engine s
  | .selfPauseRetry requestId => Sys2Proof.Machine.execSelfPauseRetry requestId s
  | .selfPauseLimit requestId => Sys2Proof.Machine.execSelfPauseLimit requestId s
  | .tileArrives part sink tile hdrs tierError => Sys2Proof.Machine.execTileArrives part sink tile hdrs tierError s
  | .pleatRefetchCompletes part sink got tierError => Sys2Proof.Machine.execPleatRefetchCompletes part sink got tierError s
  | .streamCompletes part stepSeq streamId layer creditStall anchorWait expanderStall tierWait => Sys2Proof.Machine.execStreamCompletes part stepSeq streamId layer creditStall anchorWait expanderStall tierWait s
  | .streamDeadline part stepSeq streamId layer => Sys2Proof.Machine.execStreamDeadline part stepSeq streamId layer s
  | .commitJoin part stepSeq => Sys2Proof.Machine.execCommitJoin part stepSeq s
  | .stepWatchdog part stepSeq => Sys2Proof.Machine.execStepWatchdog part stepSeq s
  | .stationStorageError station => Sys2Proof.Machine.execStationStorageError station s
  | .stationFence port quad station => Sys2Proof.Machine.execStationFence port quad station s
  | .stationUnfence port quad station => Sys2Proof.Machine.execStationUnfence port quad station s
  | .refitCompletes part => Sys2Proof.Machine.execRefitCompletes part s
  | .partReload port part => Sys2Proof.Machine.execPartReload port part s
  | .partitionLoadCompletes part base draft => Sys2Proof.Machine.execPartitionLoadCompletes part base draft s
  | .adapterLoadCompletes slot fits digest status => Sys2Proof.Machine.execAdapterLoadCompletes slot fits digest status s
  | .secondSourceReadCompletes part draft stepSeq streamId layer status => Sys2Proof.Machine.execSecondSourceReadCompletes part draft stepSeq streamId layer status s
  | .tenRefill => Sys2Proof.Machine.execTenRefill s
  | .tenHistSnap port customer zero => Sys2Proof.Machine.execTenHistSnap port customer zero s
  | .kvShareWrite port part value => Sys2Proof.Machine.execKvShareWrite port part value s
  | .kvDescSel port value => Sys2Proof.Machine.execKvDescSel port value s
  | .flitReceived lp f => Sys2Proof.Machine.execFlitReceived lp f s
  | .fabReplayTimeout lp => Sys2Proof.Machine.execFabReplayTimeout lp s
  | .seamBufferEccError p headerIntact => Sys2Proof.Machine.execSeamBufferEccError p headerIntact s
  | .signalDetected lp => Sys2Proof.Machine.execSignalDetected lp s
  | .lossOfSignal lp => Sys2Proof.Machine.execLossOfSignal lp s
  | .trainingAttemptPasses lp info => Sys2Proof.Machine.execTrainingAttemptPasses lp info s
  | .trainingAttemptFails lp why => Sys2Proof.Machine.execTrainingAttemptFails lp why s
  | .retrainTrigger lp cause => Sys2Proof.Machine.execRetrainTrigger lp cause s
  | .retrainPasses lp info => Sys2Proof.Machine.execRetrainPasses lp info s
  | .retrainFails lp => Sys2Proof.Machine.execRetrainFails lp s
  | .fabTrainLimit lp => Sys2Proof.Machine.execFabTrainLimit lp s
  | .fabRetrainLimit lp => Sys2Proof.Machine.execFabRetrainLimit lp s
  | .fabRetryInterval lp => Sys2Proof.Machine.execFabRetryInterval lp s
  | .fabPortFence acc port => Sys2Proof.Machine.execFabPortFence acc port s
  | .fabPortUnfence acc port => Sys2Proof.Machine.execFabPortUnfence acc port s
  | .fabPortDrain acc port drain => Sys2Proof.Machine.execFabPortDrain acc port drain s
  | .fabPortRetrain acc port => Sys2Proof.Machine.execFabPortRetrain acc port s
  | .fabLaneFence acc port lanes => Sys2Proof.Machine.execFabLaneFence acc port lanes s
  | .seamForward ingress p => Sys2Proof.Machine.execSeamForward ingress p s
  | .routeEntryWrite acc shadow dst value half => Sys2Proof.Machine.execRouteEntryWrite acc shadow dst value half s
  | .swEpochCommit acc newEpoch => Sys2Proof.Machine.execSwEpochCommit acc newEpoch s
  | .swDrain => Sys2Proof.Machine.execSwDrain s
  | .fabPktSwWrite h b => Sys2Proof.Machine.execFabPktSwWrite h b s
  | .fabPktRmaGrant h b => Sys2Proof.Machine.execFabPktRmaGrant h b s
  | .egressDequeue port => Sys2Proof.Machine.execEgressDequeue port s
  | .swCombineWindow entry => Sys2Proof.Machine.execSwCombineWindow entry s
  | .swCombineHold entry => Sys2Proof.Machine.execSwCombineHold entry s
  | .hotspotDetected port tc => Sys2Proof.Machine.execHotspotDetected port tc s
  | .pacedRelease dst => Sys2Proof.Machine.execPacedRelease dst s
  | .ccNoSample dst => Sys2Proof.Machine.execCcNoSample dst s
  | .fabPktCcEcho h => Sys2Proof.Machine.execFabPktCcEcho h s
  | .fabPktNack h b => Sys2Proof.Machine.execFabPktNack h b s
  | .fabPktLoad h b tierError => Sys2Proof.Machine.execFabPktLoad h b tierError s
  | .fabPktLoadReply h b => Sys2Proof.Machine.execFabPktLoadReply h b s
  | .fabPktStore h b tierError => Sys2Proof.Machine.execFabPktStore h b tierError s
  | .fabPktStoreAck h b => Sys2Proof.Machine.execFabPktStoreAck h b s
  | .fabPktRead h b tierError => Sys2Proof.Machine.execFabPktRead h b tierError s
  | .fabPktReadData h b => Sys2Proof.Machine.execFabPktReadData h b s
  | .fabPktWrite h b tierError => Sys2Proof.Machine.execFabPktWrite h b tierError s
  | .fabPktWriteAck h b => Sys2Proof.Machine.execFabPktWriteAck h b s
  | .fabPktAtomic h b tierError => Sys2Proof.Machine.execFabPktAtomic h b tierError s
  | .fabPktAtomicReply h b => Sys2Proof.Machine.execFabPktAtomicReply h b s
  | .fabPktAtomicCombined h b tierError => Sys2Proof.Machine.execFabPktAtomicCombined h b tierError s
  | .fabPktAtomicCombinedReply h b => Sys2Proof.Machine.execFabPktAtomicCombinedReply h b s
  | .fabPktCancel h b => Sys2Proof.Machine.execFabPktCancel h b s
  | .fabPktCancelAck h b => Sys2Proof.Machine.execFabPktCancelAck h b s
  | .fabPktRmaRevokeDone h b => Sys2Proof.Machine.execFabPktRmaRevokeDone h b s
  | .grantActivate acc g value => Sys2Proof.Machine.execGrantActivate acc g value s
  | .grantRevoke acc g => Sys2Proof.Machine.execGrantRevoke acc g s
  | .grantInvalidate acc g => Sys2Proof.Machine.execGrantInvalidate acc g s
  | .rmaAtomicTimeout msgId => Sys2Proof.Machine.execRmaAtomicTimeout msgId s
  | .rmaStoreTimeout msgId => Sys2Proof.Machine.execRmaStoreTimeout msgId s
  | .rmaWriteTimeout msgId => Sys2Proof.Machine.execRmaWriteTimeout msgId s
  | .rmaBusyBackoff msgId => Sys2Proof.Machine.execRmaBusyBackoff msgId s
  | .rmaReplayHold requester seq => Sys2Proof.Machine.execRmaReplayHold requester seq s
  | .replayFloorDiscard requester => Sys2Proof.Machine.execReplayFloorDiscard requester s
  | .rmaReassemblyLimit source msgId => Sys2Proof.Machine.execRmaReassemblyLimit source msgId s
  | .rmaCancelHold source msgId => Sys2Proof.Machine.execRmaCancelHold source msgId s
  | .wlArm port list value => Sys2Proof.Machine.execWlArm port list value s
  | .wlStop port list value => Sys2Proof.Machine.execWlStop port list value s
  | .rmaWlAdvance port value => Sys2Proof.Machine.execRmaWlAdvance port value s
  | .keyInstall port value => Sys2Proof.Machine.execKeyInstall port value s
  | .keyErase port value => Sys2Proof.Machine.execKeyErase port value s
  | .fabPktEmbRead h b tierError => Sys2Proof.Machine.execFabPktEmbRead h b tierError s
  | .fabPktEmbRows h b => Sys2Proof.Machine.execFabPktEmbRows h b s
  | .fabPktEmbScatter h b tierError => Sys2Proof.Machine.execFabPktEmbScatter h b tierError s
  | .fabPktEmbScatterAck h b => Sys2Proof.Machine.execFabPktEmbScatterAck h b s
  | .fabPktEmbRedirect h b => Sys2Proof.Machine.execFabPktEmbRedirect h b s
  | .fabPktEmbMigOffer h b => Sys2Proof.Machine.execFabPktEmbMigOffer h b s
  | .fabPktEmbMigReply h b => Sys2Proof.Machine.execFabPktEmbMigReply h b s
  | .fabPktEmbMigAck h b => Sys2Proof.Machine.execFabPktEmbMigAck h b s
  | .fabPktEmbMigCommit h b => Sys2Proof.Machine.execFabPktEmbMigCommit h b s
  | .fabPktEmbMigAbort h b => Sys2Proof.Machine.execFabPktEmbMigAbort h b s
  | .bagPooled gather => Sys2Proof.Machine.execBagPooled gather s
  | .gatherDeadline gather stallCycles => Sys2Proof.Machine.execGatherDeadline gather stallCycles s
  | .replicaRefresh table version row => Sys2Proof.Machine.execReplicaRefresh table version row s
  | .replicaExpiry table version row => Sys2Proof.Machine.execReplicaExpiry table version row s
  | .embEpoch => Sys2Proof.Machine.execEmbEpoch s
  | .migrationForwardingTimer migId => Sys2Proof.Machine.execMigrationForwardingTimer migId s
  | .replicaStoreWrite port part value => Sys2Proof.Machine.execReplicaStoreWrite port part value s
  | .hlSyncWait port => Sys2Proof.Machine.execHlSyncWait port s
  | .hlCreditStall port => Sys2Proof.Machine.execHlCreditStall port s
  | .hlDownHold port => Sys2Proof.Machine.execHlDownHold port s
  | .hlBulkTimeout tag => Sys2Proof.Machine.execHlBulkTimeout tag s
  | .hlPortFence acc port => Sys2Proof.Machine.execHlPortFence acc port s
  | .hlPortUnfence acc port => Sys2Proof.Machine.execHlPortUnfence acc port s
  | .hlPortRetrain acc port => Sys2Proof.Machine.execHlPortRetrain acc port s
  | .hlLaneFence acc port lanes => Sys2Proof.Machine.execHlLaneFence acc port lanes s
  | .hostWindowWrite acc port window word value => Sys2Proof.Machine.execHostWindowWrite acc port window word value s
  | .enterService port => Sys2Proof.Machine.execEnterService port s
  | .enterTest port => Sys2Proof.Machine.execEnterTest port s
  | .enterRecovery port => Sys2Proof.Machine.execEnterRecovery port s
  | .applyImage port srcHost slot srcPort window img => Sys2Proof.Machine.execApplyImage port srcHost slot srcPort window img s
  | .writeSlot port slot srcPort window img => Sys2Proof.Machine.execWriteSlot port slot srcPort window img s
  | .calSave port kinds => Sys2Proof.Machine.execCalSave port kinds s
  | .calRestoreFactory port => Sys2Proof.Machine.execCalRestoreFactory port s
  | .svnCommit port => Sys2Proof.Machine.execSvnCommit port s
  | .quote port cmd => Sys2Proof.Machine.execQuote port cmd s
  | .serviceReport port cmd => Sys2Proof.Machine.execServiceReport port cmd s
  | .endorsementRecord port cmd => Sys2Proof.Machine.execEndorsementRecord port cmd s
  | .protectionWrite port offset value => Sys2Proof.Machine.execProtectionWrite port offset value s
  | .powerDown port domain cascade => Sys2Proof.Machine.execPowerDown port domain cascade s
  | .powerUp port domain cascade => Sys2Proof.Machine.execPowerUp port domain cascade s
  | .reset port domain cascade => Sys2Proof.Machine.execReset port domain cascade s
  | .update port domain cascade => Sys2Proof.Machine.execUpdate port domain cascade s
  | .pwrModuleReset port value => Sys2Proof.Machine.execPwrModuleReset port value s
  | .resetNAsserted lowNs => Sys2Proof.Machine.execResetNAsserted lowNs s
  | .powerGood straps => Sys2Proof.Machine.execPowerGood straps s
  | .referencePresent => Sys2Proof.Machine.execReferencePresent s
  | .rootPllLocked => Sys2Proof.Machine.execRootPllLocked s
  | .imageSlotVerified read0 read1 => Sys2Proof.Machine.execImageSlotVerified read0 read1 s
  | .domainsTrained failedStations stackOk channels => Sys2Proof.Machine.execDomainsTrained failedStations stackOk channels s
  | .smbusSetOffset cmd data pecOk => Sys2Proof.Machine.execSmbusSetOffset cmd data pecOk s
  | .smbusRead cmd pecOk => Sys2Proof.Machine.execSmbusRead cmd pecOk s
  | .vInSample mv microsSince => Sys2Proof.Machine.execVInSample mv microsSince s
  | .inputRecovered => Sys2Proof.Machine.execInputRecovered s
  | .referenceLoss absentNs lockLost => Sys2Proof.Machine.execReferenceLoss absentNs lockLost s
  | .domainRampCompletes domain ok failedStations channels => Sys2Proof.Machine.execDomainRampCompletes domain ok failedStations channels s
  | .railFault domain => Sys2Proof.Machine.execRailFault domain s
  | .downSequenceEnds domain => Sys2Proof.Machine.execDownSequenceEnds domain s
  | .hubWatchdog => Sys2Proof.Machine.execHubWatchdog s
  | .powerSample mv ma => Sys2Proof.Machine.execPowerSample mv ma s
  | .thermalSample temps => Sys2Proof.Machine.execThermalSample temps s
  | .thermalLevelRise sensor => Sys2Proof.Machine.execThermalLevelRise sensor s
  | .thermalLevelFall sensor => Sys2Proof.Machine.execThermalLevelFall sensor s
  | .evtReadSel port value => Sys2Proof.Machine.execEvtReadSel port value s
  | .evtRateWrite port value => Sys2Proof.Machine.execEvtRateWrite port value s
  | .evtMirrorSel port value => Sys2Proof.Machine.execEvtMirrorSel port value s
  | .mirrorRecordWrite => Sys2Proof.Machine.execMirrorRecordWrite s
  | .mirrorSectorErase => Sys2Proof.Machine.execMirrorSectorErase s
  | .cntClear port value => Sys2Proof.Machine.execCntClear port value s
  | .rlLowHalfRead port offset => Sys2Proof.Machine.execRlLowHalfRead port offset s
  | .registerWrite acc offset value half => Sys2Proof.Machine.execRegisterWrite acc offset value half s
  | .patrolScrub addr corrected uncorrectable => Sys2Proof.Machine.execPatrolScrub addr corrected uncorrectable s
  | .dimmThermalRead temps => Sys2Proof.Machine.execDimmThermalRead temps s
  | .channelTrainingTimeout channel => Sys2Proof.Machine.execChannelTrainingTimeout channel s
  | .flashUnitCompletes readBackOk => Sys2Proof.Machine.execFlashUnitCompletes readBackOk s
  | .documentSigned => Sys2Proof.Machine.execDocumentSigned s
  | .fabPktSwWriteAck h b => Sys2Proof.Machine.execFabPktSwWriteAck h b s

end Sys2Proof.Machine
end

