-- ==== Sys2Proof/Machine/Step.lean ====
section
/-!
DEFINITION. One step: the command at the front of the queue, or, with nothing waiting, one period of the local time.
-/
namespace Sys2Proof.Machine

/-- R424: one L-unit of the local time, where it runs (log entry 1). -/
def Chip.tick (c : Chip) : Chip := if c.timeOn then { c with time := c.time + 1 } else c

/-- One step. -/
def step (s : State) : Host.Outcome State Fault Refusal :=
  match s.pending with
  | [] => .next { s with chip := s.chip.tick }
  | i :: rest => exec i { s with pending := rest }

/-- The state with a command placed at the front of its queue. -/
def State.queue (s : State) (i : Instr) : State := { s with pending := i :: s.pending }

/-- The state with the command that a word spells in front of its queue; unchanged where the word spells none. -/
def State.withFetchWord (s : State) (nbits w : Nat) : State :=
  match decodeTableWord nbits w with
  | some i => s.queue i
  | none => s

end Sys2Proof.Machine
end

