-- ==== Sys2Proof/Safety.lean ====
section
/-!
DEFINITION. What counts as a safe state and a safe run: the stores keep their canonical form, the fuses only rise, and every
waiting command exists.
-/
namespace Sys2Proof.Machine

/-- R404: fuses only rise: `SVN_FUSED` never falls, a revoked key stays revoked, and the programmed key hashes, the serial number and the
device secret stay. -/
def FusesRise (a b : Nv) : Prop :=
  a.svnFused ≤ b.svnFused ∧ a.keys = b.keys ∧ a.serial = b.serial ∧ a.secret = b.secret ∧
    ∀ k, a.revoked.getD k false = true → b.revoked.getD k false = true

/-- R395, R404: what every step keeps of the non-volatile store: `SVN_FUSED` within its fuses, four key slots, and the flash mirror
in canonical form. -/
def NvOk (nv : Nv) : Prop :=
  nv.svnFused ≤ 128 ∧ nv.keys.length = 4 ∧ nv.revoked.length = 4 ∧ assocRising nv.mirror = true

/-- What every operation on the whole state keeps: the queue, and the non-volatile store's form, with its fuses only rising. -/
def Keeps (s t : State) : Prop := t.pending = s.pending ∧ (NvOk s.nv → NvOk t.nv ∧ FusesRise s.nv t.nv)

/-- The canonical form of the chip's register file and memories. -/
def ChipOk (c : Chip) : Prop := rfWf c.regs = true ∧ memWf c.work.t1 = true ∧ memWf c.work.t2 = true

/-- The registers of the events block (R459), where the recorder counts and shows its records. -/
def recorderReg (o : Nat) : Prop := 0x300000 ≤ o ∧ o < 0x400000

/-- `d` is `c` but for the recorder's own state and the registers at the offsets `P`; the register file keeps its form. -/
def Touches (P : Nat → Prop) (c d : Chip) : Prop :=
  ∃ e r, d = { c with evt := e, regs := r } ∧ (∀ o, ¬ P o → d.reg o = c.reg o) ∧ (rfWf c.regs = true → rfWf r = true)

/-- `d` is `c` but for the recorder: its state, and the registers of the events block. -/
def Recorded (c d : Chip) : Prop := Touches recorderReg c d

/-- A statistics counter of the seam (R459). -/
def seamCounter (o : Nat) : Prop := 0xC03000 ≤ o ∧ o < 0xC03088

/-- `d` is `c` but for the seam, its counters and the recorder: what sending a packet may change. -/
def SeamOnly (c d : Chip) : Prop :=
  ∃ f, Touches (fun o => seamCounter o ∨ recorderReg o) { c with fab := f } d

/-- Every waiting command exists. -/
def QueueOk (s : State) : Prop := ∀ i ∈ s.pending, i.wf = true

/-- The commands that write registers, run the boot unit or change the device's or the supply's state: those that may reach the
non-volatile store. Every other command acts on the chip alone. -/
def mayReachFlash : Instr → Bool
  | .hlMsgRegWrite .. | .stationFence .. | .stationUnfence .. | .partReload .. | .partitionLoadCompletes ..
  | .tenHistSnap .. | .kvShareWrite .. | .kvDescSel .. | .fabPortFence .. | .fabPortUnfence .. | .fabPortDrain ..
  | .fabPortRetrain .. | .fabLaneFence .. | .swEpochCommit .. | .fabPktSwWrite .. | .fabPktRmaGrant ..
  | .grantActivate .. | .grantRevoke .. | .grantInvalidate .. | .wlArm .. | .wlStop .. | .rmaWlAdvance ..
  | .keyInstall .. | .keyErase .. | .replicaStoreWrite .. | .hlPortFence .. | .hlPortUnfence .. | .hlPortRetrain ..
  | .hlLaneFence .. | .hostWindowWrite .. | .enterService .. | .enterTest .. | .enterRecovery .. | .applyImage ..
  | .writeSlot .. | .calSave .. | .calRestoreFactory .. | .svnCommit .. | .quote .. | .serviceReport ..
  | .endorsementRecord .. | .protectionWrite .. | .powerDown .. | .powerUp .. | .reset .. | .update ..
  | .pwrModuleReset .. | .resetNAsserted .. | .powerGood .. | .referencePresent .. | .rootPllLocked ..
  | .imageSlotVerified .. | .domainsTrained .. | .smbusSetOffset .. | .smbusRead .. | .inputRecovered ..
  | .downSequenceEnds .. | .evtReadSel .. | .evtRateWrite .. | .evtMirrorSel .. | .mirrorRecordWrite ..
  | .mirrorSectorErase .. | .cntClear .. | .rlLowHalfRead .. | .registerWrite .. | .flashUnitCompletes ..
  | .hlMsgRegRead .. => true
  | _ => false

/-- A safe step: it ends in a next state. -/
def SafeStep (s : State) : Prop := ∃ t, step s = .next t

end Sys2Proof.Machine
end

