-- ==== Sys2Proof/Certificates/Slice0/Obligations.lean ====
section
/-!
DEFINITION. The statements about the model, family by family. The chips on the right of an equation are written with the named
operations of `Sys2Proof/Machine`; what an operation is not named to change, it leaves (the equation is of whole states).
-/
namespace Sys2Proof.Machine

/-- The state with another chip. -/
def State.put (s : State) (c : Chip) : State := { s with chip := c }

/-- Register writes reach the device, and `p` is the owner port (R409, R463). -/
abbrev OwnerPort (s : State) (p : Nat) : Prop := s.chip.writeOpen = true ∧ s.chip.isOwner p = true

/-- The message is one that the transaction layer hands to its unit: the port carries it, it has the expected number where its
type is sequenced, its form is legal, and an image is applied (R371, R372, R380). -/
abbrev HostTakes (s : State) (h : HlHdr) (m : HlMeta) : Prop :=
  s.chip.hlCarries h.port m.type = true ∧
    (sequenced h = true → h.xseq = (s.chip.hlPort h.port).expect h.hc) ∧
    h.msgType = m.type ∧ h.hc = m.hc ∧ lenOk h = true ∧ offOk h = true ∧ h.rsvd = 0 ∧ m.rsvd = 0 ∧
    (h.hc = 0 → h.pkts.length ≤ 1) ∧ 2 ≤ s.chip.devState

/-- The chip that has taken a sequenced message: the next expected number moves, and the message is counted (R372, R390). -/
def taken (s : State) (h : HlHdr) : Chip :=
  (s.chip.setHlPort h.port ((s.chip.hlPort h.port).setExpect h.hc (wrapSuccSkip0 32 h.xseq) false)).bump (Reg.hlCnt 4)

/-- The chip at which a packet has left the local queue (R334: its echo is a sample). -/
def got (s : State) (h : FabHdr) (b : FabBody) : Chip := s.chip.takeLocal ⟨h, b⟩

/-- An encrypted packet authenticates (R363). -/
abbrev Authentic (c : Chip) (h : FabHdr) (b : FabBody) : Prop := h.enc = true → c.domUp 7 = true ∧ c.authOk h b = true

/-- The packet is one that its unit takes: the fabric is up, no CANCEL holds its message, its header and reserved bits are legal,
and it authenticates where it is encrypted (R6, R319, R352, R363). -/
abbrev Arrives (s : State) (h : FabHdr) (b : FabBody) (rsvd : Nat) : Prop :=
  s.chip.fabricUp = true ∧ (got s h b).rma.cancels.contains (h.src, h.msgId) = false ∧ hdrOk h = true ∧ rsvd = 0 ∧
    h.pktType = bodyType b ∧ Authentic (got s h b) h b

/-- The command completes in every state, whatever its operands; it leaves the non-volatile store and the waiting commands. -/
abbrev Completes (i : Instr) : Prop := ∀ s : State, ∃ t, exec i s = .next t ∧ t.nv = s.nv ∧ t.pending = s.pending

end Sys2Proof.Machine

open Sys2Proof Sys2Proof.Machine

/-! ## The queue and whole states -/

/-- A step with a command at the front of the queue is that command on the state with the queue's rest. -/
def Obligations.StepRunsFrontCommand : Prop :=
  ∀ (i : Instr) (s : State), step (s.queue i) = exec i s

/-- With no command waiting, a step is one period of the local time where it runs, and nothing else (the model's choice, log
entry 1). -/
def Obligations.EmptyQueueTicksLocalTime : Prop :=
  ∀ s : State, s.pending = [] →
    step s = .next (s.put { s.chip with time := if s.chip.timeOn then s.chip.time + 1 else s.chip.time })

/-- Every command, each of the 197 rows with any operands in any state, ends in a next state with the waiting commands as they
were: no command faults and none is refused. A command that neither writes a register nor runs the boot unit nor changes the
device's or the supply's state leaves the non-volatile store. One that names no object of the block, or carries a value wider
than its field, leaves the whole state as it is (the model's choice, log entry 8). -/
def Obligations.EveryCommandCompletesOrDoesNotExist : Prop :=
  ∀ (i : Instr) (s : State), ∃ t, exec i s = .next t ∧ t.pending = s.pending ∧ (mayReachFlash i = false → t.nv = s.nv) ∧
    (i.wf = false → t = s)

/-- After reset the flash is blank, no fuse is programmed, the stores have their canonical form and no command waits. -/
def Obligations.ResetIsCanonical : Prop :=
  NvOk State.reset.nv ∧ ChipOk State.reset.chip ∧ QueueOk State.reset ∧ State.reset.pending = [] ∧
    State.reset.nv.svnFused = 0 ∧ State.reset.chip.regs = [] ∧ State.reset.chip.work.t1 = [] ∧ State.reset.chip.work.t2 = []

/-- Registers right after reset, from the tables of the chapters: the identity words, the watchdog, speculation, move, phase,
tier and embedding registers, and the states of ports, domains and device. -/
def Obligations.ResetRegisters : Prop :=
  let r := State.reset.chip.reg
  r Reg.idPart = 0x000000B096000001#64 ∧ r Reg.idDevice = 0x00000000FFFFFFFF#64 ∧ r Reg.partStepWatchdog = 0x14#64 ∧
    (∀ p < 16, r (Reg.partSpecCtrl p) = 0x00001000400A2484#64) ∧ r Reg.movTimers = 0x000000C800C80064#64 ∧
    r Reg.movPhaseTimers = 0x00000000000A0032#64 ∧ (∀ p < 16, r (Reg.movPartTier p) = 0x000000014200012C#64) ∧
    r Reg.embCtrl = 0x000000400000000A#64 ∧ (∀ p < 16, State.reset.chip.fabState p = 1) ∧
    (∀ p < 4, State.reset.chip.hlState p = 1) ∧ State.reset.chip.domState 0 = 2 ∧
    (∀ d < 20, d ≠ 0 → State.reset.chip.domState d = 0) ∧ State.reset.chip.devState = 0

/-- Every step keeps the form of the non-volatile store: `SVN_FUSED` within its 128 fuses, four key slots, and the mirror's words
at rising places. -/
def Obligations.StepKeepsStoreForm : Prop :=
  ∀ s t : State, NvOk s.nv → step s = .next t → NvOk t.nv

/-- R403, R404: over every step `SVN_FUSED` never falls, a revoked key stays revoked, and the key hashes and the serial number
stay as they are. -/
def Obligations.FusesOnlyRise : Prop :=
  ∀ s t : State, NvOk s.nv → step s = .next t → FusesRise s.nv t.nv

/-- A whole register write from a port that is not the owner port changes nothing but the event recorder and the registers of the
events block, whatever register it names; a half write may also load the port's half-access latch. What always follows a
register write (`State.settled`) follows it. -/
def Obligations.OtherPortsWriteNothing : Prop :=
  ∀ (s : State) (p off : Nat) (v : W64) (half : Bool), (Instr.registerWrite (.port p) off v half).wf = true →
    s.chip.isOwner p = false →
    ∃ (c : Chip) (l : List (Option HalfLatch)), Recorded { s.chip with latch := l } c ∧ (half = false → l = s.chip.latch) ∧
      (∀ q ≠ p, l.getD q none = s.chip.latchOf q) ∧
      exec (.registerWrite (.port p) off v half) s = .next (s.put c).settled

/-! ## Messages of the hosts -/

namespace Sys2Proof.Machine

/-- The chip at which an admitted request has its collar, its adapter and its ACK owed (R225, R226). -/
def admitted (c : Chip) (port : Nat) (b : AdmitBody) : Chip :=
  let n := c.nextLocal (c.work.collars.length + 1) c.work.localNum
  let req := c.deviceId * 2 ^ 48 + n
  let units := logUnitsOf (min (b.promptLen + b.maxNew) (c.ctxLimit b.part))
  let k := c.newCollar port b req (c.bindAdapter b.part b.adapter).2 ((c.allocLog units).getD 0) units
  ((((c.onWork (fun w => { w with localNum := n, collars := w.collars ++ [k] })).collarWritten k).refAdapter b.part b.adapter
    (c.bindAdapter b.part b.adapter).2).bump (Reg.reqCnt 0)).oweAck port req b.hostTag stOk

/-- The collar of a request whose RESUME is accepted (R227). -/
def resumedCollar (c : Chip) (k : Collar) (b : ResumeBody) : Collar :=
  let prefill := decide (0 < b.nAppend) || k.img.summaryOnly || k.prefill
  let lim := c.ctxLimit k.img.part
  let units := logUnitsOf (min (k.img.log.length + b.nAppend + b.maxNew) lim)
  ({ k with
    img := { k.img with log := k.img.log ++ b.append.map (fun t => (t.tok, t.pad)), maxNew := b.maxNew, startTime := c.time,
                        promptLen := k.img.promptLen + b.nAppend + (if prefill && !k.prefill then 1 else 0),
                        lcState := if prefill then lcPrefill else lcDecode, summaryOnly := false },
    logOff := (c.allocLog units).getD 0, logUnits := units, first := true, prefill := prefill,
    resumeAt := k.resumeAt ++ [(k.emitted, k.final)], final := false } : Collar).nextPlacement

/-- The job of an adapter install that loads a free slot (R221). -/
def newInstall (port : Nat) (b : AdapterBody) (slot : Nat) : Install :=
  { slot := slot, tag := b.hostTag, port := port, part := b.part, adapter := b.adapter, customer := b.customer, rank := b.rank,
    measure := b.measurement, drained := false, waiting := false }

/-- The PENDING version that EMB_TABLE installs (R276). -/
def newTable (b : EmbTableBody) : TableVer :=
  { table := b.table, partMask := b.partMask, version := b.version, rows := b.rows, width := b.width, fmt := b.fmt,
    log2Shard := b.log2Shard, map := b.map, state := .pending, redirects := [], moved := [] }

/-- The gather that EMB_GATHER starts on the version `v` (R282, R288). -/
def newGather (c : Chip) (port : Nat) (b : GatherBody) (v : TableVer) : Gather :=
  { id := c.emb.gatherId + 1, port := port, hostTag := b.hostTag, part := b.part, table := b.table, version := v.version,
    deadline := if b.deadlineUs = 0 then 0 else c.time + b.deadlineUs * 225, bags := b.bags, started := false, asked := false,
    rows := [], fail := none, stale := false, late := false, done := [], join := none }

/-- The update that EMB_UPDATE starts on the version `v` (R285). -/
def newUpdate (c : Chip) (port : Nat) (b : UpdateBody) (v : TableVer) : Update :=
  { id := c.emb.updateId + 1, port := port, hostTag := b.hostTag, table := b.table, version := v.version,
    statuses := b.rows.map (fun _ => none) }

/-- R285, R286: one row of an update: replicas of it go, and it is written, or refused where the version has no such row. -/
def updateRow (part id : Nat) (v : TableVer) (c : Chip) (r : (Nat × List W32) × Nat) : Chip :=
  let c := c.dropReplicas (fun x => x.table == v.table && x.version == v.version && x.row == r.1.1)
  if v.rows ≤ r.1.1 then c.rowDone (id * 256 + r.2) stMalformed else c.ownScatter (id * 256 + r.2) part v.table v.version r.1.1 r.1.2

/-- The migration that EMB_MIGRATE offers (R293). -/
def newMigration (c : Chip) (port : Nat) (b : MigrateBody) : MigOut :=
  { id := wrapSucc 32 c.work.moveId, table := b.table, version := b.version, first := b.firstRow, m := b.log2Rows,
    newDevice := b.newDevice, newRegion := b.newRegion, newOffset := b.newOffset, state := 1, port := port, hostTag := b.hostTag,
    written := false, copied := false, dirty := [], final := 0, replays := [], queue := [] }

/-- The offer of it (R293). -/
def migrationOffer (c : Chip) (b : MigrateBody) : MigOfferBody :=
  { table := b.table, log2Rows := b.log2Rows, version := b.version, firstRow := b.firstRow, migId := wrapSucc 32 c.work.moveId, rsvd := 0 }

end Sys2Proof.Machine

/-- R372: a sequenced message whose number comes before the expected one is dropped as a duplicate and counted; one past it opens a
gap, in which messages are dropped and LINK_SYNC is sent once. Stated for HL_MSG_QUERY. -/
def Obligations.SequencedMessagesInOrder : Prop :=
  ∀ (s : State) (h : HlHdr) (b : ReqBody), (Instr.hlMsgQuery h b).wf = true → sequenced h = true →
    s.chip.hlCarries h.port 0x14 = true → h.xseq ≠ (s.chip.hlPort h.port).expect h.hc →
    (precedes 32 h.xseq ((s.chip.hlPort h.port).expect h.hc) = true →
      exec (.hlMsgQuery h b) s = .next (s.put (s.chip.bump (Reg.hlCnt 7)))) ∧
    (precedes 32 h.xseq ((s.chip.hlPort h.port).expect h.hc) = false →
      (if h.hc = 0 then (s.chip.hlPort h.port).gap0 else (s.chip.hlPort h.port).gap1) = true →
      exec (.hlMsgQuery h b) s = .next s) ∧
    (precedes 32 h.xseq ((s.chip.hlPort h.port).expect h.hc) = false →
      (if h.hc = 0 then (s.chip.hlPort h.port).gap0 else (s.chip.hlPort h.port).gap1) = false →
      exec (.hlMsgQuery h b) s =
        .next (s.put ((((s.chip.setHlPort h.port ((s.chip.hlPort h.port).setExpect h.hc ((s.chip.hlPort h.port).expect h.hc) true)).bump
          (Reg.hlCnt 8)).log { code := 0x1005, refKind := 3, ref := h.port }).sendSync h.port)))

/-- R371, R380: a taken message of a wrong form is answered ST_MALFORMED_MESSAGE, and any but an early one ST_NOT_READY before
an image is applied. Stated for HL_MSG_PAUSE. -/
def Obligations.IllFormedMessagesAnswered : Prop :=
  ∀ (s : State) (h : HlHdr) (b : ReqBody), (Instr.hlMsgPause h b).wf = true → h.hc < 2 → h.msgType = 0x13 →
    s.chip.hlCarries h.port 0x13 = true → h.xseq = (s.chip.hlPort h.port).expect h.hc →
    ((h.hc ≠ 0 ∨ lenOk h = false ∨ offOk h = false ∨ h.rsvd ≠ 0 ∨ (h.hc = 0 ∧ 1 < h.pkts.length)) →
      exec (.hlMsgPause h b) s = .next (s.put
        ((((s.chip.setHlPort h.port ((s.chip.hlPort h.port).setExpect h.hc (wrapSuccSkip0 32 h.xseq) false)).bump (Reg.hlCnt 8)).ack
          h.port (if 8 ≤ bodyLenOf h then h.rawTag else 0) 0 stMalformed 0)).drainSlots)) ∧
    ((h.hc = 0 ∧ lenOk h = true ∧ offOk h = true ∧ h.rsvd = 0 ∧ h.pkts.length ≤ 1) → s.chip.devState < 2 →
      exec (.hlMsgPause h b) s = .next (s.put
        ((((taken s h).bump (Reg.hlCnt 9)).ack h.port (if 8 ≤ bodyLenOf h then h.rawTag else 0) 0 stNotReady 0)).drainSlots))

/-- R225, R226: an admission that passes the checks gets its collar and its ACK, and its prompt phase is placed; one that fails is
counted and answered with its status. -/
def Obligations.AdmitPlacesOrRefuses : Prop :=
  ∀ (s : State) (h : HlHdr) (b : AdmitBody), (Instr.hlMsgAdmit h b).wf = true → HostTakes s h ⟨0x10, 1, 0, false⟩ →
    ((taken s h).admitStatus h.port b = stOk →
      exec (.hlMsgAdmit h b) s = .next (s.put (((admitted (taken s h) h.port b).placePhase
        ((taken s h).deviceId * 2 ^ 48 + (taken s h).nextLocal ((taken s h).work.collars.length + 1) (taken s h).work.localNum)
        none none).drainSlots))) ∧
    ((taken s h).admitStatus h.port b ≠ stOk →
      exec (.hlMsgAdmit h b) s = .next (s.put ((((taken s h).bump (Reg.reqCnt 1)).ackIn h.port 2 b.hostTag 0
        ((taken s h).admitStatus h.port b) 0).drainSlots)))

/-- The chip at which a message has read the collar it names (R258), and the collar then. -/
abbrev Sys2Proof.Machine.Named (s : State) (h : HlHdr) (req : Nat) (k : Collar) : Prop :=
  (((taken s h).collar req).filter ((taken s h).mayControl h.port)).map
    (fun old => (((taken s h).readCollar req).collar req).getD old) = some k

/-- R227, R231, R378, for a request that the port may control: a RESUME that passes its checks makes its collar, owes its ACK at
the request's port and places it, and one refused owes its ACK there; CANCEL of an ended request only answers, and of a live one
that does not run here ends it with ST_ABORTED_BY_HOST; PAUSE of a paused or ended request only answers, and of an ADMITTED one
pauses it without a sleeve; QUERY answers the collar's state. A request that the port may not control is answered
ST_ACCESS_DENIED. -/
def Obligations.RequestControls : Prop :=
  (∀ (s : State) (h : HlHdr) (b : ResumeBody) (k : Collar), (Instr.hlMsgResume h b).wf = true →
    HostTakes s h ⟨0x11, 1, 0, false⟩ → Named s h b.requestId k →
    let c := (taken s h).readCollar b.requestId
    let st := if resumeBad b then stMalformed else if k.img.lcState ≠ lcPaused then stBusy
      else c.resumeStatus k b (decide (0 < b.nAppend) || k.img.summaryOnly || k.prefill)
    (st = stOk → exec (.hlMsgResume h b) s = .next (s.put (((((c.setCollar (resumedCollar c k b)).collarWritten
      (resumedCollar c k b)).oweAck k.img.port k.img.requestId b.hostTag stOk)).placePhase k.img.requestId
        (if k.img.summaryOnly then none else some k.img.homeDevice) none).drainSlots)) ∧
    (st ≠ stOk → exec (.hlMsgResume h b) s = .next (s.put (c.oweAck k.img.port b.requestId b.hostTag st).drainSlots))) ∧
  (∀ (s : State) (h : HlHdr) (b : ReqBody) (k : Collar), (Instr.hlMsgCancel h b).wf = true →
    HostTakes s h ⟨0x12, 0, 0, false⟩ → Named s h b.requestId k →
    let c := ((taken s h).readCollar b.requestId).ack h.port b.hostTag b.requestId stOk 0
    (lcDone ≤ k.img.lcState → exec (.hlMsgCancel h b) s = .next (s.put c.drainSlots)) ∧
    (k.img.lcState < lcDone → c.runningHere b.requestId = none →
      exec (.hlMsgCancel h b) s = .next (s.put (c.endReq b.requestId stAborted).drainSlots))) ∧
  (∀ (s : State) (h : HlHdr) (b : ReqBody) (k : Collar), (Instr.hlMsgPause h b).wf = true →
    HostTakes s h ⟨0x13, 0, 0, false⟩ → Named s h b.requestId k →
    let c := ((taken s h).readCollar b.requestId).ack h.port b.hostTag b.requestId stOk 0
    (lcPaused ≤ k.img.lcState → exec (.hlMsgPause h b) s = .next (s.put c.drainSlots)) ∧
    (k.img.lcState = lcAdmitted → k.pausing = false → exec (.hlMsgPause h b) s = .next (s.put (c.pauseBare k).drainSlots))) ∧
  (∀ (s : State) (h : HlHdr) (b : ReqBody) (k : Collar), (Instr.hlMsgQuery h b).wf = true →
    HostTakes s h ⟨0x14, 0, 0, false⟩ → Named s h b.requestId k →
    exec (.hlMsgQuery h b) s = .next (s.put (((taken s h).readCollar b.requestId).hlSend h.port 0 (.state b.hostTag k.img.requestId
      k.img.lcState k.img.summaryOnly k.img.endStatus k.img.placement k.img.homeDevice k.img.committed k.img.lastEmitted)))) ∧
  (∀ (s : State) (h : HlHdr) (b : ReqBody), (Instr.hlMsgQuery h b).wf = true → HostTakes s h ⟨0x14, 0, 0, false⟩ →
    ((taken s h).collar b.requestId).any ((taken s h).mayControl h.port) = false →
    exec (.hlMsgQuery h b) s = .next (s.put ((taken s h).ack h.port b.hostTag b.requestId stDenied 0)))

/-- R220 to R222: an adapter install into a free slot starts its load there; a removal retires the CURRENT version. -/
def Obligations.AdapterInstallLoadsOrRetires : Prop :=
  ∀ (s : State) (h : HlHdr) (b : AdapterBody), (Instr.hlMsgAdapterInstall h b).wf = true →
    HostTakes s h ⟨0x18, 1, b.rsvd, false⟩ → (taken s h).installStatus h.port b = stOk →
    (∀ k, b.remove = false → b.drain = false → (upTo 1024).find? (fun j => (taken s h).slotState j == 0) = some k →
      exec (.hlMsgAdapterInstall h b) s = .next (s.put
        (((taken s h).loadSlot k b).onWork (fun w => { w with installs := w.installs ++ [newInstall h.port b k] })))) ∧
    (∀ k, b.remove = true → ((taken s h).adapterSlots b.part b.adapter [2]).head? = some k →
      exec (.hlMsgAdapterInstall h b) s = .next (s.put (((taken s h).retire k).ack h.port b.hostTag 0 stOk 0)))

/-- R276: EMB_TABLE installs a PENDING version; R282, R285: a gather and an update of a table with a CURRENT version are numbered
and started; R293: a migration is offered. -/
def Obligations.EmbeddingMessages : Prop :=
  (∀ (s : State) (h : HlHdr) (b : EmbTableBody), (Instr.hlMsgEmbTable h b).wf = true →
    HostTakes s h ⟨0x20, 1, b.rsvd ||| mapRsvd b.map, false⟩ → (taken s h).embTableStatus h.port b = stOk → b.action = 0 →
    exec (.hlMsgEmbTable h b) s = .next (s.put
      (((taken s h).onEmb (fun e => { e with vers := e.vers ++ [newTable b] })).ack h.port b.hostTag 0 stOk 0))) ∧
  (∀ (s : State) (h : HlHdr) (b : GatherBody) (v : TableVer), (Instr.hlMsgEmbGather h b).wf = true →
    HostTakes s h ⟨0x21, 1, b.rsvd ||| bagsRsvd b.bags, false⟩ →
    (taken s h).lookupStatus h.port b.part b.table (b.rsvd != 0 || decide (16 ≤ b.part) || decide (64 ≤ b.table) || b.bags.isEmpty ||
      decide (256 < b.bags.length) || b.bags.any bagBad) (b.bags.all (fun x => x.weights.all f32Finite)) = stOk →
    (taken s h).curVer b.table = some v →
    exec (.hlMsgEmbGather h b) s = .next (s.put (((taken s h).onEmb (fun e =>
      { e with gatherId := (taken s h).emb.gatherId + 1, gathers := e.gathers ++ [newGather (taken s h) h.port b v] })).driveGathers b.part))) ∧
  (∀ (s : State) (h : HlHdr) (b : UpdateBody) (v : TableVer), (Instr.hlMsgEmbUpdate h b).wf = true →
    HostTakes s h ⟨0x22, 1, b.rsvd, false⟩ → (taken s h).curVer b.table = some v →
    (taken s h).lookupStatus h.port b.part b.table (b.rsvd != 0 || decide (16 ≤ b.part) || decide (64 ≤ b.table) || b.rows.isEmpty ||
      decide (256 < b.rows.length) || b.rows.any (fun r => decide (2 ^ 40 ≤ r.1)) || b.rows.any (fun r => r.2.length != v.width))
      (b.rows.all (fun r => r.2.all f32Finite)) = stOk →
    exec (.hlMsgEmbUpdate h b) s = .next (s.put ((b.rows.zipIdx).foldl (updateRow b.part ((taken s h).emb.updateId + 1) v)
      ((taken s h).onEmb (fun e =>
        { e with updateId := (taken s h).emb.updateId + 1, updates := e.updates ++ [newUpdate (taken s h) h.port b v] }))))) ∧
  (∀ (s : State) (h : HlHdr) (b : MigrateBody), (Instr.hlMsgEmbMigrate h b).wf = true →
    HostTakes s h ⟨0x23, 1, b.rsvd, false⟩ → (taken s h).migrateStatus h.port b = stOk → b.action ≠ 1 →
    exec (.hlMsgEmbMigrate h b) s = .next (s.put
      (((((taken s h).onWork (fun w => { w with moveId := wrapSucc 32 (taken s h).work.moveId })).onEmb (fun e =>
        { e with out := e.out ++ [newMigration (taken s h) h.port b], lastMig := (newMigration (taken s h) h.port b).id })).migStatus (newMigration (taken s h) h.port b) 1 0 0).sendNew .device b.newDevice 0
          (.migOffer (migrationOffer (taken s h) b))).2))

/-- R379: a REG_READ within the port's window is answered with the registers as `State.regRead` gives them, and changes nothing
else; one whose first register lies outside gets ST_PRIVILEGE and no value; a REG_WRITE of one register within it writes that
register and is answered with the count. -/
def Obligations.RegisterMessages : Prop :=
  (∀ (s : State) (h : HlHdr) (b : RegReadBody), (Instr.hlMsgRegRead h b).wf = true → HostTakes s h ⟨0x30, 0, b.rsvd, true⟩ →
    b.half = false → regFormOk b.offset false b.count = true →
    ((∀ k < b.count, (taken s h).inWindow h.port (b.offset + 8 * k) = true) →
      exec (.hlMsgRegRead h b) s = .next (s.put ((taken s h).hlSend h.port 0
        (.regData b.hostTag stOk ((List.range b.count).map (fun k => (s.put (taken s h)).regRead (b.offset + 8 * k))))))) ∧
    ((taken s h).inWindow h.port b.offset = false →
      exec (.hlMsgRegRead h b) s = .next (s.put ((taken s h).hlSend h.port 0 (.regData b.hostTag stPrivilege []))))) ∧
  (∀ (s : State) (h : HlHdr) (b : RegWriteBody) (v : W64), (Instr.hlMsgRegWrite h b).wf = true →
    HostTakes s h ⟨0x31, 0, b.rsvd, false⟩ → b.half = false → b.values = [v] → b.offset % 8 = 0 →
    ((taken s h).inWindow h.port b.offset = true →
      exec (.hlMsgRegWrite h b) s = .next (State.settled (State.put ((s.put (taken s h)).regWrite (.port h.port) b.offset v).2
        (((s.put (taken s h)).regWrite (.port h.port) b.offset v).2.chip.ack h.port b.hostTag 0 stOk 1)))) ∧
    ((taken s h).inWindow h.port b.offset = false →
      exec (.hlMsgRegWrite h b) s = .next (State.settled (s.put ((taken s h).ack h.port b.hostTag 0 stPrivilege 0)))))

/-- R373, R374: a LINK_SYNC of another session retrains the port; one of the port's session, in SYNC, makes it ACTIVE, stops
the hold, answers with LINK_SYNC and sends again what the host expects. R387: BULK_DATA and BULK_WRITE_ACK that name a pending
transfer end it, and a BULK_WRITE_ACK that names none is counted. -/
def Obligations.LinkMessages : Prop :=
  (∀ (s : State) (h : HlHdr) (b : SyncBody), (Instr.hlMsgLinkSync h b).wf = true → HostTakes s h ⟨0x01, 0, b.rsvd, true⟩ →
    (b.session ≠ (s.chip.reg (Reg.hlPortSession h.port)).toNat →
      exec (.hlMsgLinkSync h b) s = .next (s.put ((s.chip.bump (Reg.hlCnt 4)).retrainNow (.lateter h.port)).drainSlots)) ∧
    (b.session = (s.chip.reg (Reg.hlPortSession h.port)).toNat →
      beforeLog (s.chip.hlPort h.port).log0 (s.chip.hlPort h.port).next0 b.expect0 = false →
      beforeLog (s.chip.hlPort h.port).log2 (s.chip.hlPort h.port).next2 b.expect2 = false → s.chip.hlState h.port = 5 →
      exec (.hlMsgLinkSync h b) s = .next (s.put (((((((s.chip.bump (Reg.hlCnt 4)).setFld (Reg.hlPortStatus h.port) 63 61 3).linkLog
        (.lateter h.port) 1).stopHold h.port).sendSync h.port).resend h.port 0 b.expect0).resend h.port 2 b.expect2).drainSlots))) ∧
  (∀ (s : State) (h : HlHdr) (b : BulkDataBody) (k : Bulk), (Instr.hlMsgBulkData h b).wf = true →
    HostTakes s h ⟨0x51, 3, b.rsvd, false⟩ → (s.chip.bump (Reg.hlCnt 4)).bulkFor h.port b.tag false = some k →
    b.data.length = (if b.status = stOk then k.length else 0) →
    exec (.hlMsgBulkData h b) s = .next (s.put ((((s.chip.bump (Reg.hlCnt 4)).bulkTake b.tag).2).bulkEnded k
      (statusOf b.status) b.data).drainSlots)) ∧
  (∀ (s : State) (h : HlHdr) (b : BulkAckBody) (k : Bulk), (Instr.hlMsgBulkWriteAck h b).wf = true →
    HostTakes s h ⟨0x53, 3, b.rsvd, false⟩ → (s.chip.bump (Reg.hlCnt 4)).bulkFor h.port b.tag true = some k →
    exec (.hlMsgBulkWriteAck h b) s = .next (s.put ((((s.chip.bump (Reg.hlCnt 4)).bulkTake b.tag).2).bulkEnded k
      (statusOf b.status) []).drainSlots)) ∧
  (∀ (s : State) (h : HlHdr) (b : BulkAckBody), (Instr.hlMsgBulkWriteAck h b).wf = true →
    HostTakes s h ⟨0x53, 3, b.rsvd, false⟩ → (s.chip.bump (Reg.hlCnt 4)).bulkFor h.port b.tag true = none →
    exec (.hlMsgBulkWriteAck h b) s = .next (s.put ((s.chip.bump (Reg.hlCnt 4)).bump (Reg.hlCnt 11)).drainSlots))

/-- R382: on an ACTIVE port with no HC2 message waiting for a flit, HC2_EMIT takes the ring's first entry: where it owes its
ACK and no token waits, the ACK goes and the entry leaves; where its request has ended and all tokens are sent, HL_MSG_ENDED
goes and the entry leaves. -/
def Obligations.EmitTakesTheRingInOrder : Prop :=
  ∀ (s : State) (p : Nat) (e : RingEnt) (rest : List RingEnt) (k : Collar), (Instr.hc2Emit p).wf = true → s.chip.hlState p = 3 →
    (s.chip.hlPort p).link.out.any (fun o => o.tc == 2) = false → (s.chip.hlPort p).ring = e :: rest →
    s.chip.collar e.requestId = some k →
    (∀ tag status, e.ack = [(tag, status)] → e.result = false → e.ended = false → k.emitted ≤ k.sent →
      exec (.hc2Emit p) s = .next (s.put ((s.chip.setHlPort p { s.chip.hlPort p with ring := rest }).hlSend p 2
        (.ack tag k.img.requestId status 0)))) ∧
    (e.ack = [] → k.emitted ≤ k.sent → e.result = false → e.ended = true →
      exec (.hc2Emit p) s = .next (s.put ((s.chip.setHlPort p { s.chip.hlPort p with ring := rest }).hlSend p 2
        (.ended k.img.requestId k.img.hostTag k.img.endStatus k.emitted))))

/-! ## Phases and moves -/

namespace Sys2Proof.Machine

/-- The sequence of a placed phase (R248): its slot is 0 in the reports about a phase that is not accepted. -/
def placedSeq (c : Chip) (src : Nat) (b : PlacedPhase) : Seq :=
  c.seqOf b.collar (b.collar.lcState ≤ lcPrefill) false 0 src b.silenceMs

/-- R248: the status that the device's own role, partition, admission point and slots give a placement. -/
def placement (c : Chip) (b : PlacedPhase) : Nat :=
  c.placeStatus b.collar.part (c.phaseEngine b.collar (b.collar.lcState ≤ lcPrefill)) (b.collar.lcState ≤ lcPrefill)

/-- R250: the answer to a query about a move. -/
def answered (c : Chip) (h : FabHdr) (b : MoveBareBody) (n : Nat) : Chip :=
  (c.sendNew .device h.src 0 (.moveAnswer { common := { b.common with rsvd := 0 }, answer := n, rsvd := 0 })).2

/-- The record of the move in SENDING after its ST_OK reply (R249). -/
def sendingMove (m : MoveSrc) (b : MoveReplyBody) : MoveSrc :=
  { m with state := 2, region := b.rxRegion % 4096, offset := b.rxOffset, ready := m.ready || m.kind != 0,
           acked := m.acked || m.kind != 0 }

/-- R263: the collar of a waiting placement after the first report of its node. -/
def placedCollar (k : Collar) (src : Nat) : Collar :=
  let k := { k with place := { k.place with waiting := false, left := [] }, silence := true }
  let k := if k.place.holder.isSome then k else k.onImg (fun m => { m with homeDevice := src })
  if k.img.lcState = lcAdmitted then k.setLc lcPrefill else k

end Sys2Proof.Machine

/-- R248, R357, R358: a packet of a placement is kept until the placement is whole; a repeated one is counted; one past the limit
is refused. A whole placement whose words do not fit its layout is refused; another is accepted and reported ST_OK, or refused with a
report of `KIND` 5: with ST_ADAPTER_UNKNOWN where the device lacks the version, and counted where it lacks a slot. R264: a control
of `ACTION` 0 releases the sleeve of the placement it names and of an older one (a cancel of a sequence in a speculation round or a
recompute waits for the round's end, R205), and leaves one of a newer placement; `ACTION` 1 marks a running sequence for its pause;
`ACTION` 2 acknowledges a handoff's report. -/
def Obligations.PhaseControl : Prop :=
  (∀ (s : State) (h : FabHdr) (b : PlaceBody), (Instr.fabPktPhasePlace h b).wf = true →
    Arrives s h (.phasePlace b) (b.rsvd ||| b.common.rsvd) →
    let c := got s h (.phasePlace b)
    (4096 ≤ b.pktIndex → exec (.fabPktPhasePlace h b) s = .next (s.put (c.nackPkt ⟨h, .phasePlace b⟩ stMalformed).drainSlots)) ∧
    (b.pktIndex < 4096 → c.reassemble h b.pktIndex 0 b.data.length stOk b.data = .duplicate →
      exec (.fabPktPhasePlace h b) s = .next (s.put (c.bump (Reg.rmaCnt 9)).drainSlots)) ∧
    (b.pktIndex < 4096 → c.reassemble h b.pktIndex 0 b.data.length stOk b.data = .noRoom →
      exec (.fabPktPhasePlace h b) s = .next (s.put (c.nackPkt ⟨h, .phasePlace b⟩ stBusy).drainSlots)) ∧
    (∀ x, b.pktIndex < 4096 → c.reassemble h b.pktIndex 0 b.data.length stOk b.data = .more x →
      exec (.fabPktPhasePlace h b) s = .next (s.put (c.setCtx x).drainSlots)) ∧
    (∀ x, b.pktIndex < 4096 → c.reassemble h b.pktIndex 0 b.data.length stOk b.data = .whole x → placementOf (ctxBody x) = none →
      exec (.fabPktPhasePlace h b) s =
        .next (s.put ((c.dropCtx h.src h.msgId).nackPkt ⟨h, .phasePlace b⟩ stMalformed).drainSlots)) ∧
    (∀ x p, b.pktIndex < 4096 → c.reassemble h b.pktIndex 0 b.data.length stOk b.data = .whole x →
      placementOf (ctxBody x) = some p →
      let d := c.dropCtx h.src h.msgId
      (placement d p = stOk → d.holdsVersion p.collar.part p.collar.adapter p.collar.adapterVer = true →
        exec (.fabPktPhasePlace h b) s = .next (s.put (((d.acceptPlace p.collar (p.collar.lcState ≤ lcPrefill)
          (if p.source = 2 then some p.holder else none) h.src p.silenceMs).sendReport (placedSeq d h.src p) 0 stOk 0 0 [] []).drainSlots))) ∧
      (placement d p = stOk → d.holdsVersion p.collar.part p.collar.adapter p.collar.adapterVer = false →
        exec (.fabPktPhasePlace h b) s =
          .next (s.put ((d.sendReport (placedSeq d h.src p) 5 stAdapterUnknown 0 0 [] []).drainSlots))) ∧
      (placement d p = stPartFull →
        exec (.fabPktPhasePlace h b) s =
          .next (s.put ((d.countSlot.sendReport (placedSeq d h.src p) 5 stPartFull 0 0 [] []).drainSlots))))) ∧
  (∀ (s : State) (h : FabHdr) (b : PhaseCtrlBody), (Instr.fabPktPhaseCtrl h b).wf = true →
    Arrives s h (.phaseCtrl b) (ctrlRsvd b) →
    let c := got s h (.phaseCtrl b)
    (∀ m ∈ c.work.src, m.requestId = b.common.requestId → m.state ≠ 4) →
    (∀ q : Seq, b.action = 0 → c.seq b.common.requestId = some q → precedes 16 b.common.placement q.placement = false →
      ¬ (statusOf b.status = stAborted ∧ c.cancelWaits q = true) →
      exec (.fabPktPhaseCtrl h b) s = .next (s.put
        (((((c.purge b.common.requestId stReset).onWork (fun w =>
          { w with pulls := dropWhere (fun p => p.requestId == b.common.requestId) w.pulls })).bump (Reg.movCnt 18)).log
            { code := 0x0805, refKind := 1, ref := b.common.requestId, part := q.part }).drainSlots))) ∧
    (∀ q : Seq, b.action = 0 → c.seq b.common.requestId = some q → precedes 16 b.common.placement q.placement = false →
      statusOf b.status = stAborted → c.cancelWaits q = true →
      exec (.fabPktPhaseCtrl h b) s = .next (s.put (c.setSeq { q with cancelPend := true }).drainSlots)) ∧
    (∀ q : Seq, b.action = 0 → c.seq b.common.requestId = some q → precedes 16 b.common.placement q.placement = true →
      exec (.fabPktPhaseCtrl h b) s = .next (s.put c.drainSlots)) ∧
    (∀ q : Seq, b.action = 1 → c.seq b.common.requestId = some q → q.running = true →
      exec (.fabPktPhaseCtrl h b) s = .next (s.put (c.setSeq { q with pausePend := true }).drainSlots)) ∧
    (∀ m : MoveSrc, 2 ≤ b.action → c.moveSrc b.common.requestId = some m →
      exec (.fabPktPhaseCtrl h b) s = .next (s.put (c.setMoveSrc { m with acked := true }).drainSlots)))

/-- R263, R264: a heartbeat of the node that a placement waits for makes it the home; a refusal of that node goes on to the
next target; a running report (KIND 0, 1 or 6) of an unknown, a PAUSED or an ENDED request is answered with a control that
releases its sleeve; another report of another placement is counted and nothing else. -/
def Obligations.PhaseReports : Prop :=
  ∀ (s : State) (h : FabHdr) (b : ReportBody), (Instr.fabPktPhaseReport h b).wf = true →
    Arrives s h (.phaseReport b) (reportRsvd b) →
    let c := got s h (.phaseReport b)
    (c.collar b.common.requestId = none → (b.kind = 0 ∨ b.kind = 1 ∨ b.kind = 6) →
      exec (.fabPktPhaseReport h b) s =
        .next (s.put ((c.sendCtrl h.src b.common.requestId b.common.placement 0 stOk).drainSlots))) ∧
    (∀ k : Collar, c.collar b.common.requestId = some k → k.img.placement ≠ b.common.placement → 1 < b.kind → b.kind < 6 →
      exec (.fabPktPhaseReport h b) s = .next (s.put (c.bump (Reg.reqCnt 7)).drainSlots)) ∧
    (∀ k : Collar, c.collar b.common.requestId = some k → k.img.placement = b.common.placement →
      (k.img.lcState = lcPaused ∨ k.img.lcState = lcEnded) → (b.kind = 0 ∨ b.kind = 1 ∨ b.kind = 6) →
      exec (.fabPktPhaseReport h b) s =
        .next (s.put ((c.sendCtrl h.src b.common.requestId b.common.placement 0 stOk).drainSlots))) ∧
    (∀ k : Collar, c.collar b.common.requestId = some k → k.img.placement = b.common.placement → k.img.lcState < lcPaused →
      k.place.waiting = true → k.place.node = some h.src → h.src ≠ c.deviceId → k.pausing = false → b.kind = 0 → b.status = stBusy →
      exec (.fabPktPhaseReport h b) s = .next (s.put (c.setCollar (placedCollar k h.src)).drainSlots)) ∧
    (∀ k : Collar, c.collar b.common.requestId = some k → k.img.placement = b.common.placement → k.img.lcState < lcPaused →
      k.place.waiting = true → k.place.node = some h.src → b.kind = 5 → (statusOf b.status) = stBusy →
      exec (.fabPktPhaseReport h b) s = .next (s.put ((c.placeRefused k).heard b.common.requestId { b with status := stBusy }).drainSlots))

/-- R249: at the source of a move, the destination's ST_OK makes it SENDING and the data goes, and a refusal counts an abort
and goes on to the next target; the last data makes it AWAIT_ACK; the acknowledgement of a store or restore makes it FLIPPED:
the commit goes, and the copy is released; one of a FLIPPED move sends the commit again. A query is answered 2 for an unknown
move, 1 and a commit for one that is FLIPPED, and 0 for one that is not. -/
def Obligations.MoveAtTheSource : Prop :=
  (∀ (s : State) (h : FabHdr) (b : MoveReplyBody) (m : MoveSrc), (Instr.fabPktMoveReply h b).wf = true →
    Arrives s h (.moveReply b) (regionRsvd b.rxRegion (b.rsvd ||| b.common.rsvd) true) →
    let c := got s h (.moveReply b)
    c.work.src.find? (fun m => m.moveId == b.common.moveId && m.dest == h.src) = some m → m.state = 1 →
    (statusOf b.status = stOk →
      exec (.fabPktMoveReply h b) s = .next (s.put ((c.setMoveSrc (sendingMove m b)).moveData (sendingMove m b)).drainSlots)) ∧
    (statusOf b.status ≠ stOk →
      exec (.fabPktMoveReply h b) s =
        .next (s.put ((((c.dropMoveSrc m.moveId).bump (Reg.movCnt 2)).moveNext m).drainSlots)))) ∧
  (∀ (s : State) (req : Nat) (m : MoveSrc), (Instr.moveDataSent req).wf = true → s.chip.moveSrc req = some m → m.state = 2 →
    m.ready = true → m.acked = true → (s.chip.moveWrite m [(0, s.chip.moveHead m)]).1 = true →
    exec (.moveDataSent req) s =
      .next (s.put (((s.chip.moveWrite m [(0, s.chip.moveHead m)]).2.2.setMoveSrc { m with state := 3 }).drainSlots))) ∧
  (∀ (s : State) (h : FabHdr) (b : MoveAckBody) (m : MoveSrc), (Instr.fabPktMoveAck h b).wf = true →
    Arrives s h (.moveAck b) (b.rsvd ||| b.common.rsvd) →
    let c := got s h (.moveAck b)
    c.work.src.find? (fun m => m.moveId == b.common.moveId && m.dest == h.src) = some m →
    (m.state = 4 → exec (.fabPktMoveAck h b) s = .next (s.put (c.sendCommit m).drainSlots)) ∧
    (m.state = 3 → m.kind ≠ 0 →
      exec (.fabPktMoveAck h b) s = .next (s.put ((((((c.setMoveSrc { m with state := 4 }).bump (Reg.movCnt 1)).sendCommit m).releaseSleeve
        m.requestId).dropStored m.requestId).drainSlots)))) ∧
  (∀ (s : State) (h : FabHdr) (b : MoveBareBody), (Instr.fabPktMoveQuery h b).wf = true →
    Arrives s h (.moveQuery b) (b.rsvd ||| b.common.rsvd) →
    let c := got s h (.moveQuery b)
    c.migQuery h b.common.moveId = none →
    (c.work.src.find? (fun m => m.moveId == b.common.moveId && m.dest == h.src) = none →
      exec (.fabPktMoveQuery h b) s = .next (s.put (answered c h b 2).drainSlots)) ∧
    (∀ m : MoveSrc, c.work.src.find? (fun m => m.moveId == b.common.moveId && m.dest == h.src) = some m →
      (m.state = 4 → exec (.fabPktMoveQuery h b) s = .next (s.put ((answered c h b 1).sendCommit m).drainSlots)) ∧
      (m.state ≠ 4 → exec (.fabPktMoveQuery h b) s = .next (s.put (answered c h b 0).drainSlots))))

/-- R250, R268: at the destination of a move, an offer that a partition takes reserves its pages and its range and is answered
ST_OK with them; one refused for another reason than room is answered with the status; the commit of an acknowledged move makes
the device the home; an abort discards; an answer acts as R250's table says. A pull of a stored sleeve starts its restore move,
and of a sleeve that is not here is answered ST_STATE_LOST. -/
def Obligations.MoveAtTheDestination : Prop :=
  (∀ (s : State) (h : FabHdr) (b : OfferBody), (Instr.fabPktMoveOffer h b).wf = true →
    Arrives s h (.moveOffer b) (offerRsvd b) →
    let c := got s h (.moveOffer b)
    (∀ p n dr r o, c.offerPart h b = (stOk, p) → c.offerShape p b = some (n, dr) → c.moveWindow p = some r →
      c.carveRange r (slotsStart n b.pages + b.pages * c.slotSize p) = some o →
      exec (.fabPktMoveOffer h b) s = .next (s.put (((c.acceptOffer h b p r o (slotsStart n b.pages + b.pages * c.slotSize p) n
        dr).sendReply h b.common stOk r o).drainSlots))) ∧
    (∀ st p, c.offerPart h b = (st, p) → st ≠ stOk → st ≠ stPartFull →
      exec (.fabPktMoveOffer h b) s = .next (s.put (c.sendReply h b.common st 0 0).drainSlots))) ∧
  (∀ (s : State) (h : FabHdr) (b : MoveBareBody) (d : MoveDst), (Instr.fabPktMoveCommit h b).wf = true →
    Arrives s h (.moveCommit b) (b.rsvd ||| b.common.rsvd) → (got s h (.moveCommit b)).moveDst h.src b.common.moveId = some d →
    d.state = 2 → exec (.fabPktMoveCommit h b) s = .next (s.put ((got s h (.moveCommit b)).moveHome d).drainSlots)) ∧
  (∀ (s : State) (h : FabHdr) (b : MoveAbortBody) (d : MoveDst), (Instr.fabPktMoveAbort h b).wf = true →
    Arrives s h (.moveAbort b) (b.rsvd ||| b.common.rsvd) → (got s h (.moveAbort b)).moveDst h.src b.common.moveId = some d →
    exec (.fabPktMoveAbort h b) s = .next (s.put ((got s h (.moveAbort b)).discardMove d).drainSlots)) ∧
  (∀ (s : State) (h : FabHdr) (b : MoveAnswerBody) (d : MoveDst), (Instr.fabPktMoveAnswer h b).wf = true →
    Arrives s h (.moveAnswer b) (answerRsvd b) →
    let c := got s h (.moveAnswer b)
    c.moveDst h.src b.common.moveId = some d → (b.answer = 2 ∨ d.state = 2) →
    exec (.fabPktMoveAnswer h b) s = .next (s.put ((migAnswer
      (if b.answer = 2 then c.discardMove d
       else if b.answer = 0 then (c.setMoveDst { d with queries := 0 }).sendMoveAck { d with queries := 0 }
       else (c.setMoveDst { d with queries := 0 }).moveHome { d with queries := 0 }) h b.common.moveId b.answer).drainSlots))) ∧
  (∀ (s : State) (h : FabHdr) (b : MovePullBody), (Instr.fabPktMovePull h b).wf = true →
    Arrives s h (.movePull b) (b.rsvd ||| b.common.rsvd) →
    let c := got s h (.movePull b)
    (∀ t c', c.stored? b.common.requestId = some t → c.storedOk t = true → c.moveSrc b.common.requestId = none →
      c.startMove t.seq 2 b.common.placement t.seq.c t.pages.length (c.ttlLeft t.seq) [h.src] = some c' →
      exec (.fabPktMovePull h b) s = .next (s.put c'.drainSlots)) ∧
    (c.heldSleeve b.common.requestId = none →
      exec (.fabPktMovePull h b) s = .next (s.put ((c.sendNew .device h.src 0
        (.moveAbort { common := { b.common with rsvd := 0 }, status := stStateLost, rsvd := 0 })).2).drainSlots)))

/-- R249 to R252: the timers of a move. An offer or an acknowledgement that does not come fails the attempt, and a placement that
is not answered goes to its next target under a new number; a destination that waits for its commit asks up to four times, each
counted, and then discards; a FLIPPED record expires. A local move of a paused sleeve stores it, or drops it where it does not fit
(R266); one of a placement that restores on the holder's own device brings the sleeve back (R268). R263, R267, R268: a running
phase of another anchor reports whether it made progress; an anchor whose phase is silent releases it, counts and logs it, and
places it again; a restore that takes too long is counted and rebuilt, and so is a swap back from T4; a stored sleeve whose time
is over is dropped, counted, logged and reported. Each of the nine timers (`localMoveCompletes`, `moveOfferWait`, `moveAckWait`,
`moveCommitWait`, `moveRecordExpires`, `phaseReportInterval`, `decodeSilenceLimit`, `restoreMs`, `ttlFull`) completes in every
state. -/
def Obligations.MoveAndRequestTimers : Prop :=
  (∀ (s : State) (req : Nat) (m : MoveSrc), (Instr.moveOfferWait req).wf = true → s.chip.collar req = none →
    s.chip.moveSrc req = some m → m.state = 1 →
    exec (.moveOfferWait req) s = .next (s.put (((s.chip.dropMoveSrc m.moveId).bump (Reg.movCnt 2)).moveNext m).drainSlots)) ∧
  (∀ (s : State) (req : Nat) (k : Collar), (Instr.moveOfferWait req).wf = true → s.chip.collar req = some k →
    k.place.waiting = true → (s.chip.placeRefused k.nextPlacement).moveSrc req = none →
    exec (.moveOfferWait req) s = .next (s.put (s.chip.placeRefused k.nextPlacement).drainSlots)) ∧
  (∀ (s : State) (id : Nat) (m : MoveSrc), (Instr.moveAckWait id).wf = true →
    s.chip.work.src.find? (fun m => m.moveId == id) = some m → m.state = 3 →
    exec (.moveAckWait id) s = .next (s.put (migWait (((s.chip.abortMove m stTimeout)).moveNext m) id).drainSlots)) ∧
  (∀ (s : State) (src id : Nat) (d : MoveDst), (Instr.moveCommitWait src id).wf = true → s.chip.moveDst src id = some d →
    (d.queries < 4 →
      exec (.moveCommitWait src id) s = .next (s.put (migCommitWait ((((s.chip.setMoveDst { d with queries := d.queries + 1 }).bump
        (Reg.movCnt 5)).sendNew (.part d.part) src 0 (.moveQuery { common := d.common, rsvd := 0 })).2) src id).drainSlots)) ∧
    (4 ≤ d.queries → exec (.moveCommitWait src id) s = .next (s.put (migCommitWait (s.chip.discardMove d) src id).drainSlots))) ∧
  (∀ (s : State) (id : Nat) (m : MoveSrc), (Instr.moveRecordExpires id).wf = true →
    s.chip.work.src.find? (fun m => m.moveId == id) = some m →
    (m.state = 4 → exec (.moveRecordExpires id) s = .next (s.put (s.chip.dropMoveSrc id))) ∧
    (m.state ≠ 4 → exec (.moveRecordExpires id) s = .next s)) ∧
  (∀ (s : State) (req : Nat) (q : Seq), (Instr.localMoveCompletes req).wf = true → s.chip.seq req = some q →
    s.chip.moveSrc req = none → q.phase = .hold →
    (∀ c, s.chip.storeLocal q = some c → exec (.localMoveCompletes req) s = .next (s.put (c.reportHome q false).drainSlots)) ∧
    (s.chip.storeLocal q = none → exec (.localMoveCompletes req) s = .next (s.put (s.chip.dropPaused q true).drainSlots))) ∧
  (∀ (s : State) (req : Nat) (q : Seq) (st : Stored), (Instr.localMoveCompletes req).wf = true → s.chip.seq req = some q →
    q.phase = .restoring → s.chip.stored? req = some st → s.chip.work.pulls.any (fun p => p.requestId == req) = false →
    exec (.localMoveCompletes req) s = .next (s.put (s.chip.localRestored q st).drainSlots)) ∧
  (∀ (s : State) (req : Nat) (q : Seq), (Instr.phaseReportInterval req).wf = true → s.chip.seq req = some q →
    q.anchor ≠ s.chip.deviceId →
    (q.progress = true → exec (.phaseReportInterval req) s =
      .next (s.put ((s.chip.setSeq { q with progress := false }).sendReport q 0 stOk 0 0 [] []))) ∧
    (beatStatus q = stBusy → exec (.phaseReportInterval req) s =
      .next (s.put ((s.chip.setSeq { q with progress := false }).sendReport q 0 stBusy 0 0 [] [])))) ∧
  (∀ (s : State) (req : Nat) (k : Collar) (d : Nat), (Instr.decodeSilenceLimit req).wf = true → s.chip.collar req = some k →
    k.silence = true → k.img.lcState ≤ lcDecode → k.place.node = some d →
    (k.img.lcState = lcDecode →
      exec (.decodeSilenceLimit req) s = .next (s.put (((((s.chip.sendCtrl d req k.img.placement 0 stTimeout).bump (Reg.reqCnt 6)).log
        { code := 0x040C, refKind := 1, ref := req, part := k.img.part }).replace k (some d)).drainSlots))) ∧
    (k.img.lcState ≠ lcDecode →
      exec (.decodeSilenceLimit req) s = .next (s.put ((((s.chip.sendCtrl d req k.img.placement 0 stTimeout).log
        { code := 0x040C, refKind := 1, ref := req, part := k.img.part }).replace k (some d)).drainSlots)))) ∧
  (∀ (s : State) (req : Nat) (q : Seq), (Instr.restoreMs req).wf = true → s.chip.seq req = some q → q.phase = .restoring →
    s.chip.work.pulls.find? (fun p => p.requestId == req) = none →
    exec (.restoreMs req) s = .next (s.put ((((s.chip.bump (Reg.movCnt 11)).dropHeld req).restoreLost q).drainSlots))) ∧
  (∀ (s : State) (req : Nat) (q : Seq), (Instr.restoreMs req).wf = true → s.chip.seq req = some q → q.phase ≠ .restoring →
    q.swapped.any (fun x => x.reading) = true →
    exec (.restoreMs req) s = .next (s.put ((s.chip.bump (Reg.movCnt 11)).swapLost q).drainSlots)) ∧
  (∀ (s : State) (req : Nat) (t : Stored), (Instr.ttlFull req).wf = true → s.chip.stored? req = some t →
    s.chip.moveSrc req = none →
    exec (.ttlFull req) s = .next (s.put (((((s.chip.dropStored req).bump (Reg.movCnt 16)).log
      { code := 0x0807, refKind := 1, ref := req, part := t.seq.part }).reportHome t.seq true).drainSlots))) ∧
  (∀ req id src : Nat, Completes (.localMoveCompletes req) ∧ Completes (.moveOfferWait req) ∧ Completes (.moveAckWait id) ∧
    Completes (.moveCommitWait src id) ∧ Completes (.moveRecordExpires id) ∧ Completes (.phaseReportInterval req) ∧
    Completes (.decodeSilenceLimit req) ∧ Completes (.restoreMs req) ∧ Completes (.ttlFull req))


/-! ## Steps, streams and stations -/

namespace Sys2Proof.Machine

/-- The event of a fenced station (R63, R81). -/
def fenceEvent (c : Chip) (k : Nat) : EvArgs :=
  { code := 0x2001, domain := some (keyDomain k), refKind := 3, ref := k, part := if c.stnOwner k < 16 then c.stnOwner k else 0xFF }

/-- A station that gets its first cause (R63). -/
def fencedStation (c : Chip) (k cause : Nat) : Chip :=
  (((c.noteState k).setFlds (stnReg k) [(34, 31, cause), (30, 29, 1)]).log (fenceEvent c k)).stationsChanged [k] true

/-- The instance of a tile's or a report's stream. -/
def SrcCtx.inst (x : SrcCtx) : StreamInst := x.t.stream x.pl x.s x.layer

/-- The instance as a tile finds it: its sinks' slots that the station no longer holds are free again (R71). -/
def SrcCtx.freed (x : SrcCtx) : StreamInst := x.slotsFreed x.inst

/-- The step of a stream after its layer's joins that can fire have fired (R69). -/
def SrcCtx.fired (x : SrcCtx) : SrcCtx :=
  { x with c := (x.c.fireLayer x.t x.pl x.draft x.layer).2.setStep (x.c.fireLayer x.t x.pl x.draft x.layer).1,
           t := (x.c.fireLayer x.t x.pl x.draft x.layer).1 }

/-- The tile that reaches the sink: what the source makes, but a pleated read brings the bytes that the tier read (R124). -/
def SrcCtx.arrived (x : SrcCtx) (made tile : Tile) : Tile :=
  if x.isLd && x.s.pleated && made.tag.kind == .data && !tile.bytes.isEmpty then { made with bytes := tile.bytes } else made

/-- A step after every join of its layers that can fire has fired. -/
def firedAll (c : Chip) (t : Step) (pl : PlanD) : Step × Chip :=
  let r := pl.keys.foldl (fun (a : Step × Chip) l => a.2.fireLayer a.1 pl t.passPlan.2 l) (t, c)
  (r.1, r.2.setStep r.1)

/-- Every segment of a step commits, in the order of its slots (R152). -/
def commitAll (c : Chip) (t : Step) (pl : PlanD) : Chip := (bySlot t.segs).foldl (fun c x => c.commitSeg t pl x.2 x.1) c

/-- R259: whether a block that a stream awaits from a board copy cannot be read there. -/
def SrcCtx.copyBad (x : SrcCtx) (p : Nat) : Bool :=
  (x.c.decl p).any (fun d => x.inst.sinks.any (fun k => k.withheld.any (fun w => w.attempts == 2) &&
    k.withheld.any (fun w => x.secondBad (if x.draft then d.draft2 else d.base2) w)))

/-- A sink with no tile of a second source outstanding (R259). -/
def cleared (k : SinkInst) : SinkInst := if k.withheld.any (fun w => w.attempts == 2) then { k with withheld := none } else k

end Sys2Proof.Machine

/-- R237: a step is composed and launched on an engine of a partition that runs and has no refit due; a partition that refuses
work launches none. R179 to R181: a self-paused sequence whose pages can be granted goes on and keeps them, one that is alone
and cannot grow gives up, and one paused too long gives up, counted. -/
def Obligations.StepsStart : Prop :=
  (∀ (s : State) (p eng : Nat), (Instr.stepLaunch p eng).wf = true →
    (s.chip.partRefusal p = stOk → s.chip.role ≠ 3 → s.chip.refitDue p = false →
      exec (.stepLaunch p eng) s = .next (s.put ((((s.chip.wakeWaiting p).fillStep p eng).c.launchStep
        ((s.chip.wakeWaiting p).fillStep p eng)).drainSlots))) ∧
    (s.chip.partRefusal p ≠ stOk → exec (.stepLaunch p eng) s = .next (s.put s.chip.drainSlots))) ∧
  (∀ (s : State) (req : Nat) (q : Seq), (Instr.selfPauseRetry req).wf = true → s.chip.seq req = some q → q.paused = true →
    (q.swapped ≠ [] → exec (.selfPauseRetry req) s = .next (s.put (s.chip.swapBack q).drainSlots)) ∧
    (∀ r, q.swapped = [] →
      let c := if q.recompute && !q.started then s.chip.startRecompute q else s.chip
      (c.seq req).filter (fun q => q.phase == SeqPhase.prompt || q.phase == SeqPhase.decode) = some r →
      (∀ q' c', c.grow r (c.workPages r) [] = (.got, q', c') →
        exec (.selfPauseRetry req) s = .next (s.put ((c'.setSeq { q' with paused := false }).drainSlots))) ∧
      (∀ q' c', c.grow r (c.workPages r) [] = (.alone, q', c') →
        exec (.selfPauseRetry req) s = .next (s.put (((c'.setSeq q').giveUp q').drainSlots))) ∧
      (∀ res q' c', c.grow r (c.workPages r) [] = (res, q', c') → (res = .wait ∨ res = .short) →
        exec (.selfPauseRetry req) s = .next (s.put ((c'.setSeq q').drainSlots))))) ∧
  (∀ (s : State) (req : Nat) (q : Seq), (Instr.selfPauseLimit req).wf = true → s.chip.seq req = some q →
    (q.paused = true → exec (.selfPauseLimit req) s = .next (s.put ((s.chip.bump (Reg.kvPressCnt 7)).giveUp q).drainSlots)) ∧
    (q.paused = false → exec (.selfPauseLimit req) s = .next (s.put s.chip.drainSlots)))

/-- R58, R83, R431: a tile of an open stream at one of its sinks whose reset epoch is not the source domain's ends its stream
with ST_DOMAIN_RESET and is counted. R67: a data tile with no row or column, and one beyond the declared count, ends it with
ST_MALFORMED_MESSAGE. R65, R71: any other waits for its source and for a credit of that sink; with both, what the source makes
of its operands is sent, and the sink opens it; R258: an uncorrectable read of an LD or EM source takes its tier's outcome instead.
R127: a refetched block takes the place of the damaged one. -/
def Obligations.TilesArrive : Prop :=
  (∀ (s : State) (p sink : Nat) (tile : Tile) (hdrs : List W64) (tierError : Bool) (x : SrcCtx),
    (Instr.tileArrives p sink tile hdrs tierError).wf = true → s.chip.tileStream p tile.tag = some x → x.freed.closed = false →
    (x.pl.sinksOf x.s).contains sink = true → (x.freed.sink sink).withheld = none →
    (tile.tag.resetEpoch ≠ s.chip.domEpoch (x.t.srcDomain x.s) →
      exec (.tileArrives p sink tile hdrs tierError) s =
        .next (s.put ((s.chip.bump (Reg.pwrCnt 0)).breakStream x.t x.freed stReset).drainSlots)) ∧
    (tile.tag.resetEpoch = s.chip.domEpoch (x.t.srcDomain x.s) → tile.tag.kind = .data → (tile.tag.rows = 0 ∨ tile.tag.cols = 0) →
      exec (.tileArrives p sink tile hdrs tierError) s = .next (s.put (s.chip.breakStream x.t x.freed stMalformed).drainSlots)) ∧
    (tile.tag.resetEpoch = s.chip.domEpoch (x.t.srcDomain x.s) →
      overCount x.s x.kv ((x.freed.sink sink).band tile.tag.band) tile.tag.kind = true →
      exec (.tileArrives p sink tile hdrs tierError) s = .next (s.put (s.chip.breakStream x.t x.freed stMalformed).drainSlots)) ∧
    (x.refused (x.freed.sink sink) tile.tag = none → x.fired.sent sink (x.freed.sink sink) tile = none →
      exec (.tileArrives p sink tile hdrs tierError) s = .next (s.put x.fired.c.drainSlots)) ∧
    (∀ made, x.refused (x.freed.sink sink) tile.tag = none → x.fired.sent sink (x.freed.sink sink) tile = some made →
      (x.freed.maySend (x.freed.sink sink) made.tag.kind = false →
        exec (.tileArrives p sink tile hdrs tierError) s = .next (s.put x.fired.c.drainSlots)) ∧
      (x.freed.maySend (x.freed.sink sink) made.tag.kind = true → tierError = false →
        exec (.tileArrives p sink tile hdrs tierError) s =
          .next (s.put ((x.fired.send x.freed sink (x.fired.arrived made tile) hdrs).1.open_
            (x.fired.send x.freed sink (x.fired.arrived made tile) hdrs).2 sink (x.fired.arrived made tile) hdrs).drainSlots)) ∧
      (x.freed.maySend (x.freed.sink sink) made.tag.kind = true → tierError = true → x.isLd = true →
        (made.tag.kind = .data ∨ made.tag.kind = .anchors) →
        exec (.tileArrives p sink tile hdrs tierError) s =
          .next (s.put (x.fired.tierFault x.freed sink (x.fired.arrived made tile) hdrs).drainSlots)) ∧
      (x.freed.maySend (x.freed.sink sink) made.tag.kind = true → tierError = true → roleKind x.s.src = 7 →
        exec (.tileArrives p sink tile hdrs tierError) s =
          .next (s.put ((((x.fired.c.bump (Reg.movCnt 13)).log { code := 0x0802, refKind := 3, ref := x.s.id, part := p }).endStream
            x.fired.t x.freed stUncorrectable).endSegs x.fired.t stUncorrectable).drainSlots)))) ∧
  (∀ (s : State) (p sink : Nat) (tile : Tile) (hdrs : List W64) (x : SrcCtx) (w : Withheld),
    (Instr.pleatRefetchCompletes p sink ⟨none, tile, hdrs⟩ false).wf = true → s.chip.tileStream p tile.tag = some x →
    x.inst.closed = false → (x.inst.sink sink).withheld = some w → w.attempts = 1 → w.tile.tag.tileIndex = tile.tag.tileIndex →
    exec (.pleatRefetchCompletes p sink ⟨none, tile, hdrs⟩ false) s =
      .next (s.put (x.expand x.inst sink (x.withBlock w tile.bytes hdrs).tile (x.withBlock w tile.bytes hdrs).hdrs
        (some w.block)).drainSlots))

/-- R75: an unpleated stream that has delivered all its tiles, has no expander stall and is not the output of an attention join
completes with ST_OK, its record is kept, it is closed, and the lists that were bound to it at the launch advance (R361; which
lists is a free value, log entry 108). R257: a tier stream that delivered nothing by its deadline is
counted by its late class, and logged in class 0. R259: the second source's read ends the refetch, or loses the weights. -/
def Obligations.StreamsEnd : Prop :=
  (∀ (s : State) (p sq id layer credit anchor tier : Nat) (x : SrcCtx),
    (Instr.streamCompletes p sq id layer credit anchor 0 tier).wf = true → s.chip.stepStream p sq id layer = some x →
    x.inst.closed = false → x.done x.inst = true → x.s.pleated = false → x.s.lateClass ≠ 3 →
    x.pl.allJ.any (fun j => j.kind == 3 && attendOut j == x.s.id) = false →
    exec (.streamCompletes p sq id layer credit anchor 0 tier) s = .next (s.put
      ((((s.chip.complete x.t.part { (x.inst.record stOk) with credit := credit, anchor := anchor, expander := 0, tier := tier }).setStep
        (x.t.setStream { x.inst with closed := true })).advanceBound x.t.bound x.s.id).drainSlots))) ∧
  (∀ (s : State) (p sq id layer : Nat) (x : SrcCtx),
    (Instr.streamDeadline p sq id layer).wf = true → s.chip.stepStream p sq id layer = some x → x.s.deadline ≠ 0 →
    x.isLd = true → x.inst.closed = false → x.inst.delivered = 0 → x.inst.suppressed = 0 →
    (x.s.lateClass = 0 → exec (.streamDeadline p sq id layer) s =
      .next (s.put (((s.chip.bump (Reg.movCnt 9)).log { code := 0x0801, refKind := 3, ref := id, part := p }).drainSlots))) ∧
    (x.s.lateClass = 1 → x.draft = false →
      exec (.streamDeadline p sq id layer) s = .next (s.put (s.chip.bump (Reg.movCnt 10)).drainSlots)) ∧
    (x.s.lateClass = 2 →
      exec (.streamDeadline p sq id layer) s = .next (s.put (x.dropLate (s.chip.bump (Reg.movCnt 11))).drainSlots))) ∧
  (∀ (s : State) (p : Nat) (dr : Bool) (sq id layer status : Nat) (x : SrcCtx),
    (Instr.secondSourceReadCompletes p dr sq id layer status).wf = true → s.chip.stepStream p sq id layer = some x →
    x.draft = dr → x.inst.sinks.any (fun k => k.withheld.any (fun w => w.attempts == 2)) = true →
    (x.copyBad p = false → status = stOk → exec (.secondSourceReadCompletes p dr sq id layer status) s = .next (s.put
      (s.chip.setStep (x.t.setStream { x.inst with sinks := x.inst.sinks.map cleared })).drainSlots)) ∧
    (x.copyBad p = false → status ≠ stOk → exec (.secondSourceReadCompletes p dr sq id layer status) s = .next (s.put
      (((s.chip.endStream x.t x.inst stWeightLost).loseWeights p).drainSlots))) ∧
    (x.copyBad p = true → s.chip.domUp 5 = false → exec (.secondSourceReadCompletes p dr sq id layer status) s = .next (s.put
      (((s.chip.endStream x.t x.inst stWeightLost).loseWeights p).drainSlots))) ∧
    (x.copyBad p = true → s.chip.domUp 5 = true → exec (.secondSourceReadCompletes p dr sq id layer status) s = .next (s.put
      ((((((s.chip.bump (Reg.movCnt 13)).bump Reg.bmEccUncorrectable).log { code := 0x0802, refKind := 3, ref := x.s.id, part := p }
        ).endStream x.t x.inst stWeightLost).loseWeights p).drainSlots))))

/-- R74: the joins that can fire fire; a step whose joins are all made then commits every segment, in the order of the slots, and
leaves (a recompute step is counted); a draft pass goes on with the next pass first; one that is not ready waits. R84: the first
watchdog of a step logs and launches it again. R81: a station without a cause that has a storage error is fenced with cause 2. -/
def Obligations.StepsEnd : Prop :=
  (∀ (s : State) (p sq : Nat) (t : Step) (pl : PlanD), (Instr.commitJoin p sq).wf = true → s.chip.step? p sq = some t →
    s.chip.passPlan t = some pl → t.abandoned = false →
    let r := firedAll s.chip t pl
    (r.2.commitReady r.1 pl r.1.passPlan.2 = false → exec (.commitJoin p sq) s = .next (s.put (r.2.driveGathers p).drainSlots)) ∧
    (r.2.commitReady r.1 pl r.1.passPlan.2 = true → r.1.passPlan.1 = 4 →
      exec (.commitJoin p sq) s = .next (s.put (r.2.nextPass r.1).drainSlots)) ∧
    (r.2.commitReady r.1 pl r.1.passPlan.2 = true → r.1.passPlan.1 ≠ 4 →
      (r.1.kind ≠ 3 → exec (.commitJoin p sq) s =
        .next (s.put (((commitAll ((r.2.closeStreams r.1 stOk).dropStep r.1) r.1 pl).wakeWaiting p).drainSlots))) ∧
      (r.1.kind = 3 → exec (.commitJoin p sq) s =
        .next (s.put (((commitAll (((r.2.closeStreams r.1 stOk).dropStep r.1).bump (Reg.kvPressCnt 12)) r.1 pl).wakeWaiting p).drainSlots))))) ∧
  (∀ (s : State) (p sq : Nat) (t : Step), (Instr.stepWatchdog p sq).wf = true → s.chip.step? p sq = some t → t.abandoned = false →
    t.retried = false → exec (.stepWatchdog p sq) s = .next (s.put
      (((s.chip.log { code := 0x0408, refKind := 3, ref := sq, part := p }).relaunch { t with retried := true } stReset []).drainSlots))) ∧
  (∀ (s : State) (r : StationRef), (Instr.stationStorageError r).wf = true → s.chip.fld (stnReg (stnKey r)) 34 31 = 0 →
    exec (.stationStorageError r) s = .next (s.put (fencedStation s.chip (stnKey r) 2).drainSlots))

/-- R63: the owner port's fence of a quadrant station without a cause gives it cause 4 and is logged; an unfence of a station
with cause 4 gives it no cause; an unfence of any other station is refused and logged. R78: the refit that is due runs, and the
partition's work is launched again. -/
def Obligations.StationsFencedByTheOwner : Prop :=
  (∀ (s : State) (port quad i : Nat), (Instr.stationFence port quad i).wf = true → OwnerPort s port →
    s.chip.fld (stnReg (128 * quad + i)) 34 31 = 0 →
    exec (.stationFence port quad i) s = .next ((s.put (fencedStation s.chip (128 * quad + i) 4)).settled)) ∧
  (∀ (s : State) (port quad i : Nat), (Instr.stationUnfence port quad i).wf = true → OwnerPort s port →
    (s.chip.fld (stnReg (128 * quad + i)) 34 31 = 4 →
      exec (.stationUnfence port quad i) s = .next ((s.put (((s.chip.noteState (128 * quad + i)).setFlds (stnReg (128 * quad + i))
        [(34, 31, 0), (30, 29, if s.chip.domUp (keyDomain (128 * quad + i)) then 0 else 2)]).stationsChanged
          [128 * quad + i] false)).settled)) ∧
    (s.chip.fld (stnReg (128 * quad + i)) 34 31 ≠ 4 →
      exec (.stationUnfence port quad i) s = .next ((s.put
        (s.chip.log { code := 0x2002, domain := some (16 + quad), refKind := 3, ref := 128 * quad + i })).settled))) ∧
  (∀ (s : State) (p : Nat), (Instr.refitCompletes p).wf = true → s.chip.work.refitting = some p → s.chip.work.refitAgain = [] →
    s.chip.work.refitOld = [] →
    (s.chip.onWork (fun w => { w with refitting := none, refitAgain := [], refitOld := [] })).partState p = 2 →
    (((s.chip.onWork (fun w => { w with refitting := none, refitAgain := [], refitOld := [] })).refit p).refitDue p) = false →
    exec (.refitCompletes p) s = .next (s.put
      (((s.chip.onWork (fun w => { w with refitting := none, refitAgain := [], refitOld := [] })).refit p).relaunchAll p).drainSlots))

/-! ## Partitions, adapters, customers and KV -/

/-- R218: the owner's reload of a loaded partition makes it RELOADING and ends what runs on it. R402, R386: pulled images of
the declared measures whose sources may be read are loaded, and a base image that is not loses the weights. R222: a loaded
adapter that fits and has its measure becomes CURRENT, is counted, logged and measured where its ID has no CURRENT version; one
that does not frees its slot, is logged and is refused to the port that installed it. -/
def Obligations.Loads : Prop :=
  (∀ (s : State) (port p : Nat), (Instr.partReload port p).wf = true → OwnerPort s port → 2 ≤ s.chip.partState p →
    s.chip.partState p ≠ 6 →
    exec (.partReload port p) s = .next ((s.put
      (((s.chip.setPartState p 6).setFld (Reg.partModeStatus p) 15 15 0).stopPart p)).settled)) ∧
  (∀ (s : State) (p : Nat) (base draft : PullResult) (d : PartDecl), (Instr.partitionLoadCompletes p base draft).wf = true →
    s.chip.decl p = some d → s.chip.loadTurn p = true →
    (∀ b m, s.chip.pulled p d.baseSrc base d.baseMeas = some b → d.draftMeas ≠ 0 → s.chip.pulled p d.draftSrc draft d.draftMeas = some m →
      exec (.partitionLoadCompletes p base draft) s =
        .next (State.bootCheck (s.put (s.chip.loadImages p d b (some m) (s.chip.partState p == 6)).drainSlots))) ∧
    (∀ b, s.chip.pulled p d.baseSrc base d.baseMeas = some b → d.draftMeas = 0 → exec (.partitionLoadCompletes p base draft) s =
      .next (State.bootCheck (s.put (s.chip.loadImages p d b none (s.chip.partState p == 6)).drainSlots))) ∧
    (s.chip.pulled p d.baseSrc base d.baseMeas = none → exec (.partitionLoadCompletes p base draft) s =
      .next (State.bootCheck (s.put (s.chip.weightsLost p).drainSlots)))) ∧
  (∀ (s : State) (slot : Nat) (fits : Bool) (digest status : Nat) (i : Install),
    (Instr.adapterLoadCompletes slot fits digest status).wf = true → s.chip.work.installs.find? (fun i => i.slot == slot) = some i →
    i.waiting = false → s.chip.slotState slot = 1 → status = stOk →
    let dropped := s.chip.onWork (fun w => { w with installs := dropWhere (fun j => j.slot == slot) w.installs })
    ((fits = false ∨ digest ≠ i.measure) → exec (.adapterLoadCompletes slot fits digest status) s = .next (s.put
      ((((dropped.freeAdapter slot).log { code := 0x040A, part := i.part, refKind := 3, ref := Reg.adapterSlot slot 0 }).ack i.port i.tag
        0 stImageInvalid 0).drainSlots))) ∧
    (fits = true → digest = i.measure → s.chip.adapterSlots i.part i.adapter [2] = [] →
      exec (.adapterLoadCompletes slot fits digest status) s = .next (s.put
        ((((((((dropped.nextVersion i.part i.adapter).2.setReg (Reg.adapterSlot slot 0) (wordOf [(63, 32,
          (dropped.nextVersion i.part i.adapter).1), (31, 16, i.adapter), (15, 4, i.customer), (3, 0, i.part)])).setReg
          (Reg.adapterSlot slot 1) (wordOf [(63, 61, 2), (60, 55, i.rank / 8)])).onWork (fun w =>
            { w with lostSlots := dropWhere (fun x => x == slot) w.lostSlots, slotMeas := assocPut w.slotMeas slot i.measure })).extend 6 8 slot (leBytes i.measure 32)).bump
          (Reg.reqCnt 10)).log { code := 0x0409, part := i.part, refKind := 3, ref := Reg.adapterSlot slot 0 }).ack i.port i.tag 0 stOk
            (dropped.nextVersion i.part i.adapter).1).drainSlots)))

/-- R235: at the period's end every customer that the last period's registers name is refilled, and the registers of the next
period are taken. R240: a snapshot copies the 64 bins and may zero them. R150: a new share mode of a partition flushes its index
and is logged. R473: KV_DESC_SEL shows the selected frame; a FREE frame
shows zero but for its partition (the model's choice, log entry 99). -/
def Obligations.CustomersAndShares : Prop :=
  (∀ s : State, s.chip.boot.img.isSome = true →
    exec .tenRefill s = .next (s.put
      (let c := ((s.chip.work.tenApplied.filter (fun e => decide (0x408000 ≤ e.1) && e.1 % 0x40 == 8)).map
          (fun e => (e.1 - 0x408000) / 0x40)).foldl (fun c k => c.refillOne k c.work.refill) s.chip
       c.onWork (fun w => { w with tenApplied := c.regs.filter (fun e => tickReg e.1), refill := c.fld Reg.tenRefillCtrl 15 0 })))) ∧
  (∀ (s : State) (port cust : Nat) (zero : Bool), (Instr.tenHistSnap port cust zero).wf = true → OwnerPort s port →
    exec (.tenHistSnap port cust zero) s = .next (s.put (tenHistSnap s.chip cust zero))) ∧
  (∀ (s : State) (port p : Nat) (v : W64), (Instr.kvShareWrite port p v).wf = true → OwnerPort s port →
    exec (.kvShareWrite port p v) s = .next (s.put
      (let w := rwWrite shareFields none (s.chip.reg (Reg.kvPartShare p)) v
       let c := s.chip.setReg (Reg.kvPartShare p) w
       if fieldOf (s.chip.reg (Reg.kvPartShare p)) 1 0 = fieldOf w 1 0 then c
       else (c.flushIndex p).log { code := 0x0A01, part := p }))) ∧
  (∀ (s : State) (port : Nat) (v : W64), (Instr.kvDescSel port v).wf = true → OwnerPort s port →
    (s.chip.frameAt (fieldOf v 21 20) (fieldOf v 19 0) = none →
      exec (.kvDescSel port v) s = .next (s.put ((upTo 8).foldl (fun c i => c.setReg (Reg.kvDescData i) 0#64)
        (s.chip.setReg Reg.kvDescSel (wordOf [(21, 20, fieldOf v 21 20), (19, 0, fieldOf v 19 0)]))))) ∧
    (∀ p i f, s.chip.frameAt (fieldOf v 21 20) (fieldOf v 19 0) = some (p, i) → s.chip.frame p (fieldOf v 21 20) i = some f →
      exec (.kvDescSel port v) s = .next (s.put ((upTo 8).foldl (fun c k => c.setReg (Reg.kvDescData k) ((descWords f).getD k 0#64))
        (s.chip.setReg Reg.kvDescSel (wordOf [(63, 63, 1), (21, 20, fieldOf v 21 20), (19, 0, fieldOf v 19 0)]))))) ∧
    (∀ p i, s.chip.frameAt (fieldOf v 21 20) (fieldOf v 19 0) = some (p, i) → s.chip.frame p (fieldOf v 21 20) i = none →
      exec (.kvDescSel port v) s = .next (s.put ((upTo 8).foldl (fun c k => c.setReg (Reg.kvDescData k)
          (if k = 0 then wordOf [(60, 57, p)] else 0#64))
        (s.chip.setReg Reg.kvDescSel (wordOf [(63, 63, 1), (21, 20, fieldOf v 21 20), (19, 0, fieldOf v 19 0)]))))))

/-! ## Links -/

namespace Sys2Proof.Machine

/-- The number of the next flit that a port expects (R312). -/
def Chip.rxNext (c : Chip) (lp : LinkPort) : Nat := c.linkGet lp (fun _ l => l.rx)

/-- The chip at which a flit with the expected number is taken (R313, R314). -/
def flitTaken (c : Chip) (lp : LinkPort) (f : Flit) : Chip :=
  (c.onLink lp (fun _ l => { l with rx := wrapSucc 12 (c.rxNext lp), nacked := false })).flitReturns lp (flitFields f)

/-- R303, R308: the state word of a port that leaves for DOWN with a cause. -/
def downFields (lp : LinkPort) (cause : Nat) : List (Nat × Nat × Nat) := [(63, 61, 1), (60, 57, 0), (48, 45, cause)] ++ lpNoPartner lp

/-- R336: what the egress of a port does with the packet it picked: `r` and `defs` are the port's shares after the pick. -/
def egressTakes (c : Chip) (p tc : Nat) (r : FabPort) (m : Member) (defs : List Deficit) (k i : Nat) (it : EgItem) : Chip :=
  let cost := c.cost it.pkt
  let r := { r with queue := r.queue.eraseIdx i, members := defs, memNext := r.memNext.set tc k, tc0 := if tc = 0 then r.tc0 - (cost * 144 : Nat) else r.tc0 }
  let sh := match m with
    | .part q =>
      if c.fld (Reg.fabEgressPart q) 63 48 = 0 then c.fab.shaper
      else c.fab.shaper.set q (c.fab.shaper.getD q 0 - (cost * 72 : Nat))
    | _ => c.fab.shaper
  let x := (({ c with fab := { c.fab with shaper := sh } } : Chip).setFabPort p r).closeAdd it.pkt
  ((x.2.setFabPort p { x.2.fabPort p with link := ((x.2.fabPort p).link.push tc [pktBytes x.1] ⟨m, x.1⟩).flush }).coolHot p tc).closeHeads

/-- R315: the chip without a packet that a buffer damaged: it leaves the combining entry that it heads, the local queue, the egress
queues and what the ports hold to send, and the marks and heads of the queues follow. -/
def withoutPkt (c : Chip) (k : FabPkt) : Chip :=
  let d := match c.waitingAdd k with
    | some e => c.freeCombine e.id
    | none => c
  ((upTo 17).foldl (fun c p => c.coolHot p k.hdr.tc) ({ d with fab := { d.fab with
    local_ := d.fab.local_.erase k,
    ports := c.fab.ports.map (fun r => { r with queue := dropWhere (fun i => i.pkt == k) r.queue,
                                                link := r.link.dropItems (fun i => i.pkt == k) }) } } : Chip)).closeHeads

end Sys2Proof.Machine

/-- R312 to R316: at an open port a payload flit with the expected number is taken; one of a number past it is refused, and one
received before is dropped; a flit with a bad CRC or an unknown type is counted once until one is taken; a NAK takes what it
returns and replays; an ABORT flit is taken, and its count on the fabric is a free value (log entry 11). At a closed port a flit changes nothing of the link. R313: a replay timeout of an open port replays every
flit that is not acknowledged, each counted. R315: a packet with an uncorrectable error leaves every queue and buffer, is counted,
and is answered with a NACK where its header is intact, as is each constituent of a combined add that it heads. -/
def Obligations.FlitsReplaysAndBufferErrors : Prop :=
  (∀ (s : State) (lp : LinkPort) (f : Flit), (Instr.flitReceived lp f).wf = true → s.chip.linkPower lp = true →
    (s.chip.linkOpen lp = false → exec (.flitReceived lp f) s = .next (s.put s.chip.drainSlots)) ∧
    (s.chip.linkOpen lp = true → ((flitFields f).crcOk = false ∨ 4 ≤ (flitFields f).type) →
      (s.chip.linkGet lp (fun _ l => l.nacked) = true → exec (.flitReceived lp f) s = .next (s.put s.chip.drainSlots)) ∧
      (s.chip.linkGet lp (fun _ l => l.nacked) = false → exec (.flitReceived lp f) s =
        .next (s.put ((s.chip.onLink lp (fun _ l => { l with nacked := true })).bump (lpCrcCnt lp)).drainSlots))) ∧
    (s.chip.linkOpen lp = true → (flitFields f).crcOk = true → (flitFields f).type = 1 →
      ((flitFields f).seq = s.chip.rxNext lp → exec (.flitReceived lp f) s = .next (s.put (flitTaken s.chip lp f).drainSlots)) ∧
      ((flitFields f).seq ≠ s.chip.rxNext lp → precedes 12 (s.chip.rxNext lp) (flitFields f).seq = false →
        exec (.flitReceived lp f) s = .next (s.put s.chip.drainSlots)) ∧
      ((flitFields f).seq ≠ s.chip.rxNext lp → precedes 12 (s.chip.rxNext lp) (flitFields f).seq = true →
        exec (.flitReceived lp f) s = .next (s.put (s.chip.refuseFlit lp).drainSlots))) ∧
    (s.chip.linkOpen lp = true → (flitFields f).crcOk = true → (flitFields f).type = 3 → (flitFields f).seq = s.chip.rxNext lp →
      (lpIsHl lp = false → exec (.flitReceived lp f) s = .next (s.put (flitTaken s.chip lp f).aborted.drainSlots)) ∧
      (lpIsHl lp = true → exec (.flitReceived lp f) s = .next (s.put (flitTaken s.chip lp f).drainSlots))) ∧
    (s.chip.linkOpen lp = true → (flitFields f).crcOk = true → (flitFields f).type = 2 →
      precedes 12 (s.chip.rxNext lp) (flitFields f).seq = false →
      exec (.flitReceived lp f) s = .next (s.put (s.chip.flitReturns lp (flitFields f)).drainSlots))) ∧
  (∀ (s : State) (lp : LinkPort), (Instr.fabReplayTimeout lp).wf = true → s.chip.linkPower lp = true → s.chip.linkOpen lp = true →
    (s.chip.linkGet lp (fun _ l => l.replay.length) ≠ 0 → exec (.fabReplayTimeout lp) s = .next (s.put
      ((s.chip.onLink lp (fun _ l => { l with replays := l.replays + 1 })).bumpBy (lpReplayCnt lp)
        (s.chip.linkGet lp (fun _ l => l.replay.length))))) ∧
    (s.chip.linkGet lp (fun _ l => l.replay.length) = 0 → exec (.fabReplayTimeout lp) s = .next s)) ∧
  (∀ (s : State) (k : FabPkt) (intact : Bool), (Instr.seamBufferEccError k intact).wf = true → s.chip.fabricUp = true →
    (intact = false → exec (.seamBufferEccError k intact) s = .next (s.put ((withoutPkt s.chip k).bump (Reg.fabCnt 14)))) ∧
    (intact = true → exec (.seamBufferEccError k intact) s = .next (s.put
      ((k :: ((((s.chip.waitingAdd k).map Combine.parts).getD []).drop 1).map Constituent.pkt).foldl
        (fun c k => c.nackPkt k stUncorrectable) ((withoutPkt s.chip k).bump (Reg.fabCnt 14))))))

/-- R303, R304: a port in DOWN trains when its signal is detected and when its retry interval ends where a retry was due; an
attempt that passes brings the port up, a failed one is tried again while attempts remain, and the last one makes it DOWN with
the cause, and logs it; a lost signal fails an attempt, and retrains an ACTIVE port. R306, R307: an open port retrains on its
triggers: the codewords, the replays at the limit, and a noisy lane, which is fenced first. A retrain that passes brings a
fabric port back; one that fails or takes too long makes the port DOWN with cause 2. -/
def Obligations.TrainingAndRetraining : Prop :=
  (∀ (s : State) (lp : LinkPort), (Instr.signalDetected lp).wf = true → s.chip.linkPower lp = true →
    s.chip.linkGet lp (fun _ l => l.signal) = false → s.chip.linkState lp = 1 →
    exec (.signalDetected lp) s = .next (s.put ((s.chip.onLink lp (fun _ l => { l with signal := true })).toTrain lp))) ∧
  (∀ (s : State) (lp : LinkPort), (Instr.lossOfSignal lp).wf = true → s.chip.linkPower lp = true →
    s.chip.linkGet lp (fun _ l => l.signal) = true →
    (s.chip.linkState lp = 2 → exec (.lossOfSignal lp) s =
      .next (s.put ((s.chip.onLink lp (fun _ l => { l with signal := false })).trainFails lp 1))) ∧
    (s.chip.linkState lp = 3 → exec (.lossOfSignal lp) s =
      .next (s.put ((s.chip.onLink lp (fun _ l => { l with signal := false })).toRetrain lp)))) ∧
  (∀ (s : State) (lp : LinkPort) (i : TrainInfo), (Instr.trainingAttemptPasses lp i).wf = true → s.chip.linkPower lp = true →
    s.chip.linkState lp = 2 → (s.chip.settleLanes lp i).2.fld (lpStatus lp) 56 49 ≠ 255 →
    (s.chip.settleLanes lp i).2.partnerBad lp i (s.chip.settleLanes lp i).1 = none →
    exec (.trainingAttemptPasses lp i) s =
      .next (s.put ((s.chip.settleLanes lp i).2.linkComesUp lp i (s.chip.settleLanes lp i).1 true).drainSlots)) ∧
  (∀ (s : State) (lp : LinkPort) (why : TrainFail), (Instr.trainingAttemptFails lp why).wf = true → s.chip.linkPower lp = true →
    s.chip.linkState lp = 2 →
    let n := s.chip.linkGet lp (fun _ l => l.attempt) + 1
    (n < s.chip.fld (lpTimers lp) 62 60 → exec (.trainingAttemptFails lp why) s =
      .next (s.put ((s.chip.onLink lp (fun _ l => { l with attempt := n })).applyLanes lp))) ∧
    (s.chip.fld (lpTimers lp) 62 60 ≤ n → exec (.trainingAttemptFails lp why) s =
      .next (s.put (((((s.chip.leaveLink lp).onLink lp (fun _ l => { l with retry := true, attempt := 0 })).setFlds (lpStatus lp)
        (downFields lp (failCause why))).linkLog lp 2).linkStops lp)))) ∧
  (∀ (s : State) (lp : LinkPort), (Instr.fabTrainLimit lp).wf = true → s.chip.linkPower lp = true →
    exec (.fabTrainLimit lp) s = .next (s.put (s.chip.trainFails lp 1))) ∧
  (∀ (s : State) (lp : LinkPort), (Instr.fabRetryInterval lp).wf = true → s.chip.linkPower lp = true → s.chip.linkState lp = 1 →
    (s.chip.linkGet lp (fun _ l => l.retry) = true → exec (.fabRetryInterval lp) s = .next (s.put (s.chip.toTrain lp))) ∧
    (s.chip.linkGet lp (fun _ l => l.retry) = false → exec (.fabRetryInterval lp) s = .next s)) ∧
  (∀ (s : State) (lp : LinkPort), s.chip.linkPower lp = true → s.chip.linkOpen lp = true →
    ((Instr.retrainTrigger lp .codewords).wf = true → exec (.retrainTrigger lp .codewords) s = .next (s.put (s.chip.toRetrain lp))) ∧
    ((Instr.retrainTrigger lp .replays).wf = true → s.chip.fld (lpTimers lp) 59 56 ≤ s.chip.linkGet lp (fun _ l => l.replays) →
      exec (.retrainTrigger lp .replays) s = .next (s.put (s.chip.toRetrain lp))) ∧
    ((Instr.retrainTrigger lp .replays).wf = true → s.chip.linkGet lp (fun _ l => l.replays) < s.chip.fld (lpTimers lp) 59 56 →
      exec (.retrainTrigger lp .replays) s = .next s) ∧
    (∀ i, (Instr.retrainTrigger lp (.noisyLane i)).wf = true →
      exec (.retrainTrigger lp (.noisyLane i)) s = .next (s.put ((s.chip.fenceLanes lp (2 ^ i)).retrainNow lp)))) ∧
  (∀ (s : State) (p : Nat) (i : TrainInfo), (Instr.retrainPasses (.fabric p) i).wf = true → s.chip.linkPower (.fabric p) = true →
    s.chip.linkState (.fabric p) = 4 → (s.chip.settleLanes (.fabric p) i).2.fld (lpStatus (.fabric p)) 56 49 ≠ 255 →
    (s.chip.settleLanes (.fabric p) i).1 ≠ 0 →
    exec (.retrainPasses (.fabric p) i) s = .next (s.put
      ((s.chip.settleLanes (.fabric p) i).2.linkComesUp (.fabric p) i (s.chip.settleLanes (.fabric p) i).1 false).drainSlots)) ∧
  (∀ (s : State) (lp : LinkPort), s.chip.linkPower lp = true → s.chip.linkState lp = 4 →
    let c := ((((s.chip.leaveLink lp).onLink lp (fun _ l => { l with retry := true, attempt := 0 })).setFlds (lpStatus lp)
      (downFields lp 2)).linkLog lp 2).linkStops lp
    ((Instr.retrainFails lp).wf = true → exec (.retrainFails lp) s = .next (s.put c)) ∧
    ((Instr.fabRetrainLimit lp).wf = true → exec (.fabRetrainLimit lp) s = .next (s.put c)))

/-- R309: a write of one field of a fabric port's control register by the owner or the fabric manager is a write of the whole
word with that field changed (`Chip.portCtrl`); a fence from any other accessor changes nothing and is logged. -/
def Obligations.FabricPortControls : Prop :=
  ∀ (s : State) (acc : Accessor) (p : Nat), s.chip.writeOpen = true →
    let word := s.regRead (Reg.fabPortCtrl p)
    (s.chip.accSeam acc = true →
      ((Instr.fabPortFence acc p).wf = true → exec (.fabPortFence acc p) s =
        .next (s.put (s.chip.portCtrl (.fabric p) (putField word 63 63 1))).settled) ∧
      ((Instr.fabPortUnfence acc p).wf = true → exec (.fabPortUnfence acc p) s =
        .next (s.put (s.chip.portCtrl (.fabric p) (putField word 63 63 0))).settled) ∧
      (∀ drain, (Instr.fabPortDrain acc p drain).wf = true → exec (.fabPortDrain acc p drain) s =
        .next (s.put (s.chip.portCtrl (.fabric p) (putField word 62 62 (bitN drain)))).settled) ∧
      ((Instr.fabPortRetrain acc p).wf = true → exec (.fabPortRetrain acc p) s =
        .next (s.put (s.chip.portCtrl (.fabric p) (putField word 61 61 1))).settled) ∧
      (∀ lanes, (Instr.fabLaneFence acc p lanes).wf = true → exec (.fabLaneFence acc p lanes) s =
        .next (s.put (s.chip.portCtrl (.fabric p) (putField word 7 0 lanes))).settled)) ∧
    (s.chip.accSeam acc = false → (Instr.fabPortFence acc p).wf = true →
      exec (.fabPortFence acc p) s = .next (s.put (s.chip.log (refused 0x0C09 (Reg.fabPortCtrl p)))).settled)

/-- R389: a write of one field of a Lateter port's control register by the owner is a write of the whole word with that field
changed, and a fence of the owner port is refused and logged. R386: the owner writes the length word of a host window, and the
control word of one that swaps neither before nor after. -/
def Obligations.LateterPortControls : Prop :=
  (∀ (s : State) (acc : Accessor) (p : Nat), s.chip.writeOpen = true → s.chip.accOwner acc = true →
    let word := s.regRead (Reg.hlPortCtrl p)
    ((Instr.hlPortFence acc p).wf = true → s.chip.isOwner p = false → exec (.hlPortFence acc p) s =
      .next (s.put (s.chip.portCtrl (.lateter p) (putField word 63 63 1))).settled) ∧
    ((Instr.hlPortFence acc p).wf = true → s.chip.isOwner p = true → exec (.hlPortFence acc p) s =
      .next (s.put (s.chip.log (refused 0x1009 (Reg.hlPortCtrl p)))).settled) ∧
    ((Instr.hlPortUnfence acc p).wf = true → exec (.hlPortUnfence acc p) s =
      .next (s.put (s.chip.portCtrl (.lateter p) (putField word 63 63 0))).settled) ∧
    ((Instr.hlPortRetrain acc p).wf = true → s.chip.isOwner p = false → exec (.hlPortRetrain acc p) s =
      .next (s.put (s.chip.portCtrl (.lateter p) (putField word 61 61 1))).settled) ∧
    (∀ lanes, (Instr.hlLaneFence acc p lanes).wf = true → s.chip.isOwner p = false → exec (.hlLaneFence acc p lanes) s =
      .next (s.put (s.chip.portCtrl (.lateter p) (putField word 7 0 lanes))).settled)) ∧
  (∀ (s : State) (acc : Accessor) (p w : Nat) (v : W64), s.chip.writeOpen = true → s.chip.accOwner acc = true →
    ((Instr.hostWindowWrite acc p w 1 v).wf = true → exec (.hostWindowWrite acc p w 1 v) s =
      .next (s.put (s.chip.setReg (Reg.hlHostWin p w 1) v)).settled) ∧
    ((Instr.hostWindowWrite acc p w 0 v).wf = true → winSwaps v = false → winSwaps (s.chip.reg (Reg.hlHostWin p w 0)) = false →
      exec (.hostWindowWrite acc p w 0 v) s =
        .next (s.put (s.chip.putFields (Reg.hlHostWin p w 0) hostWinFields0 none v)).settled))

/-- R368, R385, R387: the timers of the hosts' links. A port that has no LINK_SYNC in time retrains with cause 8; an ACTIVE
port without credit for the time is flagged, starts its hold and is logged; a port down for the hold ends its session and is
logged; a bulk transfer without an answer is counted, and after its last try ends with ST_FABRIC_TIMEOUT. Each of the four timers (`hlSyncWait`, `hlCreditStall`, `hlDownHold`,
`hlBulkTimeout`) completes in every state. -/
def Obligations.LateterTimers : Prop :=
  (∀ (s : State) (p : Nat), (Instr.hlSyncWait p).wf = true →
    (s.chip.hlState p = 5 → exec (.hlSyncWait p) s =
      .next (s.put ((s.chip.setFld (Reg.hlPortStatus p) 48 45 8).toRetrain (.lateter p)))) ∧
    (s.chip.hlState p ≠ 5 → exec (.hlSyncWait p) s = .next s)) ∧
  (∀ (s : State) (p : Nat), (Instr.hlCreditStall p).wf = true → s.chip.hlState p = 3 → s.chip.stalledClasses p ≠ [] →
    s.chip.bit (Reg.hlPortStatus p) 42 = false →
    exec (.hlCreditStall p) s = .next (s.put ((((s.chip.setHlPort p { s.chip.hlPort p with stalled := s.chip.stalledClasses p }).setFld
      (Reg.hlPortStatus p) 42 42 1).startHold p).log { code := 0x1007, refKind := 3, ref := p }))) ∧
  (∀ (s : State) (p : Nat), (Instr.hlDownHold p).wf = true →
    (s.chip.bit (Reg.hlPortStatus p) 43 = true → exec (.hlDownHold p) s = .next (s.put
      ((((s.chip.endPort p).setFld (Reg.hlPortStatus p) 43 43 0).log { code := 0x1008, refKind := 3, ref := p }).drainSlots))) ∧
    (s.chip.bit (Reg.hlPortStatus p) 43 = false → exec (.hlDownHold p) s = .next (s.put s.chip.drainSlots))) ∧
  (∀ (s : State) (tag : Nat) (b : Bulk) (c : Chip), (Instr.hlBulkTimeout tag).wf = true → s.chip.domUp 1 = true →
    s.chip.bulkTake tag = (some b, c) → (c.bump (Reg.hlCnt 10)).fld Reg.hlHostTimers 62 60 ≤ b.sends →
    exec (.hlBulkTimeout tag) s = .next (s.put ((c.bump (Reg.hlCnt 10)).bulkEnded b stTimeout []).drainSlots)) ∧
  (∀ p tag : Nat, Completes (.hlSyncWait p) ∧ Completes (.hlCreditStall p) ∧ Completes (.hlDownHold p) ∧
    Completes (.hlBulkTimeout tag))

/-! ## The seam -/

/-- R323, R324, R326: a whole write of a route entry with legal ports, by the owner or the manager, keeps the ports of its set size;
an illegal one, a half write and one of another port change nothing and are logged. An epoch commit that is the successor takes
the shadow table, keeps the old one, and is logged; a drain discards the old table. -/
def Obligations.Routes : Prop :=
  (∀ (s : State) (acc : Accessor) (sh : Bool) (dst : Nat) (v : W64) (half : Bool), (Instr.routeEntryWrite acc sh dst v half).wf = true →
    s.chip.writeOpen = true →
    let off := if sh then Reg.routeShadow dst else Reg.routeLive dst
    (s.chip.accSeam acc = true → half = false → routeBad v = false →
      exec (.routeEntryWrite acc sh dst v half) s = .next (s.put (s.chip.setReg off (routeWord v)))) ∧
    ((s.chip.accSeam acc = false ∨ half = true ∨ routeBad v = true) →
      exec (.routeEntryWrite acc sh dst v half) s = .next (s.put (s.chip.log (refused 0x0C09 off))))) ∧
  (∀ (s : State) (acc : Accessor) (e : Nat), (Instr.swEpochCommit acc e).wf = true → s.chip.writeOpen = true →
    s.chip.accSeam acc = true →
    ((s.chip.devState = 2 ∨ s.chip.devState = 4 ∨ s.chip.devState = 5) → e = wrapSucc 16 (s.chip.fld Reg.swCtrl 60 45) →
      exec (.swEpochCommit acc e) s = .next (s.put
        (((({ s.chip with fab := { s.chip.fab with prev := s.chip.liveTable } } : Chip).shadowToLive).setFlds Reg.swCtrl
          [(62, 62, 0), (61, 61, 1), (60, 45, e)]).log { code := 0x0C0A, param1 := e })).settled) ∧
    (e ≠ wrapSucc 16 (s.chip.fld Reg.swCtrl 60 45) →
      exec (.swEpochCommit acc e) s =
        .next (s.put ((s.chip.setFld Reg.swCtrl 62 62 1).log (refused 0x0C09 Reg.swEpochCommit))).settled)) ∧
  (∀ s : State,
    (s.chip.bit Reg.swCtrl 61 = true → exec .swDrain s = .next (s.put
      (({ s.chip with fab := { s.chip.fab with prev := [] } } : Chip).setFld Reg.swCtrl 61 61 0))) ∧
    (s.chip.bit Reg.swCtrl 61 = false → exec .swDrain s = .next s))

/-- R327: the fabric manager's register entries are applied in order up to the first that is refused, and the answer carries the
count; another device's are refused whole with ST_PRIVILEGE. Their answers and echoes end with their delivery (R333). -/
def Obligations.ManagerPackets : Prop :=
  (∀ (s : State) (h : FabHdr) (b : SwWriteBody),
    ((Instr.fabPktSwWrite h b).wf = true → Arrives s h (.swWrite b) (entriesRsvd b) →
      (h.src = (got s h (.swWrite b)).mgrDevice → h.src ≠ 0xFFFF → exec (.fabPktSwWrite h b) s = .next
        (let r := swEntries 0xC00000 0xD7FFFF false b.entries 0 (s.put (got s h (.swWrite b)))
         (r.2.2.put (r.2.2.chip.reply .device h (.swWriteAck { status := r.1, applied := r.2.1, rsvd := 0 }))).settled)) ∧
      (h.src ≠ (got s h (.swWrite b)).mgrDevice → exec (.fabPktSwWrite h b) s = .next
        (s.put ((got s h (.swWrite b)).reply .device h (.swWriteAck { status := stPrivilege, applied := 0, rsvd := 0 }))).settled)) ∧
    ((Instr.fabPktRmaGrant h b).wf = true → Arrives s h (.rmaGrant b) (entriesRsvd b) →
      h.src = (got s h (.rmaGrant b)).mgrDevice → h.src ≠ 0xFFFF → exec (.fabPktRmaGrant h b) s = .next
        (let r := swEntries 0xE10000 0xE1FFFF true b.entries 0 (s.put (got s h (.rmaGrant b)))
         (r.2.2.put (r.2.2.chip.reply .device h (.swWriteAck { status := r.1, applied := r.2.1, rsvd := 0 }))).settled))) ∧
  (∀ (s : State) (h : FabHdr) (b : SwAckBody), (Instr.fabPktSwWriteAck h b).wf = true → Arrives s h (.swWriteAck b) b.rsvd →
    exec (.fabPktSwWriteAck h b) s = .next (s.put (got s h (.swWriteAck b)))) ∧
  (∀ (s : State) (h : FabHdr), (Instr.fabPktCcEcho h).wf = true → Arrives s h .ccEcho 0 →
    exec (.fabPktCcEcho h) s = .next (s.put (got s h .ccEcho))) ∧
  (∀ (s : State) (h : FabHdr) (b : NackBody), (Instr.fabPktNack h b).wf = true → Arrives s h (.nack b) b.rsvd →
    let c := got s h (.nack b)
    (∀ o, c.op? b.msgId = some o → opType o.kind = b.droppedType →
      exec (.fabPktNack h b) s = .next (s.put (Chip.finishOps (c.opNack o (statusOf b.status))).drainSlots)) ∧
    (∀ o, c.op? b.msgId = some o → opType o.kind ≠ b.droppedType →
      exec (.fabPktNack h b) s = .next (s.put c.drainSlots)) ∧
    (c.op? b.msgId = none → b.droppedType ≠ 0x38 →
      exec (.fabPktNack h b) s = .next (s.put (phaseNack c h.src b).drainSlots)))

/-- R317, R329 to R339: transit, egress and congestion. A packet of an ACTIVE ingress is forwarded; an ACTIVE egress sends the
packet it picks to its link, and one with nothing to send only fills its shares; a combining window closes its entry to more
requests, and one whose reply does not come is freed, counted, and every requester is told; a queue above the threshold is
flagged and logged once; a paced packet is released when its bucket is not in debt; a rate entry without a sample is halved,
and counted. -/
def Obligations.Congestion : Prop :=
  (∀ (s : State) (p : Nat) (k : FabPkt), (Instr.seamForward p k).wf = true → s.chip.fabricUp = true →
    (s.chip.fabState p = 3 → exec (.seamForward p k) s = .next (s.put (s.chip.forward .transit k))) ∧
    (s.chip.fabState p ≠ 3 → exec (.seamForward p k) s = .next s)) ∧
  (∀ (s : State) (p : Nat), (Instr.egressDequeue p).wf = true →
    (s.chip.fabState p ≠ 3 → exec (.egressDequeue p) s = .next s) ∧
    (s.chip.fabState p = 3 → s.chip.fillShaper.pickClass (s.chip.fillShaper.fillTc0 p (s.chip.fillShaper.fabPort p)) = none →
      exec (.egressDequeue p) s =
        .next (s.put (s.chip.fillShaper.setFabPort p (s.chip.fillShaper.fillTc0 p (s.chip.fillShaper.fabPort p))))) ∧
    (∀ tc r m defs k i it, s.chip.fabState p = 3 →
      s.chip.fillShaper.pickClass (s.chip.fillShaper.fillTc0 p (s.chip.fillShaper.fabPort p)) = some (tc, r) →
      s.chip.fillShaper.pickMember r tc = some (m, defs, k) →
      findIdx1 (fun i => i.pkt.hdr.tc == tc && i.member == m) r.queue = some (i, it) →
      exec (.egressDequeue p) s = .next (s.put (egressTakes s.chip.fillShaper p tc r m defs k i it)))) ∧
  (∀ (s : State) (id : Nat) (e : Combine), s.chip.fab.combines.find? (fun e => e.id == id) = some e →
    ((Instr.swCombineWindow id).wf = true → exec (.swCombineWindow id) s =
      .next (s.put (s.chip.setCombine { e with joinOpen := false }))) ∧
    ((Instr.swCombineHold id).wf = true → e.sent.isSome = true → exec (.swCombineHold id) s = .next (s.put
      (e.parts.foldl (fun c q => answerFuel 2 c q.src q.stamp (nackBody q.pkt 0x0045)) ((s.chip.freeCombine id).bump (Reg.fabCnt 13)))))) ∧
  (∀ (s : State) (p tc : Nat), (Instr.hotspotDetected p tc).wf = true → p < 16 →
    s.chip.fld Reg.swParams 63 48 * 1024 < s.chip.queuedBytes p tc → (s.chip.fabPort p).hot.getD tc false = false →
    exec (.hotspotDetected p tc) s = .next (s.put
      ((s.chip.setFabPort p { s.chip.fabPort p with hot := (s.chip.fabPort p).hot.set tc true }).log
        { code := 0x0C08, refKind := 3, ref := p, param1 := tc }))) ∧
  (∀ (s : State) (d : Nat) (e : RateEnt), s.chip.rateEnt d = some e →
    (∀ i rest, (Instr.pacedRelease d).wf = true → (fillBucket s.chip.time e).queue = i :: rest →
      0 ≤ (fillBucket s.chip.time e).bucket →
      exec (.pacedRelease d) s = .next (s.put
        ((Chip.forward (s.chip.setRate { fillBucket s.chip.time e with queue := rest, bucket := (fillBucket s.chip.time e).bucket - (s.chip.cost i.pkt * 72 : Nat), unechoed := (fillBucket s.chip.time e).unechoed + s.chip.cost i.pkt }) i.member i.pkt).drainWait))) ∧
    ((Instr.ccNoSample d).wf = true → e.unechoed ≠ 0 → exec (.ccNoSample d) s = .next (s.put
      ((s.chip.setRate { e with r := max (e.r / 2) 1, lastHalf := s.chip.time }).bump (Reg.fabCnt 15)))))

/-! ## Remote memory -/

namespace Sys2Proof.Machine

/-- Every register but the counter `n`, the seam's counters and the recorder's registers keeps its value. -/
def RegsButCounters (n : Nat) (s t : State) : Prop :=
  ∀ o, o ≠ n → ¬ seamCounter o → ¬ recorderReg o → t.chip.reg o = s.chip.reg o

/-- The bytes of a tier outside `n` bytes at `a`, and the whole of the other tier, read as before. -/
def TierKept (tier a n : Nat) (s t : State) : Prop :=
  (∀ x, (x < a ∨ a + n ≤ x) → memRead (t.chip.tier tier) x = memRead (s.chip.tier tier) x) ∧
    ∀ k, (k = 2 ↔ tier ≠ 2) → t.chip.tier k = s.chip.tier k

/-- The message context of a write that is whole in one packet (R357). -/
def oneCtx (h : FabHdr) (b : WriteBody) (st : Nat) : RmaCtx :=
  { src := h.src, msgId := h.msgId, kind := h.pktType, region := 0, buf := [], bits := 2 ^ b.pktIndex, count := h.payLen, first := st,
    low := b.dstOffset, bytes := b.data.length }

/-- R353: the answer to an atomic that is not encrypted. -/
def atomicAnswer (c : Chip) (h : FabHdr) (b : AtomicBody) (status : Nat) (r0 r1 : W64) : Chip :=
  c.reply (c.regionMember b.region) h
    (.atomicReply { status := status, tgtEpoch := c.rmaEpoch, seq := b.seq, r0 := r0, r1 := r1, rsvd := 0 })

/-- The operation whose read data arrives (R350). -/
def readOp (c : Chip) (h : FabHdr) (b : ReadDataBody) : Option PendOp :=
  c.rma.ops.find? (fun o => o.kind == .read && o.readTag == b.readTag && o.target == h.src)

end Sys2Proof.Machine

/-- R343, R347: an authorised FAB_PKT_STORE writes its bytes at its region's base plus its offset and nothing else of either
tier, and no register changes but the count of served operations, the seam's counters and the recorder's; a store that fails a
check leaves all work state, both tiers in it, and all other registers as they are. -/
def Obligations.StoreWritesItsRange : Prop :=
  ∀ (s : State) (h : FabHdr) (b : StoreBody), (Instr.fabPktStore h b false).wf = true → Arrives s h (.store b) (storeRsvd b) →
    memWf s.chip.work.t1 = true → memWf s.chip.work.t2 = true →
    let g := s.chip.region b.region
    ((got s h (.store b)).regionStatus h b.region b.offset b.data.length = stOk → ∃ t, exec (.fabPktStore h b false) s = .next t ∧
      memReadBytes (t.chip.tier g.tier) (g.base + b.offset) b.data.length = b.data ∧
      TierKept g.tier (g.base + b.offset) b.data.length s t ∧ RegsButCounters (Reg.rmaCnt 1) s t) ∧
    ((got s h (.store b)).regionStatus h b.region b.offset b.data.length ≠ stOk → ∃ t, exec (.fabPktStore h b false) s = .next t ∧
      t.chip.work = s.chip.work ∧ ∀ o, ¬ seamCounter o → ¬ recorderReg o → t.chip.reg o = s.chip.reg o)

/-- R347: a load without encryption is answered with the 64 bytes of its region, and a read with its bytes; a load that fails a
check is answered with the status and no byte, and a read that fails one changes no work state. -/
def Obligations.LoadsAndReadsAnswerTheBytes : Prop :=
  (∀ (s : State) (h : FabHdr) (b : LoadBody), (Instr.fabPktLoad h b false).wf = true → Arrives s h (.load b) (regionRsvd b.region b.rsvd true) → h.enc = false →
    let c := got s h (.load b)
    c.regionBad b.region b.offset 64 = false →
    (c.regionStatus h b.region b.offset 64 = stOk →
      exec (.fabPktLoad h b false) s = .next (s.put (c.served.reply (c.regionMember b.region) h
        (.loadReply { status := stOk, data := memReadBytes (c.tier (c.region b.region).tier) ((c.region b.region).base + b.offset) 64,
                      rsvd := 0 })))) ∧
    (c.regionStatus h b.region b.offset 64 ≠ stOk →
      exec (.fabPktLoad h b false) s = .next (s.put (c.reply (c.regionMember b.region) h
        (.loadReply { status := c.regionStatus h b.region b.offset 64, data := [], rsvd := 0 }))))) ∧
  (∀ (s : State) (h : FabHdr) (b : ReadBody), (Instr.fabPktRead h b false).wf = true → Arrives s h (.read b) (regionRsvd b.region b.rsvd true) → h.enc = false →
    let c := got s h (.read b)
    0 < b.length → b.length ≤ 16711680 → c.regionBad b.region b.offset b.length = false →
    (c.regionStatus h b.region b.offset b.length = stOk →
      exec (.fabPktRead h b false) s = .next (s.put (c.served.sendReadData (c.regionMember b.region) h b.readTag
        (memReadBytes (c.tier (c.region b.region).tier) ((c.region b.region).base + b.offset) b.length)))) ∧
    (c.regionStatus h b.region b.offset b.length ≠ stOk → ∃ t, exec (.fabPktRead h b false) s = .next t ∧ t.chip.work = s.chip.work))

/-- R347, R354: an atomic 64-bit add of a new SEQ at an aligned word that passes the checks leaves the sum of the word and the
addend there and nothing else of either tier; an atomic whose SEQ is in the replay table is counted and answered as the first
time, and changes no byte. -/
def Obligations.AtomicsApplyOnce : Prop :=
  ∀ (s : State) (h : FabHdr) (b : AtomicBody), (Instr.fabPktAtomic h b false).wf = true → Arrives s h (.atomic b) (atomicRsvd b) →
    h.enc = false → memWf s.chip.work.t1 = true → memWf s.chip.work.t2 = true →
    let c := got s h (.atomic b)
    let g := s.chip.region b.region
    let old := natOfLe (memReadBytes (s.chip.tier g.tier) (g.base + b.offset) 8)
    (b.op = 1 → c.regionStatus h b.region b.offset 8 = stOk → c.replay? h.src b.seq = none → b.tgtEpoch = 0 → b.try_ = 0 →
      c.belowFloor h.src b.seq = false → c.rma.replay.length < 4096 → c.regionBad b.region b.offset 8 = false →
      ∃ t, exec (.fabPktAtomic h b false) s = .next t ∧
        natOfLe (memReadBytes (t.chip.tier g.tier) (g.base + b.offset) 8) = (old + b.a0.toNat) % 2 ^ 64 ∧
        TierKept g.tier (g.base + b.offset) 8 s t ∧
        ({ req := h.src, seq := b.seq, status := stOk, r0 := BitVec.ofNat 64 old, r1 := 0#64, row := none } : ReplayEnt) ∈ t.chip.rma.replay) ∧
    (∀ e, b.op ≤ 3 → c.regionStatus h b.region b.offset (atomicLen b.op) = stOk → c.replay? h.src b.seq = some e →
      exec (.fabPktAtomic h b false) s = .next (s.put (atomicAnswer (c.bump (Reg.rmaCnt 4)) h b e.status e.r0 e.r1)) ∧
      (atomicAnswer (c.bump (Reg.rmaCnt 4)) h b e.status e.r0 e.r1).work = s.chip.work)

/-- R332, R352, R358: a write that is whole in one packet writes its bytes and is answered; a packet of a message that was seen is
counted and dropped; a combined add is applied as its members in order and answered with their results; a cancel is recorded and
answered. R356: a revocation's answer is delivered to the manager and changes nothing else. -/
def Obligations.WritesCombinedAddsAndCancels : Prop :=
  (∀ (s : State) (h : FabHdr) (b : WriteBody), (Instr.fabPktWrite h b false).wf = true → Arrives s h (.write b) (writeRsvd b) →
    let c := got s h (.write b)
    let st := c.regionStatus h b.region b.dstOffset b.data.length
    b.pktIndex < 4096 →
    (c.ctx? h.src h.msgId = none → h.payLen = h.totalLen → st = stOk →
      exec (.fabPktWrite h b false) s = .next (s.put
        ((c.regionWrite (c.region b.region) b.dstOffset b.data).writeDone h b (oneCtx h b stOk)).drainSlots)) ∧
    (c.ctx? h.src h.msgId = none → h.payLen = h.totalLen → st ≠ stOk → st ≠ stUncorrectable →
      exec (.fabPktWrite h b false) s = .next (s.put (c.writeDone h b (oneCtx h b st)).drainSlots)) ∧
    (∀ x, c.ctx? h.src h.msgId = some x → x.bits.testBit b.pktIndex = true →
      exec (.fabPktWrite h b false) s = .next (s.put (c.bump (Reg.rmaCnt 9)).drainSlots))) ∧
  (∀ (s : State) (h : FabHdr) (b : CombinedBody), (Instr.fabPktAtomicCombined h b false).wf = true →
    Arrives s h (.atomicCombined b) (combinedRsvd b) →
    let c := got s h (.atomicCombined b)
    let g := c.region b.region
    let r := combinedApply c b.entries (BitVec.ofNat 64 (natOfLe (c.regionRead g b.offset 8)))
    (c.regionStatus h b.region b.offset 8 = stOk → c.freshTable = false →
      (b.entries.filter (fun e => (c.replay? e.1 e.2.1).isNone)).any (fun e => c.belowFloor e.1 e.2.1) = false →
      c.rma.replay.length + (b.entries.filter (fun e => (c.replay? e.1 e.2.1).isNone)).length ≤ 4096 →
      c.regionBad b.region b.offset 8 = false →
      exec (.fabPktAtomicCombined h b false) s = .next (s.put
        ((((r.2.2.1.foldl (fun c e => c.record e) (c.regionWrite g b.offset (leBytes r.1.toNat 8))).served).bumpBy (Reg.rmaCnt 4)
          r.2.2.2).reply (c.regionMember b.region) h (.atomicCombinedReply { status := stOk, results := r.2.1, rsvd := 0 })))) ∧
    (c.regionStatus h b.region b.offset 8 ≠ stOk →
      exec (.fabPktAtomicCombined h b false) s = .next (s.put (c.reply (c.regionMember b.region) h
        (.atomicCombinedReply { status := c.regionStatus h b.region b.offset 8, results := [], rsvd := 0 }))))) ∧
  (∀ (s : State) (h : FabHdr) (b : CancelBody), (Instr.fabPktCancel h b).wf = true → Arrives s h (.cancel b) b.rsvd →
    let c := got s h (.cancel b)
    (c.rma.cancels.length < 1024 → exec (.fabPktCancel h b) s = .next (s.put ((c.recordCancel h.src b.cancelId).2.reply .device h
      (.cancelAck { status := stOk, cancelId := b.cancelId, rsvd := 0 })))) ∧
    (1024 ≤ c.rma.cancels.length → c.rma.cancels.contains (h.src, b.cancelId) = false →
      exec (.fabPktCancel h b) s = .next (s.put (c.reply .device h
        (.cancelAck { status := stBusy, cancelId := b.cancelId, rsvd := 0 }))))) ∧
  (∀ (s : State) (h : FabHdr) (b : RevokeDoneBody), (Instr.fabPktRmaRevokeDone h b).wf = true → Arrives s h (.revokeDone b) b.rsvd →
    exec (.fabPktRmaRevokeDone h b) s = .next (s.put (got s h (.revokeDone b))))

/-- R347, R350, R353, R355: at the requester an answer ends its pending operation with the answer's status and data, and one for
nothing pending is counted as late. Read data that is whole is placed where the read asked; an atomic's answer ST_BUSY holds it. -/
def Obligations.RequesterTakesAnswers : Prop :=
  (∀ (s : State) (h : FabHdr) (b : LoadReplyBody), (Instr.fabPktLoadReply h b).wf = true → Arrives s h (.loadReply b) b.rsvd →
    let c := got s h (.loadReply b)
    c.combineFor h.msgId false = none →
    (∀ o, c.op? h.msgId = some o → o.kind = .load →
      exec (.fabPktLoadReply h b) s = .next (s.put (Chip.finishOps (c.endOp o b.status b.data)))) ∧
    (c.op? h.msgId = none → exec (.fabPktLoadReply h b) s = .next (s.put (c.bump (Reg.rmaCnt 8))))) ∧
  (∀ (s : State) (h : FabHdr) (b : AckBody),
    ((Instr.fabPktStoreAck h b).wf = true → Arrives s h (.storeAck b) b.rsvd →
      (∀ o, (got s h (.storeAck b)).op? h.msgId = some o → o.kind = .store → exec (.fabPktStoreAck h b) s =
        .next (s.put (Chip.finishOps ((got s h (.storeAck b)).endOp o (statusOf b.status) [])))) ∧
      ((got s h (.storeAck b)).op? h.msgId = none → (got s h (.storeAck b)).cancelOf h.msgId = none →
        exec (.fabPktStoreAck h b) s = .next (s.put ((got s h (.storeAck b)).bump (Reg.rmaCnt 8)))) ∧
      (∀ o, (got s h (.storeAck b)).op? h.msgId = none → (got s h (.storeAck b)).cancelOf h.msgId = some o →
        exec (.fabPktStoreAck h b) s =
          .next (s.put ((((got s h (.storeAck b)).bump (Reg.rmaCnt 8)).dropOp o.msgId).settle o.grant false)))) ∧
    ((Instr.fabPktWriteAck h b).wf = true → Arrives s h (.writeAck b) b.rsvd →
      ∀ o, (got s h (.writeAck b)).op? h.msgId = some o → o.kind = .write → exec (.fabPktWriteAck h b) s =
        .next (s.put (Chip.finishOps ((got s h (.writeAck b)).endOp o (statusOf b.status) [])).drainSlots))) ∧
  (∀ (s : State) (h : FabHdr) (b : ReadDataBody) (o : PendOp), (Instr.fabPktReadData h b).wf = true →
    Arrives s h (.readData b) b.rsvd →
    let c := got s h (.readData b)
    b.pktIndex < 4096 → readOp c h b = some o → b.status = stOk → c.ctx? h.src h.msgId = none → h.payLen = h.totalLen →
    b.dataOffset + b.data.length ≤ o.length → o.owner ≠ .second →
    exec (.fabPktReadData h b) s = .next (s.put (Chip.finishOps
      (((c.regionWrite (c.region o.locReg) (o.locOff + b.dataOffset) b.data).dropCtx h.src h.msgId).endOp o stOk [])).drainSlots)) ∧
  (∀ (s : State) (h : FabHdr) (b : AtomicReplyBody) (o : PendOp), (Instr.fabPktAtomicReply h b).wf = true →
    Arrives s h (.atomicReply b) b.rsvd →
    let c := got s h (.atomicReply b)
    c.rma.ops.find? (fun o => o.kind == .atomic && o.seq == b.seq) = some o →
    (b.status = stOk → b.tgtEpoch = 0 → exec (.fabPktAtomicReply h b) s =
      .next (s.put (Chip.finishOps (c.endOp o stOk (leBytes b.r0.toNat 8 ++ leBytes b.r1.toNat 8))))) ∧
    (b.status = stBusy → o.busy < 16 → exec (.fabPktAtomicReply h b) s = .next (s.put (c.setOp { o with hold := true })))) ∧
  (∀ (s : State) (h : FabHdr) (b : CombinedReplyBody), (Instr.fabPktAtomicCombinedReply h b).wf = true →
    Arrives s h (.atomicCombinedReply b) b.rsvd →
    let c := got s h (.atomicCombinedReply b)
    (∀ e, c.combineFor h.msgId true = some e → exec (.fabPktAtomicCombinedReply h b) s = .next (s.put
      ((e.parts.zipIdx).foldl (fun c q => c.replyPart q.1 (.atomicReply { status := b.status, tgtEpoch := 0, seq := q.1.seq, r0 := b.results.getD q.2 0#64, r1 := 0#64, rsvd := 0 }))
        (c.freeCombine e.id)))) ∧
    (c.combineFor h.msgId true = none → exec (.fabPktAtomicCombinedReply h b) s = .next (s.put (c.bump (Reg.rmaCnt 8))))) ∧
  (∀ (s : State) (h : FabHdr) (b : CancelAckBody) (o : PendOp), (Instr.fabPktCancelAck h b).wf = true →
    Arrives s h (.cancelAck b) b.rsvd →
    let c := got s h (.cancelAck b)
    c.rma.ops.find? (fun o => o.kind == .cancel && o.body == .cancel { cancelId := b.cancelId, rsvd := 0 }) = some o →
    statusOf b.status ≠ stBusy →
    exec (.fabPktCancelAck h b) s = .next (s.put ((c.dropOp o.msgId).settle o.grant false)))

/-- R351 to R354, R358: the timers of remote operations. A load without an answer is sent again while tries remain, and then
ends with ST_FABRIC_TIMEOUT; an atomic ends with its outcome unknown after its last try; a store and a write are cancelled; a
held operation is sent again after its backoff; a replay entry whose hold is over leaves and makes its requester's floor; a
floor and a cancel record leave; an incomplete message is recorded as cancelled, counted and logged. Each of the eight timers
(`rmaAtomicTimeout`, `rmaStoreTimeout`, `rmaWriteTimeout`, `rmaBusyBackoff`, `rmaReplayHold`, `replayFloorDiscard`,
`rmaReassemblyLimit`, `rmaCancelHold`) completes in every state. -/
def Obligations.RmaTimers : Prop :=
  (∀ (s : State) (id : Nat) (o : PendOp), s.chip.op? id = some o → o.hold = false →
    ((Instr.rmaAtomicTimeout id).wf = true → o.kind = .load → o.sends < s.chip.tries → exec (.rmaAtomicTimeout id) s =
      .next (s.put ((s.chip.setOp { o with sends := o.sends + 1 }).sendOp { o with sends := o.sends + 1 }).drainSlots)) ∧
    ((Instr.rmaAtomicTimeout id).wf = true → o.kind = .load → s.chip.tries ≤ o.sends → exec (.rmaAtomicTimeout id) s =
      .next (s.put (Chip.finishOps (s.chip.endOp o stTimeout [])).drainSlots)) ∧
    ((Instr.rmaAtomicTimeout id).wf = true → o.kind = .atomic → s.chip.tries ≤ o.sends → exec (.rmaAtomicTimeout id) s =
      .next (s.put (Chip.finishOps (s.chip.outcomeUnknown o)).drainSlots)) ∧
    ((Instr.rmaStoreTimeout id).wf = true → o.kind = .store → exec (.rmaStoreTimeout id) s =
      .next (s.put (Chip.finishOps (s.chip.cancelOp o stTimeout)).drainSlots)) ∧
    ((Instr.rmaWriteTimeout id).wf = true → o.kind = .write → exec (.rmaWriteTimeout id) s =
      .next (s.put (Chip.finishOps (s.chip.cancelOp o stTimeout)).drainSlots))) ∧
  (∀ (s : State) (id : Nat) (o : PendOp), (Instr.rmaBusyBackoff id).wf = true → s.chip.op? id = some o →
    (o.hold = true → exec (.rmaBusyBackoff id) s = .next (s.put
      (let c := if o.kind = .atomic ∨ o.kind = .scatter then s.chip.bump (Reg.rmaCnt 3) else s.chip
       (c.setOp { o with hold := false, busy := o.busy + 1 }).sendOp { o with hold := false, busy := o.busy + 1 }).drainSlots)) ∧
    (o.hold = false → exec (.rmaBusyBackoff id) s = .next (s.put s.chip.drainSlots))) ∧
  (∀ (s : State) (req seq : Nat) (e : ReplayEnt), (Instr.rmaReplayHold req seq).wf = true → s.chip.replay? req seq = some e →
    s.chip.rma.floors.find? (fun f => f.1 == req) = none →
    exec (.rmaReplayHold req seq) s = .next (s.put
      (let left := dropWhere (fun e => e.req == req && e.seq == seq) s.chip.rma.replay
       let floors := dropWhere (fun f => f.1 == req) s.chip.rma.floors ++ [(req, seq, s.chip.time)]
       { s.chip with rma := { s.chip.rma with replay := left, floors := floors } }))) ∧
  (∀ (s : State) (req : Nat), (Instr.replayFloorDiscard req).wf = true →
    exec (.replayFloorDiscard req) s = .next (s.put
      { s.chip with rma := { s.chip.rma with floors := dropWhere (fun f => f.1 == req) s.chip.rma.floors } })) ∧
  (∀ (s : State) (src id : Nat) (x : RmaCtx), (Instr.rmaReassemblyLimit src id).wf = true → s.chip.ctx? src id = some x →
    exec (.rmaReassemblyLimit src id) s = .next (s.put
      (let c := ((s.chip.recordCancel src id).2.bump (Reg.rmaCnt 10)).log
         { code := 0x0E04, refKind := 2, ref := src * 2 ^ 48, param1 := id }
       if x.kind = 0x20 then
         answerFuel 2 c src 0 (.nack { status := stBusy, droppedType := 0x20, msgId := id, msgOffset := 0, rsvd := 0 })
       else c))) ∧
  (∀ (s : State) (src id : Nat), (Instr.rmaCancelHold src id).wf = true →
    exec (.rmaCancelHold src id) s = .next (s.put
      { s.chip with rma := { s.chip.rma with cancels := dropWhere (fun x => x == (src, id)) s.chip.rma.cancels } })) ∧
  (∀ id req seq src : Nat, Completes (.rmaAtomicTimeout id) ∧ Completes (.rmaStoreTimeout id) ∧ Completes (.rmaWriteTimeout id) ∧
    Completes (.rmaBusyBackoff id) ∧ Completes (.rmaReplayHold req seq) ∧ Completes (.replayFloorDiscard req) ∧
    Completes (.rmaReassemblyLimit src id) ∧ Completes (.rmaCancelHold src id))

/-- R344, R356: a write by the owner or the manager that activates a grant along a legal transition stores its fields, and
along another is refused and logged; one that revokes keeps the word, names the revoker and starts the revocation, and one that
invalidates stores it. R359 to R362: the owner arms a list with its partition and entries, stops an armed one, and advances
one; an installed key takes the slot of its partition and epoch, and an erased one leaves. -/
def Obligations.GrantsListsAndKeys : Prop :=
  (∀ (s : State) (acc : Accessor) (g : Nat), s.chip.writeOpen = true → (acc = .manager ∨ s.chip.accOwner acc = true) →
    let dev := match acc with | .manager => s.chip.mgrDevice | _ => s.chip.deviceId
    let off := Reg.rmaGrant g 0
    (∀ v, (Instr.grantActivate acc g v).wf = true →
      (s.chip.grantAccepts g (putField v 63 62 1) = true → exec (.grantActivate acc g v) s =
        .next (s.put (s.chip.setReg off (grantMask (putField v 63 62 1)))).settled) ∧
      (s.chip.grantAccepts g (putField v 63 62 1) = false → exec (.grantActivate acc g v) s =
        .next (s.put (s.chip.log (refused 0x0E01 off))).settled)) ∧
    ((Instr.grantRevoke acc g).wf = true → s.chip.grantAccepts g (grantWord s g 2) = true → exec (.grantRevoke acc g) s =
      .next (s.put (((s.chip.setReg off (grantMask (grantWord s g 2))).setFld (Reg.rmaGrant g 1) 15 0 dev).revokeDone g)).settled) ∧
    ((Instr.grantInvalidate acc g).wf = true → s.chip.grantAccepts g (grantWord s g 0) = true → exec (.grantInvalidate acc g) s =
      .next (s.put (s.chip.setReg off (grantMask (grantWord s g 0)))).settled)) ∧
  (∀ (s : State) (port l : Nat) (v : W64), OwnerPort s port → s.chip.wlReserved l = false →
    ((Instr.wlArm port l v).wf = true → s.chip.fld (Reg.rmaWlHdr l 0) 63 62 ≠ 1 → exec (.wlArm port l v) s = .next (s.put
      (((s.chip.setFlds (Reg.rmaWlHdr l 0) [(61, 58, fieldOf v 61 58), (57, 51, clampN 1 64 (fieldOf v 57 51))]).setFlds
        (Reg.rmaWlHdr l 0) [(63, 62, 1), (50, 44, 0)]).wlTasks [.run l])).settled) ∧
    ((Instr.wlStop port l v).wf = true → s.chip.fld (Reg.rmaWlHdr l 0) 63 62 = 1 → exec (.wlStop port l v) s =
      .next (s.put (s.chip.setFld (Reg.rmaWlHdr l 0) 63 62 0)).settled)) ∧
  (∀ (s : State) (port : Nat) (v : W64), OwnerPort s port →
    ((Instr.rmaWlAdvance port v).wf = true → bitOf v 63 = true → exec (.rmaWlAdvance port v) s =
      .next (s.put (s.chip.wlAdvance (fieldOf v 11 0) (fieldOf v 47 16))).settled) ∧
    ((Instr.keyInstall port v).wf = true → exec (.keyInstall port v) s =
      .next (s.put (s.chip.keyInstall (fieldOf v 3 0) (fieldOf v 11 4)))) ∧
    ((Instr.keyErase port v).wf = true → exec (.keyErase port v) s = .next (s.put
      { s.chip with rma := { s.chip.rma with keys := dropWhere (fun k => k.part == fieldOf v 3 0 && k.epoch == fieldOf v 11 4) s.chip.rma.keys } })))

/-! ## Embeddings -/

namespace Sys2Proof.Machine

/-- R289: the rows of a read in order, each padded to its place, up to the first that has a status of its own. -/
def readRows (c : Chip) (b : EmbReadBody) (v : TableVer) (te : Bool) : Nat × List (List Byte) × Chip :=
  b.rows.foldl (fun (a : Nat × List (List Byte) × Chip) row =>
    if a.1 ≠ stOk then a
    else
      let (st, c) := a.2.2.rowStatus b.table b.version row te
      match (if st = stOk then c.homeOf v row else none) with
      | some p =>
        let bs := c.readRow v p row
        (stOk, a.2.1 ++ [bs ++ List.replicate (rowReplyBytes v.fmt v.width - bs.length) 0#8], c)
      | none => (st, [], c)) (stOk, [], c)

/-- The answer to a read that is not encrypted (R289). -/
def rowsAnswer (c : Chip) (h : FabHdr) (b : EmbReadBody) (st : Nat) (rows : List (List Byte)) : Chip :=
  c.reply .device h (.embRows { status := st, version := b.version, rows := rows, rsvd := 0 })

/-- The shard range that a redirect teaches (R290). -/
def learned (c : Chip) (b : EmbRedirectBody) : Chip :=
  c.learn b.table b.version { first := b.firstRow, m := b.log2Rows, device := b.newDevice, region := b.newRegion, offset := b.newOffset }

/-- R319: what a packet of a scatter add adds to the context of its message. -/
def scatterJoins (c : Chip) (h : FabHdr) (b : EmbScatterBody) : Reassembly :=
  c.reassemble h (h.msgOffset / 4096) 0 (4 * b.delta.length) stOk (scatterBytes b)

/-- The record of a migration that a device accepts (R294). -/
def acceptedRange (h : FabHdr) (b : MigOfferBody) : MigIn :=
  { source := h.src, id := b.migId, table := b.table, version := b.version, first := b.firstRow, m := b.log2Rows, state := 1, place := none, bytes := 0, queries := 0 }

/-- The rows of a bag in its order (R279). -/
def bagOrder (g : Gather) (b : BagIn) : List (List Byte) := b.idx.map (fun i => ((g.rows.find? (fun r => r.1 == i)).map Prod.snd).getD [])

/-- R279: the vector of a bag: in its output format, or as binary32 where a step's stream carries it on (log entry 88). -/
def bagVector (g : Gather) (b : BagIn) (cols : List W32) : List Byte :=
  if g.join.isSome then (cols.map (fun w => leBytes w.toNat 4)).flatten else (embEncode b.outFmt cols).1

/-- The rows of a migrating range, in the messages that carry them (R294). -/
def rangeRuns (v : TableVer) (r : MigOut) : List (List Nat) :=
  let n := v.rangeRows r.first r.m
  let per := 16580608 / (rowElemBytes v.fmt v.width + rowScaleBytes v.fmt v.width)
  (upTo (cdiv n per)).map (fun i => (upTo (min per (n - i * per))).map (fun j => r.first + i * per + j))

end Sys2Proof.Machine

/-- R289, R290: a read of an installed version is answered with its rows in order; of a version that is not installed with
ST_TABLE_RETIRED; without the domain with ST_DOMAIN_OFFLINE. R285, R319: a scatter add that is whole, in one packet or with the
last of its packets, is applied to a home row there, and one to a range that is locked joins its queue; a packet before the last
waits in its context. R282, R290: rows, acknowledgements and redirects end their operations or send them again. -/
def Obligations.EmbeddingPackets : Prop :=
  (∀ (s : State) (h : FabHdr) (b : EmbReadBody) (te : Bool), (Instr.fabPktEmbRead h b te).wf = true → Arrives s h (.embRead b) b.rsvd →
    h.enc = false →
    let c := got s h (.embRead b)
    (c.domUp 6 = false → exec (.fabPktEmbRead h b te) s = .next (s.put (rowsAnswer c h b stOffline []))) ∧
    (c.domUp 6 = true → c.ver b.table b.version = none →
      exec (.fabPktEmbRead h b te) s = .next (s.put (rowsAnswer c h b stTableRetired []))) ∧
    (∀ v, c.domUp 6 = true → c.ver b.table b.version = some v → b.rows ≠ [] → b.rows.length ≤ rowsPerRead v.fmt v.width →
      (∀ row ∈ b.rows, c.migFor b.table b.version row = none) →
      exec (.fabPktEmbRead h b te) s = .next (s.put (rowsAnswer (readRows c b v te).2.2 h b (readRows c b v te).1 (readRows c b v te).2.1)))) ∧
  (∀ (s : State) (h : FabHdr) (b : EmbScatterBody) (te : Bool) (v : TableVer), (Instr.fabPktEmbScatter h b te).wf = true →
    Arrives s h (.embScatter b) b.rsvd →
    let c := got s h (.embScatter b)
    (c.domUp 6 = true → c.ver b.table b.version = some v → b.delta.length = v.width → h.payLen = h.totalLen →
      (c.migFor b.table b.version b.row = none → exec (.fabPktEmbScatter h b te) s = .next (s.put (c.homeScatter h b te))) ∧
      (∀ r, c.migFor b.table b.version b.row = some r → r.state = 2 → exec (.fabPktEmbScatter h b te) s = .next (s.put
        (c.onEmb (fun e => { e with out := updWhere (fun x => x.id == r.id) (fun x => { x with queue := x.queue ++ [.pkt ⟨h, .embScatter b⟩] }) e.out }))))) ∧
    (∀ x, h.payLen ≠ h.totalLen → scatterJoins c h b = .more x → exec (.fabPktEmbScatter h b te) s = .next (s.put (c.setCtx x))) ∧
    (∀ x, h.payLen ≠ h.totalLen → scatterJoins c h b = .whole x → exec (.fabPktEmbScatter h b te) s = .next (s.put
      ((c.dropCtx h.src h.msgId).scatterArrives h (scatterOf (ctxBody x)) te)))) ∧
  (∀ (s : State) (h : FabHdr) (b : EmbRowsBody) (o : PendOp) (q : EmbReadBody) (v : TableVer), (Instr.fabPktEmbRows h b).wf = true →
    Arrives s h (.embRows b) b.rsvd →
    let c := got s h (.embRows b)
    c.op? h.msgId = some o → o.body = .embRead q → statusOf b.status = stOk → c.ver q.table q.version = some v →
    b.rows.length = q.rows.length → (∀ r ∈ b.rows, r.length = rowReplyBytes v.fmt v.width) →
    exec (.fabPktEmbRows h b) s = .next (s.put (Chip.finishOps (c.endOp o stOk b.rows.flatten)))) ∧
  (∀ (s : State) (h : FabHdr) (b : EmbScatterAckBody) (o : PendOp), (Instr.fabPktEmbScatterAck h b).wf = true →
    Arrives s h (.embScatterAck b) b.rsvd →
    let c := got s h (.embScatterAck b)
    c.rma.ops.find? (fun o => o.kind == .scatter && o.seq == b.seq) = some o → statusOf b.status ≠ stBusy → statusOf b.status ≠ stReset →
    exec (.fabPktEmbScatterAck h b) s = .next (s.put (Chip.finishOps (c.endOp o (statusOf b.status) [])))) ∧
  (∀ (s : State) (h : FabHdr) (b : EmbRedirectBody), (Instr.fabPktEmbRedirect h b).wf = true → Arrives s h (.embRedirect b) (regionRsvd b.newRegion b.rsvd true) →
    let c := learned (got s h (.embRedirect b)) b
    (statusOf b.status ≠ stStaleMap → exec (.fabPktEmbRedirect h b) s = .next (s.put c)) ∧
    (∀ o d, statusOf b.status = stStaleMap → c.op? h.msgId = some o → o.kind = .scatter → o.body = .embScatter d →
      exec (.fabPktEmbRedirect h b) s = .next (s.put (Chip.finishOps (c.retarget o b.newDevice b.newRegion)))))

/-- R293 to R296: a migration at both of its ends. An offer of a range of an installed version is accepted; of another version it
gets ST_TABLE_RETIRED, of a range under way ST_BUSY. At the source its reply starts the copy or, a refusal, ends it; the acknowledgement of the copy makes it
COPIED, the final one flips the home, and its forwarding ends with the timer. At the new home the commit makes it the home, and
an abort drops what was reserved. -/
def Obligations.Migration : Prop :=
  (∀ (s : State) (h : FabHdr) (b : MigOfferBody), (Instr.fabPktEmbMigOffer h b).wf = true → Arrives s h (.migOffer b) b.rsvd →
    let c := got s h (.migOffer b)
    let overlap := c.emb.ins.any (fun r => r.table == b.table && r.version == b.version &&
      (covers r.first r.m b.firstRow || covers b.firstRow b.log2Rows r.first))
    let answer := fun (c : Chip) (st : Nat) =>
      (c.sendNew .device h.src 0 (.migReply { common := migCommon b.migId, status := st, rxRegion := 0, rxOffset := 0, rsvd := 0 })).2
    (c.ver b.table b.version = none → exec (.fabPktEmbMigOffer h b) s = .next (s.put (answer c stTableRetired))) ∧
    (c.ver b.table b.version ≠ none → (c.domUp 6 = false ∨ overlap = true) →
      exec (.fabPktEmbMigOffer h b) s = .next (s.put (answer c stBusy))) ∧
    (c.ver b.table b.version ≠ none → c.domUp 6 = true → overlap = false →
      exec (.fabPktEmbMigOffer h b) s = .next (s.put
        (answer (c.onEmb (fun e => { e with ins := e.ins ++ [acceptedRange h b] })) stOk)))) ∧
  (∀ (s : State) (h : FabHdr) (b : MoveReplyBody) (r : MigOut), (Instr.fabPktEmbMigReply h b).wf = true →
    Arrives s h (.migReply b) (regionRsvd b.rxRegion (b.rsvd ||| b.common.rsvd) true) →
    let c := got s h (.migReply b)
    c.migOut? b.common.moveId = some r → r.newDevice = h.src →
    (r.state = 1 → r.written = false → statusOf b.status ≠ stOk →
      exec (.fabPktEmbMigReply h b) s = .next (s.put (c.migAborted r (statusOf b.status) false))) ∧
    (∀ v, r.state = 1 → r.written = false → statusOf b.status = stOk → c.ver r.table r.version = some v →
      let w := (c.setMigOut { r with written := true }).migWrite { r with written := true } v (rangeRuns v r)
      w.1 = none → exec (.fabPktEmbMigReply h b) s = .next (s.put w.2)) ∧
    (r.written = true → exec (.fabPktEmbMigReply h b) s = .next (s.put c))) ∧
  (∀ (s : State) (h : FabHdr) (b : MoveAckBody) (r : MigOut), (Instr.fabPktEmbMigAck h b).wf = true →
    Arrives s h (.migAck b) (ackRsvd b) →
    let c := got s h (.migAck b)
    c.migOut? b.common.moveId = some r → r.newDevice = h.src →
    (b.phase = 0 → r.state = 1 → r.written = true →
      exec (.fabPktEmbMigAck h b) s = .next (s.put (c.setMigOut { r with copied := true }))) ∧
    (b.phase ≠ 0 → r.state = 2 → c.migBytes r ≤ b.bytes → exec (.fabPktEmbMigAck h b) s = .next (s.put (c.migFlip r))) ∧
    (b.phase ≠ 0 → r.state = 2 → b.bytes < c.migBytes r → exec (.fabPktEmbMigAck h b) s = .next (s.put c)) ∧
    (b.phase ≠ 0 → r.state = 3 → exec (.fabPktEmbMigAck h b) s = .next (s.put
      ((c.sendNew .device r.newDevice 0 (.migCommit { common := migCommon r.id, rsvd := 0 })).2)))) ∧
  (∀ (s : State) (h : FabHdr) (b : MoveBareBody) (r : MigIn), (Instr.fabPktEmbMigCommit h b).wf = true →
    Arrives s h (.migCommit b) (b.rsvd ||| b.common.rsvd) →
    let c := got s h (.migCommit b)
    c.migIn? h.src b.common.moveId = some r →
    (r.state = 3 → exec (.fabPktEmbMigCommit h b) s = .next (s.put (c.migHome r))) ∧
    (r.state ≠ 3 → exec (.fabPktEmbMigCommit h b) s = .next (s.put c))) ∧
  (∀ (s : State) (h : FabHdr) (b : MoveAbortBody), (Instr.fabPktEmbMigAbort h b).wf = true →
    Arrives s h (.migAbort b) (b.rsvd ||| b.common.rsvd) →
    let c := got s h (.migAbort b)
    (∀ r, c.migIn? h.src b.common.moveId = some r → exec (.fabPktEmbMigAbort h b) s = .next (s.put (c.dropMigIn r))) ∧
    (∀ r, c.migIn? h.src b.common.moveId = none → c.migOut? b.common.moveId = some r → r.state ≤ 2 → r.newDevice = h.src →
      exec (.fabPktEmbMigAbort h b) s = .next (s.put (c.migAborted r (statusOf b.status) false)))) ∧
  (∀ (s : State) (id : Nat) (r : MigOut), (Instr.migrationForwardingTimer id).wf = true → s.chip.migOut? id = some r →
    (r.state = 3 → exec (.migrationForwardingTimer id) s = .next (s.put
      ((s.chip.setMigOut { r with state := 4 }).migStatus r 4 0 (s.chip.fld Reg.embMigrateStatus 31 0)))) ∧
    (r.state ≠ 3 → exec (.migrationForwardingTimer id) s = .next s))

/-- R279, R282 to R284, R288, R291, R297: a bag whose rows are there is pooled and ended; an empty bag is all zeros, and
counted; a late gather whose partition allows no stale reads is counted and logged once; a replica in use is asked for again,
one that was not used since its last refresh is dropped, and one that expires is dropped and counted; each period halves the
sketch and starts the final part of the copied migrations; the owner's write of a partition's replica space drops the oldest
replicas until the rest fit. Each timer (`bagPooled`, `gatherDeadline`, `replicaRefresh`, `replicaExpiry`, `embEpoch`,
`migrationForwardingTimer`) completes in every state. -/
def Obligations.EmbeddingTimers : Prop :=
  (∀ (s : State) (id : Nat) (g : Gather) (b : BagIn) (rest : List BagIn) (v : TableVer), (Instr.bagPooled id).wf = true →
    s.chip.gather? id = some g → g.bags = b :: rest → s.chip.ver g.table g.version = some v → g.started = true → g.asked = true →
    g.fail = none → g.missing b = [] →
    (b.idx = [] → exec (.bagPooled id) s = .next (s.put
      ((((((s.chip.bump (Reg.embCnt 0)).bump (Reg.embCnt 11)).bumpBy (Reg.embCnt 12) 0).endBag g stOk (1 + 2 * bitN g.stale)
        (bagVector g b (List.replicate v.width f32Zero))).driveGathers g.part)))) ∧
    (b.idx ≠ [] →
      let r := poolBag v.fmt v.width (b.pool == 1) (if b.weighted then some b.weights else none) (bagOrder g b)
      exec (.bagPooled id) s = .next (s.put ((((s.chip.bump (Reg.embCnt 0)).bumpBy (Reg.embCnt 12) r.2).endBag g stOk
        (2 * bitN g.stale + 4 * bitN (r.2 != 0)) (bagVector g b r.1)).driveGathers g.part)))) ∧
  (∀ (s : State) (id stall : Nat) (g : Gather) (b : BagIn) (rest : List BagIn), (Instr.gatherDeadline id stall).wf = true →
    s.chip.gather? id = some g → g.bags = b :: rest → g.started = true → g.asked = true → g.fail = none → g.late = false →
    g.deadline ≠ 0 → g.missing b ≠ [] → s.chip.staleOk g.part = false →
    exec (.gatherDeadline id stall) s = .next (s.put (((s.chip.setGather { g with late := true }).bumpBy (Reg.embCnt 6) (if g.join.isNone then stall else 0)).log
      { code := 0x0801, refKind := 3, ref := g.table, part := g.part }))) ∧
  (∀ (s : State) (t v row : Nat) (r : Replica) (tv : TableVer), s.chip.replica? t v row = some r → s.chip.ver t v = some tv →
    ((Instr.replicaRefresh t v row).wf = true → r.bytes ≠ none → r.asking = none → r.used = false →
      exec (.replicaRefresh t v row) s = .next (s.put (s.chip.dropReplicas (fun x => x == r)))) ∧
    ((Instr.replicaRefresh t v row).wf = true → r.bytes ≠ none → r.asking = none → r.used = true →
      ∀ c, (s.chip.setReplica { r with asking := some s.chip.time }).askRows r.part (.refresh t v row) tv 0 [row] = ([], none, c) →
        exec (.replicaRefresh t v row) s = .next (s.put c)) ∧
    ((Instr.replicaExpiry t v row).wf = true → exec (.replicaExpiry t v row) s = .next (s.put
      ((s.chip.onEmb (fun e => { e with replicas := dropWhere (fun x => x == r) e.replicas })).bump (Reg.embCnt 4))))) ∧
  (∀ s : State, (Instr.embEpoch).wf = true →
    exec .embEpoch s = .next (s.put
      (let half := (s.chip.emb.sketch.map (fun x => (x.1, x.2 / 2))).filter (fun x => x.2 != 0)
       (s.chip.emb.out.filter (fun r => r.state == 1 && r.copied)).foldl (fun c r => c.migFinal r)
         (s.chip.onEmb (fun e => { e with sketch := half, epochMs := s.chip.fld Reg.embCtrl 15 0 }))))) ∧
  (∀ (s : State) (port p : Nat) (v : W64), (Instr.replicaStoreWrite port p v).wf = true → OwnerPort s port →
    exec (.replicaStoreWrite port p v) s = .next (s.put
      (let c := s.chip.setReg (Reg.embPartCtrl p) (rwWrite embPartFields (some 63) (s.chip.reg (Reg.embPartCtrl p)) v)
       roomFor p 0 (s.chip.emb.replicas.length + 1) c))) ∧
  (∀ id stall t v row : Nat, Completes (.bagPooled id) ∧ Completes (.gatherDeadline id stall) ∧ Completes (.replicaRefresh t v row) ∧
    Completes (.replicaExpiry t v row) ∧ Completes .embEpoch ∧ Completes (.migrationForwardingTimer id))

/-! ## Boot, images, flash and documents -/

namespace Sys2Proof.Machine

/-- The state in which a command that reads an image waits for it (R410, R413, R417). -/
def State.reading (s : State) (cmd : Nat) (word : W64) : State :=
  s.put ((s.chip.setRun (some { BootRun.mk0 cmd word with slot := fieldOf word 13 13, waits := true })).bootStatus true cmd 0 0)

/-- A command that has read its image lets SVN_COMMIT and the entry to SERVICE follow where they are due. -/
def State.afterImage (s : State) : State := s.svnAuto.bootCheck.settled

/-- The writes of BOOT_CMD start a command: they come from the owner port and no command runs (R417). -/
abbrev BootIdle (s : State) (p : Nat) : Prop := OwnerPort s p ∧ p < 4 ∧ s.chip.boot.run = none

/-- The document whose bytes a request starts to write (R408). -/
def docOf (s : State) (w : W64) : DocRun :=
  { kind := fieldOf w 17 16, port := fieldOf w 23 22, window := fieldOf w 21 18, offset := s.chip.fld Reg.secQuoteArg 47 0, body := [], log := [], signed := false, length := 0 }

/-- The chip at which a document has been signed: the signature's randomness is two free values (log entry 2). -/
def signedChip (c : Chip) : Chip :=
  let d := c.takeFree.2.takeFree.2
  ({ d with boot := { d.boot with docSeq := d.boot.docSeq + 1 } }).bump Reg.secDocsSigned

end Sys2Proof.Machine

/-- R392: where each state command leads, and where it is refused with ST_BUSY: to SERVICE from START_UP with a collar region
and from every later state; to TEST from START_UP with a collar region, with no change in TEST, and refused in SERVICE and
RECOVERY; to RECOVERY from SERVICE and TEST, and refused in START_UP. -/
def Obligations.DeviceStateCommands : Prop :=
  ∀ (s : State) (p : Nat), BootIdle s p →
    ((s.chip.devState = 2 ∧ s.chip.board.collarOk = true ∨ 3 ≤ s.chip.devState) →
      exec (.enterService p) s = .next (s.put (s.chip.bootDone 1 stOk)).toService.settled) ∧
    (s.chip.devState = 2 → s.chip.board.collarOk = true →
      exec (.enterTest p) s = .next (s.put ((s.chip.bootDone 2 stOk).enterState 4)).settled) ∧
    (s.chip.devState = 4 → exec (.enterTest p) s = .next (s.put (s.chip.bootDone 2 stOk)).settled) ∧
    (s.chip.devState = 3 ∨ s.chip.devState = 5 → exec (.enterTest p) s = .next (s.put (s.chip.bootDone 2 stBusy)).settled) ∧
    (s.chip.devState = 2 → exec (.enterRecovery p) s = .next (s.put (s.chip.bootDone 3 stBusy)).settled) ∧
    (s.chip.devState = 3 ∨ s.chip.devState = 4 →
      exec (.enterRecovery p) s = .next (s.put ((s.chip.bootDone 3 stOk).enterState 5)).settled)

/-- R410: an image from a slot that passes every check and changes nothing fixed is applied as a whole; one that fails a check
changes nothing and ends with ST_IMAGE_INVALID; in SERVICE the command ends with ST_BUSY (the model's choice, log entry 40). R413: an image that passes its checks is
written to the slot by the sector; one that fails is not, and the slot booted from is refused. -/
def Obligations.ImageCommands : Prop :=
  (∀ (s : State) (p slot q w : Nat) (img : ReadImage), BootIdle s p → (Instr.applyImage p false slot q w img).wf = true →
    let r := s.reading 4 (applyWord false slot q w)
    (s.chip.devState = 3 → exec (.applyImage p false slot q w img) s = .next (s.put (s.chip.bootDone 4 stBusy)).settled) ∧
    (∀ i old rd, s.chip.devState ≠ 3 → img = .image rd → s.nv.slots.getD slot none = some i → s.chip.boot.img = some old →
      (r.imageResult i = 1 → imageFixed old i = true → exec (.applyImage p false slot q w img) s =
        .next ((r.applyImage old i slot).put ((r.applyImage old i slot).chip.bootEnd stOk)).afterImage) ∧
      (r.imageResult i = 1 → imageFixed old i = false → exec (.applyImage p false slot q w img) s =
        .next (r.put (r.chip.bootEnd stUnsupported)).afterImage) ∧
      (r.imageResult i ≠ 1 → exec (.applyImage p false slot q w img) s =
        .next (r.put ((r.chip.rejectImage (r.imageResult i)).bootEnd stImageInvalid)).afterImage))) ∧
  (∀ (s : State) (p slot q w : Nat) (i : CfgImage), BootIdle s p → (Instr.writeSlot p slot q w (.image i)).wf = true →
    let word := slotWord slot q w
    let r := s.reading 5 word
    (s.chip.bootedFrom = some slot → exec (.writeSlot p slot q w (.image i)) s =
      .next (s.put (s.chip.bootDone 5 stBusy)).settled) ∧
    (s.chip.readCheck word 5 = stOk → r.chip.imageInWindow word i = true →
      (r.imageResult i = 1 → exec (.writeSlot p slot q w (.image i)) s =
        .next (r.startUnits { BootRun.mk0 5 word with slot := slot, img := some i, units := cdiv (i.totalLen + 7856) 4096 }).afterImage) ∧
      (r.imageResult i ≠ 1 → exec (.writeSlot p slot q w (.image i)) s =
        .next (r.put ((r.chip.rejectImage (r.imageResult i)).bootEnd stImageInvalid)).afterImage)))

/-- R415: CAL_SAVE starts to write the trained values of the selected kinds, with the overlay's entries of the others, into the
older copy with the next `SEQ`; CAL_RESTORE_FACTORY starts to erase the copies' 256 sectors. R404: SVN_COMMIT starts to program
the fuse words that the applied image needs, and one that would change nothing ends with ST_OK. R411, R412: a unit that
completes lets the next be checked, and the last ends the command. -/
def Obligations.FlashCommands : Prop :=
  (∀ (s : State) (p kinds : Nat), BootIdle s p → kinds < 64 →
    let chosen := s.chip.boot.trained.filter (fun e => decide (1 ≤ e.1) && kinds.testBit (e.1 - 1))
    let kept := fun (k : CalCopy) => k.entries.filter (fun e => !(decide (1 ≤ e.1) && kinds.testBit (e.1 - 1)))
    let go := fun (slot seq : Nat) (cal : List (Nat × Nat × List Byte)) => (s.startUnits { BootRun.mk0 6 (bootWord 6 [(25, 20, kinds)]) with slot := slot, seq := seq, cal := cal, units := cdiv (CalCopy.of seq cal).bytes.length 4096 }).settled
    (s.nv.overlay = none → exec (.calSave p kinds) s = .next (go 0 1 chosen)) ∧
    (∀ w k, s.nv.overlay = some (w, k) → exec (.calSave p kinds) s = .next (go (1 - w) (wrapSucc 32 k.seq) (chosen ++ kept k)))) ∧
  (∀ (s : State) (p : Nat), BootIdle s p →
    exec (.calRestoreFactory p) s = .next (s.startUnits { BootRun.mk0 7 (bootWord 7 []) with units := 256 }).settled) ∧
  (∀ (s : State) (p : Nat) (i : CfgImage), BootIdle s p → s.chip.boot.img = some i →
    (svnUnits s.nv i = 0 → exec (.svnCommit p) s = .next (s.put ((s.chip.bootDone 8 stOk).extendFuses s.nv)).settled) ∧
    (0 < svnUnits s.nv i → exec (.svnCommit p) s =
      .next (s.startUnits { BootRun.mk0 8 (bootWord 8 []) with img := some i, units := svnUnits s.nv i }).settled)) ∧
  (∀ (s : State) (ok : Bool) (r : BootRun), s.chip.boot.run = some r → r.waits = false → r.cut = false →
    let c := if r.cmd = 8 then s.chip else s.chip.bump Reg.bootFlashUnits
    let t : State := { s with nv := s.nv.unitDone r ok, chip := c.setFld Reg.bootCmdStatus 31 0 (c.fld Reg.bootCmdStatus 31 0 + 1) }
    (1 < r.units → exec (.flashUnitCompletes ok) s = .next (t.nextUnit { r with units := r.units - 1 }).svnAuto.settled) ∧
    (r.units ≤ 1 → exec (.flashUnitCompletes ok) s = .next (t.written r ok).svnAuto.settled))

/-- R408: a request that passes its checks takes the body of its document (a service report after a snapshot) and waits to be
signed; an endorsement record starts to be written at once; a refused one shows its status. A signed document is counted and starts
to be written. R409: the owner's protection writes take effect, are logged and extend slot 7. -/
def Obligations.Documents : Prop :=
  (∀ (s : State) (p : Nat) (v : W64), OwnerPort s p → s.chip.boot.doc = none →
    let w := putField v 63 63 1
    let n := 8 + 40 * s.chip.boot.log.length
    ((Instr.quote p v).wf = true →
      (s.chip.docCheck w (384 + 17088 + n) = stOk → exec (.quote p v) s = .next (s.put
        (let c := s.chip.docStatus true 0 0
         { c with boot := { c.boot with doc := some { docOf s w with body := docPrefix c s.nv 1, log := docLog c } } })).settled) ∧
      (s.chip.docCheck w (384 + 17088 + n) ≠ stOk → exec (.quote p v) s =
        .next (s.put (s.chip.docStatus false (s.chip.docCheck w (384 + 17088 + n)) 0)).settled)) ∧
    ((Instr.serviceReport p v).wf = true → s.chip.docCheck w (928 + 17088 + n) = stOk →
      exec (.serviceReport p v) s = .next (s.put
        (let c := tenHistSnap (s.chip.docStatus true 0 0) (fieldOf w 35 24) (bitOf w 62)
         { c with boot := { c.boot with doc := some { docOf s w with body := docPrefix c s.nv 2 ++ docReport c (fieldOf w 35 24), log := docLog c } } })).settled) ∧
    ((Instr.endorsementRecord p v).wf = true → s.chip.docCheck w 7920 = stOk →
      exec (.endorsementRecord p v) s = .next (s.put
        ((s.chip.docStatus true 0 0).docSend (docOf s w) (endorsementRecord (s.chip.docStatus true 0 0) s.nv))).settled)) ∧
  (∀ (s : State) (d : DocRun), s.chip.boot.doc = some d → d.signed = false →
    exec .documentSigned s = .next (s.put ((signedChip s.chip).docSend d
      (d.body ++ aikSign s.nv d.body (leBytes (Config.freeWord s.chip.free).toNat 8 ++ leBytes (Config.freeWord (s.chip.free + 1)).toNat 8) ++ d.log)))) ∧
  (∀ (s : State) (p : Nat) (v : W64), OwnerPort s p → p < 4 →
    (∀ k < 16, exec (.protectionWrite p (Reg.secHostAccess k) v) s =
      .next (s.put ((s.chip.hostAccessSet k (fieldOf v 7 0)).protected (Reg.secHostAccess k) v)).settled) ∧
    exec (.protectionWrite p Reg.secProtect v) s =
      .next (s.put ((s.chip.protectSet (fieldOf v 3 2) (bitOf v 1)).protected Reg.secProtect v)).settled)

/-! ## Power-on, resets and the SMBus port -/

/-- R393: power-on starts everything but flash and fuses afresh; the root clock's lock starts the local time and draws the random
words; the slots are tried in their order and the first accepted one is applied; the trained domains bring the device to START_UP. -/
def Obligations.PowerOn : Prop :=
  (∀ (s : State) (straps : Nat), straps < 8 → exec (.powerGood straps) s = .next (s.put
    (({ Chip.init with free := s.chip.free, pwr := { Pwr.init with vMv := s.chip.pwr.vMv }, boot := { Boot.init with straps := straps } } : Chip).stepOne s.nv))) ∧
  (∀ s : State, s.chip.powered = true →
    let c := ({ s.chip with pwr := { s.chip.pwr with refPresent := true } }).setFld Reg.clkStatus 62 62 1
    (s.chip.pwr.clockHold = false → exec .referencePresent s = .next (s.put c)) ∧
    (s.chip.pwr.clockHold = true → s.chip.pwr.inCold = none → exec .referencePresent s = .next (s.put (c.coldReset s.nv 4)))) ∧
  (∀ s : State, s.chip.held = false → s.chip.fld Reg.idBootStatus 60 56 = 1 → s.chip.pwr.refPresent = true →
    exec .rootPllLocked s = .next ((s.put (({ s.chip with timeOn := true, pwr := { s.chip.pwr with rootLocked := true } }).setFld
      Reg.clkStatus 63 63 1)).stepTwo true)) ∧
  (∀ (s : State) (a b : Bool), s.chip.held = false → s.chip.fld Reg.idBootStatus 60 56 = 5 → s.chip.devState = 0 → s.chip.domUp 1 = true →
    exec (.imageSlotVerified a b) s = .next (bootSlots (fun k => if k = 0 then a else b) s.nv.slotOrder
      (s.put (s.chip.setFlds Reg.idBootStatus [(53, 51, 0), (50, 48, 0)]))).settled) ∧
  (∀ (s : State) (failed : List StationRef) (stackOk : List Bool) (channels : List ChannelInfo),
    (Instr.domainsTrained failed stackOk channels).wf = true → s.chip.held = false → s.chip.fld Reg.idBootStatus 60 56 = 7 →
    s.chip.domUp 1 = true → exec (.domainsTrained failed stackOk channels) s = .next (domainsTrained s failed stackOk channels).settled)

/-- R484, R421, R436: a module cold reset follows RESET_N held low for 10 µs or more, the recovered input and a confirmed write
of the owner; an unconfirmed one is logged and refused, and a pulse of less than 1 µs on RESET_N does nothing. R394: the SMBus
port keeps an offset, and a read returns the status byte and the register there. -/
def Obligations.ColdResetsAndSmbus : Prop :=
  (∀ (s : State) (ns : Nat), s.chip.powered = true → s.chip.pwr.inCold = none → ns < 2 ^ 64 →
    (10000 ≤ ns → exec (.resetNAsserted ns) s = .next (s.put (s.chip.coldReset s.nv 1))) ∧
    (ns < 1000 → exec (.resetNAsserted ns) s = .next s)) ∧
  (∀ (s : State) (k : Nat), s.chip.pwr.inCold = some k → (k = 3 ∨ k = 10) →
    exec .inputRecovered s = .next (s.put (s.chip.coldReset s.nv k))) ∧
  (∀ (s : State) (p : Nat) (v : W64), OwnerPort s p → p < 4 → bitOf v 63 = true → fieldOf v 15 0 = 0x0C0D →
    exec (.pwrModuleReset p v) s = .next (s.put { s.chip with pwr := { s.chip.pwr with modReset := true } }).settled ∧
    (s.chip.work.slotWait = [] → exec (.pwrModuleReset p v) s = .next (s.put (s.chip.coldReset s.nv 2)))) ∧
  (∀ (s : State) (p : Nat) (v : W64), OwnerPort s p → p < 4 → bitOf v 63 = true → fieldOf v 15 0 ≠ 0x0C0D →
    exec (.pwrModuleReset p v) s = .next (s.put (s.chip.log (refused 0x0204 Reg.pwrModuleReset))).settled) ∧
  (∀ (s : State) (bs : List Byte), s.chip.powered = true → s.chip.held = false → bs.length = 4 → natOfLe bs % 8 = 0 →
    exec (.smbusSetOffset 1 bs true) s =
      .next (s.put { s.chip with boot := { s.chip.boot with smbOffset := natOfLe bs } })) ∧
  (∀ s : State, s.chip.powered = true → s.chip.held = false →
    let off := s.chip.boot.smbOffset
    let st := s.chip.smbCheck off
    exec (.smbusRead 2 true) s = .next (s.put { s.chip with boot := { s.chip.boot with smbOut := leBytes st 1 ++ leBytes (if st = 0 then (s.regRead off).toNat else 0) 8 } }))

/-! ## Power, thermal control and board memory -/

namespace Sys2Proof.Machine

/-- R428: what a domain command of the owner port does: it is logged and ignored while another runs; it shows its status where the
check ends it (a POWER_DOWN of a domain that is off keeps it off); else it shows itself busy and its sequence starts. -/
def domainCommanded (c : Chip) (k d : Nat) (cas : Bool) : Chip :=
  if c.pwr.cmd.isSome then c.log (refused 0x0205 Reg.pwrDomainCmd)
  else
    match c.cmdCheck k d cas with
    | some st =>
      if k = 1 ∧ st = stOk then ((c.cmdStatus false k d st).setOwnerOff d true).setRet d .stay else c.cmdStatus false k d st
    | none => (({ c with pwr := { c.pwr with cmd := some (k, d) } }).cmdStatus true k d 0).cmdRun k d

end Sys2Proof.Machine

/-- R428: a domain command that goes on shows itself busy and starts its sequence; one that ends at once shows its status; while
one runs, another is ignored and logged. POWER_DOWN, POWER_UP, RESET and UPDATE (`powerDown`, `powerUp`, `reset`, `update`)
complete in every state in which register writes reach the device. -/
def Obligations.PowerCommands : Prop :=
  ∀ (s : State) (p d : Nat) (cas : Bool), OwnerPort s p → p < 4 → d < 32 →
    exec (.powerDown p d cas) s = .next (s.put (domainCommanded s.chip 1 d cas)).settled ∧
    exec (.powerUp p d cas) s = .next (s.put (domainCommanded s.chip 2 d cas)).settled ∧
    exec (.reset p d cas) s = .next (s.put (domainCommanded s.chip 3 d cas)).settled ∧
    exec (.update p d cas) s = .next (s.put (domainCommanded s.chip 4 d cas)).settled ∧
    (s.chip.pwr.cmd = none → ∀ a, depOf d = some a → s.chip.domUp a = false → s.chip.domState d = 0 → d < 20 → d ≠ 0 →
      s.chip.roleDown d = false → (dependents d).any s.chip.domUp = false →
      exec (.powerUp p d cas) s = .next (s.put (s.chip.cmdStatus false 2 d stNotReady)).settled)

/-- R420: an input below 36 V for 5 µs is an input fault. R423: after the first lock, a lost lock sheds the load, is counted
and logged, and holds the device. R427: a ramp that completes brings its domain UP; one whose self-test fails is handled as a
failed ramp; a rail fault counts, is logged and takes its domain down; a down sequence ends OFF, or locked off at the third
fault. R434: the hub's watchdog restarts the hub with cause 8. -/
def Obligations.SupplyAndDomains : Prop :=
  (∀ (s : State) (mv us : Nat), (Instr.vInSample mv us).wf = true → s.chip.held = false → s.chip.fld Reg.idBootStatus 60 56 ≠ 0 →
    mv < 36000 → s.chip.pwr.vMv < 36000 → 5 ≤ s.chip.pwr.underRun + us →
    exec (.vInSample mv us) s = .next (s.put
      (({ s.chip with pwr := { s.chip.pwr with vMv := mv, underRun := s.chip.pwr.underRun + us, lowRun := 0, normRun := 0, highRun := 0, overRun := 0 } }).inputFault 3).drainSlots)) ∧
  (∀ (s : State) (ns : Nat), (Instr.referenceLoss ns true).wf = true → s.chip.held = false → s.chip.pwr.rootLocked = true → ns = 0 →
    exec (.referenceLoss ns true) s = .next (s.put
      ((((({ s.chip.shed with pwr := { s.chip.shed.pwr with clockHold := true, rootLocked := false } }).setFld Reg.clkStatus 63 63 0).wrapInc
        Reg.clkStatus 47 32).log { code := 0x0209 }).drainSlots))) ∧
  (∀ (s : State) (d : Nat) (ok : Bool) (f : List StationRef) (ch : List ChannelInfo), (Instr.domainRampCompletes d ok f ch).wf = true →
    s.chip.held = false → s.chip.domState d = 1 →
    (ok = false → exec (.domainRampCompletes d ok f ch) s = .next (s.put (s.chip.rampFails d).drainSlots)) ∧
    (ok = true → d < 16 → d ≠ 5 → exec (.domainRampCompletes d ok f ch) s =
      .next (s.put (((s.chip.domainUp d f ch).rise.checkCmd d).drainSlots)))) ∧
  (∀ (s : State) (d : Nat), (Instr.railFault d).wf = true → 1 < d → s.chip.held = false → (s.chip.domState d = 1 ∨ s.chip.domState d = 2) →
    exec (.railFault d) s = .next (s.put
      (((((((s.chip.overtake d).countRail d).log { code := 0x0203, domain := some d }).takeDown d 4 false .stay).checkPairs).drainSlots)))) ∧
  (∀ (s : State) (d : Nat), (Instr.downSequenceEnds d).wf = true → d ≠ 1 → d < 16 → s.chip.held = false → s.chip.domState d = 3 →
    (s.chip.railFaults d < 3 → s.chip.ret d = .stay → exec (.downSequenceEnds d) s =
      .next (s.put ((s.chip.setDom d 0).checkCmd d)).settled) ∧
    (3 ≤ s.chip.railFaults d → exec (.downSequenceEnds d) s =
      .next (s.put (((s.chip.setDom d 4).setRet d .stay).checkCmd d)).settled)) ∧
  (∀ s : State, s.chip.domUp 1 = true → exec .hubWatchdog s = .next (s.put (s.chip.hubRestart 8).drainSlots))

/-- R437 to R439: a power sample while the hub is UP joins the last 100 samples, one above the limit does not advance the count
below it, and one above the peak limit raises the levels four times in the mode of the steps. R440: the sensors are taken in
their order; above its threshold a sensor's level rises by one, and is logged when it starts; at or below its hysteresis a
level above 1 falls by one. R495: the patrol scrub counts a corrected line, and counts and marks an uncorrectable one. R497: a
sensor of channel 0 above 95 degrees slows the channel, which is logged. R496: a channel still in training is excluded with
cause 1 and logged. -/
def Obligations.PowerThermalAndBoardMemory : Prop :=
  (∀ (s : State) (mv ma : Nat), (Instr.powerSample mv ma).wf = true → s.chip.held = false → s.chip.domUp 1 = true →
    ∃ t, exec (.powerSample mv ma) s = .next (s.put (Chip.drainSlots t)) ∧
      t.pwr.samples = (mv * ma / 1000000 :: s.chip.pwr.samples).take 100 ∧
      (s.chip.fld Reg.pwrLimitCtrl 59 48 < mv * ma / 1000000 → t.pwr.below = s.chip.pwr.below) ∧
      (min (s.chip.fld Reg.pwrLimitCtrl 47 36) (75 * mv / 1000) < mv * ma / 1000000 → s.chip.bit Reg.pwrLimitCtrl 23 = false →
        let up := fun (l : Nat × Nat) => raiseOne (s.chip.fld Reg.pwrLimitCtrl 27 24) l.1 l.2
        (t.pwr.pLevel, t.pwr.dLevel) = up (up (up (up (s.chip.pwr.pLevel, s.chip.pwr.dLevel)))))) ∧
  (∀ (s : State) (temps : List Int), (Instr.thermalSample temps).wf = true → s.chip.held = false → s.chip.domUp 1 = true →
    exec (.thermalSample temps) s = .next (s.put
      (((temps.zipIdx.foldl (fun c x => if c.held || !c.domUp 1 then c else c.sense x.2 x.1) (s.chip.refreshRates temps)).checkPairs).drainSlots))) ∧
  (∀ (s : State) (k : Nat), (Instr.thermalLevelRise k).wf = true → s.chip.held = false → s.chip.domUp 1 = true →
    (8 * s.chip.throttleAt k : Int) < s.chip.temp k →
    let c := ({ s.chip with pwr := { s.chip.pwr with thermSeen := s.chip.pwr.thermSeen.set k true } }).setTherm k
      (min 15 (s.chip.pwr.therm.getD k 0 + 1))
    (s.chip.pwr.thermSeen.getD k false = true → exec (.thermalLevelRise k) s = .next (s.put c)) ∧
    (s.chip.pwr.thermSeen.getD k false = false → exec (.thermalLevelRise k) s =
      .next (s.put (c.log { code := 0x020C, refKind := 3, ref := k })))) ∧
  (∀ (s : State) (k n : Nat), (Instr.thermalLevelFall k).wf = true → s.chip.held = false → s.chip.domUp 1 = true →
    s.chip.pwr.therm.getD k 0 = n + 2 → s.chip.temp k ≤ (8 * (s.chip.throttleAt k - s.chip.fld Reg.pwrThermalCtrl 39 32) : Nat) →
    exec (.thermalLevelFall k) s = .next (s.put (s.chip.setTherm k (n + 1)))) ∧
  (∀ (s : State) (a : Nat) (cor : Bool), a < 2 ^ 64 → s.chip.domUp 5 = true → a < s.chip.board.t2Mib * 2 ^ 20 →
    (s.chip.board.marked.contains (a / 64 * 64) = false →
      exec (.patrolScrub a cor true) s = .next (s.put
        (let c := s.chip.bump Reg.bmEccUncorrectable
         { c with board := { c.board with marked := s.chip.board.marked ++ [a / 64 * 64] } }))) ∧
    exec (.patrolScrub a true false) s = .next (s.put (s.chip.bump Reg.bmEccCorrected)) ∧
    exec (.patrolScrub a false false) s = .next s) ∧
  (∀ (s : State) (ts : List Int), s.chip.domUp 5 = true → s.chip.channelState 0 = 2 → s.chip.board.dimmHot.contains 0 = false →
    s.chip.board.dimmSlow.contains 0 = false → ts.any (fun t => decide (95 < t)) = true → (Instr.dimmThermalRead [ts]).wf = true →
    exec (.dimmThermalRead [ts]) s = .next (s.put
      (({ s.chip with board := { s.chip.board with dimmHot := s.chip.board.dimmHot ++ [0], dimmSlow := s.chip.board.dimmSlow ++ [0] } }).log
        { code := 0x020C, domain := some 5, refKind := 3, ref := 0 }))) ∧
  (∀ (s : State) (n : Nat), n < 16 → s.chip.channelState n = 1 →
    exec (.channelTrainingTimeout n) s = .next (s.put
      ((s.chip.setFld (Reg.bmChannelStatus n) 63 61 3).log { code := 0x1201, refKind := 3, ref := n, param1 := 1 })))

/-! ## Events, counters and registers -/

/-- R449: a reader finds the stored record with the smallest number at or after the one written, and gets its words; past the
newest it gets zeros. R450: a defined code's rate, at least 1. R452: a slot of the mirror with its check. R455: the counters of
a block return to 0. R451: a page program of the mirror that passes its hold-up check writes the record at the front of the
queue; the next sector is erased. R454: a low half read of an RL register loads the port's latch with the high half. R460: a
write of a register that is not RW, W1C or WO changes no register but what always follows a write, and the others are written
as `State.regWrite` says. -/
def Obligations.EventsCountersAndRegisters : Prop :=
  (∀ (s : State) (p : Nat) (v : W64), OwnerPort s p → p < 4 →
    (∀ r, firstAtOrAfter s.chip.evt.stored (fieldOf v 47 0) = some r → exec (.evtReadSel p v) s = .next (s.put
      ((s.chip.setReg Reg.evtReadSel (wordOf [(63, 63, 1), (47, 0, r.seq)])).setWords (Reg.evtReadData 0) (evWords r)))) ∧
    (firstAtOrAfter s.chip.evt.stored (fieldOf v 47 0) = none → exec (.evtReadSel p v) s = .next (s.put
      ((s.chip.setReg Reg.evtReadSel (wordOf [(47, 0, fieldOf v 47 0)])).setWords (Reg.evtReadData 0) [0#64, 0#64, 0#64, 0#64]))) ∧
    (codeDefined (s.chip.fld Reg.evtRateSel 15 0) = true → exec (.evtRateWrite p v) s = .next (s.put
      (({ s.chip with evt := { s.chip.evt with rates := assocPut s.chip.evt.rates (s.chip.fld Reg.evtRateSel 15 0) (max 1 (fieldOf v 15 0)) } }).setReg
        Reg.evtRate (wordOf [(63, 63, bitN (fieldOf v 15 0 == 0))])))) ∧
    (let ws := mirWords s.nv (fieldOf v 10 0)
     exec (.evtMirrorSel p v) s = .next (s.put ((s.chip.setReg Reg.evtMirrorSel
      (wordOf [(63, 63, bitN (mirValid (fieldOf v 10 0) ws)), (10, 0, fieldOf v 10 0)])).setWords (Reg.evtMirrorData 0) ws))) ∧
    (bitOf v 63 = true → exec (.cntClear p v) s = .next (s.put
      { s.chip with regs := s.chip.regs.filter (fun e => !(isCounter e.1 && (fieldOf v 7 0 == 0xFF || blockOf e.1 == fieldOf v 7 0))) }))) ∧
  (∀ (s : State) (r : EvRec) (q : List EvRec), s.chip.evt.mirLive = true → s.chip.evt.queue = r :: q → s.chip.evt.mirHdr = false →
    s.chip.evt.sectorFull = false → (holdup s.chip s.nv.flash.pageUs 0).1 = true →
    exec .mirrorRecordWrite s = .next
      (let c := (holdup s.chip s.nv.flash.pageUs 0).2
       { s with chip := ((({ c with evt := { c.evt with queue := q, fullSeen := false, mirPos := s.chip.evt.mirPos + 1 } }).bump Reg.evtMirrorWritten).bump Reg.bootFlashUnits), nv := { s.nv with mirror := assocPut s.nv.mirror s.chip.evt.mirPos (evWords r) } })) ∧
  (∀ s : State, s.chip.evt.mirLive = true → s.chip.evt.mirNext = false → s.chip.evt.sectorFull = false →
    (holdup s.chip s.nv.flash.eraseUs 0).1 = true →
    exec .mirrorSectorErase s = .next
      (let c := (holdup s.chip s.nv.flash.eraseUs 0).2
       { s with chip := ({ c with evt := { c.evt with mirNext := true } }).bump Reg.bootFlashUnits, nv := mirErase s.nv ((s.chip.evt.mirPos / 128 + 1) % 16) })) ∧
  (∀ (s : State) (p off : Nat), (Instr.rlLowHalfRead p off).wf = true → s.chip.inWindow p off = true → off % 8 = 0 → readLatched off = true →
    exec (.rlLowHalfRead p off) s = .next (s.put (s.chip.setLatch p { off := off, write := false, value := (s.regRead off).toNat / 2 ^ 32 }))) ∧
  (∀ (s : State) (a : Accessor) (off : Nat) (v : W64), (Instr.registerWrite a off v false).wf = true →
    (s.chip.writeOpen = true → exec (.registerWrite a off v false) s = .next (s.regWrite a off v).2.settled) ∧
    (s.chip.writeOpen = true → regAccess off ≠ some .rw → regAccess off ≠ some .w1c → regAccess off ≠ some .wo →
      exec (.registerWrite a off v false) s = .next s.settled) ∧
    (s.chip.writeOpen = false → exec (.registerWrite a off v false) s = .next s.settled))

/-- R472: each bit of ID_HEALTH follows its source, and the reserved bits read 0; during a hub restart the register keeps its last
value. R484: ALERT_N is driven low while one of the bits is 1. -/
def Obligations.HealthAndAlert : Prop :=
  ∀ s : State,
    let w := s.regRead Reg.idHealth
    (s.chip.boot.healthHold = none →
      (bitOf w 63 = true ↔ ∃ p < 16, s.chip.partState p = 3) ∧
      (bitOf w 62 = true ↔ ∃ p < 16, s.chip.partState p = 4 ∨ s.chip.partState p = 5) ∧
      (bitOf w 61 = true ↔ ∃ d < 20, s.chip.domState d = 4) ∧
      (bitOf w 60 = true ↔ ∃ k < 10, s.chip.fld (Reg.pwrThermalStatus k) 43 42 ≠ 0) ∧
      (bitOf w 59 = true ↔ s.chip.fld Reg.pwrThrottleStatus 31 0 ≠ 0) ∧
      (bitOf w 58 = true ↔ s.chip.reg (Reg.evtLastSevere 0) ≠ 0#64) ∧ fieldOf w 57 0 = 0) ∧
    (∀ v, s.chip.boot.healthHold = some v → w = v) ∧
    (s.chip.alertLow = true ↔ ∃ i, 58 ≤ i ∧ i ≤ 63 ∧ bitOf w i = true)

/-- R453: an increment of a counter adds to the value, and stays at 2⁶³ − 1 with `SAT` where the sum would pass it; it reports the
moment at which `SAT` becomes 1, and never again. -/
def Obligations.CounterSaturates : Prop :=
  ∀ (w : W64) (n : Nat),
    (fieldOf w 62 0 + n ≤ 2 ^ 63 - 1 → fieldOf (cntAdd w n).1 62 0 = fieldOf w 62 0 + n ∧
      bitOf (cntAdd w n).1 63 = bitOf w 63 ∧ (cntAdd w n).2 = false) ∧
    (2 ^ 63 - 1 < fieldOf w 62 0 + n → fieldOf (cntAdd w n).1 62 0 = 2 ^ 63 - 1 ∧ bitOf (cntAdd w n).1 63 = true ∧
      ((cntAdd w n).2 = true ↔ bitOf w 63 = false)) ∧
    (∀ m, fieldOf w 62 0 = 2 ^ 63 - 1 → bitOf w 63 = true → 0 < m → cntAdd w m = (w, false))

/-- R457: the comparison of sequence-type counters of n bits: of two values less than half the range apart the one reached by
counting up is later, whatever the wrap; two values exactly half the range apart do not precede each other; and no two values precede
each other both ways. -/
def Obligations.SerialComparison : Prop :=
  ∀ (n a b : Nat), 0 < n → a < 2 ^ n → b < 2 ^ n →
    (∀ d, 0 < d → d < 2 ^ (n - 1) → precedes n a ((a + d) % 2 ^ n) = true ∧ precedes n ((a + d) % 2 ^ n) a = false) ∧
    (precedes n a ((a + 2 ^ (n - 1)) % 2 ^ n) = false ∧ precedes n ((a + 2 ^ (n - 1)) % 2 ^ n) a = false) ∧
    ¬ (precedes n a b = true ∧ precedes n b a = true) ∧
    (atOrBefore n a b = true ↔ (a = b ∨ precedes n a b = true))
end

