-- ==== Sys2Proof/Laws/Bits.lean ====
section
/-!
SUPPORT. Bit fields: a field reads back what was put into it, and putting one leaves every bit outside it alone.
-/
namespace Sys2Proof.Machine

/-- The bits of a word after a field is put. -/
theorem putField_testBit (w : W64) (hi lo v j : Nat) (hl : lo ≤ hi) (hh : hi < 64) :
    (putField w hi lo v).toNat.testBit j =
      if lo ≤ j ∧ j ≤ hi then v.testBit (j - lo) else w.toNat.testBit j := by
  have hlt : w.toNat < 2 ^ 64 := w.isLt
  generalize hN : w.toNat = N at hlt
  have key : (putField w hi lo v).toNat =
      2 ^ (hi + 1) * (N / 2 ^ (hi + 1)) + (2 ^ lo * (v % 2 ^ (hi + 1 - lo)) + N % 2 ^ lo) := by
    have hf : fieldOf w hi lo = (N / 2 ^ lo) % 2 ^ (hi + 1 - lo) := by
      simp [fieldOf, hN, Nat.shiftRight_eq_div_pow]
    have hp : 2 ^ (hi + 1) = 2 ^ lo * 2 ^ (hi + 1 - lo) := by rw [← pow_add]; congr 1; omega
    have hq : N / 2 ^ (hi + 1) = N / 2 ^ lo / 2 ^ (hi + 1 - lo) := by rw [hp, Nat.div_div_eq_div_mul]
    have e1 : N = 2 ^ lo * (N / 2 ^ lo) + N % 2 ^ lo := (Nat.div_add_mod _ _).symm
    have e2 := (Nat.div_add_mod (N / 2 ^ lo) (2 ^ (hi + 1 - lo))).symm
    have hvm : v % 2 ^ (hi + 1 - lo) < 2 ^ (hi + 1 - lo) := Nat.mod_lt _ (by positivity)
    have hnm : N % 2 ^ lo < 2 ^ lo := Nat.mod_lt _ (by positivity)
    have e3 : N = 2 ^ (hi + 1) * (N / 2 ^ (hi + 1)) + ((N / 2 ^ lo) % 2 ^ (hi + 1 - lo)) * 2 ^ lo + N % 2 ^ lo := by
      rw [hq, hp]
      calc N = 2 ^ lo * (N / 2 ^ lo) + N % 2 ^ lo := e1
        _ = 2 ^ lo * (2 ^ (hi + 1 - lo) * (N / 2 ^ lo / 2 ^ (hi + 1 - lo)) + N / 2 ^ lo % 2 ^ (hi + 1 - lo)) + N % 2 ^ lo := by
            rw [← e2]
        _ = _ := by ring
    have hbound : 2 ^ (hi + 1) * (N / 2 ^ (hi + 1)) + (2 ^ lo * (v % 2 ^ (hi + 1 - lo)) + N % 2 ^ lo) < 2 ^ 64 := by
      have h64 : 2 ^ 64 = 2 ^ (hi + 1) * 2 ^ (63 - hi) := by rw [← pow_add]; congr 1; omega
      have hd : N / 2 ^ (hi + 1) < 2 ^ (63 - hi) := by
        rw [Nat.div_lt_iff_lt_mul (by positivity), mul_comm, ← h64]; exact hlt
      have hin : 2 ^ lo * (v % 2 ^ (hi + 1 - lo)) + N % 2 ^ lo < 2 ^ (hi + 1) := by
        rw [hp]
        have := Nat.mul_le_mul_left (2 ^ lo) (Nat.succ_le_of_lt hvm)
        rw [Nat.mul_succ] at this
        omega
      have := Nat.mul_le_mul_left (2 ^ (hi + 1)) (Nat.succ_le_of_lt hd)
      rw [Nat.mul_succ, ← h64] at this
      omega
    unfold putField
    rw [BitVec.toNat_ofNat, hf, hN]
    have : N - (N / 2 ^ lo) % 2 ^ (hi + 1 - lo) * 2 ^ lo + v % 2 ^ (hi + 1 - lo) * 2 ^ lo =
        2 ^ (hi + 1) * (N / 2 ^ (hi + 1)) + (2 ^ lo * (v % 2 ^ (hi + 1 - lo)) + N % 2 ^ lo) := by
      generalize (N / 2 ^ lo) % 2 ^ (hi + 1 - lo) * 2 ^ lo = F at e3 ⊢
      rw [mul_comm (v % _)]
      omega
    rw [this, Nat.mod_eq_of_lt hbound]
  have hp : 2 ^ (hi + 1) = 2 ^ lo * 2 ^ (hi + 1 - lo) := by rw [← pow_add]; congr 1; omega
  have hvm : v % 2 ^ (hi + 1 - lo) < 2 ^ (hi + 1 - lo) := Nat.mod_lt _ (by positivity)
  have hnm : N % 2 ^ lo < 2 ^ lo := Nat.mod_lt _ (by positivity)
  have hin : 2 ^ lo * (v % 2 ^ (hi + 1 - lo)) + N % 2 ^ lo < 2 ^ (hi + 1) := by
    rw [hp]
    have := Nat.mul_le_mul_left (2 ^ lo) (Nat.succ_le_of_lt hvm)
    rw [Nat.mul_succ] at this
    omega
  rw [key, Nat.testBit_two_pow_mul_add _ hin, Nat.testBit_two_pow_mul_add _ hnm]
  by_cases h1 : j < hi + 1
  · by_cases h2 : j < lo
    · have : ¬ (lo ≤ j ∧ j ≤ hi) := by omega
      simp [h1, h2, this, Nat.testBit_mod_two_pow]
    · have : lo ≤ j ∧ j ≤ hi := by omega
      simp only [h1, h2, this, if_true, if_false, and_self, Nat.testBit_mod_two_pow]
      have : j - lo < hi + 1 - lo := by omega
      simp [this]
  · have : ¬ (lo ≤ j ∧ j ≤ hi) := by omega
    simp only [h1, if_false, this]
    rw [Nat.testBit_div_two_pow]
    congr 1; omega

/-- The bits of a field. -/
theorem fieldOf_testBit (w : W64) (hi lo j : Nat) :
    (fieldOf w hi lo).testBit j = (decide (j < hi + 1 - lo) && w.toNat.testBit (lo + j)) := by
  simp [fieldOf, Nat.testBit_mod_two_pow, Nat.testBit_shiftRight]

/-- A field reads back what was put into it. -/
theorem fieldOf_putField_same (w : W64) (hi lo v : Nat) (hl : lo ≤ hi) (hh : hi < 64) :
    fieldOf (putField w hi lo v) hi lo = v % 2 ^ (hi + 1 - lo) := by
  apply Nat.eq_of_testBit_eq
  intro j
  rw [fieldOf_testBit, putField_testBit w hi lo v _ hl hh, Nat.testBit_mod_two_pow]
  by_cases h : j < hi + 1 - lo
  · have : lo ≤ lo + j ∧ lo + j ≤ hi := by omega
    simp [h, this]
  · simp [h]

/-- Putting a field leaves a field apart from it alone. -/
theorem fieldOf_putField_other (w : W64) (hi lo v hi' lo' : Nat) (hl : lo ≤ hi) (hh : hi < 64) (h : hi' < lo ∨ hi < lo') :
    fieldOf (putField w hi lo v) hi' lo' = fieldOf w hi' lo' := by
  apply Nat.eq_of_testBit_eq
  intro j
  rw [fieldOf_testBit, fieldOf_testBit, putField_testBit w hi lo v _ hl hh]
  by_cases hj : j < hi' + 1 - lo'
  · have : ¬ (lo ≤ lo' + j ∧ lo' + j ≤ hi) := by omega
    simp [this]
  · simp [hj]

/-- Putting a field leaves a bit outside it alone. -/
theorem bitOf_putField_other (w : W64) (hi lo v i : Nat) (hl : lo ≤ hi) (hh : hi < 64) (h : i < lo ∨ hi < i) :
    bitOf (putField w hi lo v) i = bitOf w i := by
  have : ¬ (lo ≤ i ∧ i ≤ hi) := by omega
  simp [bitOf, putField_testBit w hi lo v i hl hh, this]

/-- A bit reads back what was put into it. -/
theorem bitOf_putField_same (w : W64) (i v : Nat) (hh : i < 64) : bitOf (putField w i i v) i = v.testBit 0 := by
  simp [bitOf, putField_testBit w i i v i (le_refl i) hh]

/-- The bytes of a number are as many as asked for. -/
@[simp] theorem leBytes_length (k : Nat) : ∀ n : Nat, (leBytes n k).length = k := by
  induction k with
  | zero => intro n; rfl
  | succ k ih => intro n; simp [leBytes, ih]

end Sys2Proof.Machine
end

