-- ==== Sys2Proof/Laws/Mem.lean ====
section
/-!
SUPPORT. The sparse stores: read after write, and the canonical form kept by every operation.
-/
namespace Sys2Proof.Machine

variable {α : Type}

/-- Keys strictly rising, as a relation between every two entries. -/
theorem assocRising_iff (l : List (Nat × α)) : assocRising l = true ↔ l.Pairwise (fun a b => a.1 < b.1) := by
  induction l with
  | nil => simp [assocRising]
  | cons x t ih =>
    cases t with
    | nil => simp [assocRising]
    | cons y t =>
      obtain ⟨a, v⟩ := x
      obtain ⟨b, w⟩ := y
      have step : assocRising ((a, v) :: (b, w) :: t) = (decide (a < b) && assocRising ((b, w) :: t)) := rfl
      rw [step, Bool.and_eq_true, ih, decide_eq_true_iff, List.pairwise_cons (a := (a, v))]
      constructor
      · rintro ⟨hab, hp⟩
        refine ⟨?_, hp⟩
        intro z hz
        rcases List.mem_cons.1 hz with rfl | hz
        · exact hab
        · exact lt_trans hab ((List.pairwise_cons.1 hp).1 z hz)
      · rintro ⟨h1, hp⟩
        exact ⟨h1 (b, w) (by simp), hp⟩

/-- Reading what was just put. -/
theorem assocGet_put_same (l : List (Nat × α)) (k : Nat) (v : α) : assocGet (assocPut l k v) k = some v := by
  induction l with
  | nil => simp [assocPut, assocGet]
  | cons x t ih =>
    obtain ⟨a, w⟩ := x
    by_cases h1 : k < a
    · simp [assocPut, h1, assocGet]
    · by_cases h2 : k = a
      · simp [assocPut, h2, assocGet]
      · simp [assocPut, h1, h2, assocGet, ih, Ne.symm h2]

/-- Putting leaves every other key alone. -/
theorem assocGet_put_other (l : List (Nat × α)) (k j : Nat) (v : α) (h : j ≠ k) :
    assocGet (assocPut l k v) j = assocGet l j := by
  induction l with
  | nil => simp [assocPut, assocGet, Ne.symm h]
  | cons x t ih =>
    obtain ⟨a, w⟩ := x
    by_cases h1 : k < a
    · simp only [assocPut, if_pos h1]
      by_cases h3 : j < k
      · have h4 : a ≠ j := by omega
        have h5 : j < a := by omega
        simp [assocGet, Ne.symm h, h3, h4, h5]
      · simp [assocGet, Ne.symm h, h3]
    · by_cases h2 : k = a
      · subst h2
        simp [assocPut, assocGet, Ne.symm h]
      · simp [assocPut, h1, h2, assocGet, ih]

/-- The keys after a put. -/
theorem mem_assocPut (l : List (Nat × α)) (k : Nat) (v : α) (z : Nat × α) (h : z ∈ assocPut l k v) :
    z = (k, v) ∨ z ∈ l := by
  induction l with
  | nil => simpa [assocPut] using h
  | cons x t ih =>
    obtain ⟨a, w⟩ := x
    by_cases h1 : k < a
    · simp only [assocPut, if_pos h1, List.mem_cons] at h ⊢
      exact h
    · by_cases h2 : k = a
      · subst h2
        simp only [assocPut, h1, if_false, if_true, List.mem_cons] at h ⊢
        exact h.imp_right Or.inr
      · simp only [assocPut, if_neg h1, if_neg h2, List.mem_cons] at h ⊢
        rcases h with h | h
        · exact Or.inr (Or.inl h)
        · exact (ih h).imp_right Or.inr

/-- A put keeps the keys rising. -/
theorem assocRising_put (l : List (Nat × α)) (k : Nat) (v : α) (h : assocRising l = true) :
    assocRising (assocPut l k v) = true := by
  rw [assocRising_iff] at h ⊢
  induction l with
  | nil => simp [assocPut]
  | cons x t ih =>
    obtain ⟨a, w⟩ := x
    obtain ⟨hx, ht⟩ := List.pairwise_cons.1 h
    by_cases h1 : k < a
    · simp only [assocPut, if_pos h1]
      refine List.pairwise_cons.2 ⟨?_, h⟩
      intro z hz
      rcases List.mem_cons.1 hz with rfl | hz
      · exact h1
      · exact lt_trans h1 (hx z hz)
    · by_cases h2 : k = a
      · subst h2
        simp only [assocPut, h1, if_false, if_true]
        exact List.pairwise_cons.2 ⟨hx, ht⟩
      · simp only [assocPut, if_neg h1, if_neg h2]
        refine List.pairwise_cons.2 ⟨?_, ih ht⟩
        intro z hz
        rcases mem_assocPut t k v z hz with rfl | hz
        · simp only; omega
        · exact hx z hz

/-- A deletion keeps some of the entries, in order. -/
theorem assocDel_sublist (l : List (Nat × α)) (k : Nat) : (assocDel l k).Sublist l := by
  induction l with
  | nil => simp [assocDel]
  | cons x t ih =>
    obtain ⟨a, w⟩ := x
    by_cases h1 : a = k
    · simp [assocDel, h1]
    · by_cases h2 : k < a
      · simp [assocDel, h1, h2]
      · simpa [assocDel, h1, h2] using ih

/-- A deletion keeps the keys rising. -/
theorem assocRising_del (l : List (Nat × α)) (k : Nat) (h : assocRising l = true) : assocRising (assocDel l k) = true := by
  rw [assocRising_iff] at h ⊢
  exact h.sublist (assocDel_sublist l k)

/-- A filter keeps the keys rising. -/
theorem assocRising_filter (l : List (Nat × α)) (f : Nat × α → Bool) (h : assocRising l = true) :
    assocRising (l.filter f) = true := by
  rw [assocRising_iff] at h ⊢
  exact h.sublist List.filter_sublist

/-- A key below every other key of a rising list is not in it. -/
theorem assocGet_below (l : List (Nat × α)) (k : Nat) (h : ∀ z ∈ l, k < z.1) : assocGet l k = none := by
  cases l with
  | nil => rfl
  | cons x t =>
    obtain ⟨a, w⟩ := x
    have := h (a, w) (by simp)
    simp only at this
    simp [assocGet, this, show a ≠ k by omega]

/-- Reading what was just deleted. -/
theorem assocGet_del_same (l : List (Nat × α)) (k : Nat) (h : assocRising l = true) : assocGet (assocDel l k) k = none := by
  rw [assocRising_iff] at h
  induction l with
  | nil => rfl
  | cons x t ih =>
    obtain ⟨a, w⟩ := x
    obtain ⟨hx, ht⟩ := List.pairwise_cons.1 h
    by_cases h1 : a = k
    · subst h1
      simpa [assocDel] using assocGet_below t a hx
    · by_cases h2 : k < a
      · simp [assocDel, h1, h2, assocGet]
      · simp [assocDel, h1, h2, assocGet, ih ht]

/-- A deletion leaves every other key alone. -/
theorem assocGet_del_other (l : List (Nat × α)) (k j : Nat) (h : assocRising l = true) (hj : j ≠ k) :
    assocGet (assocDel l k) j = assocGet l j := by
  rw [assocRising_iff] at h
  induction l with
  | nil => rfl
  | cons x t ih =>
    obtain ⟨a, w⟩ := x
    obtain ⟨hx, ht⟩ := List.pairwise_cons.1 h
    by_cases h1 : a = k
    · subst h1
      by_cases h3 : j < a
      · rw [show assocDel ((a, w) :: t) a = t by simp [assocDel]]
        rw [assocGet_below t j (fun z hz => lt_trans h3 (hx z hz))]
        simp [assocGet, Ne.symm hj, h3]
      · simp [assocDel, assocGet, Ne.symm hj, h3]
    · by_cases h2 : k < a
      · simp [assocDel, h1, h2]
      · simp [assocDel, h1, h2, assocGet, ih ht]

/-! The register file. -/

/-- A register reads back what was stored. -/
@[simp] theorem rfGet_rfSet_same (f : Nat → W64) (r : RegFile) (off : Nat) (v : W64) : rfGet f (rfSet r off v) off = v := by
  simp [rfGet, rfSet, assocGet_put_same]

/-- Storing a register leaves every other one alone. -/
theorem rfGet_rfSet_other (f : Nat → W64) (r : RegFile) (off o : Nat) (v : W64) (h : o ≠ off) :
    rfGet f (rfSet r off v) o = rfGet f r o := by
  simp [rfGet, rfSet, assocGet_put_other _ _ _ _ h]

/-- Storing a register keeps the register file's form. -/
theorem rfWf_rfSet (r : RegFile) (off : Nat) (v : W64) (h : rfWf r = true) : rfWf (rfSet r off v) = true :=
  assocRising_put r off v h

/-! Byte memories. -/

/-- The two parts of the canonical form. -/
theorem memWf_iff (m : Mem) : memWf m = true ↔ assocRising m = true ∧ ∀ c ∈ m, c.2 ≠ memDefault := by
  simp [memWf]

/-- The empty memory has the canonical form. -/
theorem memWf_nil : memWf [] = true := rfl

/-- A byte written keeps the canonical form. -/
theorem memWf_memWrite (m : Mem) (a : Nat) (b : Byte) (h : memWf m = true) : memWf (memWrite m a b) = true := by
  rw [memWf_iff] at h ⊢
  obtain ⟨hr, hd⟩ := h
  by_cases hb : b = memDefault
  · rw [memWrite, if_pos hb]
    exact ⟨assocRising_del m a hr, fun c hc => hd c ((assocDel_sublist m a).subset hc)⟩
  · rw [memWrite, if_neg hb]
    refine ⟨assocRising_put m a b hr, fun c hc => ?_⟩
    rcases mem_assocPut m a b c hc with rfl | hc
    · exact hb
    · exact hd c hc

/-- Bytes written keep the canonical form. -/
theorem memWf_memWriteBytes (bs : List Byte) : ∀ (m : Mem) (a : Nat), memWf m = true → memWf (memWriteBytes m a bs) = true := by
  induction bs with
  | nil => intro m a h; exact h
  | cons b bs ih => intro m a h; exact ih _ _ (memWf_memWrite m a b h)

/-- A filter keeps the canonical form; `memZero` is one. -/
theorem memWf_filter (m : Mem) (f : Host.Cell → Bool) (h : memWf m = true) : memWf (m.filter f) = true := by
  rw [memWf_iff] at h ⊢
  exact ⟨assocRising_filter m f h.1, fun c hc => h.2 c (List.mem_filter.1 hc).1⟩

/-- Zeroed bytes keep the canonical form. -/
theorem memWf_memZero (m : Mem) (a n : Nat) (h : memWf m = true) : memWf (memZero m a n) = true :=
  memWf_filter m _ h

/-- A byte reads back what was written. -/
theorem memRead_memWrite_same (m : Mem) (a : Nat) (b : Byte) (h : memWf m = true) : memRead (memWrite m a b) a = b := by
  rw [memWf_iff] at h
  by_cases hb : b = memDefault
  · simp [memWrite, hb, memRead, assocGet_del_same m a h.1]
  · simp [memWrite, hb, memRead, assocGet_put_same]

/-- Writing a byte leaves every other byte alone. -/
theorem memRead_memWrite_other (m : Mem) (a x : Nat) (b : Byte) (h : memWf m = true) (hx : x ≠ a) :
    memRead (memWrite m a b) x = memRead m x := by
  rw [memWf_iff] at h
  by_cases hb : b = memDefault
  · simp [memWrite, hb, memRead, assocGet_del_other m a x h.1 hx]
  · simp [memWrite, hb, memRead, assocGet_put_other m a x b hx]

/-- Writing bytes leaves every byte outside them alone. -/
theorem memRead_memWriteBytes_other (bs : List Byte) : ∀ (m : Mem) (a x : Nat), memWf m = true →
    (x < a ∨ a + bs.length ≤ x) → memRead (memWriteBytes m a bs) x = memRead m x := by
  induction bs with
  | nil => intro m a x _ _; rfl
  | cons b bs ih =>
    intro m a x h hx
    simp only [List.length_cons] at hx
    rw [memWriteBytes, ih _ _ _ (memWf_memWrite m a b h) (by omega), memRead_memWrite_other m a x b h (by omega)]

/-- Bytes read back what was written. -/
theorem memReadBytes_memWriteBytes (bs : List Byte) : ∀ (m : Mem) (a : Nat), memWf m = true →
    memReadBytes (memWriteBytes m a bs) a bs.length = bs := by
  induction bs with
  | nil => intro m a _; rfl
  | cons b bs ih =>
    intro m a h
    have hw := memWf_memWrite m a b h
    simp only [List.length_cons, memReadBytes, memWriteBytes]
    rw [ih _ _ hw, memRead_memWriteBytes_other bs _ _ _ hw (by omega), memRead_memWrite_same m a b h]

end Sys2Proof.Machine
end

