-- ==== Sys2Proof/Laws/State.lean ====
section
/-!
SUPPORT. The projections of the named updates of the chip and of the state, one equation each.
-/
namespace Sys2Proof.Machine

@[simp] theorem Chip.setReg_regs (c : Chip) (off : Nat) (v : W64) : (c.setReg off v).regs = rfSet c.regs off v := rfl
@[simp] theorem Chip.setReg_time (c : Chip) (off : Nat) (v : W64) : (c.setReg off v).time = c.time := rfl
@[simp] theorem Chip.setReg_timeOn (c : Chip) (off : Nat) (v : W64) : (c.setReg off v).timeOn = c.timeOn := rfl
@[simp] theorem Chip.setReg_free (c : Chip) (off : Nat) (v : W64) : (c.setReg off v).free = c.free := rfl
@[simp] theorem Chip.setReg_latch (c : Chip) (off : Nat) (v : W64) : (c.setReg off v).latch = c.latch := rfl
@[simp] theorem Chip.setReg_evt (c : Chip) (off : Nat) (v : W64) : (c.setReg off v).evt = c.evt := rfl
@[simp] theorem Chip.setReg_pwr (c : Chip) (off : Nat) (v : W64) : (c.setReg off v).pwr = c.pwr := rfl
@[simp] theorem Chip.setReg_board (c : Chip) (off : Nat) (v : W64) : (c.setReg off v).board = c.board := rfl
@[simp] theorem Chip.setReg_boot (c : Chip) (off : Nat) (v : W64) : (c.setReg off v).boot = c.boot := rfl
@[simp] theorem Chip.setReg_hl (c : Chip) (off : Nat) (v : W64) : (c.setReg off v).hl = c.hl := rfl
@[simp] theorem Chip.setReg_fab (c : Chip) (off : Nat) (v : W64) : (c.setReg off v).fab = c.fab := rfl
@[simp] theorem Chip.setReg_rma (c : Chip) (off : Nat) (v : W64) : (c.setReg off v).rma = c.rma := rfl
@[simp] theorem Chip.setReg_work (c : Chip) (off : Nat) (v : W64) : (c.setReg off v).work = c.work := rfl
@[simp] theorem Chip.setReg_emb (c : Chip) (off : Nat) (v : W64) : (c.setReg off v).emb = c.emb := rfl

@[simp] theorem Chip.setFld_regs (c : Chip) (off hi lo v : Nat) : (c.setFld off hi lo v).regs = rfSet c.regs off (putField (c.reg off) hi lo v) := rfl
@[simp] theorem Chip.setFld_time (c : Chip) (off hi lo v : Nat) : (c.setFld off hi lo v).time = c.time := rfl
@[simp] theorem Chip.setFld_timeOn (c : Chip) (off hi lo v : Nat) : (c.setFld off hi lo v).timeOn = c.timeOn := rfl
@[simp] theorem Chip.setFld_free (c : Chip) (off hi lo v : Nat) : (c.setFld off hi lo v).free = c.free := rfl
@[simp] theorem Chip.setFld_latch (c : Chip) (off hi lo v : Nat) : (c.setFld off hi lo v).latch = c.latch := rfl
@[simp] theorem Chip.setFld_evt (c : Chip) (off hi lo v : Nat) : (c.setFld off hi lo v).evt = c.evt := rfl
@[simp] theorem Chip.setFld_pwr (c : Chip) (off hi lo v : Nat) : (c.setFld off hi lo v).pwr = c.pwr := rfl
@[simp] theorem Chip.setFld_board (c : Chip) (off hi lo v : Nat) : (c.setFld off hi lo v).board = c.board := rfl
@[simp] theorem Chip.setFld_boot (c : Chip) (off hi lo v : Nat) : (c.setFld off hi lo v).boot = c.boot := rfl
@[simp] theorem Chip.setFld_hl (c : Chip) (off hi lo v : Nat) : (c.setFld off hi lo v).hl = c.hl := rfl
@[simp] theorem Chip.setFld_fab (c : Chip) (off hi lo v : Nat) : (c.setFld off hi lo v).fab = c.fab := rfl
@[simp] theorem Chip.setFld_rma (c : Chip) (off hi lo v : Nat) : (c.setFld off hi lo v).rma = c.rma := rfl
@[simp] theorem Chip.setFld_work (c : Chip) (off hi lo v : Nat) : (c.setFld off hi lo v).work = c.work := rfl
@[simp] theorem Chip.setFld_emb (c : Chip) (off hi lo v : Nat) : (c.setFld off hi lo v).emb = c.emb := rfl

@[simp] theorem Chip.setFlds_time (c : Chip) (off : Nat) (l : List (Nat × Nat × Nat)) : (c.setFlds off l).time = c.time := rfl
@[simp] theorem Chip.setFlds_timeOn (c : Chip) (off : Nat) (l : List (Nat × Nat × Nat)) : (c.setFlds off l).timeOn = c.timeOn := rfl
@[simp] theorem Chip.setFlds_free (c : Chip) (off : Nat) (l : List (Nat × Nat × Nat)) : (c.setFlds off l).free = c.free := rfl
@[simp] theorem Chip.setFlds_latch (c : Chip) (off : Nat) (l : List (Nat × Nat × Nat)) : (c.setFlds off l).latch = c.latch := rfl
@[simp] theorem Chip.setFlds_evt (c : Chip) (off : Nat) (l : List (Nat × Nat × Nat)) : (c.setFlds off l).evt = c.evt := rfl
@[simp] theorem Chip.setFlds_pwr (c : Chip) (off : Nat) (l : List (Nat × Nat × Nat)) : (c.setFlds off l).pwr = c.pwr := rfl
@[simp] theorem Chip.setFlds_board (c : Chip) (off : Nat) (l : List (Nat × Nat × Nat)) : (c.setFlds off l).board = c.board := rfl
@[simp] theorem Chip.setFlds_boot (c : Chip) (off : Nat) (l : List (Nat × Nat × Nat)) : (c.setFlds off l).boot = c.boot := rfl
@[simp] theorem Chip.setFlds_hl (c : Chip) (off : Nat) (l : List (Nat × Nat × Nat)) : (c.setFlds off l).hl = c.hl := rfl
@[simp] theorem Chip.setFlds_fab (c : Chip) (off : Nat) (l : List (Nat × Nat × Nat)) : (c.setFlds off l).fab = c.fab := rfl
@[simp] theorem Chip.setFlds_rma (c : Chip) (off : Nat) (l : List (Nat × Nat × Nat)) : (c.setFlds off l).rma = c.rma := rfl
@[simp] theorem Chip.setFlds_work (c : Chip) (off : Nat) (l : List (Nat × Nat × Nat)) : (c.setFlds off l).work = c.work := rfl
@[simp] theorem Chip.setFlds_emb (c : Chip) (off : Nat) (l : List (Nat × Nat × Nat)) : (c.setFlds off l).emb = c.emb := rfl

@[simp] theorem Chip.setBits_time (c : Chip) (off bits : Nat) : (c.setBits off bits).time = c.time := rfl
@[simp] theorem Chip.setBits_timeOn (c : Chip) (off bits : Nat) : (c.setBits off bits).timeOn = c.timeOn := rfl
@[simp] theorem Chip.setBits_free (c : Chip) (off bits : Nat) : (c.setBits off bits).free = c.free := rfl
@[simp] theorem Chip.setBits_latch (c : Chip) (off bits : Nat) : (c.setBits off bits).latch = c.latch := rfl
@[simp] theorem Chip.setBits_evt (c : Chip) (off bits : Nat) : (c.setBits off bits).evt = c.evt := rfl
@[simp] theorem Chip.setBits_pwr (c : Chip) (off bits : Nat) : (c.setBits off bits).pwr = c.pwr := rfl
@[simp] theorem Chip.setBits_board (c : Chip) (off bits : Nat) : (c.setBits off bits).board = c.board := rfl
@[simp] theorem Chip.setBits_boot (c : Chip) (off bits : Nat) : (c.setBits off bits).boot = c.boot := rfl
@[simp] theorem Chip.setBits_hl (c : Chip) (off bits : Nat) : (c.setBits off bits).hl = c.hl := rfl
@[simp] theorem Chip.setBits_fab (c : Chip) (off bits : Nat) : (c.setBits off bits).fab = c.fab := rfl
@[simp] theorem Chip.setBits_rma (c : Chip) (off bits : Nat) : (c.setBits off bits).rma = c.rma := rfl
@[simp] theorem Chip.setBits_work (c : Chip) (off bits : Nat) : (c.setBits off bits).work = c.work := rfl
@[simp] theorem Chip.setBits_emb (c : Chip) (off bits : Nat) : (c.setBits off bits).emb = c.emb := rfl

@[simp] theorem Chip.putFields_regs (c : Chip) (off : Nat) (fs : List RwField) (k : Option Nat) (v : W64) : (c.putFields off fs k v).regs = rfSet c.regs off (rwWrite fs k (c.reg off) v) := rfl
@[simp] theorem Chip.putFields_time (c : Chip) (off : Nat) (fs : List RwField) (k : Option Nat) (v : W64) : (c.putFields off fs k v).time = c.time := rfl
@[simp] theorem Chip.putFields_timeOn (c : Chip) (off : Nat) (fs : List RwField) (k : Option Nat) (v : W64) : (c.putFields off fs k v).timeOn = c.timeOn := rfl
@[simp] theorem Chip.putFields_free (c : Chip) (off : Nat) (fs : List RwField) (k : Option Nat) (v : W64) : (c.putFields off fs k v).free = c.free := rfl
@[simp] theorem Chip.putFields_latch (c : Chip) (off : Nat) (fs : List RwField) (k : Option Nat) (v : W64) : (c.putFields off fs k v).latch = c.latch := rfl
@[simp] theorem Chip.putFields_evt (c : Chip) (off : Nat) (fs : List RwField) (k : Option Nat) (v : W64) : (c.putFields off fs k v).evt = c.evt := rfl
@[simp] theorem Chip.putFields_pwr (c : Chip) (off : Nat) (fs : List RwField) (k : Option Nat) (v : W64) : (c.putFields off fs k v).pwr = c.pwr := rfl
@[simp] theorem Chip.putFields_board (c : Chip) (off : Nat) (fs : List RwField) (k : Option Nat) (v : W64) : (c.putFields off fs k v).board = c.board := rfl
@[simp] theorem Chip.putFields_boot (c : Chip) (off : Nat) (fs : List RwField) (k : Option Nat) (v : W64) : (c.putFields off fs k v).boot = c.boot := rfl
@[simp] theorem Chip.putFields_hl (c : Chip) (off : Nat) (fs : List RwField) (k : Option Nat) (v : W64) : (c.putFields off fs k v).hl = c.hl := rfl
@[simp] theorem Chip.putFields_fab (c : Chip) (off : Nat) (fs : List RwField) (k : Option Nat) (v : W64) : (c.putFields off fs k v).fab = c.fab := rfl
@[simp] theorem Chip.putFields_rma (c : Chip) (off : Nat) (fs : List RwField) (k : Option Nat) (v : W64) : (c.putFields off fs k v).rma = c.rma := rfl
@[simp] theorem Chip.putFields_work (c : Chip) (off : Nat) (fs : List RwField) (k : Option Nat) (v : W64) : (c.putFields off fs k v).work = c.work := rfl
@[simp] theorem Chip.putFields_emb (c : Chip) (off : Nat) (fs : List RwField) (k : Option Nat) (v : W64) : (c.putFields off fs k v).emb = c.emb := rfl

@[simp] theorem Chip.onWork_regs (c : Chip) (f : Work_ → Work_) : (c.onWork f).regs = c.regs := rfl
@[simp] theorem Chip.onWork_time (c : Chip) (f : Work_ → Work_) : (c.onWork f).time = c.time := rfl
@[simp] theorem Chip.onWork_timeOn (c : Chip) (f : Work_ → Work_) : (c.onWork f).timeOn = c.timeOn := rfl
@[simp] theorem Chip.onWork_free (c : Chip) (f : Work_ → Work_) : (c.onWork f).free = c.free := rfl
@[simp] theorem Chip.onWork_latch (c : Chip) (f : Work_ → Work_) : (c.onWork f).latch = c.latch := rfl
@[simp] theorem Chip.onWork_evt (c : Chip) (f : Work_ → Work_) : (c.onWork f).evt = c.evt := rfl
@[simp] theorem Chip.onWork_pwr (c : Chip) (f : Work_ → Work_) : (c.onWork f).pwr = c.pwr := rfl
@[simp] theorem Chip.onWork_board (c : Chip) (f : Work_ → Work_) : (c.onWork f).board = c.board := rfl
@[simp] theorem Chip.onWork_boot (c : Chip) (f : Work_ → Work_) : (c.onWork f).boot = c.boot := rfl
@[simp] theorem Chip.onWork_hl (c : Chip) (f : Work_ → Work_) : (c.onWork f).hl = c.hl := rfl
@[simp] theorem Chip.onWork_fab (c : Chip) (f : Work_ → Work_) : (c.onWork f).fab = c.fab := rfl
@[simp] theorem Chip.onWork_rma (c : Chip) (f : Work_ → Work_) : (c.onWork f).rma = c.rma := rfl
@[simp] theorem Chip.onWork_work (c : Chip) (f : Work_ → Work_) : (c.onWork f).work = f c.work := rfl
@[simp] theorem Chip.onWork_emb (c : Chip) (f : Work_ → Work_) : (c.onWork f).emb = c.emb := rfl

@[simp] theorem Chip.onEmb_regs (c : Chip) (f : Emb → Emb) : (c.onEmb f).regs = c.regs := rfl
@[simp] theorem Chip.onEmb_time (c : Chip) (f : Emb → Emb) : (c.onEmb f).time = c.time := rfl
@[simp] theorem Chip.onEmb_timeOn (c : Chip) (f : Emb → Emb) : (c.onEmb f).timeOn = c.timeOn := rfl
@[simp] theorem Chip.onEmb_free (c : Chip) (f : Emb → Emb) : (c.onEmb f).free = c.free := rfl
@[simp] theorem Chip.onEmb_latch (c : Chip) (f : Emb → Emb) : (c.onEmb f).latch = c.latch := rfl
@[simp] theorem Chip.onEmb_evt (c : Chip) (f : Emb → Emb) : (c.onEmb f).evt = c.evt := rfl
@[simp] theorem Chip.onEmb_pwr (c : Chip) (f : Emb → Emb) : (c.onEmb f).pwr = c.pwr := rfl
@[simp] theorem Chip.onEmb_board (c : Chip) (f : Emb → Emb) : (c.onEmb f).board = c.board := rfl
@[simp] theorem Chip.onEmb_boot (c : Chip) (f : Emb → Emb) : (c.onEmb f).boot = c.boot := rfl
@[simp] theorem Chip.onEmb_hl (c : Chip) (f : Emb → Emb) : (c.onEmb f).hl = c.hl := rfl
@[simp] theorem Chip.onEmb_fab (c : Chip) (f : Emb → Emb) : (c.onEmb f).fab = c.fab := rfl
@[simp] theorem Chip.onEmb_rma (c : Chip) (f : Emb → Emb) : (c.onEmb f).rma = c.rma := rfl
@[simp] theorem Chip.onEmb_work (c : Chip) (f : Emb → Emb) : (c.onEmb f).work = c.work := rfl
@[simp] theorem Chip.onEmb_emb (c : Chip) (f : Emb → Emb) : (c.onEmb f).emb = f c.emb := rfl

@[simp] theorem Chip.setRun_regs (c : Chip) (r : Option BootRun) : (c.setRun r).regs = c.regs := rfl
@[simp] theorem Chip.setRun_time (c : Chip) (r : Option BootRun) : (c.setRun r).time = c.time := rfl
@[simp] theorem Chip.setRun_timeOn (c : Chip) (r : Option BootRun) : (c.setRun r).timeOn = c.timeOn := rfl
@[simp] theorem Chip.setRun_free (c : Chip) (r : Option BootRun) : (c.setRun r).free = c.free := rfl
@[simp] theorem Chip.setRun_latch (c : Chip) (r : Option BootRun) : (c.setRun r).latch = c.latch := rfl
@[simp] theorem Chip.setRun_evt (c : Chip) (r : Option BootRun) : (c.setRun r).evt = c.evt := rfl
@[simp] theorem Chip.setRun_pwr (c : Chip) (r : Option BootRun) : (c.setRun r).pwr = c.pwr := rfl
@[simp] theorem Chip.setRun_board (c : Chip) (r : Option BootRun) : (c.setRun r).board = c.board := rfl
@[simp] theorem Chip.setRun_boot (c : Chip) (r : Option BootRun) : (c.setRun r).boot = { c.boot with run := r } := rfl
@[simp] theorem Chip.setRun_hl (c : Chip) (r : Option BootRun) : (c.setRun r).hl = c.hl := rfl
@[simp] theorem Chip.setRun_fab (c : Chip) (r : Option BootRun) : (c.setRun r).fab = c.fab := rfl
@[simp] theorem Chip.setRun_rma (c : Chip) (r : Option BootRun) : (c.setRun r).rma = c.rma := rfl
@[simp] theorem Chip.setRun_work (c : Chip) (r : Option BootRun) : (c.setRun r).work = c.work := rfl
@[simp] theorem Chip.setRun_emb (c : Chip) (r : Option BootRun) : (c.setRun r).emb = c.emb := rfl

@[simp] theorem Chip.setLatch_regs (c : Chip) (p : Nat) (l : HalfLatch) : (c.setLatch p l).regs = c.regs := rfl
@[simp] theorem Chip.setLatch_time (c : Chip) (p : Nat) (l : HalfLatch) : (c.setLatch p l).time = c.time := rfl
@[simp] theorem Chip.setLatch_timeOn (c : Chip) (p : Nat) (l : HalfLatch) : (c.setLatch p l).timeOn = c.timeOn := rfl
@[simp] theorem Chip.setLatch_free (c : Chip) (p : Nat) (l : HalfLatch) : (c.setLatch p l).free = c.free := rfl
@[simp] theorem Chip.setLatch_latch (c : Chip) (p : Nat) (l : HalfLatch) : (c.setLatch p l).latch = c.latch.set p (some l) := rfl
@[simp] theorem Chip.setLatch_evt (c : Chip) (p : Nat) (l : HalfLatch) : (c.setLatch p l).evt = c.evt := rfl
@[simp] theorem Chip.setLatch_pwr (c : Chip) (p : Nat) (l : HalfLatch) : (c.setLatch p l).pwr = c.pwr := rfl
@[simp] theorem Chip.setLatch_board (c : Chip) (p : Nat) (l : HalfLatch) : (c.setLatch p l).board = c.board := rfl
@[simp] theorem Chip.setLatch_boot (c : Chip) (p : Nat) (l : HalfLatch) : (c.setLatch p l).boot = c.boot := rfl
@[simp] theorem Chip.setLatch_hl (c : Chip) (p : Nat) (l : HalfLatch) : (c.setLatch p l).hl = c.hl := rfl
@[simp] theorem Chip.setLatch_fab (c : Chip) (p : Nat) (l : HalfLatch) : (c.setLatch p l).fab = c.fab := rfl
@[simp] theorem Chip.setLatch_rma (c : Chip) (p : Nat) (l : HalfLatch) : (c.setLatch p l).rma = c.rma := rfl
@[simp] theorem Chip.setLatch_work (c : Chip) (p : Nat) (l : HalfLatch) : (c.setLatch p l).work = c.work := rfl
@[simp] theorem Chip.setLatch_emb (c : Chip) (p : Nat) (l : HalfLatch) : (c.setLatch p l).emb = c.emb := rfl

@[simp] theorem Chip.setRet_regs (c : Chip) (d : Nat) (r : Return) : (c.setRet d r).regs = c.regs := rfl
@[simp] theorem Chip.setRet_time (c : Chip) (d : Nat) (r : Return) : (c.setRet d r).time = c.time := rfl
@[simp] theorem Chip.setRet_timeOn (c : Chip) (d : Nat) (r : Return) : (c.setRet d r).timeOn = c.timeOn := rfl
@[simp] theorem Chip.setRet_free (c : Chip) (d : Nat) (r : Return) : (c.setRet d r).free = c.free := rfl
@[simp] theorem Chip.setRet_latch (c : Chip) (d : Nat) (r : Return) : (c.setRet d r).latch = c.latch := rfl
@[simp] theorem Chip.setRet_evt (c : Chip) (d : Nat) (r : Return) : (c.setRet d r).evt = c.evt := rfl
@[simp] theorem Chip.setRet_pwr (c : Chip) (d : Nat) (r : Return) : (c.setRet d r).pwr = { c.pwr with ret := c.pwr.ret.set d r } := rfl
@[simp] theorem Chip.setRet_board (c : Chip) (d : Nat) (r : Return) : (c.setRet d r).board = c.board := rfl
@[simp] theorem Chip.setRet_boot (c : Chip) (d : Nat) (r : Return) : (c.setRet d r).boot = c.boot := rfl
@[simp] theorem Chip.setRet_hl (c : Chip) (d : Nat) (r : Return) : (c.setRet d r).hl = c.hl := rfl
@[simp] theorem Chip.setRet_fab (c : Chip) (d : Nat) (r : Return) : (c.setRet d r).fab = c.fab := rfl
@[simp] theorem Chip.setRet_rma (c : Chip) (d : Nat) (r : Return) : (c.setRet d r).rma = c.rma := rfl
@[simp] theorem Chip.setRet_work (c : Chip) (d : Nat) (r : Return) : (c.setRet d r).work = c.work := rfl
@[simp] theorem Chip.setRet_emb (c : Chip) (d : Nat) (r : Return) : (c.setRet d r).emb = c.emb := rfl

@[simp] theorem Chip.setOwnerOff_regs (c : Chip) (d : Nat) (b : Bool) : (c.setOwnerOff d b).regs = c.regs := rfl
@[simp] theorem Chip.setOwnerOff_time (c : Chip) (d : Nat) (b : Bool) : (c.setOwnerOff d b).time = c.time := rfl
@[simp] theorem Chip.setOwnerOff_timeOn (c : Chip) (d : Nat) (b : Bool) : (c.setOwnerOff d b).timeOn = c.timeOn := rfl
@[simp] theorem Chip.setOwnerOff_free (c : Chip) (d : Nat) (b : Bool) : (c.setOwnerOff d b).free = c.free := rfl
@[simp] theorem Chip.setOwnerOff_latch (c : Chip) (d : Nat) (b : Bool) : (c.setOwnerOff d b).latch = c.latch := rfl
@[simp] theorem Chip.setOwnerOff_evt (c : Chip) (d : Nat) (b : Bool) : (c.setOwnerOff d b).evt = c.evt := rfl
@[simp] theorem Chip.setOwnerOff_pwr (c : Chip) (d : Nat) (b : Bool) : (c.setOwnerOff d b).pwr = { c.pwr with ownerOff := c.pwr.ownerOff.set d b } := rfl
@[simp] theorem Chip.setOwnerOff_board (c : Chip) (d : Nat) (b : Bool) : (c.setOwnerOff d b).board = c.board := rfl
@[simp] theorem Chip.setOwnerOff_boot (c : Chip) (d : Nat) (b : Bool) : (c.setOwnerOff d b).boot = c.boot := rfl
@[simp] theorem Chip.setOwnerOff_hl (c : Chip) (d : Nat) (b : Bool) : (c.setOwnerOff d b).hl = c.hl := rfl
@[simp] theorem Chip.setOwnerOff_fab (c : Chip) (d : Nat) (b : Bool) : (c.setOwnerOff d b).fab = c.fab := rfl
@[simp] theorem Chip.setOwnerOff_rma (c : Chip) (d : Nat) (b : Bool) : (c.setOwnerOff d b).rma = c.rma := rfl
@[simp] theorem Chip.setOwnerOff_work (c : Chip) (d : Nat) (b : Bool) : (c.setOwnerOff d b).work = c.work := rfl
@[simp] theorem Chip.setOwnerOff_emb (c : Chip) (d : Nat) (b : Bool) : (c.setOwnerOff d b).emb = c.emb := rfl

@[simp] theorem Chip.setHlPort_regs (c : Chip) (p : Nat) (r : HlPort) : (c.setHlPort p r).regs = c.regs := rfl
@[simp] theorem Chip.setHlPort_time (c : Chip) (p : Nat) (r : HlPort) : (c.setHlPort p r).time = c.time := rfl
@[simp] theorem Chip.setHlPort_timeOn (c : Chip) (p : Nat) (r : HlPort) : (c.setHlPort p r).timeOn = c.timeOn := rfl
@[simp] theorem Chip.setHlPort_free (c : Chip) (p : Nat) (r : HlPort) : (c.setHlPort p r).free = c.free := rfl
@[simp] theorem Chip.setHlPort_latch (c : Chip) (p : Nat) (r : HlPort) : (c.setHlPort p r).latch = c.latch := rfl
@[simp] theorem Chip.setHlPort_evt (c : Chip) (p : Nat) (r : HlPort) : (c.setHlPort p r).evt = c.evt := rfl
@[simp] theorem Chip.setHlPort_pwr (c : Chip) (p : Nat) (r : HlPort) : (c.setHlPort p r).pwr = c.pwr := rfl
@[simp] theorem Chip.setHlPort_board (c : Chip) (p : Nat) (r : HlPort) : (c.setHlPort p r).board = c.board := rfl
@[simp] theorem Chip.setHlPort_boot (c : Chip) (p : Nat) (r : HlPort) : (c.setHlPort p r).boot = c.boot := rfl
@[simp] theorem Chip.setHlPort_hl (c : Chip) (p : Nat) (r : HlPort) : (c.setHlPort p r).hl = { c.hl with ports := c.hl.ports.set p r } := rfl
@[simp] theorem Chip.setHlPort_fab (c : Chip) (p : Nat) (r : HlPort) : (c.setHlPort p r).fab = c.fab := rfl
@[simp] theorem Chip.setHlPort_rma (c : Chip) (p : Nat) (r : HlPort) : (c.setHlPort p r).rma = c.rma := rfl
@[simp] theorem Chip.setHlPort_work (c : Chip) (p : Nat) (r : HlPort) : (c.setHlPort p r).work = c.work := rfl
@[simp] theorem Chip.setHlPort_emb (c : Chip) (p : Nat) (r : HlPort) : (c.setHlPort p r).emb = c.emb := rfl

@[simp] theorem Chip.setFabPort_regs (c : Chip) (p : Nat) (r : FabPort) : (c.setFabPort p r).regs = c.regs := rfl
@[simp] theorem Chip.setFabPort_time (c : Chip) (p : Nat) (r : FabPort) : (c.setFabPort p r).time = c.time := rfl
@[simp] theorem Chip.setFabPort_timeOn (c : Chip) (p : Nat) (r : FabPort) : (c.setFabPort p r).timeOn = c.timeOn := rfl
@[simp] theorem Chip.setFabPort_free (c : Chip) (p : Nat) (r : FabPort) : (c.setFabPort p r).free = c.free := rfl
@[simp] theorem Chip.setFabPort_latch (c : Chip) (p : Nat) (r : FabPort) : (c.setFabPort p r).latch = c.latch := rfl
@[simp] theorem Chip.setFabPort_evt (c : Chip) (p : Nat) (r : FabPort) : (c.setFabPort p r).evt = c.evt := rfl
@[simp] theorem Chip.setFabPort_pwr (c : Chip) (p : Nat) (r : FabPort) : (c.setFabPort p r).pwr = c.pwr := rfl
@[simp] theorem Chip.setFabPort_board (c : Chip) (p : Nat) (r : FabPort) : (c.setFabPort p r).board = c.board := rfl
@[simp] theorem Chip.setFabPort_boot (c : Chip) (p : Nat) (r : FabPort) : (c.setFabPort p r).boot = c.boot := rfl
@[simp] theorem Chip.setFabPort_hl (c : Chip) (p : Nat) (r : FabPort) : (c.setFabPort p r).hl = c.hl := rfl
@[simp] theorem Chip.setFabPort_fab (c : Chip) (p : Nat) (r : FabPort) : (c.setFabPort p r).fab = { c.fab with ports := c.fab.ports.set p r } := rfl
@[simp] theorem Chip.setFabPort_rma (c : Chip) (p : Nat) (r : FabPort) : (c.setFabPort p r).rma = c.rma := rfl
@[simp] theorem Chip.setFabPort_work (c : Chip) (p : Nat) (r : FabPort) : (c.setFabPort p r).work = c.work := rfl
@[simp] theorem Chip.setFabPort_emb (c : Chip) (p : Nat) (r : FabPort) : (c.setFabPort p r).emb = c.emb := rfl

@[simp] theorem Chip.setOp_regs (c : Chip) (o : PendOp) : (c.setOp o).regs = c.regs := rfl
@[simp] theorem Chip.setOp_time (c : Chip) (o : PendOp) : (c.setOp o).time = c.time := rfl
@[simp] theorem Chip.setOp_timeOn (c : Chip) (o : PendOp) : (c.setOp o).timeOn = c.timeOn := rfl
@[simp] theorem Chip.setOp_free (c : Chip) (o : PendOp) : (c.setOp o).free = c.free := rfl
@[simp] theorem Chip.setOp_latch (c : Chip) (o : PendOp) : (c.setOp o).latch = c.latch := rfl
@[simp] theorem Chip.setOp_evt (c : Chip) (o : PendOp) : (c.setOp o).evt = c.evt := rfl
@[simp] theorem Chip.setOp_pwr (c : Chip) (o : PendOp) : (c.setOp o).pwr = c.pwr := rfl
@[simp] theorem Chip.setOp_board (c : Chip) (o : PendOp) : (c.setOp o).board = c.board := rfl
@[simp] theorem Chip.setOp_boot (c : Chip) (o : PendOp) : (c.setOp o).boot = c.boot := rfl
@[simp] theorem Chip.setOp_hl (c : Chip) (o : PendOp) : (c.setOp o).hl = c.hl := rfl
@[simp] theorem Chip.setOp_fab (c : Chip) (o : PendOp) : (c.setOp o).fab = c.fab := rfl
@[simp] theorem Chip.setOp_work (c : Chip) (o : PendOp) : (c.setOp o).work = c.work := rfl
@[simp] theorem Chip.setOp_emb (c : Chip) (o : PendOp) : (c.setOp o).emb = c.emb := rfl

@[simp] theorem Chip.dropOp_regs (c : Chip) (id : Nat) : (c.dropOp id).regs = c.regs := rfl
@[simp] theorem Chip.dropOp_time (c : Chip) (id : Nat) : (c.dropOp id).time = c.time := rfl
@[simp] theorem Chip.dropOp_timeOn (c : Chip) (id : Nat) : (c.dropOp id).timeOn = c.timeOn := rfl
@[simp] theorem Chip.dropOp_free (c : Chip) (id : Nat) : (c.dropOp id).free = c.free := rfl
@[simp] theorem Chip.dropOp_latch (c : Chip) (id : Nat) : (c.dropOp id).latch = c.latch := rfl
@[simp] theorem Chip.dropOp_evt (c : Chip) (id : Nat) : (c.dropOp id).evt = c.evt := rfl
@[simp] theorem Chip.dropOp_pwr (c : Chip) (id : Nat) : (c.dropOp id).pwr = c.pwr := rfl
@[simp] theorem Chip.dropOp_board (c : Chip) (id : Nat) : (c.dropOp id).board = c.board := rfl
@[simp] theorem Chip.dropOp_boot (c : Chip) (id : Nat) : (c.dropOp id).boot = c.boot := rfl
@[simp] theorem Chip.dropOp_hl (c : Chip) (id : Nat) : (c.dropOp id).hl = c.hl := rfl
@[simp] theorem Chip.dropOp_fab (c : Chip) (id : Nat) : (c.dropOp id).fab = c.fab := rfl
@[simp] theorem Chip.dropOp_work (c : Chip) (id : Nat) : (c.dropOp id).work = c.work := rfl
@[simp] theorem Chip.dropOp_emb (c : Chip) (id : Nat) : (c.dropOp id).emb = c.emb := rfl

@[simp] theorem Chip.record_regs (c : Chip) (e : ReplayEnt) : (c.record e).regs = c.regs := rfl
@[simp] theorem Chip.record_time (c : Chip) (e : ReplayEnt) : (c.record e).time = c.time := rfl
@[simp] theorem Chip.record_timeOn (c : Chip) (e : ReplayEnt) : (c.record e).timeOn = c.timeOn := rfl
@[simp] theorem Chip.record_free (c : Chip) (e : ReplayEnt) : (c.record e).free = c.free := rfl
@[simp] theorem Chip.record_latch (c : Chip) (e : ReplayEnt) : (c.record e).latch = c.latch := rfl
@[simp] theorem Chip.record_evt (c : Chip) (e : ReplayEnt) : (c.record e).evt = c.evt := rfl
@[simp] theorem Chip.record_pwr (c : Chip) (e : ReplayEnt) : (c.record e).pwr = c.pwr := rfl
@[simp] theorem Chip.record_board (c : Chip) (e : ReplayEnt) : (c.record e).board = c.board := rfl
@[simp] theorem Chip.record_boot (c : Chip) (e : ReplayEnt) : (c.record e).boot = c.boot := rfl
@[simp] theorem Chip.record_hl (c : Chip) (e : ReplayEnt) : (c.record e).hl = c.hl := rfl
@[simp] theorem Chip.record_fab (c : Chip) (e : ReplayEnt) : (c.record e).fab = c.fab := rfl
@[simp] theorem Chip.record_rma (c : Chip) (e : ReplayEnt) : (c.record e).rma = { c.rma with replay := c.rma.replay ++ [e] } := rfl
@[simp] theorem Chip.record_work (c : Chip) (e : ReplayEnt) : (c.record e).work = c.work := rfl
@[simp] theorem Chip.record_emb (c : Chip) (e : ReplayEnt) : (c.record e).emb = c.emb := rfl

@[simp] theorem onChip_chip (f : Chip → Chip) (s : State) : (onChip f s).chip = f s.chip := rfl
@[simp] theorem onChip_nv (f : Chip → Chip) (s : State) : (onChip f s).nv = s.nv := rfl
@[simp] theorem onChip_pending (f : Chip → Chip) (s : State) : (onChip f s).pending = s.pending := rfl
@[simp] theorem freeing_chip (f : Chip → Chip) (s : State) : (freeing f s).chip = (f s.chip).drainSlots := rfl
@[simp] theorem freeing_nv (f : Chip → Chip) (s : State) : (freeing f s).nv = s.nv := rfl
@[simp] theorem freeing_pending (f : Chip → Chip) (s : State) : (freeing f s).pending = s.pending := rfl

end Sys2Proof.Machine
end

