-- ==== Sys2Proof/Laws/Ops.lean ====
section
/-!
SUPPORT. The shared operations on the chip: registers and their fields, and what a counted or logged event can change (R443 to
R448, R453): the recorder's state, the registers of the events block, and the counter.
-/
namespace Sys2Proof.Machine

/-! Registers. -/

/-- A register reads back what was stored. -/
@[simp] theorem Chip.reg_setReg_same (c : Chip) (off : Nat) (v : W64) : (c.setReg off v).reg off = v := by
  simp [Chip.reg, Chip.setReg]

/-- Storing a register leaves every other one alone. -/
theorem Chip.reg_setReg_other (c : Chip) (off o : Nat) (v : W64) (h : o ≠ off) : (c.setReg off v).reg o = c.reg o := by
  simp [Chip.reg, Chip.setReg, rfGet_rfSet_other _ _ _ _ _ h]

/-- A register's word after a field is set. -/
@[simp] theorem Chip.reg_setFld_same (c : Chip) (off hi lo v : Nat) :
    (c.setFld off hi lo v).reg off = putField (c.reg off) hi lo v := by
  simp [Chip.setFld]

/-- Setting a field leaves every other register alone. -/
theorem Chip.reg_setFld_other (c : Chip) (off hi lo v o : Nat) (h : o ≠ off) : (c.setFld off hi lo v).reg o = c.reg o :=
  c.reg_setReg_other off o _ h

/-- A field reads back what was set. -/
theorem Chip.fld_setFld_same (c : Chip) (off hi lo v : Nat) (hl : lo ≤ hi) (hh : hi < 64) :
    (c.setFld off hi lo v).fld off hi lo = v % 2 ^ (hi + 1 - lo) := by
  simp [Chip.fld, fieldOf_putField_same _ _ _ _ hl hh]

/-- Setting a field leaves a field of the same register apart from it alone. -/
theorem Chip.fld_setFld_apart (c : Chip) (off hi lo v hi' lo' : Nat) (hl : lo ≤ hi) (hh : hi < 64) (h : hi' < lo ∨ hi < lo') :
    (c.setFld off hi lo v).fld off hi' lo' = c.fld off hi' lo' := by
  simp [Chip.fld, fieldOf_putField_other _ _ _ _ _ _ hl hh h]

/-- Setting a field leaves the fields of every other register alone. -/
theorem Chip.fld_setFld_other (c : Chip) (off hi lo v o hi' lo' : Nat) (h : o ≠ off) :
    (c.setFld off hi lo v).fld o hi' lo' = c.fld o hi' lo' := by
  simp [Chip.fld, Chip.reg_setFld_other c off hi lo v o h]

/-- Two chips with the same register file have the same registers. -/
theorem Chip.reg_congr (c d : Chip) (h : d.regs = c.regs) (o : Nat) : d.reg o = c.reg o := by
  simp [Chip.reg, h]

/-! What touches what. -/

theorem Touches.refl (P : Nat → Prop) (c : Chip) : Touches P c c := ⟨c.evt, c.regs, rfl, fun _ _ => rfl, id⟩

theorem Touches.trans {P : Nat → Prop} {a b c : Chip} (h1 : Touches P a b) (h2 : Touches P b c) : Touches P a c := by
  obtain ⟨e1, r1, rfl, f1, w1⟩ := h1
  obtain ⟨e2, r2, rfl, f2, w2⟩ := h2
  exact ⟨e2, r2, rfl, fun o ho => (f2 o ho).trans (f1 o ho), fun h => w2 (w1 h)⟩

theorem Touches.mono {P Q : Nat → Prop} {a b : Chip} (h : Touches P a b) (hq : ∀ o, P o → Q o) : Touches Q a b := by
  obtain ⟨e, r, h1, h2, h3⟩ := h
  exact ⟨e, r, h1, fun o ho => h2 o (fun hp => ho (hq o hp)), h3⟩

theorem Touches.setReg {P : Nat → Prop} (c : Chip) (off : Nat) (v : W64) (h : P off) : Touches P c (c.setReg off v) :=
  ⟨c.evt, rfSet c.regs off v, rfl, fun o ho => c.reg_setReg_other off o v (fun he => ho (he ▸ h)), rfWf_rfSet _ _ _⟩

theorem Touches.setEvt (P : Nat → Prop) (c : Chip) (e : Evt) : Touches P c { c with evt := e } :=
  ⟨e, c.regs, rfl, fun _ _ => rfl, id⟩

/-- Everything but the recorder and the registers stays. -/
theorem Touches.rest {P : Nat → Prop} {c d : Chip} (h : Touches P c d) :
    d.time = c.time ∧ d.timeOn = c.timeOn ∧ d.free = c.free ∧ d.latch = c.latch ∧ d.pwr = c.pwr ∧ d.board = c.board ∧
      d.boot = c.boot ∧ d.hl = c.hl ∧ d.fab = c.fab ∧ d.rma = c.rma ∧ d.work = c.work ∧ d.emb = c.emb := by
  obtain ⟨e, r, rfl, _, _⟩ := h
  exact ⟨rfl, rfl, rfl, rfl, rfl, rfl, rfl, rfl, rfl, rfl, rfl, rfl⟩

/-- A severity is 0 to 6 (R445). -/
theorem EvArgs.severity_le (a : EvArgs) : a.severity ≤ 6 := Nat.min_le_left _ _

theorem touches_foldl {α : Type} {P : Nat → Prop} (f : Chip → α → Chip) (hf : ∀ c a, Touches P c (f c a)) (l : List α) :
    ∀ c, Touches P c (l.foldl f c) := by
  induction l with
  | nil => intro c; exact .refl P c
  | cons a l ih => intro c; exact (hf c a).trans (ih _)

/-- What a record's logging touches, when its counting and its second record touch only the recorder. -/
theorem logWith_recorded (cnt : Chip → Nat → Chip) (again : Chip → Chip) (hc : ∀ c o, recorderReg o → Recorded c (cnt c o))
    (ha : ∀ c, Recorded c (again c)) (c : Chip) (a : EvArgs) : Recorded c (logWith cnt again c a) := by
  have hs : a.severity ≤ 6 := a.severity_le
  have h1 : recorderReg (Reg.evtDropped a.severity) := by simp [recorderReg, Reg.evtDropped]; omega
  have h2 : recorderReg Reg.evtMirrorDropped := by simp [recorderReg, Reg.evtMirrorDropped]
  have h3 : recorderReg Reg.evtSuppressed := by simp [recorderReg, Reg.evtSuppressed]
  unfold logWith
  simp only
  split
  · have step : ∀ (d : Chip) (r : EvRec), Recorded d
        (if a.severity < 5 then d else
          let c := (upTo 4).foldl (fun c i => c.setReg (Reg.evtLastSevere i) ((evWords r).getD i 0#64)) d
          if c.evt.queue.length < 64 then { c with evt := { c.evt with queue := c.evt.queue ++ [r] } }
          else
            let c := cnt c Reg.evtMirrorDropped
            if c.evt.fullSeen then c else again { c with evt := { c.evt with fullSeen := true } }) := by
      intro d r
      split
      · exact .refl _ _
      · have hfold : Recorded d ((upTo 4).foldl (fun c i => c.setReg (Reg.evtLastSevere i) ((evWords r).getD i 0#64)) d) := by
          have : upTo 4 = [0, 1, 2, 3] := rfl
          rw [this]
          simp only [List.foldl]
          refine Touches.trans (Touches.trans (Touches.trans (Touches.setReg _ _ _ ?_) (Touches.setReg _ _ _ ?_))
            (Touches.setReg _ _ _ ?_)) (Touches.setReg _ _ _ ?_) <;> simp [recorderReg, Reg.evtLastSevere]
        simp only
        split
        · exact hfold.trans (.setEvt _ _ _)
        · have hcnt := hfold.trans (hc _ Reg.evtMirrorDropped h2)
          split
          · exact hcnt
          · exact hcnt.trans ((Touches.setEvt _ _ _).trans (ha _))
    refine Touches.trans ?_ (step _ _)
    split
    · split
      · exact (Touches.setEvt _ _ _).trans (hc _ _ h1)
      · exact .setEvt _ _ _
    · exact .setEvt _ _ _
  · exact (Touches.setEvt _ _ _).trans (hc _ _ h3)

/-- What counting touches: the counter, and the recorder when it saturates (R453). -/
theorem bumpFuel_touches (k : Nat) : ∀ (c : Chip) (off n : Nat),
    Touches (fun o => o = off ∨ recorderReg o) c (bumpFuel k c off n) := by
  induction k with
  | zero => intro c off n; exact .setReg _ _ _ (Or.inl rfl)
  | succ k ih =>
    intro c off n
    have hcnt : ∀ (c : Chip) (o : Nat), recorderReg o → Recorded c (bumpFuel k c o 1) := fun c o ho =>
      (ih c o 1).mono (fun x hx => hx.elim (fun e => e ▸ ho) id)
    have h0 : Touches (fun o => o = off ∨ recorderReg o) c (c.setReg off (cntAdd (c.reg off) n).1) :=
      .setReg _ _ _ (Or.inl rfl)
    unfold bumpFuel
    simp only
    split
    · refine h0.trans (Touches.mono ?_ (fun o ho => Or.inr ho))
      exact logWith_recorded _ _ hcnt (fun c => logWith_recorded _ _ hcnt (fun c => .refl _ c) c _) _ _
    · exact h0

/-- Adding to a counter touches the counter and the recorder. -/
theorem Chip.bumpBy_touches (c : Chip) (off n : Nat) : Touches (fun o => o = off ∨ recorderReg o) c (c.bumpBy off n) := by
  unfold Chip.bumpBy
  split
  · exact .refl _ _
  · exact bumpFuel_touches _ _ _ _

/-- Counting touches the counter and the recorder. -/
theorem Chip.bump_touches (c : Chip) (off : Nat) : Touches (fun o => o = off ∨ recorderReg o) c (c.bump off) :=
  bumpFuel_touches _ _ _ _

/-- Logging a record touches the recorder alone. -/
theorem Chip.log_recorded (c : Chip) (a : EvArgs) : Recorded c (c.log a) := by
  have hcnt : ∀ (c : Chip) (o : Nat), recorderReg o → Recorded c (c.bump o) := fun c o ho =>
    (c.bump_touches o).mono (fun x hx => hx.elim (fun e => e ▸ ho) id)
  exact logWith_recorded _ _ hcnt (fun c => logWith_recorded _ _ hcnt (fun c => .refl _ c) c _) _ _

/-- A register outside the events block keeps its value when a record is logged. -/
theorem Chip.log_reg (c : Chip) (a : EvArgs) (o : Nat) (h : ¬ recorderReg o) : (c.log a).reg o = c.reg o := by
  obtain ⟨e, r, _, hr, _⟩ := c.log_recorded a
  exact hr o h

/-- A register outside the events block and other than the counter keeps its value. -/
theorem Chip.bump_reg (c : Chip) (off o : Nat) (h : ¬ recorderReg o) (ho : o ≠ off) : (c.bump off).reg o = c.reg o := by
  obtain ⟨e, r, _, hr, _⟩ := c.bump_touches off
  exact hr o (by simp [h, ho])

/-- R453: a counter below its largest value, and not saturated, rises by one. -/
theorem Chip.bump_reg_same (c : Chip) (off : Nat) (h : ¬ recorderReg off) :
    (c.bump off).reg off = (cntAdd (c.reg off) 1).1 := by
  unfold Chip.bump bumpFuel
  simp only
  have hcnt : ∀ (c : Chip) (o : Nat), recorderReg o → Recorded c (bumpFuel 11 c o 1) := fun c o ho =>
    (bumpFuel_touches 11 c o 1).mono (fun x hx => hx.elim (fun e => e ▸ ho) id)
  split
  · obtain ⟨e, r, _, hr, _⟩ := logWith_recorded _ _ hcnt
      (fun c => logWith_recorded _ _ hcnt (fun c => .refl _ c) c { code := 0x0303 })
      (c.setReg off (cntAdd (c.reg off) 1).1) (satArgs off)
    rw [hr off h, Chip.reg_setReg_same]
  · simp

section

variable (c : Chip) (a : EvArgs) (off n : Nat)

@[simp] theorem Chip.log_work : (c.log a).work = c.work := (c.log_recorded a).rest.2.2.2.2.2.2.2.2.2.2.1
@[simp] theorem Chip.log_emb : (c.log a).emb = c.emb := (c.log_recorded a).rest.2.2.2.2.2.2.2.2.2.2.2
@[simp] theorem Chip.log_rma : (c.log a).rma = c.rma := (c.log_recorded a).rest.2.2.2.2.2.2.2.2.2.1
@[simp] theorem Chip.log_fab : (c.log a).fab = c.fab := (c.log_recorded a).rest.2.2.2.2.2.2.2.2.1
@[simp] theorem Chip.log_hl : (c.log a).hl = c.hl := (c.log_recorded a).rest.2.2.2.2.2.2.2.1
@[simp] theorem Chip.log_boot : (c.log a).boot = c.boot := (c.log_recorded a).rest.2.2.2.2.2.2.1
@[simp] theorem Chip.log_pwr : (c.log a).pwr = c.pwr := (c.log_recorded a).rest.2.2.2.2.1
@[simp] theorem Chip.log_time : (c.log a).time = c.time := (c.log_recorded a).rest.1
@[simp] theorem Chip.log_free : (c.log a).free = c.free := (c.log_recorded a).rest.2.2.1
@[simp] theorem Chip.log_latch : (c.log a).latch = c.latch := (c.log_recorded a).rest.2.2.2.1
@[simp] theorem Chip.log_board : (c.log a).board = c.board := (c.log_recorded a).rest.2.2.2.2.2.1
@[simp] theorem Chip.bump_work : (c.bump off).work = c.work := (c.bump_touches off).rest.2.2.2.2.2.2.2.2.2.2.1
@[simp] theorem Chip.bump_emb : (c.bump off).emb = c.emb := (c.bump_touches off).rest.2.2.2.2.2.2.2.2.2.2.2
@[simp] theorem Chip.bump_rma : (c.bump off).rma = c.rma := (c.bump_touches off).rest.2.2.2.2.2.2.2.2.2.1
@[simp] theorem Chip.bump_fab : (c.bump off).fab = c.fab := (c.bump_touches off).rest.2.2.2.2.2.2.2.2.1
@[simp] theorem Chip.bump_hl : (c.bump off).hl = c.hl := (c.bump_touches off).rest.2.2.2.2.2.2.2.1
@[simp] theorem Chip.bump_boot : (c.bump off).boot = c.boot := (c.bump_touches off).rest.2.2.2.2.2.2.1
@[simp] theorem Chip.bump_pwr : (c.bump off).pwr = c.pwr := (c.bump_touches off).rest.2.2.2.2.1
@[simp] theorem Chip.bump_time : (c.bump off).time = c.time := (c.bump_touches off).rest.1
@[simp] theorem Chip.bump_free : (c.bump off).free = c.free := (c.bump_touches off).rest.2.2.1
@[simp] theorem Chip.bump_latch : (c.bump off).latch = c.latch := (c.bump_touches off).rest.2.2.2.1
@[simp] theorem Chip.bump_board : (c.bump off).board = c.board := (c.bump_touches off).rest.2.2.2.2.2.1

end

end Sys2Proof.Machine
end

