-- ==== Sys2Proof/Laws/Delivery.lean ====
section
/-!
SUPPORT. What the guards of packets and messages do when their conditions hold: a packet that arrives and a message that is
taken reach their unit.
-/
namespace Sys2Proof.Machine

/-- A packet that arrives reaches its unit (R319, R352, R363). -/
theorem onPkt_arrives {s : State} {h : FabHdr} {b : FabBody} {r : Nat} (f : Chip → Chip) (a : Arrives s h b r) :
    onPkt s.chip ⟨h, b⟩ r f = f (got s h b) := by
  obtain ⟨h1, h2, h3, h4, h5, h6⟩ := a
  by_cases he : h.enc = true
  · obtain ⟨ha, hb⟩ := h6 he
    simp_all [onPkt, takePkt, got]
  · simp_all [onPkt, takePkt, got]

/-- The device's state is not a counter. -/
theorem Chip.bump_rx_devState (c : Chip) : (c.bump (Reg.hlCnt 4)).devState = c.devState := by
  simp only [Chip.devState, Chip.fld]
  rw [Chip.bump_reg _ _ _ (by simp [recorderReg, Reg.idBootStatus]) (by decide)]

/-- A message of legal form passes the form check (R371). -/
theorem formStatus_ok {s : State} {h : HlHdr} {m : HlMeta} (a : HostTakes s h m) : formStatus h m = stOk := by
  obtain ⟨_, _, h3, h4, h5, h6, h7, h8, h9, _⟩ := a
  have h12 : ¬ (h.hc = 0 ∧ 1 < h.pkts.length) := by
    rintro ⟨x, y⟩; have := h9 x; omega
  unfold formStatus
  rw [if_neg (by simp [h3]), if_neg (by simp only [h4, h5, h6, h7, h8, not_true_eq_false, ne_eq, false_or, Bool.true_eq_false]; rwa [← h4])]

/-- A sequenced message that is taken reaches its unit (R371, R372, R380). -/
theorem onHost_takes {s : State} {h : HlHdr} {m : HlMeta} (f : State → State) (a : HostTakes s h m) (hq : sequenced h = true) :
    s.onHost h m f = f (s.put (taken s h)) := by
  have e2 := formStatus_ok a
  obtain ⟨h1, h2, _, _, _, _, _, _, _, h10⟩ := a
  have e1 : s.chip.takeSeq h.port h.hc h.xseq =
      (true, s.chip.setHlPort h.port ((s.chip.hlPort h.port).setExpect h.hc (wrapSuccSkip0 32 h.xseq) false)) := by
    simp [Chip.takeSeq, seqResult, h2 hq]
  have h14 : ¬ ((s.chip.setHlPort h.port ((s.chip.hlPort h.port).setExpect h.hc (wrapSuccSkip0 32 h.xseq) false)).bump (Reg.hlCnt 4)).devState < 2 := by
    rw [Chip.bump_rx_devState]; have : s.chip.devState = (s.chip.setHlPort h.port ((s.chip.hlPort h.port).setExpect h.hc (wrapSuccSkip0 32 h.xseq) false)).devState := rfl
    omega
  unfold State.onHost
  simp only [h1, hq, e1, e2, Bool.not_true, Bool.false_eq_true, if_false, if_true, ne_eq, not_true_eq_false, h14, false_and]
  rfl

/-- One without a sequence check reaches it too (R371, R380). -/
theorem onHost_takes_loose {s : State} {h : HlHdr} {m : HlMeta} (f : State → State) (a : HostTakes s h m) (hq : sequenced h = false) :
    s.onHost h m f = f (s.put (s.chip.bump (Reg.hlCnt 4))) := by
  have e2 := formStatus_ok a
  obtain ⟨h1, _, _, _, _, _, _, _, _, h10⟩ := a
  have h14 : ¬ (s.chip.bump (Reg.hlCnt 4)).devState < 2 := by rw [Chip.bump_rx_devState]; omega
  unfold State.onHost
  simp only [h1, hq, e2, Bool.not_true, Bool.false_eq_true, if_false, ne_eq, not_true_eq_false, h14, false_and]
  rfl

end Sys2Proof.Machine
end

