-- ==== Sys2Proof/Laws/Keeps.lean ====
section
/-!
SUPPORT. The operations on the whole state: each keeps the queue, the form of the non-volatile store, and its fuses from falling
(R403, R404, R412).
-/
namespace Sys2Proof.Machine

theorem FusesRise.refl (n : Nv) : FusesRise n n := ⟨le_refl _, rfl, rfl, rfl, fun _ h => h⟩

theorem FusesRise.trans {a b c : Nv} (h1 : FusesRise a b) (h2 : FusesRise b c) : FusesRise a c :=
  ⟨le_trans h1.1 h2.1, h1.2.1.trans h2.2.1, h1.2.2.1.trans h2.2.2.1, h1.2.2.2.1.trans h2.2.2.2.1, fun k h => h2.2.2.2.2 k (h1.2.2.2.2 k h)⟩

theorem Keeps.refl (s : State) : Keeps s s := ⟨rfl, fun h => ⟨h, .refl _⟩⟩

theorem Keeps.trans {a b c : State} (h1 : Keeps a b) (h2 : Keeps b c) : Keeps a c :=
  ⟨h2.1.trans h1.1, fun h => ⟨(h2.2 (h1.2 h).1).1, (h1.2 h).2.trans (h2.2 (h1.2 h).1).2⟩⟩

/-- A change of the chip alone. -/
theorem Keeps.chip (s : State) (c : Chip) : Keeps s { s with chip := c } := ⟨rfl, fun h => ⟨h, .refl _⟩⟩

/-- A change of the chip, and of the store in a way that keeps its form. -/
theorem Keeps.store (s : State) (c : Chip) (n : Nv) (h : NvOk s.nv → NvOk n ∧ FusesRise s.nv n) :
    Keeps s { s with chip := c, nv := n } := ⟨rfl, h⟩

theorem keeps_ite {b : Prop} [Decidable b] {s t u : State} (h1 : b → Keeps s t) (h2 : ¬ b → Keeps s u) :
    Keeps s (if b then t else u) := by
  by_cases h : b <;> simp [h, h1, h2]

theorem onChip_keeps (f : Chip → Chip) (s : State) : Keeps s (onChip f s) := .chip _ _
theorem freeing_keeps (f : Chip → Chip) (s : State) : Keeps s (freeing f s) := .chip _ _
theorem onFab_keeps (h : FabHdr) (b : FabBody) (n : Nat) (f : Chip → Chip) (s : State) : Keeps s (onFab h b n f s) := .chip _ _
theorem onFabFreeing_keeps (h : FabHdr) (b : FabBody) (n : Nat) (f : Chip → Chip) (s : State) :
    Keeps s (onFabFreeing h b n f s) := .chip _ _

/-! The units of flash and fuses. -/

/-- R404: a fuse word only raises `SVN_FUSED`, within its 128 fuses, and only revokes keys. -/
theorem Nv.fuse_keeps (n : Nv) (i : CfgImage) (h : NvOk n) : NvOk (n.fuse i) ∧ FusesRise n (n.fuse i) := by
  obtain ⟨h1, h2, h3, h4⟩ := h
  unfold Nv.fuse
  split
  · rename_i hlt
    have hw : 0 < fuseWord := by simp [fuseWord]
    have hge : n.svnFused < (n.svnFused / fuseWord + 1) * fuseWord := Nat.lt_div_mul_add hw |>.trans_eq (by ring)
    refine ⟨⟨?_, h2, h3, h4⟩, ?_, rfl, rfl, rfl, fun _ h => h⟩
    · simp only; omega
    · simp only; omega
  · refine ⟨⟨h1, h2, by simp [upTo], h4⟩, le_refl _, rfl, rfl, rfl, ?_⟩
    intro k hk
    have hk4 : k < 4 := by
      by_contra hge
      rw [List.getD_eq_default _ _ (by omega)] at hk
      cases hk
    have : k = 0 ∨ k = 1 ∨ k = 2 ∨ k = 3 := by omega
    simp only [upTo, List.getD_eq_getElem?_getD, List.getElem?_map, List.getElem?_range hk4] at hk ⊢
    simp [hk]

theorem Nv.spoil_keeps (n : Nv) (r : BootRun) (h : NvOk n) : NvOk (n.spoil r) ∧ FusesRise n (n.spoil r) := by
  unfold Nv.spoil
  simp only
  split
  · exact ⟨h, le_refl _, rfl, rfl, rfl, fun _ h => h⟩
  · split
    · split <;> exact ⟨h, le_refl _, rfl, rfl, rfl, fun _ h => h⟩
    · split
      · split <;> exact ⟨h, le_refl _, rfl, rfl, rfl, fun _ h => h⟩
      · exact ⟨h, .refl _⟩

theorem Nv.finish_keeps (n : Nv) (r : BootRun) (b : Bool) (h : NvOk n) : NvOk (n.finish r b) ∧ FusesRise n (n.finish r b) := by
  unfold Nv.finish
  simp only
  split
  · exact ⟨h, le_refl _, rfl, rfl, rfl, fun _ h => h⟩
  · split
    · split <;> exact ⟨h, le_refl _, rfl, rfl, rfl, fun _ h => h⟩
    · exact ⟨h, .refl _⟩

theorem svnEnds_keeps (s : State) (st : Nat) : Keeps s (s.svnEnds st) := by
  unfold State.svnEnds
  exact .chip _ _

theorem runEnds_keeps (s : State) (st : Nat) : Keeps s (s.runEnds st) := by
  unfold State.runEnds
  split
  · split
    · exact svnEnds_keeps s st
    · exact .chip _ _
  · exact .refl _

theorem nextUnit_keeps (s : State) (r : BootRun) : Keeps s (s.nextUnit r) := by
  unfold State.nextUnit
  generalize holdup s.chip (unitUs s.nv r.cmd) r.cmd = x
  obtain ⟨ok, c⟩ := x
  cases ok
  · exact Keeps.trans (Keeps.chip s (c.setRun (some r))) (runEnds_keeps _ _)
  · exact Keeps.store s (c.setRun (some r)) (s.nv.spoil r) (s.nv.spoil_keeps r)

theorem startUnits_keeps (s : State) (r : BootRun) : Keeps s (s.startUnits r) := by
  unfold State.startUnits
  exact (Keeps.chip s _).trans (nextUnit_keeps _ _)

theorem svnCommit_keeps (s : State) (w : W64) : Keeps s (s.svnCommit w) := by
  unfold State.svnCommit
  split
  · exact .chip _ _
  · simp only
    split
    · exact .chip _ _
    · exact startUnits_keeps _ _

theorem svnAuto_keeps (s : State) : Keeps s s.svnAuto := by
  unfold State.svnAuto
  split
  · exact (Keeps.chip s _).trans (svnCommit_keeps _ _)
  · exact .refl _

theorem calSave_keeps (s : State) (w : W64) (k : Nat) : Keeps s (s.calSave w k) := by
  unfold State.calSave
  with_reducible exact startUnits_keeps _ _

theorem written_keeps (s : State) (r : BootRun) (b : Bool) : Keeps s (s.written r b) := by
  have hk : ∀ (c : Chip) (st : Nat), Keeps s (State.runEnds { s with chip := c } st) :=
    fun c st => Keeps.trans (Keeps.chip s c) (runEnds_keeps _ _)
  unfold State.written
  extract_lets c f
  split
  · exact runEnds_keeps _ _
  · split
    · exact hk _ _
    · split
      · exact hk _ _
      · exact runEnds_keeps _ _

theorem Nv.unitDone_keeps (n : Nv) (r : BootRun) (b : Bool) (h : NvOk n) :
    NvOk (n.unitDone r b) ∧ FusesRise n (n.unitDone r b) := by
  unfold Nv.unitDone
  split
  · exact n.fuse_keeps _ h
  · split
    · exact n.finish_keeps r b h
    · exact ⟨h, .refl _⟩

theorem flashUnit_keeps (s : State) (b : Bool) : Keeps s (flashUnit s b) := by
  unfold flashUnit
  split
  · exact .refl _
  · rename_i r _
    refine keeps_ite (fun _ => .refl s) (fun _ => ?_)
    extract_lets t u
    have ht : Keeps s t := Keeps.store s _ _ (s.nv.unitDone_keeps r b)
    refine keeps_ite (fun _ => ht.trans (Keeps.chip t _)) (fun _ => ?_)
    have hu : Keeps s u := ht.trans (Keeps.chip t _)
    exact keeps_ite (fun _ => hu.trans ((written_keeps _ _ _).trans (svnAuto_keeps _)))
      (fun _ => hu.trans ((nextUnit_keeps _ _).trans (svnAuto_keeps _)))

/-! Boot commands, register writes and images. -/

theorem toService_keeps (s : State) : Keeps s s.toService := by
  unfold State.toService
  simp only
  split
  · exact .chip _ _
  · exact (Keeps.chip s _).trans (svnAuto_keeps _)

theorem enterCmd_keeps (s : State) (k : Nat) : Keeps s (s.enterCmd k) := by
  unfold State.enterCmd
  simp only
  split
  · exact .chip _ _
  · split
    · exact (Keeps.chip s _).trans (toService_keeps _)
    · exact .chip _ _

theorem bootCheck_keeps (s : State) : Keeps s s.bootCheck := by
  unfold State.bootCheck
  simp only
  split
  · split
    · exact toService_keeps _
    · exact .refl _
  · split
    · exact toService_keeps _
    · exact .refl _

theorem bootCommand_keeps (s : State) (w : W64) : Keeps s (s.bootCommand w) := by
  unfold State.bootCommand
  extract_lets cmd _
  refine keeps_ite (fun _ => Keeps.chip s _) (fun _ => keeps_ite (fun _ => enterCmd_keeps s cmd) (fun _ =>
    keeps_ite (fun _ => ?_) (fun _ => keeps_ite (fun _ => calSave_keeps s w _) (fun _ =>
      keeps_ite (fun _ => startUnits_keeps s _) (fun _ =>
        keeps_ite (fun _ => svnCommit_keeps s w) (fun _ => Keeps.chip s _))))))
  extract_lets st
  exact keeps_ite (fun _ => Keeps.chip s _) (fun _ => Keeps.chip s _)

theorem bootWrite_keeps (s : State) (a : Accessor) (off : Nat) (v : W64) : Keeps s (bootWrite s a off v).2 := by
  unfold bootWrite
  simp only
  repeat' split
  all_goals first
    | with_reducible exact .chip _ _
    | with_reducible exact bootCommand_keeps _ _
    | with_reducible exact .refl _

theorem regWrite_keeps (s : State) (a : Accessor) (off : Nat) (v : W64) : Keeps s (s.regWrite a off v).2 := by
  have hgo : Keeps s ((if off < 0x200000 then bootWrite s a off v
      else if off < 0x300000 then ((pwrWrite s.chip a off v).1, ({ s with chip := (pwrWrite s.chip a off v).2 } : State))
      else if off < 0x400000 then ((evtWrite s.chip s.nv a off v).1, ({ s with chip := (evtWrite s.chip s.nv a off v).2 } : State))
      else if off < 0x800000 then ((reqWrite s.chip a off v).1, ({ s with chip := (reqWrite s.chip a off v).2 } : State))
      else if off < 0xA00000 then ((movWrite s.chip a off v).1, ({ s with chip := (movWrite s.chip a off v).2 } : State))
      else if off < 0xC00000 then ((kvWrite s.chip a off v).1, ({ s with chip := (kvWrite s.chip a off v).2 } : State))
      else if off < 0xE00000 then ((fabWrite s.chip a off v).1, ({ s with chip := (fabWrite s.chip a off v).2 } : State))
      else if off < 0x1000000 then ((rmaBlockWrite s.chip a off v).1, ({ s with chip := (rmaBlockWrite s.chip a off v).2 } : State))
      else if off < 0x1200000 then ((hlWrite s.chip a off v).1, ({ s with chip := (hlWrite s.chip a off v).2 } : State))
      else if off < 0x2000000 then ((embWrite s.chip a off v).1, ({ s with chip := (embWrite s.chip a off v).2 } : State))
      else ((quadWrite s.chip a off v).1, ({ s with chip := (quadWrite s.chip a off v).2 } : State))).2) := by
    repeat' split
    all_goals first
      | with_reducible exact bootWrite_keeps _ _ _ _
      | with_reducible exact .chip _ _
  unfold State.regWrite
  simp only
  split
  · exact hgo
  · exact hgo
  · exact hgo
  · exact .refl _

theorem regWriteHalf_keeps (s : State) (p off x : Nat) : Keeps s (s.regWriteHalf p off x) := by
  unfold State.regWriteHalf
  simp only
  repeat' split
  all_goals first
    | with_reducible exact .chip _ _
    | with_reducible exact regWrite_keeps _ _ _ _
    | with_reducible exact .refl _

theorem regReadHalf_keeps (s : State) (p off : Nat) : Keeps s (s.regReadHalf p off).2 := by
  unfold State.regReadHalf
  simp only
  repeat' split
  all_goals first
    | with_reducible exact .chip _ _
    | with_reducible exact .refl _

theorem registerWrite_keeps (s : State) (a : Accessor) (off : Nat) (v : W64) (half : Bool) :
    Keeps s (registerWrite s a off v half) := by
  unfold registerWrite
  repeat' split
  all_goals first
    | with_reducible exact regWriteHalf_keeps _ _ _ _
    | with_reducible exact regWrite_keeps _ _ _ _
    | with_reducible exact .refl _

theorem settleReset_keeps (s : State) : Keeps s s.settleReset := by
  unfold State.settleReset
  split
  · exact .chip _ _
  · exact .refl _

theorem settled_keeps (s : State) : Keeps s s.settled :=
  (onChip_keeps _ s).trans (settleReset_keeps _)

theorem writing_keeps (a : Accessor) (off : Nat) (v : W64) (s : State) : Keeps s (writing a off v s) :=
  (registerWrite_keeps s a off v false).trans (settled_keeps _)

theorem writingField_keeps (a : Accessor) (off hi lo n : Nat) (s : State) : Keeps s (writingField a off hi lo n s) :=
  writing_keeps _ _ _ _

theorem applyInit_keeps (l : List RegInit) : ∀ s : State, Keeps s (applyInit l s).2 := by
  induction l with
  | nil => intro s; exact .refl _
  | cons e t ih =>
    intro s
    simp only [applyInit]
    exact (regWrite_keeps s _ _ _).trans (ih _)

theorem bootApply_keeps (s : State) (i : CfgImage) (k : Nat) : Keeps s (s.bootApply i k) := by
  unfold State.bootApply
  simp only
  exact ((Keeps.chip s _).trans (applyInit_keeps _ _)).trans (.chip _ _)

theorem bootSlots_keeps (read : Nat → Bool) (l : List Nat) : ∀ s : State, Keeps s (bootSlots read l s) := by
  induction l with
  | nil => intro s; exact .chip _ _
  | cons k t ih =>
    intro s
    simp only [bootSlots]
    split
    · exact (Keeps.chip s _).trans (bootApply_keeps _ _ _)
    · exact (Keeps.chip s _).trans (ih _)

theorem imageVerified_keeps (s : State) (a b : Bool) : Keeps s (imageVerified s a b) := by
  unfold imageVerified
  extract_lets c
  refine keeps_ite (fun _ => .refl s) (fun _ => ?_)
  with_reducible exact Keeps.trans (Keeps.chip s _) (bootSlots_keeps _ _ _)

theorem domainsTrained_keeps (s : State) (f : List StationRef) (k : List Bool) (ch : List ChannelInfo) :
    Keeps s (domainsTrained s f k ch) := by
  unfold domainsTrained
  extract_lets c
  refine keeps_ite (fun _ => .refl s) (fun _ => ?_)
  extract_lets
  with_reducible exact Keeps.trans (Keeps.chip s _) (bootCheck_keeps _)

theorem applyImage_keeps (s : State) (a b : CfgImage) (k : Nat) : Keeps s (s.applyImage a b k) := by
  unfold State.applyImage
  extract_lets
  have h := fun c => Keeps.trans (Keeps.chip s c) (applyInit_keeps b.regInit { s with chip := c })
  with_reducible exact Keeps.trans (h _) (Keeps.chip _ _)

theorem applyRead_keeps (s : State) (w : W64) (img : ReadImage) : Keeps s (s.applyRead w img) := by
  unfold State.applyRead
  extract_lets host slot done reject go
  have hd : ∀ t st, Keeps t (done t st) := fun t st => Keeps.chip t _
  have hr : ∀ t code, Keeps t (reject t code) := fun t code => Keeps.trans (Keeps.chip t _) (hd _ _)
  have hg : ∀ i, Keeps s (go i) := by
    intro i
    show Keeps s (match s.chip.boot.img with
      | none => done s stNotReady
      | some old =>
        if s.imageResult i ≠ 1 then reject s (s.imageResult i)
        else if !imageFixed old i then done s stUnsupported
        else done (s.applyImage old i (if host then 2 else slot)) stOk)
    split
    · exact hd _ _
    · exact keeps_ite (fun _ => hr _ _) (fun _ => keeps_ite (fun _ => hd _ _)
        (fun _ => (applyImage_keeps _ _ _ _).trans (hd _ _)))
  refine keeps_ite (fun _ => hd _ _) (fun _ => ?_)
  split
  · exact keeps_ite (fun _ => hd _ _) (fun _ => hr _ _)
  · refine keeps_ite (fun _ => keeps_ite (fun _ => hg _) (fun _ => hd _ _)) (fun _ => ?_)
    split
    · exact hg _
    · exact hr _ _

theorem slotRead_keeps (s : State) (w : W64) (img : ReadImage) : Keeps s (s.slotRead w img) := by
  unfold State.slotRead
  simp only
  repeat' split
  all_goals first
    | with_reducible exact .chip _ _
    | with_reducible exact startUnits_keeps _ _

theorem imageCommand_keeps (s : State) (port cmd : Nat) (w : W64) (img : ReadImage) :
    Keeps s (imageCommand s port cmd w img) := by
  unfold imageCommand
  extract_lets f t
  have h0 : Keeps s t := keeps_ite (fun _ => .refl s) (fun _ => registerWrite_keeps _ _ _ _ _)
  split
  · refine Keeps.trans h0 (Keeps.trans (keeps_ite (fun _ => applyRead_keeps _ _ _) (fun _ => slotRead_keeps _ _ _))
      (Keeps.trans (svnAuto_keeps _) (bootCheck_keeps _)))
  · exact h0

/-! The mirror (R451). -/

theorem assocPut_nv (n : Nv) (k : Nat) (v : List W64) (h : NvOk n) :
    NvOk { n with mirror := assocPut n.mirror k v } ∧ FusesRise n { n with mirror := assocPut n.mirror k v } :=
  ⟨⟨h.1, h.2.1, h.2.2.1, assocRising_put _ _ _ h.2.2.2⟩, le_refl _, rfl, rfl, rfl, fun _ h => h⟩

theorem mirErase_nv (n : Nv) (k : Nat) (h : NvOk n) : NvOk (mirErase n k) ∧ FusesRise n (mirErase n k) := by
  unfold mirErase
  exact ⟨⟨h.1, h.2.1, h.2.2.1, assocRising_filter _ _ h.2.2.2⟩, le_refl _, rfl, rfl, rfl, fun _ h => h⟩

theorem mirStart_keeps (s : State) : Keeps s (mirStart s) := by
  unfold mirStart
  simp only
  repeat' split
  all_goals first
    | with_reducible exact .chip _ _
    | with_reducible exact .store _ _ _ (mirErase_nv _ _)

theorem mirWrite_keeps (s : State) : Keeps s (mirWrite s) := by
  unfold mirWrite
  simp only
  repeat' split
  all_goals first
    | with_reducible exact .refl _
    | with_reducible exact .store _ _ _ (assocPut_nv _ _ _)
    | with_reducible exact .chip _ _

theorem mirEraseNext_keeps (s : State) : Keeps s (mirEraseNext s) := by
  unfold mirEraseNext
  simp only
  repeat' split
  all_goals first
    | with_reducible exact .refl _
    | with_reducible exact .store _ _ _ (mirErase_nv _ _)
    | with_reducible exact .chip _ _

/-! Power. -/

theorem stepTwo_keeps (s : State) (b : Bool) : Keeps s (s.stepTwo b) := by
  unfold State.stepTwo
  simp only
  exact ((Keeps.chip s _).trans (mirStart_keeps _)).trans (.chip _ _)

theorem rootLocked_keeps (s : State) : Keeps s (rootLocked s) := by
  unfold rootLocked
  simp only
  split
  · exact .refl _
  · exact (Keeps.chip s _).trans (stepTwo_keeps _ _)

theorem hubDownEnds_keeps (s : State) : Keeps s (hubDownEnds s) := by
  unfold hubDownEnds
  simp only
  split
  · exact .refl _
  · split
    · exact .chip _ _
    · exact ((Keeps.chip s _).trans (stepTwo_keeps _ _)).trans (.chip _ _)

theorem downSequenceEnds_keeps (s : State) (d : Nat) : Keeps s (downSequenceEnds s d) := by
  unfold downSequenceEnds
  repeat' split
  all_goals first
    | with_reducible exact .refl _
    | with_reducible exact hubDownEnds_keeps _
    | with_reducible exact .chip _ _

theorem powerGood_keeps (s : State) (k : Nat) : Keeps s (powerGood s k) := .chip _ _

theorem referencePresent_keeps (s : State) : Keeps s (referencePresent s) := by
  unfold referencePresent
  simp only
  split
  · exact .refl _
  · exact .chip _ _

theorem inputRecovered_keeps (s : State) : Keeps s (inputRecovered s) := by
  unfold inputRecovered
  repeat' split
  all_goals first
    | with_reducible exact .refl _
    | with_reducible exact .chip _ _

theorem resetN_keeps (s : State) (n : Nat) : Keeps s (resetN s n) := by
  unfold resetN
  repeat' split
  all_goals first
    | with_reducible exact .refl _
    | with_reducible exact .chip _ _

theorem smbusSet_keeps (s : State) (k : Nat) (d : List Byte) (b : Bool) : Keeps s (smbusSet s k d b) := by
  unfold smbusSet
  simp only
  split
  · exact .refl _
  · exact .chip _ _

theorem smbusRead_keeps (s : State) (k : Nat) (b : Bool) : Keeps s (smbusRead s k b) := by
  unfold smbusRead
  split
  · exact .refl _
  · exact .chip _ _

/-! Messages and packets. -/

theorem onHost_keeps (s : State) (h : HlHdr) (m : HlMeta) (f : State → State) (hf : ∀ s, Keeps s (f s)) :
    Keeps s (s.onHost h m f) := by
  unfold State.onHost
  simp only
  repeat' split
  all_goals first
    | with_reducible exact .refl _
    | with_reducible exact (Keeps.chip s _).trans (hf _)
    | with_reducible exact .chip _ _

theorem onHostChip_keeps (h : HlHdr) (m : HlMeta) (f : Chip → Chip) (s : State) : Keeps s (onHostChip h m f s) :=
  onHost_keeps _ _ _ _ (onChip_keeps f)

theorem onHostFreeing_keeps (h : HlHdr) (m : HlMeta) (f : Chip → Chip) (s : State) : Keeps s (onHostFreeing h m f s) :=
  (onHost_keeps _ _ _ _ (onChip_keeps f)).trans (onChip_keeps _ _)

theorem onFabState_keeps (h : FabHdr) (b : FabBody) (n : Nat) (f : State → State) (s : State) (hf : ∀ s, Keeps s (f s)) :
    Keeps s (onFabState h b n f s) := by
  unfold onFabState
  simp only
  refine Keeps.trans ?_ (settled_keeps _)
  split
  · exact (Keeps.chip s _).trans (hf _)
  · exact .chip _ _

theorem regReads_keeps (p : Nat) (half : Bool) (n : Nat) : ∀ (off : Nat) (s : State), Keeps s (regReads p half n off s).2.2 := by
  induction n with
  | zero => intro off s; exact .refl _
  | succ n ih =>
    intro off s
    simp only [regReads]
    split
    · exact .refl _
    · cases half
      · exact ih _ _
      · exact (regReadHalf_keeps s p off).trans (ih _ _)

theorem regReadMsg_keeps (s : State) (p : Nat) (b : RegReadBody) : Keeps s (regReadMsg s p b) := by
  unfold regReadMsg
  simp only
  split
  · exact .chip _ _
  · exact (regReads_keeps _ _ _ _ _).trans (.chip _ _)

theorem regWrites_keeps (p : Nat) (half : Bool) (l : List W64) : ∀ (off n : Nat) (s : State),
    Keeps s (regWrites p half l off n s).2.2 := by
  induction l with
  | nil => intro off n s; exact .refl _
  | cons v t ih =>
    intro off n s
    simp only [regWrites]
    split
    · exact .refl _
    · cases half
      · exact (regWrite_keeps _ _ _ _).trans (ih _ _ _)
      · exact (regWriteHalf_keeps _ _ _ _).trans (ih _ _ _)

theorem regWriteMsg_keeps (s : State) (p : Nat) (b : RegWriteBody) : Keeps s (regWriteMsg s p b) := by
  unfold regWriteMsg
  simp only
  split
  · exact .chip _ _
  · exact (regWrites_keeps _ _ _ _ _ _).trans (.chip _ _)

theorem swEntries_keeps (lo hi : Nat) (strict : Bool) (l : List (Nat × Nat × W64)) : ∀ (n : Nat) (s : State),
    Keeps s (swEntries lo hi strict l n s).2.2 := by
  induction l with
  | nil => intro n s; exact .refl _
  | cons e t ih =>
    obtain ⟨off, r, v⟩ := e
    intro n s
    simp only [swEntries]
    repeat' split
    all_goals first
      | with_reducible exact .refl _
      | with_reducible exact regWrite_keeps _ _ _ _
      | with_reducible exact (regWrite_keeps _ _ _ _).trans (ih _ _)

theorem managerWrite_keeps (s : State) (h : FabHdr) (b : SwWriteBody) (g : Bool) : Keeps s (managerWrite s h b g) := by
  have h0 : Keeps s (if h.src ≠ s.chip.mgrDevice ∨ s.chip.mgrDevice = 0xFFFF then (stPrivilege, 0, s)
    else if g then swEntries 0xE10000 0xE1FFFF true b.entries 0 s
    else swEntries 0xC00000 0xD7FFFF false b.entries 0 s).2.2 := by
    repeat' split
    all_goals first
      | with_reducible exact .refl _
      | with_reducible exact swEntries_keeps _ _ _ _ _ _
  unfold managerWrite
  simp only
  exact h0.trans (.chip _ _)

theorem rlLowRead_keeps (s : State) (p off : Nat) : Keeps s (rlLowRead s p off) := by
  unfold rlLowRead
  split
  · exact regReadHalf_keeps _ _ _
  · exact .refl _

/-! Commands. -/

/-- An existing command has its effect. -/
theorem command_next (i : Instr) (s : State) (f : State → State) (h : i.wf = true) : command i s f = .next (f s) := by
  simp [command, h]

/-- A command that does not exist changes nothing. -/
theorem command_none (i : Instr) (s : State) (f : State → State) (h : i.wf = false) : command i s f = .next s := by
  simp [command, h]

/-- A command completes, and keeps the queue and the store if its effect does. -/
theorem command_keeps (i : Instr) (s : State) (f : State → State) (h : Keeps s (f s)) :
    ∃ t, command i s f = .next t ∧ (i.wf = false → t = s) ∧ Keeps s t := by
  cases hw : i.wf with
  | false => exact ⟨s, command_none i s f hw, fun _ => rfl, .refl _⟩
  | true => exact ⟨f s, command_next i s f hw, by simp, h⟩

end Sys2Proof.Machine
end

