-- ==== Sys2Proof/Laws/Regs.lean ====
section
/-!
SUPPORT. Which block a register write reaches: one lemma per block, and the writable registers that rows of the table name.
-/
namespace Sys2Proof.Machine

/-- A whole write while writes reach the device (R460). -/
theorem registerWrite_open (s : State) (a : Accessor) (off : Nat) (v : W64) (h : s.chip.writeOpen = true) :
    registerWrite s a off v false = (s.regWrite a off v).2 := by
  simp [registerWrite, h]

/-- While they do not, nothing happens. -/
theorem registerWrite_closed (s : State) (a : Accessor) (off : Nat) (v : W64) (half : Bool) (h : s.chip.writeOpen = false) :
    registerWrite s a off v half = s := by
  simp [registerWrite, h]

theorem regWrite_boot (s : State) (a : Accessor) (off : Nat) (v : W64) (ha : regAccess off = some .rw ∨ regAccess off = some .wo)
    (h : off < 0x200000) : s.regWrite a off v = bootWrite s a off v := by
  unfold State.regWrite
  rcases ha with ha | ha <;> simp [ha, h]

theorem regWrite_power (s : State) (a : Accessor) (off : Nat) (v : W64) (ha : regAccess off = some .rw ∨ regAccess off = some .wo)
    (l : 0x200000 ≤ off) (h : off < 0x300000) :
    s.regWrite a off v = ((pwrWrite s.chip a off v).1, { s with chip := (pwrWrite s.chip a off v).2 }) := by
  unfold State.regWrite
  have h1 : ¬ off < 0x200000 := by omega
  rcases ha with ha | ha <;> simp only [ha, h1, h, if_true, if_false]

theorem regWrite_events (s : State) (a : Accessor) (off : Nat) (v : W64) (ha : regAccess off = some .rw ∨ regAccess off = some .wo)
    (l : 0x300000 ≤ off) (h : off < 0x400000) :
    s.regWrite a off v = ((evtWrite s.chip s.nv a off v).1, { s with chip := (evtWrite s.chip s.nv a off v).2 }) := by
  unfold State.regWrite
  have h1 : ¬ off < 0x200000 := by omega
  have h2 : ¬ off < 0x300000 := by omega
  rcases ha with ha | ha <;> simp only [ha, h1, h2, h, if_true, if_false]

theorem regWrite_requests (s : State) (a : Accessor) (off : Nat) (v : W64) (ha : regAccess off = some .rw ∨ regAccess off = some .wo)
    (l : 0x400000 ≤ off) (h : off < 0x800000) :
    s.regWrite a off v = ((reqWrite s.chip a off v).1, { s with chip := (reqWrite s.chip a off v).2 }) := by
  unfold State.regWrite
  have h1 : ¬ off < 0x200000 := by omega
  have h2 : ¬ off < 0x300000 := by omega
  have h3 : ¬ off < 0x400000 := by omega
  rcases ha with ha | ha <;> simp only [ha, h1, h2, h3, h, if_true, if_false]

theorem regWrite_kv (s : State) (a : Accessor) (off : Nat) (v : W64) (ha : regAccess off = some .rw ∨ regAccess off = some .wo)
    (l : 0xA00000 ≤ off) (h : off < 0xC00000) :
    s.regWrite a off v = ((kvWrite s.chip a off v).1, { s with chip := (kvWrite s.chip a off v).2 }) := by
  unfold State.regWrite
  have h1 : ¬ off < 0x200000 := by omega
  have h2 : ¬ off < 0x300000 := by omega
  have h3 : ¬ off < 0x400000 := by omega
  have h4 : ¬ off < 0x800000 := by omega
  have h5 : ¬ off < 0xA00000 := by omega
  rcases ha with ha | ha <;> simp only [ha, h1, h2, h3, h4, h5, h, if_true, if_false]

theorem regWrite_seam (s : State) (a : Accessor) (off : Nat) (v : W64) (ha : regAccess off = some .rw ∨ regAccess off = some .wo)
    (l : 0xC00000 ≤ off) (h : off < 0xE00000) :
    s.regWrite a off v = ((fabWrite s.chip a off v).1, { s with chip := (fabWrite s.chip a off v).2 }) := by
  unfold State.regWrite
  have h1 : ¬ off < 0x200000 := by omega
  have h2 : ¬ off < 0x300000 := by omega
  have h3 : ¬ off < 0x400000 := by omega
  have h4 : ¬ off < 0x800000 := by omega
  have h5 : ¬ off < 0xA00000 := by omega
  have h6 : ¬ off < 0xC00000 := by omega
  rcases ha with ha | ha <;> simp only [ha, h1, h2, h3, h4, h5, h6, h, if_true, if_false]

theorem regWrite_rma (s : State) (a : Accessor) (off : Nat) (v : W64) (ha : regAccess off = some .rw ∨ regAccess off = some .wo)
    (l : 0xE00000 ≤ off) (h : off < 0x1000000) :
    s.regWrite a off v = ((rmaBlockWrite s.chip a off v).1, { s with chip := (rmaBlockWrite s.chip a off v).2 }) := by
  unfold State.regWrite
  have h1 : ¬ off < 0x200000 := by omega
  have h2 : ¬ off < 0x300000 := by omega
  have h3 : ¬ off < 0x400000 := by omega
  have h4 : ¬ off < 0x800000 := by omega
  have h5 : ¬ off < 0xA00000 := by omega
  have h6 : ¬ off < 0xC00000 := by omega
  have h7 : ¬ off < 0xE00000 := by omega
  rcases ha with ha | ha <;> simp only [ha, h1, h2, h3, h4, h5, h6, h7, h, if_true, if_false]

theorem regWrite_lateter (s : State) (a : Accessor) (off : Nat) (v : W64) (ha : regAccess off = some .rw ∨ regAccess off = some .wo)
    (l : 0x1000000 ≤ off) (h : off < 0x1200000) :
    s.regWrite a off v = ((hlWrite s.chip a off v).1, { s with chip := (hlWrite s.chip a off v).2 }) := by
  unfold State.regWrite
  have h1 : ¬ off < 0x200000 := by omega
  have h2 : ¬ off < 0x300000 := by omega
  have h3 : ¬ off < 0x400000 := by omega
  have h4 : ¬ off < 0x800000 := by omega
  have h5 : ¬ off < 0xA00000 := by omega
  have h6 : ¬ off < 0xC00000 := by omega
  have h7 : ¬ off < 0xE00000 := by omega
  have h8 : ¬ off < 0x1000000 := by omega
  rcases ha with ha | ha <;> simp only [ha, h1, h2, h3, h4, h5, h6, h7, h8, h, if_true, if_false]

theorem regWrite_embedding (s : State) (a : Accessor) (off : Nat) (v : W64) (ha : regAccess off = some .rw ∨ regAccess off = some .wo)
    (l : 0x1200000 ≤ off) (h : off < 0x2000000) :
    s.regWrite a off v = ((embWrite s.chip a off v).1, { s with chip := (embWrite s.chip a off v).2 }) := by
  unfold State.regWrite
  have h1 : ¬ off < 0x200000 := by omega
  have h2 : ¬ off < 0x300000 := by omega
  have h3 : ¬ off < 0x400000 := by omega
  have h4 : ¬ off < 0x800000 := by omega
  have h5 : ¬ off < 0xA00000 := by omega
  have h6 : ¬ off < 0xC00000 := by omega
  have h7 : ¬ off < 0xE00000 := by omega
  have h8 : ¬ off < 0x1000000 := by omega
  have h9 : ¬ off < 0x1200000 := by omega
  rcases ha with ha | ha <;> simp only [ha, h1, h2, h3, h4, h5, h6, h7, h8, h9, h, if_true, if_false]

theorem regWrite_quadrant (s : State) (a : Accessor) (off : Nat) (v : W64) (ha : regAccess off = some .rw ∨ regAccess off = some .wo)
    (l : 0x2000000 ≤ off) :
    s.regWrite a off v = ((quadWrite s.chip a off v).1, { s with chip := (quadWrite s.chip a off v).2 }) := by
  unfold State.regWrite
  have h1 : ¬ off < 0x200000 := by omega
  have h2 : ¬ off < 0x300000 := by omega
  have h3 : ¬ off < 0x400000 := by omega
  have h4 : ¬ off < 0x800000 := by omega
  have h5 : ¬ off < 0xA00000 := by omega
  have h6 : ¬ off < 0xC00000 := by omega
  have h7 : ¬ off < 0xE00000 := by omega
  have h8 : ¬ off < 0x1000000 := by omega
  have h9 : ¬ off < 0x1200000 := by omega
  have h10 : ¬ off < 0x2000000 := by omega
  rcases ha with ha | ha <;> simp only [ha, h1, h2, h3, h4, h5, h6, h7, h8, h9, h10, if_false]

theorem regAccess_stnFence : ∀ q < 4, regAccess (Reg.stnFence q) = some .wo := by decide
theorem regAccess_kvPartShare : ∀ p < 16, regAccess (Reg.kvPartShare p) = some .rw := by decide
theorem regAccess_fabPortCtrl : ∀ p < 16, regAccess (Reg.fabPortCtrl p) = some .rw := by decide
theorem regAccess_hlPortCtrl : ∀ p < 4, regAccess (Reg.hlPortCtrl p) = some .rw := by decide
theorem regAccess_hlHostWin : ∀ p < 4, ∀ w < 16, ∀ d < 2, regAccess (Reg.hlHostWin p w d) = some .rw := by decide
theorem regAccess_embPartCtrl : ∀ p < 16, regAccess (Reg.embPartCtrl p) = some .rw := by decide
theorem regAccess_secHostAccess : ∀ p < 16, regAccess (Reg.secHostAccess p) = some .rw := by decide
theorem regAccess_bootCmd : regAccess Reg.bootCmd = some .wo := by decide
theorem regAccess_secProtect : regAccess Reg.secProtect = some .rw := by decide
theorem regAccess_secQuoteCmd : regAccess Reg.secQuoteCmd = some .wo := by decide
theorem regAccess_pwrDomainCmd : regAccess Reg.pwrDomainCmd = some .wo := by decide
theorem regAccess_pwrModuleReset : regAccess Reg.pwrModuleReset = some .wo := by decide
theorem regAccess_evtReadSel : regAccess Reg.evtReadSel = some .rw := by decide
theorem regAccess_evtRate : regAccess Reg.evtRate = some .rw := by decide
theorem regAccess_evtMirrorSel : regAccess Reg.evtMirrorSel = some .rw := by decide
theorem regAccess_cntClear : regAccess Reg.cntClear = some .wo := by decide
theorem regAccess_partReload : regAccess Reg.partReload = some .wo := by decide
theorem regAccess_tenHistSnap : regAccess Reg.tenHistSnap = some .wo := by decide
theorem regAccess_kvDescSel : regAccess Reg.kvDescSel = some .rw := by decide
theorem regAccess_swEpochCommit : regAccess Reg.swEpochCommit = some .wo := by decide
theorem regAccess_rmaWlAdvance : regAccess Reg.rmaWlAdvance = some .wo := by decide
theorem regAccess_rmaKeySel : regAccess Reg.rmaKeySel = some .wo := by decide

/-- The words of the region, grant and list tables. -/
theorem regAccess_rmaTables (off : Nat) (l : 0xE00000 ≤ off) (h : off < 0xE30000) (e : off % 8 = 0) :
    regAccess off = some .rw := by
  have n : ¬ (0x2000000 ≤ off ∧ off < 0x3000000) := by omega
  have early : ∀ r ∈ hubRegs.take 88, 0 < r.stride ∧ r.base + r.stride * r.count ≤ 0xE00000 := by decide
  have cut : hubRegs = hubRegs.take 88 ++ (⟨"RMA_REGION", 0xE00000, 8, 8192, .rw⟩ :: ⟨"RMA_GRANT", 0xE10000, 8, 8192, .rw⟩ ::
      ⟨"RMA_WL", 0xE20000, 8, 8192, .rw⟩ :: hubRegs.drop 91) := by decide
  have none_ : (hubRegs.take 88).find? (fun r => r.holds off) = none := by
    rw [List.find?_eq_none]
    intro r hr
    obtain ⟨hs, hb⟩ := early r hr
    have : ¬ (off - r.base) / r.stride < r.count := by
      rw [Nat.div_lt_iff_lt_mul hs, Nat.mul_comm]; omega
    simp [RegRange.holds, this]
  unfold regAccess
  rw [if_neg n, cut, List.find?_append, none_]
  simp only [Option.none_or]
  by_cases h1 : off < 0xE10000
  · rw [List.find?_cons_of_pos]
    · rfl
    · simp only [RegRange.holds, Bool.and_eq_true, decide_eq_true_eq]; omega
  · rw [List.find?_cons_of_neg]
    by_cases h2 : off < 0xE20000
    · rw [List.find?_cons_of_pos]
      · rfl
      · simp only [RegRange.holds, Bool.and_eq_true, decide_eq_true_eq]; omega
    · rw [List.find?_cons_of_neg, List.find?_cons_of_pos]
      · rfl
      · simp only [RegRange.holds, Bool.and_eq_true, decide_eq_true_eq]; omega
      · simp only [RegRange.holds, Bool.and_eq_true, decide_eq_true_eq]; omega
    · simp only [RegRange.holds, Bool.and_eq_true, decide_eq_true_eq]; omega

end Sys2Proof.Machine
end

