-- ==== Sys2Proof/Laws/Seam.lean ====
section
/-!
SUPPORT. Sending: what a packet that this device forwards, sends, answers or refuses can change (R317 to R335): the seam, its
counters and the recorder.
-/
namespace Sys2Proof.Machine

theorem SeamOnly.refl (c : Chip) : SeamOnly c c := ⟨c.fab, .refl _ _⟩

theorem SeamOnly.setFab (c : Chip) (f : Fab) : SeamOnly c { c with fab := f } := ⟨f, .refl _ _⟩

theorem SeamOnly.touch {c d : Chip} (h : Touches (fun o => seamCounter o ∨ recorderReg o) c d) : SeamOnly c d := ⟨c.fab, h⟩

theorem SeamOnly.trans {a b c : Chip} (h1 : SeamOnly a b) (h2 : SeamOnly b c) : SeamOnly a c := by
  obtain ⟨f, e1, r1, rfl, f1, w1⟩ := h1
  obtain ⟨g, e2, r2, rfl, f2, w2⟩ := h2
  exact ⟨g, e2, r2, rfl, fun o ho => (f2 o ho).trans (f1 o ho), fun h => w2 (w1 h)⟩

theorem SeamOnly.log (c : Chip) (a : EvArgs) : SeamOnly c (c.log a) :=
  .touch ((c.log_recorded a).mono (fun _ h => Or.inr h))

theorem SeamOnly.bump (c : Chip) (i : Nat) (h : i < 17) : SeamOnly c (c.bump (Reg.fabCnt i)) :=
  .touch ((c.bump_touches _).mono (fun o ho => ho.imp (fun e => by subst e; simp only [seamCounter, Reg.fabCnt]; omega) id))

/-- Everything outside the seam, its counters and the recorder stays. -/
theorem SeamOnly.rest {c d : Chip} (h : SeamOnly c d) :
    d.time = c.time ∧ d.timeOn = c.timeOn ∧ d.free = c.free ∧ d.latch = c.latch ∧ d.pwr = c.pwr ∧ d.board = c.board ∧
      d.boot = c.boot ∧ d.hl = c.hl ∧ d.rma = c.rma ∧ d.work = c.work ∧ d.emb = c.emb := by
  obtain ⟨f, e, r, rfl, _, _⟩ := h
  exact ⟨rfl, rfl, rfl, rfl, rfl, rfl, rfl, rfl, rfl, rfl, rfl⟩

/-- So does every other register. -/
theorem SeamOnly.reg {c d : Chip} (h : SeamOnly c d) (o : Nat) (hs : ¬ seamCounter o) (hr : ¬ recorderReg o) : d.reg o = c.reg o := by
  obtain ⟨f, h⟩ := h
  obtain ⟨e, r, rfl, f1, _⟩ := h
  exact f1 o (fun h => h.elim hs hr)

theorem enqueue_seam (c : Chip) (p : Nat) (m : Member) (k : FabPkt) : SeamOnly c (c.enqueue p m k) := by
  unfold Chip.enqueue Chip.setFabPort
  split <;> exact .setFab _ _

theorem newCombine_seam (c d : Chip) (e : Combine) (h : c.newCombine e = some d) : SeamOnly c d := by
  unfold Chip.newCombine at h
  split at h
  · cases h; exact .setFab _ _
  · cases h

theorem combineOrQueue_seam (c : Chip) (p : Nat) (m : Member) (k : FabPkt) : SeamOnly c (c.combineOrQueue p m k) := by
  unfold Chip.combineOrQueue
  split
  · exact enqueue_seam _ _ _ _
  · split
    · split
      · exact enqueue_seam _ _ _ _
      · split
        · exact SeamOnly.trans (b := c.setCombine _) (SeamOnly.setFab _ _) (.bump _ _ (by omega))
        · generalize hx : c.nextMsgId = x
          obtain ⟨id, c1⟩ := x
          have h1 : SeamOnly c c1 := by rw [show c1 = c.nextMsgId.2 by rw [hx]]; exact .setFab _ _
          simp only
          split
          · rename_i d hd
            exact h1.trans ((newCombine_seam _ _ _ hd).trans (enqueue_seam _ _ _ _))
          · exact enqueue_seam _ _ _ _
    · split
      · exact enqueue_seam _ _ _ _
      · split
        · exact SeamOnly.trans (b := c.setCombine _) (SeamOnly.setFab _ _) (.bump _ _ (by omega))
        · split
          · split
            · rename_i d hd
              exact (newCombine_seam _ _ _ hd).trans (enqueue_seam _ _ _ _)
            · exact enqueue_seam _ _ _ _
          · exact enqueue_seam _ _ _ _

theorem countRx_seam (c : Chip) (k : FabPkt) : SeamOnly c (c.countRx k).2 := by
  unfold Chip.countRx
  split
  · exact .refl _
  · split <;> exact .setFab _ _

theorem forwardWith_seam (answer : Chip → Nat → Nat → FabBody → Chip) (ha : ∀ c a b x, SeamOnly c (answer c a b x)) (c : Chip)
    (m : Member) (k : FabPkt) : SeamOnly c (forwardWith answer c m k) := by
  have hn : ∀ (c : Chip) (st : Nat), SeamOnly c (if nackable k then answer c k.hdr.src k.hdr.tsStamp (nackBody k st) else c) := by
    intro c st; split
    · exact ha _ _ _ _
    · exact .refl _
  unfold forwardWith
  extract_lets nack t c1
  have h1 : SeamOnly c c1 := by
    simp only [c1]; split
    · exact .bump _ _ (by omega)
    · exact .refl _
  refine h1.trans ?_
  split
  · exact (SeamOnly.bump _ _ (by omega)).trans ((SeamOnly.log _ _).trans (hn _ _))
  · split
    · generalize hx : c1.countRx k = x
      obtain ⟨e, c2⟩ := x
      have h2 : SeamOnly c1 c2 := by have := countRx_seam c1 k; rw [hx] at this; exact this
      refine h2.trans ?_
      simp only
      have h3 : SeamOnly c2 (if e then answer c2 k.hdr.src k.hdr.tsStamp .ccEcho else c2) := by
        split
        · exact ha _ _ _ _
        · exact .refl _
      refine h3.trans ?_
      generalize (if e then answer c2 k.hdr.src k.hdr.tsStamp .ccEcho else c2) = c3
      split
      · exact hn _ _
      · exact .setFab _ _
    · split
      · exact (SeamOnly.bump _ _ (by omega)).trans ((SeamOnly.log _ _).trans (hn _ _))
      · split
        · exact (SeamOnly.bump _ _ (by omega)).trans (hn _ _)
        · rename_i q rot _
          refine SeamOnly.trans (SeamOnly.setFab c1 { c1.fab with rotate := rot }) ?_
          dsimp only
          split
          · exact combineOrQueue_seam _ _ _ _
          · exact (combineOrQueue_seam _ _ _ _).trans (.bump _ _ (by omega))

theorem answerFuel_seam (d : Nat) : ∀ (c : Chip) (a b : Nat) (x : FabBody), SeamOnly c (answerFuel d c a b x) := by
  induction d with
  | zero => intro c a b x; exact .refl _
  | succ d ih =>
    intro c a b x
    exact SeamOnly.trans (SeamOnly.setFab _ _) (forwardWith_seam _ ih _ _ _)

/-- R322: forwarding. -/
theorem Chip.forward_seam (c : Chip) (m : Member) (k : FabPkt) : SeamOnly c (c.forward m k) :=
  forwardWith_seam _ (answerFuel_seam 2) _ _ _

theorem useRate_seam (c d : Chip) (n : Nat) (h : c.useRate n = some d) : SeamOnly c d := by
  unfold Chip.useRate at h
  simp only at h
  split at h
  · cases h; exact (SeamOnly.setFab _ _).trans (.setFab _ _)
  · split at h
    · cases h; exact (SeamOnly.setFab _ _).trans (.setFab _ _)
    · obtain ⟨v, _, rfl⟩ := Option.map_eq_some_iff.1 h
      exact (SeamOnly.setFab _ _).trans (.setFab _ _)

theorem Chip.pace_seam (c : Chip) (m : Member) (k : FabPkt) : SeamOnly c (c.pace m k) := by
  unfold Chip.pace
  split
  · rename_i d hd
    refine (useRate_seam _ _ _ hd).trans ?_
    split
    · exact .setFab _ _
    · exact .refl _
  · exact (SeamOnly.setFab _ _).trans (.bump _ _ (by omega))

/-- R322, R334: sending a packet. -/
theorem Chip.sendPkt_seam (c : Chip) (m : Member) (k : FabPkt) : SeamOnly c (c.sendPkt m k) := by
  unfold Chip.sendPkt
  split
  · exact .setFab _ _
  · split
    · exact c.forward_seam _ _
    · exact c.pace_seam _ _

/-- Sending under a new number. -/
theorem Chip.sendNew_seam (c : Chip) (m : Member) (dst echo : Nat) (b : FabBody) : SeamOnly c (c.sendNew m dst echo b).2 :=
  SeamOnly.trans (SeamOnly.setFab _ _) (Chip.sendPkt_seam _ _ _)

/-- R350: answering. -/
theorem Chip.reply_seam (c : Chip) (m : Member) (h : FabHdr) (b : FabBody) : SeamOnly c (c.reply m h b) := Chip.sendPkt_seam _ _ _

/-- R320: refusing. -/
theorem Chip.nackPkt_seam (c : Chip) (k : FabPkt) (st : Nat) : SeamOnly c (c.nackPkt k st) := by
  unfold Chip.nackPkt
  split
  · exact answerFuel_seam _ _ _ _ _
  · exact .refl _

theorem ccSample_seam (c : Chip) (d n : Nat) : SeamOnly c (ccSample c d n) := by
  unfold ccSample
  split
  · exact .refl _
  · simp only
    repeat' (first
      | exact .setFab _ _
      | exact (SeamOnly.setFab _ _).trans (.bump _ _ (by omega))
      | split)

/-- R335: a hot spot noted or gone. -/
theorem Chip.coolHot_seam (c : Chip) (p tc : Nat) : SeamOnly c (c.coolHot p tc) := by
  unfold Chip.coolHot Chip.setHot
  split
  · split
    · exact .setFab _ _
    · exact .setFab _ _
  · exact .refl _

/-- A packet leaves the local queue (R333). -/
theorem Chip.takeLocal_seam (c : Chip) (k : FabPkt) : SeamOnly c (c.takeLocal k) := by
  unfold Chip.takeLocal Chip.takeEcho
  refine SeamOnly.trans (SeamOnly.setFab c { c.fab with local_ := c.fab.local_.erase k }) ?_
  refine SeamOnly.trans (Chip.coolHot_seam _ 16 k.hdr.tc) ?_
  split
  · exact .refl _
  · exact ccSample_seam _ _ _

end Sys2Proof.Machine
end

