-- ==== Sys2Proof/Laws/SlhDsa.lean ====
section
/-!
SUPPORT. What the signing and the verification of SLH-DSA say of each other: a signature made with a key verifies under its public
key (FIPS 205; R401, R407).
-/
namespace Sys2Proof.Laws
open Sys2Proof.Machine

/-! Lengths. -/

theorem beBytes_length (n k : Nat) : (beBytes n k).length = k := by
  have h : ∀ k n, (leBytes n k).length = k := by
    intro k
    induction k with
    | zero => intro n; rfl
    | succ k ih => intro n; simp [leBytes, ih]
  simp [beBytes, h]

theorem shaRound_length (v : List (BitVec 32)) (kw : BitVec 32 × BitVec 32) : (shaRound v kw).length = v.length := by
  unfold shaRound
  split <;> rfl

theorem shaBlock_length (h : List (BitVec 32)) (blk : List Byte) : (shaBlock h blk).length = h.length := by
  have key : ∀ (l : List (BitVec 32 × BitVec 32)) (v : List (BitVec 32)), (l.foldl shaRound v).length = v.length := by
    intro l
    induction l with
    | nil => intro v; rfl
    | cons a t ih => intro v; simp [ih, shaRound_length]
  simp [shaBlock, key]

theorem sha256_length (m : List Byte) : (sha256 m).length = 32 := by
  have key : ∀ (l : List (List Byte)) (h : List (BitVec 32)), (l.foldl shaBlock h).length = h.length := by
    intro l
    induction l with
    | nil => intro h; rfl
    | cons a t ih => intro h; simp [ih, shaBlock_length]
  have sum : ∀ l : List (BitVec 32), ((l.map (fun w => beBytes w.toNat 4)).flatten).length = 4 * l.length := by
    intro l
    induction l with
    | nil => rfl
    | cons a t ih => simp only [List.map_cons, List.flatten_cons, List.length_append, beBytes_length, ih, List.length_cons]; omega
  simp only [sha256, sum, key]
  rfl

theorem slhHash_length (ps : List Byte) (a : SlhAdr) (m : List Byte) : (slhHash ps a m).length = 16 := by
  simp [slhHash, sha256_length]

/-- Every piece of a list has 16 bytes. -/
def Pieces (l : List (List Byte)) : Prop := ∀ x ∈ l, x.length = 16

theorem Pieces.append {a b : List (List Byte)} (ha : Pieces a) (hb : Pieces b) : Pieces (a ++ b) := by
  intro x hx
  rcases List.mem_append.mp hx with h | h
  · exact ha x h
  · exact hb x h

theorem Pieces.cons {x : List Byte} {l : List (List Byte)} (hx : x.length = 16) (hl : Pieces l) : Pieces (x :: l) := by
  intro y hy
  rcases List.mem_cons.mp hy with rfl | h
  · exact hx
  · exact hl y h

theorem slhChain_length (ps : List Byte) (a : SlhAdr) : ∀ (s i : Nat) (x : List Byte), x.length = 16 →
    (slhChain ps a s i x).length = 16 := by
  intro s
  induction s with
  | zero => intro i x h; exact h
  | succ s ih => intro i x _; exact ih _ _ (slhHash_length _ _ _)

theorem slhNode_length (ss ps : List Byte) (layer tree z i : Nat) : (slhNode ss ps layer tree z i).length = 16 := by
  cases z <;> simp [slhNode, slhHash_length]

theorem slhForest_length (ss ps : List Byte) (tree kp z i : Nat) : (slhForest ss ps tree kp z i).length = 16 := by
  cases z <;> simp [slhForest, slhHash_length]

theorem slhPath_spec (node : Nat → Nat → List Byte) (hn : ∀ z i, (node z i).length = 16) : ∀ n z i,
    (slhPath node n z i).length = n ∧ Pieces (slhPath node n z i) := by
  intro n
  induction n with
  | zero => intro z i; exact ⟨rfl, fun x h => by cases h⟩
  | succ n ih =>
    intro z i
    exact ⟨by simp [slhPath, (ih (z + 1) (i / 2)).1], Pieces.cons (hn _ _) (ih (z + 1) (i / 2)).2⟩

theorem slhWots_spec (ss ps : List Byte) (layer tree kp : Nat) : ∀ vs c,
    (slhWots ss ps layer tree kp vs c).length = vs.length ∧ Pieces (slhWots ss ps layer tree kp vs c) := by
  intro vs
  induction vs with
  | nil => intro c; exact ⟨rfl, fun x h => by cases h⟩
  | cons v vs ih =>
    intro c
    exact ⟨by simp [slhWots, (ih (c + 1)).1],
      Pieces.cons (slhChain_length _ _ _ _ _ (slhHash_length _ _ _)) (ih (c + 1)).2⟩

theorem slhWotsDigits_length (m : List Byte) : (slhWotsDigits m).length = 35 := by
  simp [slhWotsDigits, slhDigits, upTo]

theorem slhWotsDigits_le (m : List Byte) : ∀ v ∈ slhWotsDigits m, v ≤ 15 := by
  intro v hv
  simp only [slhWotsDigits, slhDigits, List.mem_append, List.mem_map] at hv
  rcases hv with ⟨i, _, rfl⟩ | ⟨i, _, rfl⟩ <;> exact Nat.le_of_lt_succ (Nat.mod_lt _ (by decide))

/-! Chains, paths and trees. -/

theorem slhChain_add (ps : List Byte) (a : SlhAdr) : ∀ (s t i : Nat) (x : List Byte),
    slhChain ps a t (i + s) (slhChain ps a s i x) = slhChain ps a (s + t) i x := by
  intro s
  induction s with
  | zero => intro t i x; simp [slhChain]
  | succ s ih =>
    intro t i x
    have h := ih t (i + 1) (slhHash ps { a with w3 := i } x)
    rw [show s + 1 + t = (s + t) + 1 by omega]
    simpa [slhChain, Nat.add_assoc, Nat.add_comm 1 s] using h

/-- The chains that a signature holds end where the key's chains end. -/
theorem slhEnds_spec (ss ps : List Byte) (layer tree kp : Nat) : ∀ (vs : List Nat) (c : Nat), (∀ v ∈ vs, v ≤ 15) →
    slhEnds ps layer tree kp vs c (slhWots ss ps layer tree kp vs c) =
      slhWots ss ps layer tree kp (List.replicate vs.length 15) c := by
  intro vs
  induction vs with
  | nil => intro c _; rfl
  | cons v vs ih =>
    intro c h
    have hv : v ≤ 15 := h v (by simp)
    have h1 := slhChain_add ps ⟨layer, tree, 0, kp, c, 0⟩ v (15 - v) 0 (slhHash ps ⟨layer, tree, 5, kp, c, 0⟩ ss)
    rw [Nat.zero_add, Nat.add_sub_cancel' hv] at h1
    simp only [slhEnds, slhWots, List.headD_cons, List.tail_cons, List.length_cons, List.replicate_succ, h1,
      ih (c + 1) (fun x hx => h x (by simp [hx]))]

/-- A path climbs from a node to the one above it, `n` levels up. -/
theorem slhClimb_spec (f : Nat → Nat → List Byte → List Byte) (node : Nat → Nat → List Byte)
    (hf : ∀ z i, node (z + 1) i = f (z + 1) i (node z (2 * i) ++ node z (2 * i + 1))) : ∀ n z i,
    slhClimb f (slhPath node n z i) z i (node z i) = node (z + n) (i / 2 ^ n) := by
  intro n
  induction n with
  | zero => intro z i; simp [slhPath, slhClimb]
  | succ n ih =>
    intro z i
    have step : f (z + 1) (i / 2) (if i % 2 = 0 then node z i ++ node z (if i % 2 = 0 then i + 1 else i - 1)
        else node z (if i % 2 = 0 then i + 1 else i - 1) ++ node z i) = node (z + 1) (i / 2) := by
      rw [hf]
      by_cases h : i % 2 = 0
      · have e : 2 * (i / 2) = i := by omega
        simp [h, e]
      · have e : 2 * (i / 2) = i - 1 := by omega
        have e' : i - 1 + 1 = i := by omega
        simp [h, e, e']
    simp only [slhPath, slhClimb]
    rw [step, ih (z + 1) (i / 2), Nat.div_div_eq_div_mul, ← Nat.pow_succ', show z + 1 + n = z + (n + 1) by omega]

/-- The pieces that sign `m` in one tree give the tree's root. -/
theorem slhTreeRoot_spec (p : SlhParams) (ss ps : List Byte) (layer tree leaf : Nat) (m : List Byte) (h : leaf < 2 ^ p.hp) :
    slhTreeRoot ps layer tree leaf m
      (slhWots ss ps layer tree leaf (slhWotsDigits m) 0 ++ slhPath (slhNode ss ps layer tree) p.hp 0 leaf) =
      slhNode ss ps layer tree p.hp 0 := by
  have hl : (slhWots ss ps layer tree leaf (slhWotsDigits m) 0).length = 35 := by
    rw [(slhWots_spec ss ps layer tree leaf _ 0).1, slhWotsDigits_length]
  have hc := slhClimb_spec (fun z i x => slhHash ps ⟨layer, tree, 2, 0, z, i⟩ x) (slhNode ss ps layer tree)
    (fun z i => rfl) p.hp 0 leaf
  rw [Nat.zero_add, Nat.div_eq_of_lt h] at hc
  rw [← hc]
  simp only [slhTreeRoot, List.take_left' hl, List.drop_left' hl,
    slhEnds_spec ss ps layer tree leaf _ 0 (slhWotsDigits_le m), slhWotsDigits_length]
  rfl

theorem slhHyper_spec (p : SlhParams) (ss ps : List Byte) : ∀ n layer tree leaf m,
    (slhHyper p ss ps n layer tree leaf m).length = n * (35 + p.hp) ∧ Pieces (slhHyper p ss ps n layer tree leaf m) := by
  intro n
  induction n with
  | zero => intro layer tree leaf m; exact ⟨by simp [slhHyper], fun x h => by cases h⟩
  | succ n ih =>
    intro layer tree leaf m
    have hp := slhPath_spec (slhNode ss ps layer tree) (slhNode_length ss ps layer tree) p.hp 0 leaf
    have hw := slhWots_spec ss ps layer tree leaf (slhWotsDigits m) 0
    have hr := ih (layer + 1) (tree / 2 ^ p.hp) (tree % 2 ^ p.hp) (slhNode ss ps layer tree p.hp 0)
    refine ⟨?_, (hw.2.append hp.2).append hr.2⟩
    simp only [slhHyper, List.length_append, hw.1, hp.1, hr.1, slhWotsDigits_length, Nat.succ_mul]
    omega

/-- The pieces of the hypertree give the root of its topmost tree. -/
theorem slhUp_spec (p : SlhParams) (ss ps : List Byte) : ∀ n layer tree leaf m rest, leaf < 2 ^ p.hp →
    tree < 2 ^ (p.hp * n) →
    slhUp p ps (n + 1) layer tree leaf m (slhHyper p ss ps (n + 1) layer tree leaf m ++ rest) =
      slhNode ss ps (layer + n) 0 p.hp 0 := by
  intro n
  induction n with
  | zero =>
    intro layer tree leaf m rest hl ht
    have ht0 : tree = 0 := by simpa using ht
    subst ht0
    have hlen := (slhHyper_spec p ss ps 1 layer 0 leaf m).1
    rw [Nat.one_mul] at hlen
    simp only [slhUp, List.take_left' hlen]
    simpa [slhHyper] using slhTreeRoot_spec p ss ps layer 0 leaf m hl
  | succ n ih =>
    intro layer tree leaf m rest hl ht
    have hp := slhPath_spec (slhNode ss ps layer tree) (slhNode_length ss ps layer tree) p.hp 0 leaf
    have hw := slhWots_spec ss ps layer tree leaf (slhWotsDigits m) 0
    have hlen : (slhWots ss ps layer tree leaf (slhWotsDigits m) 0 ++ slhPath (slhNode ss ps layer tree) p.hp 0 leaf).length =
        35 + p.hp := by
      rw [List.length_append, hw.1, hp.1, slhWotsDigits_length]
    have hdiv : tree / 2 ^ p.hp < 2 ^ (p.hp * n) := by
      rw [Nat.div_lt_iff_lt_mul (Nat.two_pow_pos _), ← Nat.pow_add]
      have e : p.hp * n + p.hp = p.hp * (n + 1) := by rw [Nat.mul_succ]
      rwa [e]
    have key := ih (layer + 1) (tree / 2 ^ p.hp) (tree % 2 ^ p.hp) (slhNode ss ps layer tree p.hp 0) rest
      (Nat.mod_lt _ (Nat.two_pow_pos _)) hdiv
    rw [slhUp, slhHyper, List.append_assoc, List.take_left' hlen, List.drop_left' hlen, slhTreeRoot_spec p ss ps layer tree leaf m hl]
    rw [key, show layer + 1 + n = layer + (n + 1) by omega]

/-! The forests. -/

theorem slhForests_spec (p : SlhParams) (ss ps : List Byte) (tree kp : Nat) : ∀ xs i,
    (slhForests p ss ps tree kp xs i).length = xs.length * (1 + p.a) ∧ Pieces (slhForests p ss ps tree kp xs i) := by
  intro xs
  induction xs with
  | nil => intro i; exact ⟨by simp [slhForests], fun x h => by cases h⟩
  | cons x xs ih =>
    intro i
    have hp := slhPath_spec (slhForest ss ps tree kp) (slhForest_length ss ps tree kp) p.a 0 (i * 2 ^ p.a + x)
    have hr := ih (i + 1)
    refine ⟨?_, ((Pieces.cons (slhHash_length _ _ _) hp.2).append hr.2)⟩
    simp only [slhForests, List.length_append, List.length_cons, hp.1, hr.1, Nat.succ_mul]
    omega

/-- The pieces of the forests give their roots. -/
theorem slhRoots_spec (p : SlhParams) (ss ps : List Byte) (tree kp : Nat) : ∀ xs i rest, (∀ x ∈ xs, x < 2 ^ p.a) →
    slhRoots p ps tree kp xs i (slhForests p ss ps tree kp xs i ++ rest) =
      (List.range' i xs.length).map (fun j => slhForest ss ps tree kp p.a j) := by
  intro xs
  induction xs with
  | nil => intro i rest _; rfl
  | cons x xs ih =>
    intro i rest h
    have hx : x < 2 ^ p.a := h x (by simp)
    have hp := slhPath_spec (slhForest ss ps tree kp) (slhForest_length ss ps tree kp) p.a 0 (i * 2 ^ p.a + x)
    have hlen : (slhHash ps ⟨0, tree, 6, kp, 0, i * 2 ^ p.a + x⟩ ss ::
        slhPath (slhForest ss ps tree kp) p.a 0 (i * 2 ^ p.a + x)).length = 1 + p.a := by
      rw [List.length_cons, hp.1]; omega
    have hc := slhClimb_spec (fun z j m => slhHash ps ⟨0, tree, 3, kp, z, j⟩ m) (slhForest ss ps tree kp)
      (fun z j => rfl) p.a 0 (i * 2 ^ p.a + x)
    have hdiv : (i * 2 ^ p.a + x) / 2 ^ p.a = i := by
      rw [Nat.mul_comm, Nat.mul_add_div (Nat.two_pow_pos _), Nat.div_eq_of_lt hx, Nat.add_zero]
    rw [Nat.zero_add, hdiv] at hc
    have key := ih (i + 1) rest (fun y hy => h y (by simp [hy]))
    simp only [slhForests, slhRoots, List.length_cons, List.range'_succ, List.map_cons]
    rw [List.append_assoc, List.take_left' hlen, List.drop_left' hlen, key]
    refine congrArg (· :: _) ?_
    simpa [slhForest] using hc

/-! A whole signature. -/

theorem chunksOf_flatten : ∀ (l : List (List Byte)), Pieces l → ∀ n, l.length ≤ n → chunksOf 16 n l.flatten = l := by
  intro l
  induction l with
  | nil => intro _ n _; cases n <;> simp [chunksOf]
  | cons x t ih =>
    intro h n hn
    have hx : x.length = 16 := h x (by simp)
    cases n with
    | zero => simp at hn
    | succ n =>
      have hne : (x :: t).flatten.isEmpty = false := by
        cases x with
        | nil => simp at hx
        | cons b bs => rfl
      have ht := ih (fun y hy => h y (by simp [hy])) n (by simpa using hn)
      rw [chunksOf, hne]
      simp only [Bool.false_eq_true, if_false, List.flatten_cons, List.take_left' hx, List.drop_left' hx, ht]

theorem pieces_flatten_length : ∀ (l : List (List Byte)), Pieces l → l.flatten.length = 16 * l.length := by
  intro l
  induction l with
  | nil => intro _; rfl
  | cons x t ih =>
    intro h
    rw [List.flatten_cons, List.length_append, h x (by simp), ih (fun y hy => h y (by simp [hy])), List.length_cons]
    omega

/-- A signature verifies under its public key. -/
theorem slhVerify_sign (p : SlhParams) (ss prf ps msg rnd : List Byte) (hd : 0 < p.d) :
    slhVerify p ps (slhRoot p ss ps) msg (slhSign p ss prf ps (slhRoot p ss ps) msg rnd) = true := by
  obtain ⟨n, hn⟩ : ∃ n, p.d = n + 1 := ⟨p.d - 1, by omega⟩
  let m := 0#8 :: 0#8 :: msg
  let r := (hmac256 prf (rnd ++ m)).take 16
  let x := slhPlace p r ps (slhRoot p ss ps) m
  let pk := slhForestPk p ss ps x.2.1 x.2.2
  let F := slhForests p ss ps x.2.1 x.2.2 x.1 0
  let H := slhHyper p ss ps p.d 0 x.2.1 x.2.2 pk
  have hr : r.length = 16 := by simp [r, hmac256, sha256_length]
  have hxl : x.1.length = p.k := by simp [x, slhPlace, slhDigits, upTo]
  have hxb : ∀ v ∈ x.1, v < 2 ^ p.a := by
    intro v hv
    simp only [x, slhPlace, slhDigits, List.mem_map] at hv
    obtain ⟨i, _, rfl⟩ := hv
    exact Nat.mod_lt _ (Nat.two_pow_pos _)
  have hF := slhForests_spec p ss ps x.2.1 x.2.2 x.1 0
  have hH := slhHyper_spec p ss ps p.d 0 x.2.1 x.2.2 pk
  have hP : Pieces (r :: F ++ H) := (Pieces.cons hr hF.2).append hH.2
  have hlen : (r :: F ++ H).length = p.pieces := by
    have h1 : F.length = p.k * (1 + p.a) := by rw [← hxl]; exact hF.1
    have h2 : H.length = p.d * (35 + p.hp) := hH.1
    simp only [List.length_append, List.length_cons, h1, h2, SlhParams.pieces]
    omega
  have hs : slhSign p ss prf ps (slhRoot p ss ps) msg rnd = (r :: F ++ H).flatten := rfl
  have hroots : slhRoots p ps x.2.1 x.2.2 x.1 0 (F ++ H) = (upTo p.k).map (fun i => slhForest ss ps x.2.1 x.2.2 p.a i) := by
    rw [slhRoots_spec p ss ps x.2.1 x.2.2 x.1 0 H hxb, hxl, upTo, List.range_eq_range']
  have hdrop : (F ++ H).drop (p.k * (1 + p.a)) = H := List.drop_left' (by rw [← hxl]; exact hF.1)
  have hup : slhUp p ps p.d 0 x.2.1 x.2.2 pk H = slhRoot p ss ps := by
    have ht : x.2.1 < 2 ^ (p.hp * n) := by
      have := Nat.mod_lt (natOfBe ((((sha256 ((r ++ ps ++ sha256 (r ++ ps ++ slhRoot p ss ps ++ m)) ++ beBytes 0 4) ++
        sha256 ((r ++ ps ++ sha256 (r ++ ps ++ slhRoot p ss ps ++ m)) ++ beBytes 1 4)).drop (cdiv (p.k * p.a) 8))).take
          (cdiv (p.hp * (p.d - 1)) 8))) (Nat.two_pow_pos (p.hp * (p.d - 1)))
      rw [hn, Nat.add_sub_cancel] at this
      simpa [x, slhPlace, hn] using this
    have hl : x.2.2 < 2 ^ p.hp := Nat.mod_lt _ (Nat.two_pow_pos _)
    have key := slhUp_spec p ss ps n 0 x.2.1 x.2.2 pk [] hl ht
    rw [List.append_nil, ← hn, Nat.zero_add] at key
    rw [show slhRoot p ss ps = slhNode ss ps n 0 p.hp 0 by rw [slhRoot, hn, Nat.add_sub_cancel]]
    exact key
  have hchunk : chunksOf 16 p.pieces (r :: F ++ H).flatten = r :: F ++ H := chunksOf_flatten _ hP _ (by rw [hlen])
  rw [hs]
  have e : slhHash ps ⟨0, x.2.1, 4, x.2.2, 0, 0⟩ (slhRoots p ps x.2.1 x.2.2 x.1 0 (F ++ H)).flatten = pk := by
    rw [hroots]; rfl
  have hl : (r :: F ++ H).flatten.length = 16 * p.pieces := by rw [pieces_flatten_length _ hP, hlen]
  unfold slhVerify
  rw [hchunk, hl]
  show (16 * p.pieces == 16 * p.pieces && slhUp p ps p.d 0 x.2.1 x.2.2
    (slhHash ps ⟨0, x.2.1, 4, x.2.2, 0, 0⟩ (slhRoots p ps x.2.1 x.2.2 x.1 0 (F ++ H)).flatten)
    ((F ++ H).drop (p.k * (1 + p.a))) == slhRoot p ss ps) = true
  rw [e, hdrop, hup]
  simp

end Sys2Proof.Laws
end

