-- ==== Sys2Proof/Laws/Streams.lean ====
section
/-!
SUPPORT. Streams of a step: what a look-up of a tile's or a report's stream finds (R57, R72), and what a sink takes (R65, R67).
-/
namespace Sys2Proof.Machine

/-- A step that is found is one of the partition's steps in flight, with its number. -/
theorem Chip.step?_spec {c : Chip} {p sq : Nat} {t : Step} (h : c.step? p sq = some t) :
    t ∈ c.work.steps ∧ t.part = p ∧ t.seq = sq := by
  have hp := List.find?_some h
  simp only [Bool.and_eq_true, beq_iff_eq] at hp
  exact ⟨List.mem_of_find?_eq_some h, hp⟩

/-- The stream of a tile: its step is in flight and not abandoned, its plan is the one that the step runs, and the plan holds
the stream in the tile's layer. -/
theorem Chip.tileStream_spec {c : Chip} {p : Nat} {g : TileTag} {x : SrcCtx} (h : c.tileStream p g = some x) :
    c.step? p g.stepSeq = some x.t ∧ x.t.abandoned = false ∧ c.passPlan x.t = some x.pl ∧ x.pl.stream g.streamId = some x.s ∧
      g.planId = x.pl.id ∧ (x.pl.inHead x.s.id || x.pl.order.contains g.layer) = true ∧ x.c = c ∧ x.draft = x.t.passPlan.2 ∧
      x.layer = x.t.entryOf x.pl x.s.id g.layer := by
  simp only [Chip.tileStream, Option.bind_eq_some_iff] at h
  obtain ⟨t, h1, h⟩ := h
  split at h
  · cases h
  · obtain ⟨pl, h2, h⟩ := Option.bind_eq_some_iff.1 h
    obtain ⟨s, h3, h⟩ := Option.bind_eq_some_iff.1 h
    split at h
    · cases h; simp_all
    · cases h

/-- The stream of a report: its step is in flight and not abandoned, and the plan that the step runs holds it. -/
theorem Chip.stepStream_spec {c : Chip} {p sq id layer : Nat} {x : SrcCtx} (h : c.stepStream p sq id layer = some x) :
    c.step? p sq = some x.t ∧ x.t.abandoned = false ∧ c.passPlan x.t = some x.pl ∧ x.pl.stream id = some x.s ∧ x.c = c ∧
      x.draft = x.t.passPlan.2 ∧ x.layer = x.t.entryOf x.pl id layer := by
  simp only [Chip.stepStream, Option.bind_eq_some_iff] at h
  obtain ⟨t, h1, pl, h2, s, h3, h⟩ := h
  split at h
  · cases h
  · cases h; simp_all

/-- A tile that the sink does not refuse has the reset epoch of its source, is not empty, and is within its stream's count
(R58, R67, R83). -/
theorem SrcCtx.refused_none {x : SrcCtx} {k : SinkInst} {g : TileTag} (h : x.refused k g = none) :
    g.resetEpoch = x.c.domEpoch (x.t.srcDomain x.s) ∧ (g.kind = .data → g.rows ≠ 0 ∧ g.cols ≠ 0) ∧
      overCount x.s x.kv (k.band g.band) g.kind = false := by
  simp only [SrcCtx.refused] at h
  split at h
  · cases h
  · split at h
    · cases h
    · simp_all

/-- With a credit of every sink, a source may send whatever it has (R65). -/
theorem StreamInst.maySend_of_credits (i : StreamInst) (k : SinkInst) (kind : TagKind)
    (h : ∀ y ∈ i.sinks, 1 ≤ y.credits) : i.maySend k kind = true := by
  simp only [StreamInst.maySend, Bool.or_eq_true]
  exact .inr (by simpa using h)

end Sys2Proof.Machine
end

