-- ==== Sys2Proof/Tests/Samples.lean ====
section
/-!
SUPPORT. Sample operands of the commands for the tests: every field zero, every list empty or as long as it must be.
-/
namespace Sys2Proof.Tests

def zHlPkt : HlPkt :=
    { payLen := 0, last := true, msgOffset := 0, totalLen := 0 }

def zHlHdr : HlHdr :=
    { port := 0, hc := 0, msgType := 0, xseq := 0, rsvd := 0, pkts := [zHlPkt], rawTag := 0 }

def zPromptTok : PromptTok :=
    { tok := 0, pad := false, rsvd := 0 }

def zAdmitBody : AdmitBody :=
    { hostTag := 0, part := 0, onePass := false, keep := false, stopEos := false, customer := 0, adapter := 0,
      nStop := 0, promptLen := 0, maxNew := 0, samp := List.replicate 4 0#64, stop := List.replicate 8 0, prompt := [],
      rsvd := 0 }

def zResumeBody : ResumeBody :=
    { hostTag := 0, requestId := 0, nAppend := 0, maxNew := 0, append := [], rsvd := 0 }

def zReqBody : ReqBody :=
    { hostTag := 0, requestId := 0 }

def zAdapterBody : AdapterBody :=
    { hostTag := 0, part := 0, drain := false, remove := false, adapter := 0, customer := 0, rank := 0, srcKind := 0,
      srcDevice := 0, srcRegion := 0, srcOffset := 0, srcLength := 0, measurement := 0, rsvd := 0 }

def zShardEnt : ShardEnt :=
    { device := 0, region := 0, rsvd := 0, offset := 0 }

def zEmbTableBody : EmbTableBody :=
    { hostTag := 0, action := 0, table := 0, partMask := 0, version := 0, rows := 0, width := 0, fmt := 0,
      log2Shard := 0, nShards := 0, map := [], rsvd := 0 }

def zBagIn : BagIn :=
    { pool := 0, weighted := false, outFmt := 0, idx := [], weights := [], rsvd := 0 }

def zGatherBody : GatherBody :=
    { hostTag := 0, part := 0, table := 0, deadlineUs := 0, bags := [], rsvd := 0 }

def zUpdateBody : UpdateBody :=
    { hostTag := 0, part := 0, table := 0, rows := [], rsvd := 0 }

def zMigrateBody : MigrateBody :=
    { hostTag := 0, action := 0, table := 0, log2Rows := 0, version := 0, firstRow := 0, newDevice := 0, newRegion := 0,
      newOffset := 0, rsvd := 0 }

def zRegReadBody : RegReadBody :=
    { hostTag := 0, offset := 0, half := false, count := 0, rsvd := 0 }

def zRegWriteBody : RegWriteBody :=
    { hostTag := 0, offset := 0, half := false, values := [], rsvd := 0 }

def zSyncBody : SyncBody :=
    { session := 0, expect0 := 0, expect1 := 0, expect2 := 0, rsvd := 0 }

def zBulkDataBody : BulkDataBody :=
    { tag := 0, status := 0, data := [], rsvd := 0 }

def zBulkAckBody : BulkAckBody :=
    { tag := 0, status := 0, rsvd := 0 }

def zFabHdr : FabHdr :=
    { dst := 0, src := 0, mapEpoch := 0, tc := 0, last := false, pin := false, enc := false, combined := false,
      hops := 0, rsvd := 0, pktType := 0, payLen := 0, msgId := 0, msgOffset := 0, totalLen := 0, tsStamp := 0,
      tsEcho := 0, wire := [], encPart := 0, encEpoch := 0, nonce := 0 }

def zNackBody : NackBody :=
    { status := 0, droppedType := 0, msgId := 0, msgOffset := 0, rsvd := 0 }

def zSwWriteBody : SwWriteBody :=
    { entries := [], rsvd := 0 }

def zSwAckBody : SwAckBody :=
    { status := 0, applied := 0, rsvd := 0 }

def zMoveCommon : MoveCommon :=
    { requestId := 0, placement := 0, moveId := 0, rsvd := 0 }

def zCollarImg : CollarImg :=
    { requestId := 0, hostTag := 0, part := 0, customer := 0, adapter := 0, adapterVer := 0, lcState := 0,
      onePass := false, keep := false, stopEos := false, summaryOnly := false, port := 0, nStop := 0, placement := 0,
      homeDevice := 0, endStatus := 0, committed := 0, lastEmitted := 0, maxNew := 0, promptLen := 0, startTime := 0,
      lastEmitTime := 0, samp := List.replicate 4 0#64, stop := List.replicate 8 0, runs := [], log := [] }

def zPlaceBody : PlaceBody :=
    { common := zMoveCommon, pktIndex := 0, data := [], rsvd := 0 }

def zReportBody : ReportBody :=
    { common := zMoveCommon, kind := 0, status := 0, firstIndex := 0, committed := 0, next := 0, tokens := [],
      values := [], rsvd := 0 }

def zPhaseCtrlBody : PhaseCtrlBody :=
    { common := zMoveCommon, action := 0, status := 0, rsvd := 0 }

def zOfferBody : OfferBody :=
    { common := zMoveCommon, kind := 0, commitWait := 0, silenceMs := 0, adapter := 0, adapterVer := 0, ttlLeftMs := 0,
      pages := 0, baseMeas := 0, draftMeas := 0, rsvd := 0 }

def zMoveReplyBody : MoveReplyBody :=
    { common := zMoveCommon, status := 0, rxRegion := 0, rxOffset := 0, rsvd := 0 }

def zMoveAckBody : MoveAckBody :=
    { common := zMoveCommon, bytes := 0, phase := 0, rsvd := 0 }

def zMoveBareBody : MoveBareBody :=
    { common := zMoveCommon, rsvd := 0 }

def zMoveAbortBody : MoveAbortBody :=
    { common := zMoveCommon, status := 0, rsvd := 0 }

def zMoveAnswerBody : MoveAnswerBody :=
    { common := zMoveCommon, answer := 0, rsvd := 0 }

def zMovePullBody : MovePullBody :=
    { common := zMoveCommon, deadline := 0, rsvd := 0 }

def zLoadBody : LoadBody :=
    { region := 0, offset := 0, rsvd := 0 }

def zLoadReplyBody : LoadReplyBody :=
    { status := 0, data := [], rsvd := 0 }

def zStoreBody : StoreBody :=
    { region := 0, offset := 0, data := [], rsvd := 0 }

def zAckBody : AckBody :=
    { status := 0, rsvd := 0 }

def zReadBody : ReadBody :=
    { region := 0, readTag := 0, offset := 0, length := 0, rsvd := 0 }

def zReadDataBody : ReadDataBody :=
    { status := 0, pktIndex := 0, readTag := 0, dataOffset := 0, data := [], rsvd := 0 }

def zWriteBody : WriteBody :=
    { region := 0, trigEn := false, pktIndex := 0, trigger := 0, dstOffset := 0, data := [], rsvd := 0 }

def zAtomicBody : AtomicBody :=
    { region := 0, op := 0, try_ := 0, seq := 0, offset := 0, tgtEpoch := 0, a0 := 0#64, a1 := 0#64, b0 := 0#64,
      b1 := 0#64, rsvd := 0 }

def zAtomicReplyBody : AtomicReplyBody :=
    { status := 0, tgtEpoch := 0, seq := 0, r0 := 0#64, r1 := 0#64, rsvd := 0 }

def zCombinedBody : CombinedBody :=
    { region := 0, offset := 0, sum := 0#64, entries := [], rsvd := 0 }

def zCombinedReplyBody : CombinedReplyBody :=
    { status := 0, results := [], rsvd := 0 }

def zCancelBody : CancelBody :=
    { cancelId := 0, rsvd := 0 }

def zCancelAckBody : CancelAckBody :=
    { status := 0, cancelId := 0, rsvd := 0 }

def zRevokeDoneBody : RevokeDoneBody :=
    { target := 0, region := 0, status := 0, unsettled := 0, rsvd := 0 }

def zEmbReadBody : EmbReadBody :=
    { table := 0, version := 0, deadline := 0, rows := [], rsvd := 0 }

def zEmbRowsBody : EmbRowsBody :=
    { status := 0, version := 0, rows := [], rsvd := 0 }

def zEmbScatterBody : EmbScatterBody :=
    { table := 0, version := 0, seq := 0, row := 0, head := true, delta := [], rsvd := 0 }

def zEmbScatterAckBody : EmbScatterAckBody :=
    { status := 0, seq := 0, rsvd := 0 }

def zEmbRedirectBody : EmbRedirectBody :=
    { status := 0, table := 0, log2Rows := 0, version := 0, firstRow := 0, newDevice := 0, newRegion := 0,
      newOffset := 0, rsvd := 0 }

def zMigOfferBody : MigOfferBody :=
    { table := 0, log2Rows := 0, version := 0, firstRow := 0, migId := 0, rsvd := 0 }

def zFabPkt : FabPkt :=
    { hdr := zFabHdr, body := .ccEcho }

def zFlit : Flit :=
    { bytes := List.replicate 256 0#8 }

def zTrainInfo : TrainInfo :=
    { partnerDevice := 0, partnerPort := 0, hostAdapter := false, session := 0, partnerLanes := 0, failedLanes := 0 }

def zSrcDesc : SrcDesc :=
    { kind := 0, port := 0, device := 0, region := 0, offset := 0, length := 0, rsvd := 0 }

def zPartDecl : PartDecl :=
    { part := 0, flags := 0, quadMask := 0, access := 0, prompts := [], gens := [], caches := [],
      share := List.replicate 12 0, mvCount := 0, emCount := 0, t1Mib := List.replicate 4 0,
      kvFrames := List.replicate 4 0, t2Mib := 0, salt := 0, baseMeas := 0, draftMeas := 0, baseSrc := zSrcDesc,
      draftSrc := zSrcDesc, base2 := zSrcDesc, draft2 := zSrcDesc, rsvd := 0 }

def zRegInit : RegInit :=
    { offset := 0, rsvd := 0, value := 0#64 }

def zComposition : Composition :=
    { deviceId := 0, mgrDevice := 0, role := 0, ownerPort := 0, startMode := 0, smbLevel := 0, jtagOff := false,
      collarSlots := 0, collarTier := 0, listsInternal := 0, collarLogMib := 0, rsvd := 0 }

def zSectionEnt : SectionEnt :=
    { type := 0, inst := 0, rsvd := 0, offset := 0, length := 0 }

def zCfgImage : CfgImage :=
    { magic := 0, formatVer := 0, headerLen := 0, partCode := 0, minStepping := 0, nSections := 0, keyIndex := 0,
      commitSvn := false, revokeLower := false, securityVer := 0, totalLen := 0, imageVer := 0, targetSerial := 0,
      publicKey := List.replicate 32 0#8, hdrRsvd := 0, sections := [], composition := zComposition, partitions := [],
      regInit := [], firmware := [], sig := [] }

def zDimmInfo : DimmInfo :=
    { spdRead := false, registered := false, ecc := false, width := 0, ranks := 0, capGib := 0, rates := [], serial := 0 }

def zChannelInfo : ChannelInfo :=
    { dimms := [], passed := false }

def zTileTag : TileTag :=
    { streamId := 0, tileIndex := 0, kind := .data, fmt := 0, arithFlags := 0, rows := 0, cols := 0, redIndex := 0,
      colIndex := 0, band := 0, parts := 0, resetEpoch := 0, planId := 0, layer := 0, stepSeq := 0, rsvd := 0 }

def zTile : Tile :=
    { tag := zTileTag, bytes := [] }

def zRefetched : Refetched :=
    { move := none, tile := zTile, hdrs := [] }

def zModelImage : ModelImage :=
    { chunkDigests := [], vocab := 0, ctxLimit := 0, eosToken := 0, homedBytes := [], plans := [], masks := [], routines := [], kvLayers := [], ropeTables := [], skipDir := [], words := [], pleatWords := [], pleatBad := false, qbufKib := 0, blocks := [], anchors := [] }

/-- The header of a host message of a type. -/
def zh (type : Nat) : HlHdr := { zHlHdr with msgType := type }

/-- One well-formed command of every row of the table. Part 0. -/
def everyCommanda : List Instr :=
  [.hlMsgAdmit (zh 0x10) zAdmitBody, .hlMsgResume (zh 0x11) zResumeBody, .hlMsgCancel (zh 0x12) zReqBody,
   .hlMsgPause (zh 0x13) zReqBody, .hlMsgQuery (zh 0x14) zReqBody, .hlMsgAdapterInstall (zh 0x18) zAdapterBody,
   .hlMsgEmbTable (zh 0x20) zEmbTableBody, .hlMsgEmbGather (zh 0x21) zGatherBody,
   .hlMsgEmbUpdate (zh 0x22) zUpdateBody, .hlMsgEmbMigrate (zh 0x23) zMigrateBody,
   .hlMsgRegRead (zh 0x30) zRegReadBody, .hlMsgRegWrite (zh 0x31) zRegWriteBody, .hlMsgLinkSync (zh 0x01) zSyncBody,
   .hlMsgBulkData (zh 0x51) zBulkDataBody, .hlMsgBulkWriteAck (zh 0x53) zBulkAckBody, .hc2Emit 0,
   .fabPktPhasePlace zFabHdr zPlaceBody, .fabPktPhaseReport zFabHdr zReportBody,
   .fabPktPhaseCtrl zFabHdr zPhaseCtrlBody, .fabPktMoveOffer zFabHdr zOfferBody]

/-- One well-formed command of every row of the table. Part 1. -/
def everyCommandb : List Instr :=
  [.fabPktMoveReply zFabHdr zMoveReplyBody, .moveDataSent 0, .fabPktMoveAck zFabHdr zMoveAckBody,
   .fabPktMoveCommit zFabHdr zMoveBareBody, .fabPktMoveAbort zFabHdr zMoveAbortBody,
   .fabPktMoveQuery zFabHdr zMoveBareBody, .fabPktMoveAnswer zFabHdr zMoveAnswerBody,
   .fabPktMovePull zFabHdr zMovePullBody, .localMoveCompletes 0, .moveOfferWait 0, .moveAckWait 0, .moveCommitWait 0 0,
   .moveRecordExpires 0, .phaseReportInterval 0, .decodeSilenceLimit 0, .restoreMs 0, .ttlFull 0, .stepLaunch 0 0,
   .selfPauseRetry 0, .selfPauseLimit 0]

/-- One well-formed command of every row of the table. Part 2. -/
def everyCommandc : List Instr :=
  [.tileArrives 0 0 zTile [] false, .pleatRefetchCompletes 0 0 zRefetched false, .streamCompletes 0 0 0 0 0 0 0 0,
   .streamDeadline 0 0 0 0, .commitJoin 0 0, .stepWatchdog 0 0, .stationStorageError (.quad 0 0), .stationFence 0 0 0,
   .stationUnfence 0 0 0, .refitCompletes 0, .partReload 0 0, .partitionLoadCompletes 0 .none .none,
   .adapterLoadCompletes 0 false 0 0, .secondSourceReadCompletes 0 false 0 0 0 0, .tenRefill, .tenHistSnap 0 0 false,
   .kvShareWrite 0 0 0#64, .kvDescSel 0 0#64, .flitReceived (.fabric 0) zFlit, .fabReplayTimeout (.fabric 0)]

/-- One well-formed command of every row of the table. Part 3. -/
def everyCommandd : List Instr :=
  [.seamBufferEccError zFabPkt false, .signalDetected (.fabric 0), .lossOfSignal (.fabric 0),
   .trainingAttemptPasses (.fabric 0) zTrainInfo, .trainingAttemptFails (.fabric 0) .failed,
   .retrainTrigger (.fabric 0) .codewords, .retrainPasses (.fabric 0) zTrainInfo, .retrainFails (.fabric 0),
   .fabTrainLimit (.fabric 0), .fabRetrainLimit (.fabric 0), .fabRetryInterval (.fabric 0), .fabPortFence (.port 0) 0,
   .fabPortUnfence (.port 0) 0, .fabPortDrain (.port 0) 0 false, .fabPortRetrain (.port 0) 0,
   .fabLaneFence (.port 0) 0 0, .seamForward 0 zFabPkt, .routeEntryWrite (.port 0) false 0 0#64 false,
   .swEpochCommit (.port 0) 0, .swDrain]

/-- One well-formed command of every row of the table. Part 4. -/
def everyCommande : List Instr :=
  [.fabPktSwWrite zFabHdr zSwWriteBody, .fabPktRmaGrant zFabHdr zSwWriteBody, .egressDequeue 0, .swCombineWindow 0,
   .swCombineHold 0, .hotspotDetected 0 0, .pacedRelease 0, .ccNoSample 0, .fabPktCcEcho zFabHdr,
   .fabPktNack zFabHdr zNackBody, .fabPktLoad zFabHdr zLoadBody false, .fabPktLoadReply zFabHdr zLoadReplyBody,
   .fabPktStore zFabHdr zStoreBody false, .fabPktStoreAck zFabHdr zAckBody, .fabPktRead zFabHdr zReadBody false,
   .fabPktReadData zFabHdr zReadDataBody, .fabPktWrite zFabHdr zWriteBody false, .fabPktWriteAck zFabHdr zAckBody,
   .fabPktAtomic zFabHdr zAtomicBody false, .fabPktAtomicReply zFabHdr zAtomicReplyBody]

/-- One well-formed command of every row of the table. Part 5. -/
def everyCommandf : List Instr :=
  [.fabPktAtomicCombined zFabHdr zCombinedBody false, .fabPktAtomicCombinedReply zFabHdr zCombinedReplyBody,
   .fabPktCancel zFabHdr zCancelBody, .fabPktCancelAck zFabHdr zCancelAckBody,
   .fabPktRmaRevokeDone zFabHdr zRevokeDoneBody, .grantActivate (.port 0) 0 0#64, .grantRevoke (.port 0) 0,
   .grantInvalidate (.port 0) 0, .rmaAtomicTimeout 0, .rmaStoreTimeout 0, .rmaWriteTimeout 0, .rmaBusyBackoff 0,
   .rmaReplayHold 0 0, .replayFloorDiscard 0, .rmaReassemblyLimit 0 0, .rmaCancelHold 0 0, .wlArm 0 0 0#64,
   .wlStop 0 0 0#64, .rmaWlAdvance 0 0#64, .keyInstall 0 0#64]

/-- One well-formed command of every row of the table. Part 6. -/
def everyCommandg : List Instr :=
  [.keyErase 0 0#64, .fabPktEmbRead zFabHdr zEmbReadBody false, .fabPktEmbRows zFabHdr zEmbRowsBody,
   .fabPktEmbScatter zFabHdr zEmbScatterBody false, .fabPktEmbScatterAck zFabHdr zEmbScatterAckBody,
   .fabPktEmbRedirect zFabHdr zEmbRedirectBody, .fabPktEmbMigOffer zFabHdr zMigOfferBody,
   .fabPktEmbMigReply zFabHdr zMoveReplyBody, .fabPktEmbMigAck zFabHdr zMoveAckBody,
   .fabPktEmbMigCommit zFabHdr zMoveBareBody, .fabPktEmbMigAbort zFabHdr zMoveAbortBody, .bagPooled 0,
   .gatherDeadline 0 0, .replicaRefresh 0 0 0, .replicaExpiry 0 0 0, .embEpoch, .migrationForwardingTimer 0,
   .replicaStoreWrite 0 0 0#64, .hlSyncWait 0, .hlCreditStall 0]

/-- One well-formed command of every row of the table. Part 7. -/
def everyCommandh : List Instr :=
  [.hlDownHold 0, .hlBulkTimeout 0, .hlPortFence (.port 0) 0, .hlPortUnfence (.port 0) 0, .hlPortRetrain (.port 0) 0,
   .hlLaneFence (.port 0) 0 0, .hostWindowWrite (.port 0) 0 0 0 0#64, .enterService 0, .enterTest 0, .enterRecovery 0,
   .applyImage 0 false 0 0 0 (.failed 0), .writeSlot 0 0 0 0 (.failed 0), .calSave 0 0, .calRestoreFactory 0,
   .svnCommit 0, .quote 0 0x10000#64, .serviceReport 0 0x20000#64, .endorsementRecord 0 0x30000#64,
   .protectionWrite 0 0x100280 0#64, .powerDown 0 0 false]

/-- One well-formed command of every row of the table. Part 8. -/
def everyCommandi : List Instr :=
  [.powerUp 0 0 false, .reset 0 0 false, .update 0 0 false, .pwrModuleReset 0 0#64, .resetNAsserted 0, .powerGood 0,
   .referencePresent, .rootPllLocked, .imageSlotVerified false false, .domainsTrained [] [] [],
   .smbusSetOffset 0 [] false, .smbusRead 0 false, .vInSample 0 0, .inputRecovered, .referenceLoss 0 false,
   .domainRampCompletes 0 false [] [], .railFault 0, .downSequenceEnds 0, .hubWatchdog, .powerSample 0 0]

/-- One well-formed command of every row of the table. Part 9. -/
def everyCommandj : List Instr :=
  [.thermalSample (List.replicate 10 0), .thermalLevelRise 0, .thermalLevelFall 0, .evtReadSel 0 0#64,
   .evtRateWrite 0 0#64, .evtMirrorSel 0 0#64, .mirrorRecordWrite, .mirrorSectorErase, .cntClear 0 0#64,
   .rlLowHalfRead 0 0, .registerWrite (.port 0) 0 0#64 false, .patrolScrub 0 false false, .dimmThermalRead [],
   .channelTrainingTimeout 0, .flashUnitCompletes false, .documentSigned, .fabPktSwWriteAck zFabHdr zSwAckBody]

/-- One well-formed command of every row of the table. -/
def everyCommand : List Instr := everyCommanda ++ everyCommandb ++ everyCommandc ++ everyCommandd ++ everyCommande ++ everyCommandf ++ everyCommandg ++ everyCommandh ++ everyCommandi ++ everyCommandj

end Sys2Proof.Tests
end

