-- ==== Sys2Proof/Tests/Scenes.lean ====
section
/-!
SUPPORT. Small machines for the tests: the records of the state with every field zero or empty, and a live device
(OPERATIONAL, every domain UP, every port ACTIVE) to put them in.
-/
namespace Sys2Proof.Tests
open Sys2Proof.Machine Sys2Proof.Laws

def zPlaceRec : PlaceRec :=
    { node := none, waiting := false, left := [], holder := none, skip := none, msg := 0 }

def zCollar : Collar :=
    { img := zCollarImg, cslot := 0, logOff := 0, logUnits := 0, ahead := [], place := zPlaceRec, pausing := false,
      rebuild := false, silence := false, first := false, resumeAt := [], prefill := false, endWith := 0, sent := 0,
      final := false, values := [], gens := [] }

def zPosEnt : PosEnt :=
    { tok := 0, gen := false, pad := false }

def zPageRef : PageRef :=
    { draft := false, layer := 0, posBase := 0, quad := 0, idx := 0 }

def zFrame : Frame :=
    { quad := 0, idx := 0, part := 0, state := 0, layer := 0, draft := false, fmt := 0, fill := 0, slot := 0, refs := 0,
      posBase := 0, fp := none, indexed := false, pad := 0, release := 0, bytes := [] }

def zPageImg : PageImg :=
    { draft := false, layer := 0, fmt := 0, fill := 0, posBase := 0, pad := 0, sealed_ := false, bytes := [],
      pleats := [] }

def zSwapPage : SwapPage :=
    { img := zPageImg, port := 0, window := 0, offset := 0, inHost := false, reading := false, pleated := false,
      again := none, epoch := none, headed := false, left := [], want := [], slot := [] }

def zSeq : Seq :=
    { requestId := 0, anchor := 0, placement := 0, part := 0, slot := 0, customer := 0, adapter := 0, adapterVer := 0,
      onePass := false, keep := false, stopEos := false, stop := [], maxNew := 0, samp := List.replicate 4 0#64,
      table := [], c := 0, cd := 0, emitted := 0, phase := .prompt, draft := draftOfWord 0#64, pages := [],
      swapped := [], evictions := 0, lastCommit := 0, paused := false, recompute := false, started := false, ra := 0,
      rd := 0, running := false, silenceMs := 0, progress := false, pausePend := false, cancelPend := false,
      firstChunk := false, attached := 0, toPrompt := false, offered := false }

def zStored : Stored :=
    { seq := zSeq, pages := [], pleated := [], slot := 0, image := [], runs := [], bytes := 0, epoch := none, ttl := 0,
      since := 0 }

def zCustQ : CustQ :=
    { cust := 0, queue := [], deficit := 0 }

def zAdmPoint : AdmPoint :=
    { part := 0, engine := 0, custs := [], next := 0 }

def zSeg : Seg :=
    { requestId := 0, slot := 0, work := .chunk, start := 0, rows := [], k := 0, cost := 0, excess := false, props := [],
      samples := [], values := [] }

def zBandCnt : BandCnt :=
    { band := 0, tiles := 0, ends := 0, anchors := [] }

def zWithheld : Withheld :=
    { tile := zTile, hdrs := [], block := 0, attempts := 0 }

def zSinkInst : SinkInst :=
    { role := 0, got := 0, bands := [], credits := 0, slots := 0, withheld := none }

def zStreamInst : StreamInst :=
    { id := 0, layer := 0, sent := 0, delivered := 0, suppressed := 0, flags := 0, status := 0, closed := false,
      sinks := [] }

def zJoinInst : JoinInst :=
    { id := 0, layer := 0, held := [], made := [], done := [] }

def zStep : Step :=
    { part := 0, engine := 0, seq := 0, kind := 0, draft := false, plan := 0, launch := 0, bands := 0, segs := [],
      pass := 0, sub := 0, passes := 0, streams := [], joins := [], fits := [], retried := false, abandoned := false,
      early := [], empties := [], scratch := [], payloads := [], staged := [], fetches := [], depth := 0, unstaged := [],
      bound := [] }

def zInstall : Install :=
    { slot := 0, tag := 0, port := 0, part := 0, adapter := 0, customer := 0, rank := 0, measure := 0, drained := false,
      waiting := false }

def zMoveSrc : MoveSrc :=
    { moveId := 0, requestId := 0, placement := 0, part := 0, kind := 0, dest := 0, left := [], state := 0, region := 0,
      offset := 0, bytes := 0, total := 0, sentPages := [], ready := false, acked := false, empty0 := false,
      resends := 0 }

def zMoveDst : MoveDst :=
    { source := 0, moveId := 0, requestId := 0, placement := 0, part := 0, kind := 0, state := 0, slot := 0, region := 0,
      offset := 0, size := 0, pages := 0, ttlMs := 0, adapter := 0, adapterVer := 0, silenceMs := 0, queries := 0,
      bytes := 0, head := 0, refs := [], bad := none }

def zPull : Pull :=
    { requestId := 0, placement := 0, holder := 0, part := 0 }

def zRingEnt : RingEnt :=
    { requestId := 0, ack := [], result := false, ended := false }

def zBulk : Bulk :=
    { tag := 0, port := 0, window := 0, write := false, offset := 0, length := 0, data := [], sends := 0,
      owner := .document, item := 0 }

def zEgItem : EgItem :=
    { member := .device, pkt := zFabPkt }

def zDeficit : Deficit :=
    { tc := 0, member := .device, value := 0 }

def zCombine : Combine :=
    { id := 0, add := false, joinOpen := false, sent := none, parts := [] }

def zConstituent : Constituent :=
    { src := 0, msgId := 0, stamp := 0, seq := 0, addend := 0#64, pkt := zFabPkt }

def zRateEnt : RateEnt :=
    { dst := 0, r := 0, lastInc := 0, lastDec := 0, bucket := 0, lastFill := 0, unechoed := 0, sent := 0, lastHalf := 0,
      used := 0, queue := [] }

def zPendOp : PendOp :=
    { kind := .load, target := 0, region := 0, offset := 0, length := 0, part := 0, grant := 0, msgId := 0, seq := 0,
      try_ := 0, sends := 0, busy := 0, hold := false, enc := none, body := .ccEcho, parts := [], trigger := none,
      readTag := 0, locReg := 0, locOff := 0, issued := 0, owner := .none }

def zReplayEnt : ReplayEnt :=
    { req := 0, seq := 0, status := 0, r0 := 0#64, r1 := 0#64, row := none }

def zRmaCtx : RmaCtx :=
    { src := 0, msgId := 0, kind := 0, region := 0, buf := [], bits := 0, count := 0, first := 0, low := 0, bytes := 0 }

def zKeySlot : KeySlot :=
    { part := 0, epoch := 0, key := [], order := 0 }

def zNonceCtr : NonceCtr :=
    { part := 0, epoch := 0, fab := 0, rest := 0 }

def zRedirect : Redirect :=
    { first := 0, m := 0, device := 0, region := 0, offset := 0 }

def zMoved : Moved :=
    { first := 0, m := 0, place := none }

def zTableVer : TableVer :=
    { table := 0, partMask := 0, version := 0, rows := 0, width := 0, fmt := 0, log2Shard := 0, map := [],
      state := .pending, redirects := [], moved := [] }

def zGather : Gather :=
    { id := 0, port := 0, hostTag := 0, part := 0, table := 0, version := 0, deadline := 0, bags := [], started := false,
      asked := false, rows := [], fail := none, stale := false, late := false, done := [], join := none }

def zUpdate : Update :=
    { id := 0, port := 0, hostTag := 0, table := 0, version := 0, statuses := [] }

def zReplica : Replica :=
    { table := 0, version := 0, row := 0, part := 0, device := 0, region := 0, bytes := none, issued := 0,
      asking := none, last := 0, used := false }

def zMigOut : MigOut :=
    { id := 0, table := 0, version := 0, first := 0, m := 0, newDevice := 0, newRegion := 0, newOffset := 0, state := 0,
      port := 0, hostTag := 0, written := false, copied := false, dirty := [], final := 0, replays := [], queue := [] }

def zMigIn : MigIn :=
    { source := 0, id := 0, table := 0, version := 0, first := 0, m := 0, state := 0, place := none, bytes := 0,
      queries := 0 }

def zEvRec : EvRec :=
    { seq := 0, code := 0, sev := 0, domain := 0, refKind := 0, suppressed := 0, part := 0, param0 := 0, ref := 0,
      param1 := 0 }

def zDocRun : DocRun :=
    { kind := 0, port := 0, window := 0, offset := 0, body := [], log := [], signed := false, length := 0 }

/-- A chip with one register's fields set. -/
def withFlds (c : Chip) (off : Nat) (l : List (Nat × Nat × Nat)) : Chip := c.setFlds off l

/-- A chip with the fields of a register set for each index of a list. -/
def withEach (c : Chip) (is : List Nat) (off : Nat → Nat) (l : List (Nat × Nat × Nat)) : Chip :=
  is.foldl (fun c i => c.setFlds (off i) l) c

/-- A live device: DEVICE_ID 7, owner port 0, no manager, OPERATIONAL at boot step 8, every domain UP, every port ACTIVE,
partitions LOADED. -/
def liveChip : Chip :=
  let c := withFlds .init Reg.idBootStatus [(63, 61, 3), (60, 56, 8)]
  let c := withFlds c Reg.idDevice [(63, 63, 1), (31, 16, 9), (15, 0, 7)]
  let c := withEach c (upTo 20) Reg.pwrDomainStatus [(63, 61, 2)]
  let c := withEach c (upTo 16) Reg.fabPortStatus [(63, 61, 3)]
  withEach c (upTo 4) Reg.hlPortStatus [(63, 61, 3)]

/-- The live device with nothing waiting. -/
def live : State := { chip := liveChip, nv := .blank, pending := [] }

/-- The live device with its chip changed. -/
def liveWith (f : Chip → Chip) : State := { live with chip := f liveChip }

/-- The live device in another device state. -/
def liveIn (st : Nat) (f : Chip → Chip) : State := liveWith (fun c => f (c.setFld Reg.idBootStatus 63 61 st))

/-- The header of a whole packet of a type from device 5 to this device. -/
def zf (type len : Nat) : FabHdr :=
  { zFabHdr with dst := 7, src := 5, last := true, pktType := type, payLen := len, totalLen := len, msgId := 3 }

/-- A state with its chip changed. -/
def onChip (s : State) (f : Chip → Chip) : State := { s with chip := f s.chip }

/-- A placement of a collar with nothing else in it. -/
def placed (k : CollarImg) : PlacedPhase := { source := 0, holder := 0, silenceMs := 0, tokenLog := 0, collar := k }

/-- A model image: one KV layer, no plan. -/
def sampleModel : ModelImage := { zModelImage with vocab := 100, ctxLimit := 1000 }

/-- A booted image with room for collars and partition 0 declared. -/
def sampleImage : CfgImage :=
  { zCfgImage with composition := { zComposition with collarSlots := 16, collarLogMib := 1 }, partitions := [zPartDecl] }

/-- The live device with an image booted, partition 0 loaded, customer 0 admitted to it, and collars. -/
def servingWith (ks : List Collar) : State :=
  liveWith fun c =>
    let c := (c.setFld (Reg.partState 0) 2 0 2).setFld Reg.idDevice 50 48 4
    { c with
      boot := { c.boot with img := some sampleImage }, board := { c.board with collarOk := true },
      work := { c.work with
        collars := ks, parts := { Part.init with base := some sampleModel } :: List.replicate 15 .init,
        tenApplied := [(Reg.tenPolicy 0, wordOf [(63, 48, 1), (47, 32, 8), (0, 0, 1)])] } }

/-- The same with no request. -/
def serving : State := servingWith []

/-- The same with other work. -/
def working (f : Work_ → Work_) : State := onChip serving fun c => c.onWork f

/-- A request for two tokens after a prompt of one. -/
def admitted : AdmitBody := { zAdmitBody with adapter := 0xFFFF, promptLen := 1, maxNew := 2, prompt := [zPromptTok] }

/-- A current table of four rows of 32 elements at home here. -/
def sampleTable : TableVer :=
  { zTableVer with
    partMask := 1, version := 1, rows := 4, width := 32, fmt := 4, log2Shard := 12,
    map := [{ zShardEnt with device := 7 }], state := .current }

/-- Grant 0 ACTIVE on region 3 of device 5. -/
def granted (c : Chip) : Chip :=
  (c.setReg (Reg.rmaGrant 0 0) (wordOf [(63, 62, 1), (61, 59, 7), (43, 32, 3), (31, 16, 5), (15, 0, 1)])).setReg (Reg.rmaGrant 0 1) 0#64

/-- Region 0 VALID, 1 MiB of T1 at 0, the move window of partition 0. -/
def windowed (c : Chip) : Chip :=
  (c.setReg (Reg.rmaRegion 0 0) (wordOf [(63, 63, 1), (62, 61, 1), (59, 59, 1)])).setReg (Reg.rmaRegion 0 1)
    (wordOf [(47, 0, 2 ^ 20)])

/-- Board memory with room in the share of partition 0. -/
def stores (c : Chip) : Chip :=
  { c with
    board := { c.board with t2Mib := 64, t2Ok := true :: List.replicate 15 false },
    boot := { c.boot with img := some { sampleImage with partitions := [{ zPartDecl with t2Mib := 64 }] } } }

/-- Stream 1 of a plan: from SRAM role 0x8800 to the host 0x1000, one tile a band, into join 2, with changes to its words. -/
def streamWords (a b f : List (Nat × Nat × Nat)) : List W64 :=
  [wordOf ([(63, 48, 1), (47, 32, 0x8800), (31, 16, 0x1000)] ++ a), wordOf ([(63, 32, 1), (31, 24, 1), (23, 8, 2)] ++ b), 0#64,
    0#64, 0#64, wordOf f, 0#64, 0#64]

/-- Join 2: COMMIT, one input, hosted at 0x1000, no output. -/
def sampleJoin : JoinImg :=
  { w0 := wordOf [(63, 48, 2), (47, 44, 6), (43, 36, 1), (31, 16, 0x1000), (15, 0, 0xFFFF)], w1 := 0#64, inputs := [1] }

/-- Plan 6 of a kind: one layer with stream 1 and join 2. -/
def planWith (kind : Nat) (stream : List W64) : PlanImg :=
  { header := [wordOf [(63, 48, 6), (47, 44, kind), (42, 32, 1), (31, 20, 1), (19, 12, 1), (11, 4, 4)], 0#64, 0#64,
      wordOf [(31, 16, 2)], 0#64, 0#64, 0#64, 0#64],
    streams := [stream], joins := [sampleJoin], order := [0], headStreams := [], headJoins := [] }

/-- One KV layer of 16 tokens a page. -/
def deepModel : ModelImage :=
  { sampleModel with kvLayers := [[wordOf [(59, 56, 4), (55, 51, 1), (50, 45, 1)], 0#64]], ropeTables := [[]] }

/-- Step 3 of partition 0 in flight under a plan of its kind, with its stream 1. -/
def stepping (m : ModelImage) (t : Step) : State :=
  working fun w => { w with steps := [t], parts := { Part.init with base := some m } :: List.replicate 15 .init }

/-- A model with one plan. -/
def planned (kind : Nat) (stream : List W64) : ModelImage := { sampleModel with plans := [planWith kind stream] }

/-- A step that runs plan 6. -/
def sampleStep (kind : Nat) (streams : List StreamInst) : Step :=
  { zStep with seq := 3, kind := kind, plan := 6, bands := 1, streams := streams }

/-- A flit with a type and a number, and a right CRC. -/
def flitOf (type seq : Nat) : Flit :=
  let bs := leBytes (wordOf [(63, 61, type), (60, 49, seq)]).toNat 8 ++ List.replicate 244 0#8
  ⟨bs ++ leBytes (crc32c bs) 4⟩

/-- The live device with fabric port 0 in a link state and its link changed. -/
def linked (state : Nat) (f : (α : Type) → Link α → Link α) : State :=
  liveWith fun c => (c.setFld (Reg.fabPortStatus 0) 63 61 state).onLink (.fabric 0) f

/-- The live device with Lateter port 0 in a link state. -/
def lateter (state : Nat) : State := liveWith fun c => c.setFld (Reg.hlPortStatus 0) 63 61 state

/-- A packet of the device's own in an egress queue. -/
def sampleItem : EgItem := ⟨.device, ⟨zf 0x12 64, .ccEcho⟩⟩

/-- The live device with one packet queued at fabric port 0. -/
def queueing : State := liveWith fun c => c.setFabPort 0 { c.fabPort 0 with queue := [sampleItem] }

/-- An image of a composition and a firmware section, without its signature. -/
def unsigned (key firmware : List Byte) : CfgImage :=
  { zCfgImage with
    magic := 0x36394B46, formatVer := 1, headerLen := 128, partCode := 0x9600, nSections := 2, totalLen := 131072, publicKey := key,
    sections := [{ zSectionEnt with type := 1, offset := 256, length := 64 },
      { zSectionEnt with type := 4, offset := 512, length := 65536 }],
    firmware := firmware,
    composition := { zComposition with
      deviceId := 7, role := 4, collarSlots := 16, collarTier := 2, listsInternal := 64, collarLogMib := 1 } }

/-- Sixteen zero bytes: the seeds of the signing key. -/
def goodSeed : List Byte := List.replicate 16 0#8

/-- The public key of `goodImage`. -/
def goodKey : List Byte := goodSeed ++ slhRoot slh128s goodSeed goodSeed

/-- The firmware section of `goodImage`. -/
def goodFirmware : List Byte := List.replicate 65536 0#8

/-- The image before it is signed. -/
def goodUnsigned : CfgImage := unsigned goodKey goodFirmware

/-- An image that passes every check: its signature is the one that the key gives its bytes. -/
def goodImage : CfgImage :=
  { goodUnsigned with
    sig := slhSign slh128s goodSeed goodSeed goodSeed (slhRoot slh128s goodSeed goodSeed) (cfgBytes goodUnsigned) [] }

/-- The store of a device with the image's key fused and the image in slot 0. -/
def keyed : Nv := { Nv.blank with keys := [some (natOfLe (sha256 goodKey)), none, none, none], slots := [some goodImage, none] }

theorem goodFirmware_length : goodFirmware.length = 65536 := List.length_replicate

theorem goodKey_length : goodKey.length = 32 := by
  have h : (slhRoot slh128s goodSeed goodSeed).length = 16 := slhNode_length _ _ _ _ _ _
  rw [goodKey, List.length_append, h]
  decide

/-- The signed bytes do not hold the signature. -/
theorem cfgBytes_sig (i : CfgImage) (x : List Byte) : cfgBytes { i with sig := x } = cfgBytes i := by
  have h : ∀ (l : List SectionEnt) ds base, laySections { i with sig := x } l ds base = laySections i l ds base := by
    intro l
    induction l with
    | nil => intro ds base; rfl
    | cons s t ih => intro ds base; simp only [laySections, ih]
  simp only [cfgBytes, h, cfgHeader]

/-- An image carries the signature that its bytes verify. -/
theorem imgSigned_sig (i : CfgImage) (x : List Byte)
    (h : slhVerify slh128s (i.publicKey.take 16) (i.publicKey.drop 16) (cfgBytes i) x = true) : imgSigned { i with sig := x } = true := by
  unfold imgSigned
  rw [cfgBytes_sig]
  exact h

theorem goodImage_signed : imgSigned goodImage = true := by
  have hs : goodSeed.length = 16 := rfl
  have h1 : goodUnsigned.publicKey.take 16 = goodSeed := by
    show goodKey.take 16 = goodSeed
    rw [goodKey, ← hs, List.take_left]
  have h2 : goodUnsigned.publicKey.drop 16 = slhRoot slh128s goodSeed goodSeed := by
    show goodKey.drop 16 = _
    rw [goodKey, ← hs, List.drop_left]
  refine imgSigned_sig goodUnsigned _ ?_
  rw [h1, h2]
  exact slhVerify_sign slh128s goodSeed goodSeed goodSeed (cfgBytes goodUnsigned) [] (by decide)

theorem goodImage_directory : imgDirectoryOk goodImage = true := by
  have h : ∀ i : CfgImage, i.firmware.length = 65536 → i.sections = goodUnsigned.sections → i.totalLen = 131072 → i.nSections = 2 →
      i.partitions = [] → i.regInit = [] → imgDirectoryOk i = true := by
    intro i h1 h2 h3 h4 h5 h6
    simp only [imgDirectoryOk, h1, h2, h3, h4, h5, h6]
    decide
  exact h _ goodFirmware_length rfl rfl rfl rfl rfl

/-- The image passes every check on a device that has its key. -/
theorem goodImage_result (s : State) (h : s.nv = keyed) : s.imageResult goodImage = 1 := by
  have h1 : imgHeaderOk goodImage = true := rfl
  have h2 : imgDeviceOk goodImage (s.chip.reg Reg.idPart) s.nv.serial.toNat = true := by
    show ((_ && decide (0 ≤ _)) && _) = true
    simp; exact ⟨rfl, Or.inl rfl⟩
  have h3 : imgKeyOk goodImage s.nv = true := by
    rw [h]
    show (some (natOfLe (sha256 goodKey)) == some (natOfLe (sha256 goodKey)) && true) = true
    simp
  have h4 : ¬ goodImage.securityVer < s.nv.svnFused := by
    rw [h]; decide
  have h5 : s.initOk goodImage = true := rfl
  simp only [State.imageResult, h1, h2, h3, h4, h5, goodImage_signed, goodImage_directory, Bool.not_true, Bool.false_eq_true, if_false,
    Bool.true_and]
  decide

/-- The image is a well-formed operand. -/
theorem goodImage_wf : goodImage.wf = true := by
  have h : goodImage.publicKey.length = 32 := goodKey_length
  simp only [CfgImage.wf, h]
  decide +kernel

/-- The command that writes the image to slot 1 exists. -/
theorem goodImage_writes : (Instr.writeSlot 0 1 0 0 (.image goodImage)).wf = true := by
  have h : ReadImage.wf (.image goodImage) = true := goodImage_wf
  show (fits 0 2 && fits 1 1 && fits 0 2 && fits 0 4 && ReadImage.wf (.image goodImage)) = true
  rw [h]
  decide

/-- A fixed part that agrees with itself. -/
theorem goodImage_fixed : imageFixed goodImage goodImage = true := by
  simp [imageFixed]

/-- A device in TEST (state 4) with key 0, an image in slot 0 and another booted. -/
def bootedOn (i : CfgImage) : State :=
  { liveIn 4 (fun c => { c with boot := { c.boot with img := some i } }) with nv := keyed }

/-- The live device with host window 0 of port 0 open for reads and writes of 1 MiB. -/
def windowOpen (s : State) : State :=
  onChip s fun c => c.setReg (Reg.hlHostWin 0 0 0) (wordOf [(63, 61, 7), (47, 0, 2 ^ 20)])

/-- A hold-up supply of 20,000 microfarads at 48 V down to 36 V. -/
def heldUp (c : Chip) : Chip :=
  { c.setReg (Reg.bootHoldupStatus + 8) (wordOf [(63, 48, 20000), (47, 40, 36)]) with pwr := { c.pwr with vMv := 48000 } }

end Sys2Proof.Tests
end

