-- ==== Sys2Proof/Tests/Slice0.lean ====
section
/-!
SUPPORT. Tests: the specification's worked examples, single steps, and which commands exist (every check of WellFormed refuses an
ill-formed command).
-/
namespace Sys2Proof.Tests
open Sys2Proof.Machine
set_option linter.unusedSimpArgs false
set_option maxRecDepth 8000
set_option Elab.async false

/-! ## The specification's worked examples -/

/-- The accumulator of the first worked example of log number formats: four pairs at G = 1. -/
def exampleSum : Int :=
  ([(7, 6), (13, 7), (3, 12), (1, 1)].map (fun p => match logElem .l4 p.1 0x7C, logElem .l4 p.2 0x86 with
    | some a, some b => placeLns a b 1
    | _, _ => 0)).sum

/-- Worked example of R39: V = 288,501,760. -/
theorem test_example_l4_sum : exampleSum = 288501760 := by decide +kernel

/-- Worked example of R39: a negative product shifted right is rounded down. -/
theorem test_example_l8_floor : (match logElem .l8 0xC0 122, logElem .l8 0x23 112 with
    | some a, some b => placeLns a b 1
    | _, _ => 0) = -635 := by decide +kernel

/-- Worked example of R44, R45: the accumulator as L8, L4 and BF16. -/
theorem test_example_outputs :
    (convBlock true [outOfAcc 288501760 1]).1 = [0x79] ∧ (convBlock true [outOfAcc 288501760 1]).2.1 = 0x7D ∧
      (convBlock false [outOfAcc 288501760 1]).1 = [7] ∧ (convBlock false [outOfAcc 288501760 1]).2.1 = 0x7C ∧
      (convLin .bf16 (outOfAcc 288501760 1)).1 = 0x3E8A := by decide +kernel

/-- Worked example of R46: 1,392,475,525 at an LSB of 2^(−30) as binary32. -/
theorem test_example_binary32 : f32Round false 1392475525 (-30) = 0x3FA5FEFB#32 := by decide +kernel

/-- Worked example of the softmax (R166): n = 2^37 × 86,696 over z = 2^37 × 306,520 at gv = 1. -/
theorem test_example_softmax : attQuot (2 ^ 37 * 86696) (2 ^ 37 * 306520) 1 = 0x3E90D05B#32 := by decide +kernel

/-- Worked examples of R239: bins of 14.0 ms to the first token, of 25,036 L-units and of 3,275,000 L-units a token. -/
theorem test_example_bins : histBin 3150000 14 = 16 ∧ histBin 25036 9 = 12 ∧ histBin 3275000 9 = 26 := by decide +kernel

/-- Worked example of R119: the raw limits of a block and of the block scales at 80 %. -/
theorem test_example_pleat_limit : pleatLimit 4096 80 = 3276 ∧ pleatLimit 512 80 = 409 := by decide +kernel

/-- Worked example of R274, R287: table E's rows to a read, and where row 1,234,567,890 lies. -/
theorem test_example_table_e :
    rowsPerRead 1 128 = 30 ∧ rowReplyBytes 1 128 = 132 ∧
      rowAddrs { sampleTable with width := 128, fmt := 1 } 0 (73 * 2 ^ 24) 24 1234567890 = (1258383616, 2186808136) := by
  decide +kernel

/-! ## Single steps -/

/-- The chip after a command, of a device that answers a next state. -/
def after (i : Instr) (s : State) : Option Chip :=
  match exec i s with
  | .next t => some t.chip
  | _ => none

/-- R46's own example for E4M3: 479 is written as 448 without OUT_SAT, 480 as 448 with it. -/
theorem test_e4m3_top : satLin fmtE4m3 479 0 = (0x7E, false) ∧ satLin fmtE4m3 480 0 = (0x7E, true) := by decide +kernel

/-- R394 and the worked example of R466: a read of offset 0 over SMBus answers status 0 and the bytes 01 00 00 96 B0 00 00 00. -/
theorem test_smbus_read_id_part :
    (after (.smbusRead 2 true) live).map (fun c => c.boot.smbOut) =
      some [0#8, 0x01#8, 0#8, 0#8, 0x96#8, 0xB0#8, 0#8, 0#8, 0#8] := by decide +kernel

/-- Worked example of R379, R463: port 2 may read the four registers of partition 3 and is stopped at partition 4. -/
theorem test_reg_read_window_edge :
    (after (.hlMsgRegRead { zh 0x30 with port := 2, xseq := 1 } { zRegReadBody with hostTag := 6, offset := 0xA00260, count := 5 })
      (liveWith fun c => c.setReg (Reg.secHostAccess 3) (wordOf [(4, 4, 1)]))).map
        (fun c => (c.hlPort 2).log0.map (fun o => match o.2 with
          | .regData tag st vs => (tag, st, vs.length)
          | _ => (0, 0, 0))) = some [(6, 3, 4)] := by decide +kernel

/-- Worked example of remote writes (R358): the last packet of a message arrives first; a context counts its 1,856 bytes. -/
theorem test_write_context_opens :
    (after (.fabPktWrite { zf 0x16 1856 with msgOffset := 8192, totalLen := 10048 }
        { zWriteBody with pktIndex := 2, dstOffset := 8160, data := List.replicate 8 1#8 } false) (liveWith windowed)).map
      (fun c => c.rma.ctxs.map (fun x => (x.bits, x.count))) = some [(4, 1856)] := by decide +kernel

/-- R350: ATOMIC_ADD64 leaves the sum and answers the old value. -/
theorem test_atomic_add :
    (after (.fabPktAtomic (zf 0x18 64) { zAtomicBody with op := 1, a0 := 1#64 } false)
        (liveWith fun c => windowed { c with work := { c.work with t1 := [(0, 41#8)] } })).map
      (fun c => (c.work.t1, c.rma.replay.map ReplayEnt.r0)) = some ([(0, 42#8)], [41#64]) := by decide +kernel

/-- R372: the next number is accepted and a number that precedes it is dropped. -/
theorem test_duplicate_dropped :
    (after (.hlMsgQuery { zh 0x14 with xseq := 0xFFFFFFFF } zReqBody) live).map (fun c => ((c.hlPort 0).expect0, (c.hlPort 0).log0.length)) =
      some (1, 0) := by decide +kernel

/-- R231: a query of an unknown request is answered once, in HC0. -/
theorem test_query_answers :
    (after (.hlMsgQuery { zh 0x14 with xseq := 1 } zReqBody) live).map (fun c => ((c.hlPort 0).expect0, (c.hlPort 0).log0.length)) =
      some (2, 1) := by decide +kernel

/-- R316: a bad CRC is answered by one NAK, and the second is not. -/
theorem test_bad_flit :
    (after (.flitReceived (.fabric 0) zFlit) live).map (fun c => (c.fabPort 0).link.nacked) = some true := by decide +kernel

/-- R428: POWER_DOWN of the hub is refused with ST_UNSUPPORTED. -/
theorem test_power_down_hub :
    (after (.powerDown 0 1 false) live).map (fun c => c.fld Reg.pwrDomainCmdStatus 47 32) = some 5 := by decide +kernel

/-- R453: a counter at its ceiling stays there with its saturation bit, which it sets once. -/
theorem test_counter_saturates : cntAdd (wordOf [(62, 0, 2 ^ 63 - 1)]) 1 = (wordOf [(63, 0, 2 ^ 64 - 1)], true) := by decide +kernel

/-- RFC 5869, test case 1, which R406 names the function of. -/
theorem test_hkdf : hkdf256 (List.replicate 22 0x0B#8) ((upTo 13).map (BitVec.ofNat 8)) ((upTo 10).map (fun i => BitVec.ofNat 8 (0xF0 + i))) 42 =
    beBytes 0x3cb25f25faacd57a90434f64d0362f2a2d2d0a90cf1a5a4c5db02d56ecc4c5bf34007208d5b887185865 42 := by decide +kernel

/-! ## Which commands exist: every check refuses an ill-formed term -/

theorem atMost_replicate {α : Type} (n m : Nat) (x : α) : atMost (List.replicate n x) m = decide (n ≤ m) := by
  simp only [atMost, List.length_replicate]

theorem test_wf_refuses_hlPkt :
    ([{ zHlPkt with payLen := 2 ^ 13 }, { zHlPkt with msgOffset := 2 ^ 24 }, { zHlPkt with totalLen := 2 ^ 25 }] : List HlPkt).all (fun b => !HlPkt.wf b) = true := by decide

theorem test_wf_refuses_hlHdr :
    ([{ zh 0x10 with port := 2 ^ 2 }, { zh 0x10 with hc := 2 ^ 2 }, { zh 0x10 with msgType := 2 ^ 8 },
      { zh 0x10 with xseq := 2 ^ 32 }, { zh 0x10 with rawTag := 2 ^ 64 }, { zh 0x10 with msgType := 0x11 },
      { zh 0x10 with pkts := [] }, { zh 0x10 with pkts := [{ zHlPkt with payLen := 2 ^ 13 }] },
      { zh 0x10 with pkts := [{ zHlPkt with msgOffset := 2 ^ 24 }] },
      { zh 0x10 with pkts := [{ zHlPkt with totalLen := 2 ^ 25 }] }] : List HlHdr).all (fun b => !HlHdr.wf b 0x10) = true := by decide

theorem test_wf_refuses_promptTok :
    ([{ zPromptTok with tok := 2 ^ 24 }, { zPromptTok with rsvd := 2 ^ 7 }] : List PromptTok).all (fun b => !PromptTok.wf b) = true := by decide

theorem test_wf_refuses_admitBody :
    ([{ zAdmitBody with hostTag := 2 ^ 64 }, { zAdmitBody with part := 2 ^ 4 }, { zAdmitBody with customer := 2 ^ 12 },
      { zAdmitBody with adapter := 2 ^ 16 }, { zAdmitBody with nStop := 2 ^ 16 },
      { zAdmitBody with promptLen := 2 ^ 32 }, { zAdmitBody with maxNew := 2 ^ 32 },
      { zAdmitBody with stop := List.replicate 8 (2 ^ 32) }, { zAdmitBody with samp := [] },
      { zAdmitBody with stop := [] }, { zAdmitBody with prompt := [{ zPromptTok with tok := 2 ^ 24 }] }] : List AdmitBody).all (fun b => !AdmitBody.wf b) = true := by decide

theorem test_wf_refuses_resumeBody :
    ([{ zResumeBody with hostTag := 2 ^ 64 }, { zResumeBody with requestId := 2 ^ 64 },
      { zResumeBody with nAppend := 2 ^ 32 }, { zResumeBody with maxNew := 2 ^ 32 },
      { zResumeBody with append := [{ zPromptTok with rsvd := 2 ^ 7 }] }] : List ResumeBody).all (fun b => !ResumeBody.wf b) = true := by decide

theorem test_wf_refuses_reqBody :
    ([{ zReqBody with hostTag := 2 ^ 64 }, { zReqBody with requestId := 2 ^ 64 }] : List ReqBody).all (fun b => !ReqBody.wf b) = true := by decide

theorem test_wf_refuses_adapterBody :
    ([{ zAdapterBody with hostTag := 2 ^ 64 }, { zAdapterBody with part := 2 ^ 4 },
      { zAdapterBody with adapter := 2 ^ 16 }, { zAdapterBody with customer := 2 ^ 16 },
      { zAdapterBody with rank := 2 ^ 16 }, { zAdapterBody with srcKind := 2 ^ 8 },
      { zAdapterBody with srcDevice := 2 ^ 16 }, { zAdapterBody with srcRegion := 2 ^ 16 },
      { zAdapterBody with srcOffset := 2 ^ 64 }, { zAdapterBody with srcLength := 2 ^ 64 },
      { zAdapterBody with measurement := 2 ^ 256 }] : List AdapterBody).all (fun b => !AdapterBody.wf b) = true := by decide

theorem test_wf_refuses_shardEnt :
    ([{ zShardEnt with device := 2 ^ 16 }, { zShardEnt with region := 2 ^ 16 }, { zShardEnt with rsvd := 2 ^ 32 },
      { zShardEnt with offset := 2 ^ 64 }] : List ShardEnt).all (fun b => !ShardEnt.wf b) = true := by decide

theorem test_wf_refuses_embTableBody :
    ([{ zEmbTableBody with hostTag := 2 ^ 64 }, { zEmbTableBody with action := 2 ^ 8 },
      { zEmbTableBody with table := 2 ^ 8 }, { zEmbTableBody with partMask := 2 ^ 16 },
      { zEmbTableBody with version := 2 ^ 32 }, { zEmbTableBody with rows := 2 ^ 64 },
      { zEmbTableBody with width := 2 ^ 16 }, { zEmbTableBody with fmt := 2 ^ 8 },
      { zEmbTableBody with log2Shard := 2 ^ 8 }, { zEmbTableBody with nShards := 2 ^ 32 },
      { zEmbTableBody with map := [{ zShardEnt with device := 2 ^ 16 }] }] : List EmbTableBody).all (fun b => !EmbTableBody.wf b) = true := by decide

theorem test_wf_refuses_bagIn :
    ([{ zBagIn with pool := 2 ^ 2 }, { zBagIn with outFmt := 2 ^ 8 }, { zBagIn with idx := List.replicate 1 (2 ^ 40) },
      { zBagIn with weights := [0#32] }] : List BagIn).all (fun b => !BagIn.wf b) = true := by decide

theorem test_wf_refuses_gatherBody :
    ([{ zGatherBody with hostTag := 2 ^ 64 }, { zGatherBody with part := 2 ^ 4 }, { zGatherBody with table := 2 ^ 6 },
      { zGatherBody with deadlineUs := 2 ^ 32 }, { zGatherBody with bags := [{ zBagIn with pool := 4 }] }] : List GatherBody).all (fun b => !GatherBody.wf b) = true := by decide

theorem test_wf_refuses_updateBody :
    ([{ zUpdateBody with hostTag := 2 ^ 64 }, { zUpdateBody with part := 2 ^ 8 }, { zUpdateBody with table := 2 ^ 8 },
      { zUpdateBody with rows := [(2 ^ 40, [])] }] : List UpdateBody).all (fun b => !UpdateBody.wf b) = true := by decide

theorem test_wf_refuses_migrateBody :
    ([{ zMigrateBody with hostTag := 2 ^ 64 }, { zMigrateBody with action := 2 ^ 8 },
      { zMigrateBody with table := 2 ^ 8 }, { zMigrateBody with log2Rows := 2 ^ 8 },
      { zMigrateBody with version := 2 ^ 32 }, { zMigrateBody with firstRow := 2 ^ 64 },
      { zMigrateBody with newDevice := 2 ^ 16 }, { zMigrateBody with newRegion := 2 ^ 16 },
      { zMigrateBody with newOffset := 2 ^ 64 }] : List MigrateBody).all (fun b => !MigrateBody.wf b) = true := by decide

theorem test_wf_refuses_regReadBody :
    ([{ zRegReadBody with hostTag := 2 ^ 64 }, { zRegReadBody with offset := 2 ^ 32 },
      { zRegReadBody with count := 2 ^ 8 }] : List RegReadBody).all (fun b => !RegReadBody.wf b) = true := by decide

theorem test_wf_refuses_regWriteBody :
    ([{ zRegWriteBody with hostTag := 2 ^ 64 }, { zRegWriteBody with offset := 2 ^ 32 }] : List RegWriteBody).all (fun b => !RegWriteBody.wf b) = true := by decide

theorem test_wf_refuses_syncBody :
    ([{ zSyncBody with session := 2 ^ 64 }, { zSyncBody with expect0 := 2 ^ 32 }, { zSyncBody with expect1 := 2 ^ 32 },
      { zSyncBody with expect2 := 2 ^ 32 }] : List SyncBody).all (fun b => !SyncBody.wf b) = true := by decide

theorem test_wf_refuses_bulkDataBody :
    ([{ zBulkDataBody with tag := 2 ^ 32 }, { zBulkDataBody with status := 2 ^ 16 }] : List BulkDataBody).all (fun b => !BulkDataBody.wf b) = true := by decide

theorem test_wf_refuses_bulkAckBody :
    ([{ zBulkAckBody with tag := 2 ^ 32 }, { zBulkAckBody with status := 2 ^ 16 }] : List BulkAckBody).all (fun b => !BulkAckBody.wf b) = true := by decide

theorem test_wf_refuses_fabHdr :
    ([{ zFabHdr with dst := 2 ^ 16 }, { zFabHdr with src := 2 ^ 16 }, { zFabHdr with mapEpoch := 2 ^ 16 },
      { zFabHdr with tc := 2 ^ 2 }, { zFabHdr with hops := 2 ^ 4 }, { zFabHdr with pktType := 2 ^ 8 },
      { zFabHdr with payLen := 2 ^ 13 }, { zFabHdr with msgId := 2 ^ 32 }, { zFabHdr with msgOffset := 2 ^ 24 },
      { zFabHdr with totalLen := 2 ^ 25 }, { zFabHdr with tsStamp := 2 ^ 32 }, { zFabHdr with tsEcho := 2 ^ 32 },
      { zFabHdr with encPart := 2 ^ 8 }, { zFabHdr with encEpoch := 2 ^ 8 }, { zFabHdr with nonce := 2 ^ 64 }] : List FabHdr).all (fun b => !FabHdr.wf b) = true := by decide

theorem test_wf_refuses_nackBody :
    ([{ zNackBody with status := 2 ^ 16 }, { zNackBody with droppedType := 2 ^ 8 }, { zNackBody with msgId := 2 ^ 32 },
      { zNackBody with msgOffset := 2 ^ 32 }] : List NackBody).all (fun b => !NackBody.wf b) = true := by decide

theorem test_wf_refuses_swWriteBody :
    ([{ zSwWriteBody with entries := [(2 ^ 32, 0, 0#64)] }, { zSwWriteBody with entries := [(0, 2 ^ 32, 0#64)] }] : List SwWriteBody).all (fun b => !SwWriteBody.wf b) = true := by decide

theorem test_wf_refuses_swAckBody :
    ([{ zSwAckBody with status := 2 ^ 16 }, { zSwAckBody with applied := 2 ^ 16 }] : List SwAckBody).all (fun b => !SwAckBody.wf b) = true := by decide

theorem test_wf_refuses_moveCommon :
    ([{ zMoveCommon with requestId := 2 ^ 64 }, { zMoveCommon with placement := 2 ^ 16 },
      { zMoveCommon with moveId := 2 ^ 32 }] : List MoveCommon).all (fun b => !MoveCommon.wf b) = true := by decide

theorem test_wf_refuses_placeBody :
    ([{ zPlaceBody with pktIndex := 2 ^ 16 }, { zPlaceBody with common := { zMoveCommon with placement := 2 ^ 16 } }] : List PlaceBody).all (fun b => !PlaceBody.wf b) = true := by decide

theorem test_wf_refuses_reportBody :
    ([{ zReportBody with kind := 2 ^ 8 }, { zReportBody with status := 2 ^ 16 },
      { zReportBody with firstIndex := 2 ^ 32 }, { zReportBody with committed := 2 ^ 32 },
      { zReportBody with next := 2 ^ 8 }, { zReportBody with tokens := [(2 ^ 24, false)] },
      { zReportBody with common := { zMoveCommon with placement := 2 ^ 16 } }] : List ReportBody).all (fun b => !ReportBody.wf b) = true := by decide

theorem test_wf_refuses_phaseCtrlBody :
    ([{ zPhaseCtrlBody with action := 2 ^ 8 }, { zPhaseCtrlBody with status := 2 ^ 16 },
      { zPhaseCtrlBody with common := { zMoveCommon with placement := 2 ^ 16 } }] : List PhaseCtrlBody).all (fun b => !PhaseCtrlBody.wf b) = true := by decide

theorem test_wf_refuses_offerBody :
    ([{ zOfferBody with kind := 2 ^ 8 }, { zOfferBody with commitWait := 2 ^ 16 },
      { zOfferBody with silenceMs := 2 ^ 16 }, { zOfferBody with adapter := 2 ^ 16 },
      { zOfferBody with adapterVer := 2 ^ 32 }, { zOfferBody with ttlLeftMs := 2 ^ 32 },
      { zOfferBody with pages := 2 ^ 32 }, { zOfferBody with baseMeas := 2 ^ 256 },
      { zOfferBody with draftMeas := 2 ^ 256 }, { zOfferBody with common := { zMoveCommon with placement := 2 ^ 16 } }] : List OfferBody).all (fun b => !OfferBody.wf b) = true := by decide

theorem test_wf_refuses_moveReplyBody :
    ([{ zMoveReplyBody with status := 2 ^ 16 }, { zMoveReplyBody with rxRegion := 2 ^ 16 },
      { zMoveReplyBody with rxOffset := 2 ^ 64 },
      { zMoveReplyBody with common := { zMoveCommon with placement := 2 ^ 16 } }] : List MoveReplyBody).all (fun b => !MoveReplyBody.wf b) = true := by decide

theorem test_wf_refuses_moveAckBody :
    ([{ zMoveAckBody with bytes := 2 ^ 64 }, { zMoveAckBody with phase := 2 ^ 8 },
      { zMoveAckBody with common := { zMoveCommon with placement := 2 ^ 16 } }] : List MoveAckBody).all (fun b => !MoveAckBody.wf b) = true := by decide

theorem test_wf_refuses_moveBareBody :
    ([{ zMoveBareBody with common := { zMoveCommon with placement := 2 ^ 16 } }] : List MoveBareBody).all (fun b => !MoveBareBody.wf b) = true := by decide

theorem test_wf_refuses_moveAbortBody :
    ([{ zMoveAbortBody with status := 2 ^ 16 },
      { zMoveAbortBody with common := { zMoveCommon with placement := 2 ^ 16 } }] : List MoveAbortBody).all (fun b => !MoveAbortBody.wf b) = true := by decide

theorem test_wf_refuses_moveAnswerBody :
    ([{ zMoveAnswerBody with answer := 2 ^ 8 },
      { zMoveAnswerBody with common := { zMoveCommon with placement := 2 ^ 16 } }] : List MoveAnswerBody).all (fun b => !MoveAnswerBody.wf b) = true := by decide

theorem test_wf_refuses_movePullBody :
    ([{ zMovePullBody with deadline := 2 ^ 32 },
      { zMovePullBody with common := { zMoveCommon with placement := 2 ^ 16 } }] : List MovePullBody).all (fun b => !MovePullBody.wf b) = true := by decide

theorem test_wf_refuses_loadBody :
    ([{ zLoadBody with region := 2 ^ 16 }, { zLoadBody with offset := 2 ^ 64 }] : List LoadBody).all (fun b => !LoadBody.wf b) = true := by decide

theorem test_wf_refuses_loadReplyBody :
    ([{ zLoadReplyBody with status := 2 ^ 16 }] : List LoadReplyBody).all (fun b => !LoadReplyBody.wf b) = true := by decide

theorem test_wf_refuses_storeBody :
    ([{ zStoreBody with region := 2 ^ 16 }, { zStoreBody with offset := 2 ^ 64 }] : List StoreBody).all (fun b => !StoreBody.wf b) = true := by decide

theorem test_wf_refuses_ackBody :
    ([{ zAckBody with status := 2 ^ 16 }] : List AckBody).all (fun b => !AckBody.wf b) = true := by decide

theorem test_wf_refuses_readBody :
    ([{ zReadBody with region := 2 ^ 16 }, { zReadBody with readTag := 2 ^ 32 }, { zReadBody with offset := 2 ^ 64 },
      { zReadBody with length := 2 ^ 32 }] : List ReadBody).all (fun b => !ReadBody.wf b) = true := by decide

theorem test_wf_refuses_readDataBody :
    ([{ zReadDataBody with status := 2 ^ 16 }, { zReadDataBody with pktIndex := 2 ^ 16 },
      { zReadDataBody with readTag := 2 ^ 32 }, { zReadDataBody with dataOffset := 2 ^ 64 }] : List ReadDataBody).all (fun b => !ReadDataBody.wf b) = true := by decide

theorem test_wf_refuses_writeBody :
    ([{ zWriteBody with region := 2 ^ 16 }, { zWriteBody with pktIndex := 2 ^ 16 },
      { zWriteBody with trigger := 2 ^ 16 }, { zWriteBody with dstOffset := 2 ^ 64 }] : List WriteBody).all (fun b => !WriteBody.wf b) = true := by decide

theorem test_wf_refuses_atomicBody :
    ([{ zAtomicBody with region := 2 ^ 16 }, { zAtomicBody with op := 2 ^ 8 }, { zAtomicBody with try_ := 2 ^ 8 },
      { zAtomicBody with seq := 2 ^ 32 }, { zAtomicBody with offset := 2 ^ 64 },
      { zAtomicBody with tgtEpoch := 2 ^ 16 }] : List AtomicBody).all (fun b => !AtomicBody.wf b) = true := by decide

theorem test_wf_refuses_atomicReplyBody :
    ([{ zAtomicReplyBody with status := 2 ^ 16 }, { zAtomicReplyBody with tgtEpoch := 2 ^ 16 },
      { zAtomicReplyBody with seq := 2 ^ 32 }] : List AtomicReplyBody).all (fun b => !AtomicReplyBody.wf b) = true := by decide

theorem test_wf_refuses_combinedBody :
    ([{ zCombinedBody with region := 2 ^ 16 }, { zCombinedBody with offset := 2 ^ 64 },
      { zCombinedBody with entries := [(2 ^ 16, 0, 0#64)] }, { zCombinedBody with entries := [(0, 2 ^ 32, 0#64)] }] : List CombinedBody).all (fun b => !CombinedBody.wf b) = true := by decide

theorem test_wf_refuses_combinedReplyBody :
    ([{ zCombinedReplyBody with status := 2 ^ 16 }] : List CombinedReplyBody).all (fun b => !CombinedReplyBody.wf b) = true := by decide

theorem test_wf_refuses_cancelBody :
    ([{ zCancelBody with cancelId := 2 ^ 32 }] : List CancelBody).all (fun b => !CancelBody.wf b) = true := by decide

theorem test_wf_refuses_cancelAckBody :
    ([{ zCancelAckBody with status := 2 ^ 16 }, { zCancelAckBody with cancelId := 2 ^ 32 }] : List CancelAckBody).all (fun b => !CancelAckBody.wf b) = true := by decide

theorem test_wf_refuses_revokeDoneBody :
    ([{ zRevokeDoneBody with target := 2 ^ 16 }, { zRevokeDoneBody with region := 2 ^ 16 },
      { zRevokeDoneBody with status := 2 ^ 16 }, { zRevokeDoneBody with unsettled := 2 ^ 32 }] : List RevokeDoneBody).all (fun b => !RevokeDoneBody.wf b) = true := by decide

theorem test_wf_refuses_embReadBody :
    ([{ zEmbReadBody with table := 2 ^ 8 }, { zEmbReadBody with version := 2 ^ 32 },
      { zEmbReadBody with deadline := 2 ^ 32 }, { zEmbReadBody with rows := List.replicate 1 (2 ^ 64) }] : List EmbReadBody).all (fun b => !EmbReadBody.wf b) = true := by decide

theorem test_wf_refuses_embRowsBody :
    ([{ zEmbRowsBody with status := 2 ^ 16 }, { zEmbRowsBody with version := 2 ^ 32 }] : List EmbRowsBody).all (fun b => !EmbRowsBody.wf b) = true := by decide

theorem test_wf_refuses_embScatterBody :
    ([{ zEmbScatterBody with table := 2 ^ 8 }, { zEmbScatterBody with version := 2 ^ 32 },
      { zEmbScatterBody with seq := 2 ^ 32 }, { zEmbScatterBody with row := 2 ^ 64 },
      { zEmbScatterBody with head := false, table := 1 }] : List EmbScatterBody).all (fun b => !EmbScatterBody.wf b) = true := by decide

theorem test_wf_refuses_embScatterAckBody :
    ([{ zEmbScatterAckBody with status := 2 ^ 16 }, { zEmbScatterAckBody with seq := 2 ^ 32 }] : List EmbScatterAckBody).all (fun b => !EmbScatterAckBody.wf b) = true := by decide

theorem test_wf_refuses_embRedirectBody :
    ([{ zEmbRedirectBody with status := 2 ^ 16 }, { zEmbRedirectBody with table := 2 ^ 8 },
      { zEmbRedirectBody with log2Rows := 2 ^ 8 }, { zEmbRedirectBody with version := 2 ^ 32 },
      { zEmbRedirectBody with firstRow := 2 ^ 64 }, { zEmbRedirectBody with newDevice := 2 ^ 16 },
      { zEmbRedirectBody with newRegion := 2 ^ 16 }, { zEmbRedirectBody with newOffset := 2 ^ 64 }] : List EmbRedirectBody).all (fun b => !EmbRedirectBody.wf b) = true := by decide

theorem test_wf_refuses_migOfferBody :
    ([{ zMigOfferBody with table := 2 ^ 8 }, { zMigOfferBody with log2Rows := 2 ^ 8 },
      { zMigOfferBody with version := 2 ^ 32 }, { zMigOfferBody with firstRow := 2 ^ 64 },
      { zMigOfferBody with migId := 2 ^ 32 }] : List MigOfferBody).all (fun b => !MigOfferBody.wf b) = true := by decide

theorem test_wf_refuses_flit :
    ([{ zFlit with bytes := [] }] : List Flit).all (fun b => !Flit.wf b) = true := by decide

theorem test_wf_refuses_trainInfo :
    ([{ zTrainInfo with partnerDevice := 2 ^ 16 }, { zTrainInfo with partnerPort := 2 ^ 5 },
      { zTrainInfo with session := 2 ^ 64 }, { zTrainInfo with partnerLanes := 2 ^ 8 },
      { zTrainInfo with failedLanes := 2 ^ 8 }] : List TrainInfo).all (fun b => !TrainInfo.wf b) = true := by decide

theorem test_wf_refuses_tileTag :
    ([{ zTileTag with streamId := 2 ^ 16 }, { zTileTag with tileIndex := 2 ^ 32 }, { zTileTag with fmt := 2 ^ 4 },
      { zTileTag with arithFlags := 2 ^ 7 }, { zTileTag with rows := 2 ^ 8 }, { zTileTag with cols := 2 ^ 8 },
      { zTileTag with redIndex := 2 ^ 16 }, { zTileTag with colIndex := 2 ^ 16 }, { zTileTag with band := 2 ^ 16 },
      { zTileTag with parts := 2 ^ 8 }, { zTileTag with resetEpoch := 2 ^ 16 }, { zTileTag with planId := 2 ^ 16 },
      { zTileTag with layer := 2 ^ 16 }, { zTileTag with stepSeq := 2 ^ 32 }] : List TileTag).all (fun b => !TileTag.wf b) = true := by decide

theorem test_wf_refuses_tile :
    ([{ zTile with tag := { zTileTag with rows := 256 } }] : List Tile).all (fun b => !Tile.wf b) = true := by decide

theorem test_wf_refuses_refetched :
    ([{ zRefetched with move := some (2 ^ 16, 0) }, { zRefetched with move := some (0, 2 ^ 32) },
      { zRefetched with tile := { zTile with tag := { zTileTag with rows := 256 } } }] : List Refetched).all (fun b => !Refetched.wf b) = true := by decide

theorem test_wf_refuses_srcDesc :
    ([{ zSrcDesc with kind := 2 ^ 8 }, { zSrcDesc with port := 2 ^ 8 }, { zSrcDesc with device := 2 ^ 16 },
      { zSrcDesc with region := 2 ^ 16 }, { zSrcDesc with offset := 2 ^ 64 }, { zSrcDesc with length := 2 ^ 64 },
      { zSrcDesc with rsvd := 2 ^ 16 }] : List SrcDesc).all (fun b => !SrcDesc.wf b) = true := by decide

theorem test_wf_refuses_partDecl :
    ([{ zPartDecl with part := 2 ^ 8 }, { zPartDecl with flags := 2 ^ 8 }, { zPartDecl with rsvd := 2 ^ 56 },
      { zPartDecl with quadMask := 2 ^ 8 }, { zPartDecl with access := 2 ^ 8 }, { zPartDecl with mvCount := 2 ^ 8 },
      { zPartDecl with emCount := 2 ^ 8 }, { zPartDecl with t2Mib := 2 ^ 32 }, { zPartDecl with salt := 2 ^ 256 },
      { zPartDecl with baseMeas := 2 ^ 256 }, { zPartDecl with draftMeas := 2 ^ 256 },
      { zPartDecl with prompts := List.replicate 1 (2 ^ 16) }, { zPartDecl with gens := List.replicate 1 (2 ^ 16) },
      { zPartDecl with caches := List.replicate 1 (2 ^ 16) }, { zPartDecl with share := List.replicate 12 (2 ^ 8) },
      { zPartDecl with t1Mib := List.replicate 4 (2 ^ 32) }, { zPartDecl with kvFrames := List.replicate 4 (2 ^ 32) },
      { zPartDecl with share := [] }, { zPartDecl with t1Mib := [] }, { zPartDecl with kvFrames := [] },
      { zPartDecl with baseSrc := { zSrcDesc with kind := 256 } },
      { zPartDecl with draftSrc := { zSrcDesc with kind := 256 } },
      { zPartDecl with base2 := { zSrcDesc with kind := 256 } },
      { zPartDecl with draft2 := { zSrcDesc with kind := 256 } }] : List PartDecl).all (fun b => !PartDecl.wf b) = true := by decide

theorem test_wf_refuses_composition :
    ([{ zComposition with deviceId := 2 ^ 16 }, { zComposition with mgrDevice := 2 ^ 16 },
      { zComposition with role := 2 ^ 3 }, { zComposition with ownerPort := 2 ^ 8 },
      { zComposition with startMode := 2 ^ 8 }, { zComposition with smbLevel := 2 ^ 2 },
      { zComposition with collarSlots := 2 ^ 32 }, { zComposition with collarTier := 2 ^ 8 },
      { zComposition with listsInternal := 2 ^ 16 }, { zComposition with collarLogMib := 2 ^ 32 },
      { zComposition with rsvd := 2 ^ 370 }] : List Composition).all (fun b => !Composition.wf b) = true := by decide +kernel

theorem test_wf_refuses_cfgImage :
    ([{ zCfgImage with magic := 2 ^ 32 }, { zCfgImage with formatVer := 2 ^ 16 },
      { zCfgImage with headerLen := 2 ^ 16 }, { zCfgImage with partCode := 2 ^ 16 },
      { zCfgImage with minStepping := 2 ^ 16 }, { zCfgImage with nSections := 2 ^ 16 },
      { zCfgImage with keyIndex := 2 ^ 8 }, { zCfgImage with securityVer := 2 ^ 16 },
      { zCfgImage with totalLen := 2 ^ 32 }, { zCfgImage with imageVer := 2 ^ 64 },
      { zCfgImage with targetSerial := 2 ^ 64 }, { zCfgImage with hdrRsvd := 2 ^ 470 },
      { zCfgImage with publicKey := [] }, { zCfgImage with sections := [{ zSectionEnt with type := 2 ^ 16 }] },
      { zCfgImage with sections := [{ zSectionEnt with inst := 2 ^ 16 }] },
      { zCfgImage with sections := [{ zSectionEnt with offset := 2 ^ 32 }] },
      { zCfgImage with sections := [{ zSectionEnt with length := 2 ^ 32 }] },
      { zCfgImage with sections := [{ zSectionEnt with rsvd := 2 ^ 32 }] },
      { zCfgImage with regInit := [{ zRegInit with rsvd := 2 ^ 32 }] },
      { zCfgImage with composition := { zComposition with role := 8 } },
      { zCfgImage with partitions := [{ zPartDecl with part := 256 }] },
      { zCfgImage with regInit := [{ zRegInit with offset := 2 ^ 32 }] }] : List CfgImage).all (fun b => !CfgImage.wf b) = true := by decide +kernel

theorem test_wf_refuses_dimmInfo :
    ([{ zDimmInfo with width := 2 ^ 8 }, { zDimmInfo with ranks := 2 ^ 8 }, { zDimmInfo with capGib := 2 ^ 16 },
      { zDimmInfo with serial := 2 ^ 32 }, { zDimmInfo with rates := List.replicate 1 (2 ^ 16) }] : List DimmInfo).all (fun b => !DimmInfo.wf b) = true := by decide

theorem test_wf_refuses_channelInfo :
    ([{ zChannelInfo with dimms := [zDimmInfo, zDimmInfo, zDimmInfo] }] : List ChannelInfo).all (fun b => !ChannelInfo.wf b) = true := by decide

theorem test_wf_refuses_long_bagIn_idx : BagIn.wf { zBagIn with idx := List.replicate (65536) 0 } = false := by
  simp only [BagIn.wf, atMost_replicate, Nat.reducePow, Nat.reduceAdd, Nat.reduceLeDiff, decide_false, Bool.and_false, Bool.false_and]

theorem test_wf_refuses_long_gatherBody_bags : GatherBody.wf { zGatherBody with bags := List.replicate (65536) zBagIn } = false := by
  simp only [GatherBody.wf, atMost_replicate, Nat.reducePow, Nat.reduceAdd, Nat.reduceLeDiff, decide_false, Bool.and_false, Bool.false_and]

theorem test_wf_refuses_long_updateBody_rows : UpdateBody.wf { zUpdateBody with rows := List.replicate (65536) (0, []) } = false := by
  simp only [UpdateBody.wf, atMost_replicate, Nat.reducePow, Nat.reduceAdd, Nat.reduceLeDiff, decide_false, Bool.and_false, Bool.false_and]

theorem test_wf_refuses_long_regWriteBody_values : RegWriteBody.wf { zRegWriteBody with values := List.replicate (256) 0#64 } = false := by
  simp only [RegWriteBody.wf, atMost_replicate, Nat.reducePow, Nat.reduceAdd, Nat.reduceLeDiff, decide_false, Bool.and_false, Bool.false_and]

theorem test_wf_refuses_long_bulkDataBody_data : BulkDataBody.wf { zBulkDataBody with data := List.replicate (2 ^ 24 + 1) 0#8 } = false := by
  simp only [BulkDataBody.wf, atMost_replicate, Nat.reducePow, Nat.reduceAdd, Nat.reduceLeDiff, decide_false, Bool.and_false, Bool.false_and]

theorem test_wf_refuses_long_swWriteBody_entries : SwWriteBody.wf { zSwWriteBody with entries := List.replicate (65536) (0, 0, 0#64) } = false := by
  simp only [SwWriteBody.wf, atMost_replicate, Nat.reducePow, Nat.reduceAdd, Nat.reduceLeDiff, decide_false, Bool.and_false, Bool.false_and]

theorem test_wf_refuses_long_placeBody_data : PlaceBody.wf { zPlaceBody with data := List.replicate (4097) 0#8 } = false := by
  simp only [PlaceBody.wf, atMost_replicate, Nat.reducePow, Nat.reduceAdd, Nat.reduceLeDiff, decide_false, Bool.and_false, Bool.false_and]

theorem test_wf_refuses_long_reportBody_tokens : ReportBody.wf { zReportBody with tokens := List.replicate (256) (0, false) } = false := by
  simp only [ReportBody.wf, atMost_replicate, Nat.reducePow, Nat.reduceAdd, Nat.reduceLeDiff, decide_false, Bool.and_false, Bool.false_and]

theorem test_wf_refuses_long_reportBody_values : ReportBody.wf { zReportBody with values := List.replicate (2 ^ 24 + 1) 0#32 } = false := by
  simp only [ReportBody.wf, atMost_replicate, Nat.reducePow, Nat.reduceAdd, Nat.reduceLeDiff, decide_false, Bool.and_false, Bool.false_and]

theorem test_wf_refuses_long_loadReplyBody_data : LoadReplyBody.wf { zLoadReplyBody with data := List.replicate (4097) 0#8 } = false := by
  simp only [LoadReplyBody.wf, atMost_replicate, Nat.reducePow, Nat.reduceAdd, Nat.reduceLeDiff, decide_false, Bool.and_false, Bool.false_and]

theorem test_wf_refuses_long_storeBody_data : StoreBody.wf { zStoreBody with data := List.replicate (256) 0#8 } = false := by
  simp only [StoreBody.wf, atMost_replicate, Nat.reducePow, Nat.reduceAdd, Nat.reduceLeDiff, decide_false, Bool.and_false, Bool.false_and]

theorem test_wf_refuses_long_readDataBody_data : ReadDataBody.wf { zReadDataBody with data := List.replicate (4097) 0#8 } = false := by
  simp only [ReadDataBody.wf, atMost_replicate, Nat.reducePow, Nat.reduceAdd, Nat.reduceLeDiff, decide_false, Bool.and_false, Bool.false_and]

theorem test_wf_refuses_long_writeBody_data : WriteBody.wf { zWriteBody with data := List.replicate (4097) 0#8 } = false := by
  simp only [WriteBody.wf, atMost_replicate, Nat.reducePow, Nat.reduceAdd, Nat.reduceLeDiff, decide_false, Bool.and_false, Bool.false_and]

theorem test_wf_refuses_long_combinedBody_entries : CombinedBody.wf { zCombinedBody with entries := List.replicate (256) (0, 0, 0#64) } = false := by
  simp only [CombinedBody.wf, atMost_replicate, Nat.reducePow, Nat.reduceAdd, Nat.reduceLeDiff, decide_false, Bool.and_false, Bool.false_and]

theorem test_wf_refuses_long_combinedReplyBody_results : CombinedReplyBody.wf { zCombinedReplyBody with results := List.replicate (256) 0#64 } = false := by
  simp only [CombinedReplyBody.wf, atMost_replicate, Nat.reducePow, Nat.reduceAdd, Nat.reduceLeDiff, decide_false, Bool.and_false, Bool.false_and]

theorem test_wf_refuses_long_embReadBody_rows : EmbReadBody.wf { zEmbReadBody with rows := List.replicate (65536) 0 } = false := by
  simp only [EmbReadBody.wf, atMost_replicate, Nat.reducePow, Nat.reduceAdd, Nat.reduceLeDiff, decide_false, Bool.and_false, Bool.false_and]

theorem test_wf_refuses_long_embRowsBody_rows : EmbRowsBody.wf { zEmbRowsBody with rows := List.replicate (65536) [] } = false := by
  simp only [EmbRowsBody.wf, atMost_replicate, Nat.reducePow, Nat.reduceAdd, Nat.reduceLeDiff, decide_false, Bool.and_false, Bool.false_and]

theorem test_wf_refuses_long_embScatterBody_delta : EmbScatterBody.wf { zEmbScatterBody with delta := List.replicate (2 ^ 24 + 1) 0#32 } = false := by
  simp only [EmbScatterBody.wf, atMost_replicate, Nat.reducePow, Nat.reduceAdd, Nat.reduceLeDiff, decide_false, Bool.and_false, Bool.false_and]

theorem test_wf_refuses_long_channelInfo_dimms : ChannelInfo.wf { zChannelInfo with dimms := List.replicate (3) zDimmInfo } = false := by
  simp only [ChannelInfo.wf, atMost_replicate, Nat.reducePow, Nat.reduceAdd, Nat.reduceLeDiff, decide_false, Bool.and_false, Bool.false_and]

/-- Commands that do not exist, one for each check of a row. Part 0. -/
def badCommands0a : List Instr :=
  [.hlMsgAdmit { zHlHdr with msgType := 0x12 + 2 ^ 8 } zAdmitBody,
   .hlMsgAdmit (zh 0x10) { zAdmitBody with hostTag := 2 ^ 64 },
   .hlMsgResume { zHlHdr with msgType := 0x12 + 2 ^ 8 } zResumeBody,
   .hlMsgResume (zh 0x11) { zResumeBody with hostTag := 2 ^ 64 },
   .hlMsgCancel { zHlHdr with msgType := 0x12 + 2 ^ 8 } zReqBody,
   .hlMsgCancel (zh 0x12) { zReqBody with hostTag := 2 ^ 64 },
   .hlMsgPause { zHlHdr with msgType := 0x12 + 2 ^ 8 } zReqBody,
   .hlMsgPause (zh 0x13) { zReqBody with hostTag := 2 ^ 64 },
   .hlMsgQuery { zHlHdr with msgType := 0x12 + 2 ^ 8 } zReqBody,
   .hlMsgQuery (zh 0x14) { zReqBody with hostTag := 2 ^ 64 },
   .hlMsgAdapterInstall { zHlHdr with msgType := 0x12 + 2 ^ 8 } zAdapterBody,
   .hlMsgAdapterInstall (zh 0x18) { zAdapterBody with hostTag := 2 ^ 64 },
   .hlMsgEmbTable { zHlHdr with msgType := 0x12 + 2 ^ 8 } zEmbTableBody,
   .hlMsgEmbTable (zh 0x20) { zEmbTableBody with hostTag := 2 ^ 64 },
   .hlMsgEmbGather { zHlHdr with msgType := 0x12 + 2 ^ 8 } zGatherBody,
   .hlMsgEmbGather (zh 0x21) { zGatherBody with hostTag := 2 ^ 64 },
   .hlMsgEmbUpdate { zHlHdr with msgType := 0x12 + 2 ^ 8 } zUpdateBody,
   .hlMsgEmbUpdate (zh 0x22) { zUpdateBody with hostTag := 2 ^ 64 },
   .hlMsgEmbMigrate { zHlHdr with msgType := 0x12 + 2 ^ 8 } zMigrateBody,
   .hlMsgEmbMigrate (zh 0x23) { zMigrateBody with hostTag := 2 ^ 64 }]

/-- Commands that do not exist, one for each check of a row. Part 1. -/
def badCommands0b : List Instr :=
  [.hlMsgRegRead { zHlHdr with msgType := 0x12 + 2 ^ 8 } zRegReadBody,
   .hlMsgRegRead (zh 0x30) { zRegReadBody with hostTag := 2 ^ 64 },
   .hlMsgRegWrite { zHlHdr with msgType := 0x12 + 2 ^ 8 } zRegWriteBody,
   .hlMsgRegWrite (zh 0x31) { zRegWriteBody with hostTag := 2 ^ 64 },
   .hlMsgLinkSync { zHlHdr with msgType := 0x12 + 2 ^ 8 } zSyncBody,
   .hlMsgLinkSync (zh 0x01) { zSyncBody with session := 2 ^ 64 },
   .hlMsgBulkData { zHlHdr with msgType := 0x12 + 2 ^ 8 } zBulkDataBody,
   .hlMsgBulkData (zh 0x51) { zBulkDataBody with tag := 2 ^ 32 },
   .hlMsgBulkWriteAck { zHlHdr with msgType := 0x12 + 2 ^ 8 } zBulkAckBody,
   .hlMsgBulkWriteAck (zh 0x53) { zBulkAckBody with tag := 2 ^ 32 }, .hc2Emit (2 ^ 2),
   .fabPktPhasePlace { zFabHdr with dst := 2 ^ 16 } zPlaceBody,
   .fabPktPhasePlace zFabHdr { zPlaceBody with pktIndex := 2 ^ 16 },
   .fabPktPhaseReport { zFabHdr with dst := 2 ^ 16 } zReportBody,
   .fabPktPhaseReport zFabHdr { zReportBody with kind := 2 ^ 8 },
   .fabPktPhaseCtrl { zFabHdr with dst := 2 ^ 16 } zPhaseCtrlBody,
   .fabPktPhaseCtrl zFabHdr { zPhaseCtrlBody with action := 2 ^ 8 },
   .fabPktMoveOffer { zFabHdr with dst := 2 ^ 16 } zOfferBody,
   .fabPktMoveOffer zFabHdr { zOfferBody with kind := 2 ^ 8 },
   .fabPktMoveReply { zFabHdr with dst := 2 ^ 16 } zMoveReplyBody]

/-- Commands that do not exist, one for each check of a row. Part 2. -/
def badCommands0c : List Instr :=
  [.fabPktMoveReply zFabHdr { zMoveReplyBody with status := 2 ^ 16 }, .moveDataSent (2 ^ 64),
   .fabPktMoveAck { zFabHdr with dst := 2 ^ 16 } zMoveAckBody,
   .fabPktMoveAck zFabHdr { zMoveAckBody with bytes := 2 ^ 64 },
   .fabPktMoveCommit { zFabHdr with dst := 2 ^ 16 } zMoveBareBody,
   .fabPktMoveCommit zFabHdr { zMoveBareBody with common := { zMoveCommon with placement := 2 ^ 16 } },
   .fabPktMoveAbort { zFabHdr with dst := 2 ^ 16 } zMoveAbortBody,
   .fabPktMoveAbort zFabHdr { zMoveAbortBody with status := 2 ^ 16 },
   .fabPktMoveQuery { zFabHdr with dst := 2 ^ 16 } zMoveBareBody,
   .fabPktMoveQuery zFabHdr { zMoveBareBody with common := { zMoveCommon with placement := 2 ^ 16 } },
   .fabPktMoveAnswer { zFabHdr with dst := 2 ^ 16 } zMoveAnswerBody,
   .fabPktMoveAnswer zFabHdr { zMoveAnswerBody with answer := 2 ^ 8 },
   .fabPktMovePull { zFabHdr with dst := 2 ^ 16 } zMovePullBody,
   .fabPktMovePull zFabHdr { zMovePullBody with deadline := 2 ^ 32 }, .localMoveCompletes (2 ^ 64),
   .moveOfferWait (2 ^ 64), .moveAckWait (2 ^ 32), .moveCommitWait (2 ^ 16) 0, .moveCommitWait 0 (2 ^ 32),
   .moveRecordExpires (2 ^ 32)]

/-- Commands that do not exist, one for each check of a row. -/
def badCommands0 : List Instr := badCommands0a ++ badCommands0b ++ badCommands0c

theorem test_wf_refuses_commands_0 : badCommands0.all (fun i => !i.wf) = true := by decide

/-- Commands that do not exist, one for each check of a row. Part 0. -/
def badCommands1a : List Instr :=
  [.phaseReportInterval (2 ^ 64), .decodeSilenceLimit (2 ^ 64), .restoreMs (2 ^ 64), .ttlFull (2 ^ 64),
   .stepLaunch (2 ^ 4) 0, .stepLaunch 0 (2 ^ 3), .selfPauseRetry (2 ^ 64), .selfPauseLimit (2 ^ 64),
   .tileArrives (2 ^ 4) 0 zTile [] false, .tileArrives 0 (2 ^ 16) zTile [] false,
   .tileArrives 0 0 { zTile with tag := { zTileTag with rows := 256 } } [] false,
   .pleatRefetchCompletes (2 ^ 4) 0 zRefetched false, .pleatRefetchCompletes 0 (2 ^ 16) zRefetched false,
   .pleatRefetchCompletes 0 0 { zRefetched with move := some (2 ^ 16, 0) } false,
   .streamCompletes (2 ^ 4) 0 0 0 0 0 0 0, .streamCompletes 0 (2 ^ 32) 0 0 0 0 0 0,
   .streamCompletes 0 0 (2 ^ 16) 0 0 0 0 0, .streamCompletes 0 0 0 (2 ^ 16) 0 0 0 0,
   .streamCompletes 0 0 0 0 (2 ^ 32) 0 0 0, .streamCompletes 0 0 0 0 0 (2 ^ 32) 0 0]

/-- Commands that do not exist, one for each check of a row. Part 1. -/
def badCommands1b : List Instr :=
  [.streamCompletes 0 0 0 0 0 0 (2 ^ 32) 0, .streamCompletes 0 0 0 0 0 0 0 (2 ^ 32), .streamDeadline (2 ^ 4) 0 0 0,
   .streamDeadline 0 (2 ^ 32) 0 0, .streamDeadline 0 0 (2 ^ 16) 0, .streamDeadline 0 0 0 (2 ^ 16),
   .commitJoin (2 ^ 4) 0, .commitJoin 0 (2 ^ 32), .stepWatchdog (2 ^ 4) 0, .stepWatchdog 0 (2 ^ 32),
   .stationStorageError (.quad 4 0), .stationStorageError (.em 4), .stationFence (2 ^ 2) 0 0,
   .stationUnfence (2 ^ 2) 0 0, .refitCompletes (2 ^ 4), .partReload (2 ^ 2) 0, .partReload 0 (2 ^ 4),
   .partitionLoadCompletes (2 ^ 4) .none .none, .partitionLoadCompletes 0 (.failed (2 ^ 16)) .none,
   .partitionLoadCompletes 0 .none (.failed (2 ^ 16))]

/-- Commands that do not exist, one for each check of a row. Part 2. -/
def badCommands1c : List Instr :=
  [.partitionLoadCompletes 0 (.image { zModelImage with vocab := 2 ^ 32 }) .none,
   .adapterLoadCompletes (2 ^ 10) false 0 0, .adapterLoadCompletes 0 false (2 ^ 256) 0,
   .adapterLoadCompletes 0 false 0 (2 ^ 16), .secondSourceReadCompletes (2 ^ 4) false 0 0 0 0,
   .secondSourceReadCompletes 0 false (2 ^ 32) 0 0 0, .secondSourceReadCompletes 0 false 0 (2 ^ 16) 0 0,
   .secondSourceReadCompletes 0 false 0 0 (2 ^ 16) 0, .secondSourceReadCompletes 0 false 0 0 0 (2 ^ 16),
   .tenHistSnap (2 ^ 2) 0 false, .tenHistSnap 0 (2 ^ 12) false, .kvShareWrite (2 ^ 2) 0 0#64,
   .kvShareWrite 0 (2 ^ 4) 0#64, .kvDescSel (2 ^ 2) 0#64, .flitReceived (.fabric 16) zFlit,
   .flitReceived (.fabric 0) { bytes := [] }, .fabReplayTimeout (.fabric 16),
   .seamBufferEccError { zFabPkt with hdr := { zFabHdr with dst := 2 ^ 16 } } false, .signalDetected (.fabric 16),
   .signalDetected (.lateter 4)]

/-- Commands that do not exist, one for each check of a row. -/
def badCommands1 : List Instr := badCommands1a ++ badCommands1b ++ badCommands1c

theorem test_wf_refuses_commands_1 : badCommands1.all (fun i => !i.wf) = true := by decide

/-- Commands that do not exist, one for each check of a row. Part 0. -/
def badCommands2a : List Instr :=
  [.lossOfSignal (.fabric 16), .trainingAttemptPasses (.fabric 16) zTrainInfo,
   .trainingAttemptPasses (.fabric 0) { zTrainInfo with partnerDevice := 2 ^ 16 },
   .trainingAttemptFails (.fabric 16) .failed, .retrainTrigger (.fabric 16) .codewords,
   .retrainTrigger (.fabric 0) (.noisyLane 8), .retrainPasses (.fabric 16) zTrainInfo,
   .retrainPasses (.fabric 0) { zTrainInfo with partnerDevice := 2 ^ 16 }, .retrainFails (.fabric 16),
   .fabTrainLimit (.fabric 16), .fabRetrainLimit (.fabric 16), .fabRetryInterval (.fabric 16),
   .fabPortFence (.port 0) (2 ^ 4), .fabPortFence .regInit 0, .fabPortUnfence (.port 0) (2 ^ 4),
   .fabPortUnfence .regInit 0, .fabPortDrain (.port 0) (2 ^ 4) false, .fabPortDrain .regInit 0 false,
   .fabPortRetrain (.port 0) (2 ^ 4), .fabPortRetrain .regInit 0]

/-- Commands that do not exist, one for each check of a row. Part 1. -/
def badCommands2b : List Instr :=
  [.fabLaneFence (.port 0) (2 ^ 4) 0, .fabLaneFence (.port 0) 0 (2 ^ 8), .fabLaneFence .regInit 0 0,
   .seamForward (2 ^ 4) zFabPkt, .seamForward 0 { zFabPkt with hdr := { zFabHdr with dst := 2 ^ 16 } },
   .routeEntryWrite (.port 0) false (2 ^ 16) 0#64 false, .routeEntryWrite .regInit false 0 0#64 false,
   .swEpochCommit (.port 0) (2 ^ 16), .swEpochCommit .regInit 0,
   .fabPktSwWrite { zFabHdr with dst := 2 ^ 16 } zSwWriteBody,
   .fabPktSwWrite zFabHdr { zSwWriteBody with entries := [(2 ^ 32, 0, 0#64)] },
   .fabPktRmaGrant { zFabHdr with dst := 2 ^ 16 } zSwWriteBody,
   .fabPktRmaGrant zFabHdr { zSwWriteBody with entries := [(2 ^ 32, 0, 0#64)] }, .egressDequeue (2 ^ 4),
   .hotspotDetected 0 (2 ^ 2), .hotspotDetected 17 0, .pacedRelease (2 ^ 16), .ccNoSample (2 ^ 16),
   .fabPktCcEcho { zFabHdr with dst := 2 ^ 16 }, .fabPktNack { zFabHdr with dst := 2 ^ 16 } zNackBody]

/-- Commands that do not exist, one for each check of a row. Part 2. -/
def badCommands2c : List Instr :=
  [.fabPktNack zFabHdr { zNackBody with status := 2 ^ 16 }, .fabPktLoad { zFabHdr with dst := 2 ^ 16 } zLoadBody false,
   .fabPktLoad zFabHdr { zLoadBody with region := 2 ^ 16 } false,
   .fabPktLoadReply { zFabHdr with dst := 2 ^ 16 } zLoadReplyBody,
   .fabPktLoadReply zFabHdr { zLoadReplyBody with status := 2 ^ 16 },
   .fabPktStore { zFabHdr with dst := 2 ^ 16 } zStoreBody false,
   .fabPktStore zFabHdr { zStoreBody with region := 2 ^ 16 } false,
   .fabPktStoreAck { zFabHdr with dst := 2 ^ 16 } zAckBody, .fabPktStoreAck zFabHdr { zAckBody with status := 2 ^ 16 },
   .fabPktRead { zFabHdr with dst := 2 ^ 16 } zReadBody false,
   .fabPktRead zFabHdr { zReadBody with region := 2 ^ 16 } false,
   .fabPktReadData { zFabHdr with dst := 2 ^ 16 } zReadDataBody,
   .fabPktReadData zFabHdr { zReadDataBody with status := 2 ^ 16 },
   .fabPktWrite { zFabHdr with dst := 2 ^ 16 } zWriteBody false,
   .fabPktWrite zFabHdr { zWriteBody with region := 2 ^ 16 } false,
   .fabPktWriteAck { zFabHdr with dst := 2 ^ 16 } zAckBody, .fabPktWriteAck zFabHdr { zAckBody with status := 2 ^ 16 },
   .fabPktAtomic { zFabHdr with dst := 2 ^ 16 } zAtomicBody false,
   .fabPktAtomic zFabHdr { zAtomicBody with region := 2 ^ 16 } false,
   .fabPktAtomicReply { zFabHdr with dst := 2 ^ 16 } zAtomicReplyBody]

/-- Commands that do not exist, one for each check of a row. -/
def badCommands2 : List Instr := badCommands2a ++ badCommands2b ++ badCommands2c

theorem test_wf_refuses_commands_2 : badCommands2.all (fun i => !i.wf) = true := by decide

/-- Commands that do not exist, one for each check of a row. Part 0. -/
def badCommands3a : List Instr :=
  [.fabPktAtomicReply zFabHdr { zAtomicReplyBody with status := 2 ^ 16 },
   .fabPktAtomicCombined { zFabHdr with dst := 2 ^ 16 } zCombinedBody false,
   .fabPktAtomicCombined zFabHdr { zCombinedBody with region := 2 ^ 16 } false,
   .fabPktAtomicCombinedReply { zFabHdr with dst := 2 ^ 16 } zCombinedReplyBody,
   .fabPktAtomicCombinedReply zFabHdr { zCombinedReplyBody with status := 2 ^ 16 },
   .fabPktCancel { zFabHdr with dst := 2 ^ 16 } zCancelBody,
   .fabPktCancel zFabHdr { zCancelBody with cancelId := 2 ^ 32 },
   .fabPktCancelAck { zFabHdr with dst := 2 ^ 16 } zCancelAckBody,
   .fabPktCancelAck zFabHdr { zCancelAckBody with status := 2 ^ 16 },
   .fabPktRmaRevokeDone { zFabHdr with dst := 2 ^ 16 } zRevokeDoneBody,
   .fabPktRmaRevokeDone zFabHdr { zRevokeDoneBody with target := 2 ^ 16 }, .grantActivate (.port 0) (2 ^ 12) 0#64,
   .grantActivate .regInit 0 0#64, .grantRevoke (.port 0) (2 ^ 12), .grantRevoke .regInit 0,
   .grantInvalidate (.port 0) (2 ^ 12), .grantInvalidate .regInit 0, .rmaAtomicTimeout (2 ^ 32),
   .rmaStoreTimeout (2 ^ 32), .rmaWriteTimeout (2 ^ 32)]

/-- Commands that do not exist, one for each check of a row. Part 1. -/
def badCommands3b : List Instr :=
  [.rmaBusyBackoff (2 ^ 32), .rmaReplayHold (2 ^ 16) 0, .rmaReplayHold 0 (2 ^ 32), .replayFloorDiscard (2 ^ 16),
   .rmaReassemblyLimit (2 ^ 16) 0, .rmaReassemblyLimit 0 (2 ^ 32), .rmaCancelHold (2 ^ 16) 0,
   .rmaCancelHold 0 (2 ^ 32), .wlArm (2 ^ 2) 0 0#64, .wlArm 0 (2 ^ 12) 0#64, .wlStop (2 ^ 2) 0 0#64,
   .wlStop 0 (2 ^ 12) 0#64, .rmaWlAdvance (2 ^ 2) 0#64, .keyInstall (2 ^ 2) 0#64, .keyErase (2 ^ 2) 0#64,
   .fabPktEmbRead { zFabHdr with dst := 2 ^ 16 } zEmbReadBody false,
   .fabPktEmbRead zFabHdr { zEmbReadBody with table := 2 ^ 8 } false,
   .fabPktEmbRows { zFabHdr with dst := 2 ^ 16 } zEmbRowsBody,
   .fabPktEmbRows zFabHdr { zEmbRowsBody with status := 2 ^ 16 },
   .fabPktEmbScatter { zFabHdr with dst := 2 ^ 16 } zEmbScatterBody false]

/-- Commands that do not exist, one for each check of a row. Part 2. -/
def badCommands3c : List Instr :=
  [.fabPktEmbScatter zFabHdr { zEmbScatterBody with table := 2 ^ 8 } false,
   .fabPktEmbScatterAck { zFabHdr with dst := 2 ^ 16 } zEmbScatterAckBody,
   .fabPktEmbScatterAck zFabHdr { zEmbScatterAckBody with status := 2 ^ 16 },
   .fabPktEmbRedirect { zFabHdr with dst := 2 ^ 16 } zEmbRedirectBody,
   .fabPktEmbRedirect zFabHdr { zEmbRedirectBody with status := 2 ^ 16 },
   .fabPktEmbMigOffer { zFabHdr with dst := 2 ^ 16 } zMigOfferBody,
   .fabPktEmbMigOffer zFabHdr { zMigOfferBody with table := 2 ^ 8 },
   .fabPktEmbMigReply { zFabHdr with dst := 2 ^ 16 } zMoveReplyBody,
   .fabPktEmbMigReply zFabHdr { zMoveReplyBody with status := 2 ^ 16 },
   .fabPktEmbMigAck { zFabHdr with dst := 2 ^ 16 } zMoveAckBody,
   .fabPktEmbMigAck zFabHdr { zMoveAckBody with bytes := 2 ^ 64 },
   .fabPktEmbMigCommit { zFabHdr with dst := 2 ^ 16 } zMoveBareBody,
   .fabPktEmbMigCommit zFabHdr { zMoveBareBody with common := { zMoveCommon with placement := 2 ^ 16 } },
   .fabPktEmbMigAbort { zFabHdr with dst := 2 ^ 16 } zMoveAbortBody,
   .fabPktEmbMigAbort zFabHdr { zMoveAbortBody with status := 2 ^ 16 }, .gatherDeadline 0 (2 ^ 64),
   .replicaRefresh (2 ^ 6) 0 0, .replicaRefresh 0 (2 ^ 32) 0, .replicaRefresh 0 0 (2 ^ 40), .replicaExpiry (2 ^ 6) 0 0]

/-- Commands that do not exist, one for each check of a row. -/
def badCommands3 : List Instr := badCommands3a ++ badCommands3b ++ badCommands3c

theorem test_wf_refuses_commands_3 : badCommands3.all (fun i => !i.wf) = true := by decide

/-- Commands that do not exist, one for each check of a row. Part 0. -/
def badCommands4a : List Instr :=
  [.replicaExpiry 0 (2 ^ 32) 0, .replicaExpiry 0 0 (2 ^ 40), .migrationForwardingTimer (2 ^ 32),
   .replicaStoreWrite (2 ^ 2) 0 0#64, .replicaStoreWrite 0 (2 ^ 4) 0#64, .hlSyncWait (2 ^ 2), .hlCreditStall (2 ^ 2),
   .hlDownHold (2 ^ 2), .hlBulkTimeout (2 ^ 32), .hlPortFence (.port 0) (2 ^ 2), .hlPortFence .regInit 0,
   .hlPortUnfence (.port 0) (2 ^ 2), .hlPortUnfence .regInit 0, .hlPortRetrain (.port 0) (2 ^ 2),
   .hlPortRetrain .regInit 0, .hlLaneFence (.port 0) (2 ^ 2) 0, .hlLaneFence (.port 0) 0 (2 ^ 8),
   .hlLaneFence .regInit 0 0, .hostWindowWrite (.port 0) (2 ^ 2) 0 0 0#64, .hostWindowWrite (.port 0) 0 (2 ^ 4) 0 0#64]

/-- Commands that do not exist, one for each check of a row. Part 1. -/
def badCommands4b : List Instr :=
  [.hostWindowWrite (.port 0) 0 0 (2 ^ 1) 0#64, .hostWindowWrite .regInit 0 0 0 0#64, .enterService (2 ^ 2),
   .enterTest (2 ^ 2), .enterRecovery (2 ^ 2), .applyImage (2 ^ 2) false 0 0 0 (.failed 0),
   .applyImage 0 false (2 ^ 1) 0 0 (.failed 0), .applyImage 0 false 0 (2 ^ 2) 0 (.failed 0),
   .applyImage 0 false 0 0 (2 ^ 4) (.failed 0), .applyImage 0 false 0 0 0 (.failed (2 ^ 16)),
   .writeSlot (2 ^ 2) 0 0 0 (.failed 0), .writeSlot 0 (2 ^ 1) 0 0 (.failed 0), .writeSlot 0 0 (2 ^ 2) 0 (.failed 0),
   .writeSlot 0 0 0 (2 ^ 4) (.failed 0), .writeSlot 0 0 0 0 (.failed (2 ^ 16)),
   .writeSlot 0 0 0 0 (.image { zCfgImage with magic := 2 ^ 32 }), .calSave (2 ^ 2) 0, .calSave 0 (2 ^ 6),
   .calRestoreFactory (2 ^ 2), .svnCommit (2 ^ 2)]

/-- Commands that do not exist, one for each check of a row. Part 2. -/
def badCommands4c : List Instr :=
  [.quote (2 ^ 2) 0x10000#64, .quote 0 0#64, .serviceReport (2 ^ 2) 0x20000#64, .serviceReport 0 0#64,
   .endorsementRecord (2 ^ 2) 0x30000#64, .endorsementRecord 0 0#64, .protectionWrite (2 ^ 2) 0x100280 0#64,
   .protectionWrite 0 0x1001F8 0#64, .protectionWrite 0 0x100204 0#64, .protectionWrite 0 0x100288 0#64,
   .powerDown (2 ^ 2) 0 false, .powerDown 0 (2 ^ 5) false, .powerUp (2 ^ 2) 0 false, .powerUp 0 (2 ^ 5) false,
   .reset (2 ^ 2) 0 false, .reset 0 (2 ^ 5) false, .update (2 ^ 2) 0 false, .update 0 (2 ^ 5) false,
   .pwrModuleReset (2 ^ 2) 0#64, .resetNAsserted (2 ^ 64)]

/-- Commands that do not exist, one for each check of a row. -/
def badCommands4 : List Instr := badCommands4a ++ badCommands4b ++ badCommands4c

theorem test_wf_refuses_commands_4 : badCommands4.all (fun i => !i.wf) = true := by decide

/-- Commands that do not exist, one for each check of a row. Part 0. -/
def badCommands5a : List Instr :=
  [.powerGood (2 ^ 3), .domainsTrained [.quad 0 124] [] [], .domainsTrained [] (List.replicate 5 true) [],
   .domainsTrained [] [] (List.replicate 17 zChannelInfo),
   .domainsTrained [] [] [{ zChannelInfo with dimms := [zDimmInfo, zDimmInfo, zDimmInfo] }],
   .smbusSetOffset (2 ^ 8) [] false, .smbusSetOffset 0 (List.replicate 256 0#8) false, .smbusRead (2 ^ 8) false,
   .vInSample (2 ^ 32) 0, .vInSample 0 (2 ^ 64), .referenceLoss (2 ^ 64) false, .domainRampCompletes 20 false [] [],
   .domainRampCompletes 0 false [.mv 32] [], .domainRampCompletes 0 false [] (List.replicate 17 zChannelInfo),
   .domainRampCompletes 0 false [] [{ zChannelInfo with dimms := [zDimmInfo, zDimmInfo, zDimmInfo] }], .railFault 20,
   .downSequenceEnds 20, .powerSample (2 ^ 32) 0, .powerSample 0 (2 ^ 32), .thermalSample []]

/-- Commands that do not exist, one for each check of a row. Part 1. -/
def badCommands5b : List Instr :=
  [.thermalSample (List.replicate 10 2048), .thermalSample (List.replicate 10 (-2049)), .thermalLevelRise 10,
   .thermalLevelFall 10, .evtReadSel (2 ^ 2) 0#64, .evtRateWrite (2 ^ 2) 0#64, .evtMirrorSel (2 ^ 2) 0#64,
   .cntClear (2 ^ 2) 0#64, .rlLowHalfRead (2 ^ 2) 0, .rlLowHalfRead 0 (2 ^ 32),
   .registerWrite (.port 0) (2 ^ 26) 0#64 false, .registerWrite .regInit 0 0#64 false,
   .registerWrite (.port 4) 0 0#64 false, .patrolScrub (2 ^ 64) false false, .dimmThermalRead (List.replicate 17 []),
   .channelTrainingTimeout 16, .fabPktSwWriteAck { zFabHdr with dst := 2 ^ 16 } zSwAckBody,
   .fabPktSwWriteAck zFabHdr { zSwAckBody with status := 2 ^ 16 }]

/-- Commands that do not exist, one for each check of a row. -/
def badCommands5 : List Instr := badCommands5a ++ badCommands5b

theorem test_wf_refuses_commands_5 : badCommands5.all (fun i => !i.wf) = true := by decide

theorem test_wf_accepts_every_row : everyCommand.all Instr.wf = true := by decide

theorem test_wf_rows : everyCommand.length = 197 := by decide

theorem test_wf_refuses_packet_body : FabPkt.wf { zFabPkt with body := .load { zLoadBody with region := 2 ^ 16 } } = false := by decide
end Sys2Proof.Tests
end

