-- ==== Sys2Proof/Tests/WitnessesA.lean ====
section
/-!
SUPPORT. For each clause of each statement, a state and operands that meet its hypotheses together (part 1).
-/
namespace Sys2Proof.Tests
open Sys2Proof.Machine
set_option linter.unusedVariables false
set_option maxRecDepth 8000
set_option Elab.async false

/-- The store of the live device is in its form. -/
theorem blank_ok : NvOk Nv.blank := ⟨by decide, by decide, by decide, by decide⟩

theorem witness_stepKeepsStoreForm : ∃ s t : State, NvOk s.nv ∧ step s = .next t := ⟨live, live, blank_ok, rfl⟩

theorem witness_fusesOnlyRise : ∃ s t : State, NvOk s.nv ∧ step s = .next t := ⟨live, live, blank_ok, rfl⟩

theorem witness_emptyQueueTicksLocalTime :
    (∃ (s : State), s.pending = []) :=
  ⟨live, by decide +kernel⟩

theorem witness_everyCommandCompletesOrDoesNotExist :
    (∃ (i : Instr) (s : State), mayReachFlash i = false) ∧
    (∃ (i : Instr) (s : State), i.wf = false) :=
  ⟨⟨(.hc2Emit 0), live, by decide +kernel⟩,
    ⟨(.hc2Emit 4), live, by decide +kernel⟩⟩

theorem witness_resetRegisters :
    (∃ (d : Nat), d < 20 ∧ d ≠ 0) :=
  ⟨1, by decide +kernel⟩

theorem witness_otherPortsWriteNothing :
    (∃ (s : State) (p : Nat) (off : Nat) (v : W64) (half : Bool), (Instr.registerWrite (.port p) off v half).wf = true ∧
      s.chip.isOwner p = false) ∧
    (∃ (s : State) (p : Nat) (off : Nat) (v : W64) (half : Bool), (Instr.registerWrite (.port p) off v half).wf = true ∧
      s.chip.isOwner p = false ∧ half = false) ∧
    (∃ (s : State) (p : Nat) (off : Nat) (v : W64) (half : Bool) (q : Nat), (Instr.registerWrite (.port p) off v half).wf = true ∧
      s.chip.isOwner p = false ∧ q ≠ p) :=
  ⟨⟨live, 1, 0, 0#64, false, by decide +kernel⟩,
    ⟨live, 1, 0, 0#64, false, by decide +kernel⟩,
    ⟨live, 1, 0, 0#64, false, 0, by decide +kernel⟩⟩

theorem witness_sequencedMessagesInOrder :
    (∃ (s : State) (h : HlHdr) (b : ReqBody), (Instr.hlMsgQuery h b).wf = true ∧ sequenced h = true ∧
      s.chip.hlCarries h.port 0x14 = true ∧ h.xseq ≠ (s.chip.hlPort h.port).expect h.hc ∧
      precedes 32 h.xseq ((s.chip.hlPort h.port).expect h.hc) = true) ∧
    (∃ (s : State) (h : HlHdr) (b : ReqBody), (Instr.hlMsgQuery h b).wf = true ∧ sequenced h = true ∧
      s.chip.hlCarries h.port 0x14 = true ∧ h.xseq ≠ (s.chip.hlPort h.port).expect h.hc ∧
      precedes 32 h.xseq ((s.chip.hlPort h.port).expect h.hc) = false ∧
      (if h.hc = 0 then (s.chip.hlPort h.port).gap0 else (s.chip.hlPort h.port).gap1) = true) ∧
    (∃ (s : State) (h : HlHdr) (b : ReqBody), (Instr.hlMsgQuery h b).wf = true ∧ sequenced h = true ∧
      s.chip.hlCarries h.port 0x14 = true ∧ h.xseq ≠ (s.chip.hlPort h.port).expect h.hc ∧
      precedes 32 h.xseq ((s.chip.hlPort h.port).expect h.hc) = false ∧
      (if h.hc = 0 then (s.chip.hlPort h.port).gap0 else (s.chip.hlPort h.port).gap1) = false) :=
  ⟨⟨live, { zh 0x14 with xseq := 0xFFFFFFFF }, zReqBody, by decide +kernel⟩,
    ⟨(liveWith fun c => c.setHlPort 0 { c.hlPort 0 with gap0 := true }), { zh 0x14 with xseq := 2 }, zReqBody,
      by decide +kernel⟩,
    ⟨live, { zh 0x14 with xseq := 2 }, zReqBody, by decide +kernel⟩⟩

theorem witness_illFormedMessagesAnswered :
    (∃ (s : State) (h : HlHdr) (b : ReqBody), (Instr.hlMsgPause h b).wf = true ∧ h.hc < 2 ∧ h.msgType = 0x13 ∧
      s.chip.hlCarries h.port 0x13 = true ∧ h.xseq = (s.chip.hlPort h.port).expect h.hc ∧
      (h.hc ≠ 0 ∨ lenOk h = false ∨ offOk h = false ∨ h.rsvd ≠ 0 ∨ (h.hc = 0 ∧ 1 < h.pkts.length))) ∧
    (∃ (s : State) (h : HlHdr) (b : ReqBody), (Instr.hlMsgPause h b).wf = true ∧ h.hc < 2 ∧ h.msgType = 0x13 ∧
      s.chip.hlCarries h.port 0x13 = true ∧ h.xseq = (s.chip.hlPort h.port).expect h.hc ∧
      (h.hc = 0 ∧ lenOk h = true ∧ offOk h = true ∧ h.rsvd = 0 ∧ h.pkts.length ≤ 1) ∧ s.chip.devState < 2) :=
  ⟨⟨live, { zh 0x13 with xseq := 1, pkts := [{ zHlPkt with last := false }] }, zReqBody, by decide +kernel⟩,
    ⟨(liveIn 1 id), { zh 0x13 with xseq := 1 }, zReqBody, by decide +kernel⟩⟩

theorem witness_admitPlacesOrRefuses :
    (∃ (s : State) (h : HlHdr) (b : AdmitBody), (Instr.hlMsgAdmit h b).wf = true ∧
      HostTakes s h ⟨0x10, 1, 0, false⟩ ∧ (taken s h).admitStatus h.port b = stOk) ∧
    (∃ (s : State) (h : HlHdr) (b : AdmitBody), (Instr.hlMsgAdmit h b).wf = true ∧
      HostTakes s h ⟨0x10, 1, 0, false⟩ ∧ (taken s h).admitStatus h.port b ≠ stOk) :=
  ⟨⟨serving, { zh 0x10 with xseq := 1, hc := 1 }, admitted, by decide +kernel⟩,
    ⟨live, { zh 0x10 with xseq := 1, hc := 1 }, zAdmitBody, by decide +kernel⟩⟩

theorem witness_requestControls :
    (∃ (s : State) (h : HlHdr) (b : ResumeBody) (k : Collar), (Instr.hlMsgResume h b).wf = true ∧
      HostTakes s h ⟨0x11, 1, 0, false⟩ ∧ Named s h b.requestId k ∧
      (if resumeBad b then stMalformed else if k.img.lcState ≠ lcPaused then stBusy else ((taken s h).readCollar b.requestId).resumeStatus k b (decide (0 < b.nAppend) || k.img.summaryOnly || k.prefill)) = stOk) ∧
    (∃ (s : State) (h : HlHdr) (b : ResumeBody) (k : Collar), (Instr.hlMsgResume h b).wf = true ∧
      HostTakes s h ⟨0x11, 1, 0, false⟩ ∧ Named s h b.requestId k ∧
      (if resumeBad b then stMalformed else if k.img.lcState ≠ lcPaused then stBusy else ((taken s h).readCollar b.requestId).resumeStatus k b (decide (0 < b.nAppend) || k.img.summaryOnly || k.prefill)) ≠ stOk) ∧
    (∃ (s : State) (h : HlHdr) (b : ReqBody) (k : Collar), (Instr.hlMsgCancel h b).wf = true ∧
      HostTakes s h ⟨0x12, 0, 0, false⟩ ∧ Named s h b.requestId k ∧ lcDone ≤ k.img.lcState) ∧
    (∃ (s : State) (h : HlHdr) (b : ReqBody) (k : Collar), (Instr.hlMsgCancel h b).wf = true ∧
      HostTakes s h ⟨0x12, 0, 0, false⟩ ∧ Named s h b.requestId k ∧ k.img.lcState < lcDone ∧
      (((taken s h).readCollar b.requestId).ack h.port b.hostTag b.requestId stOk 0).runningHere b.requestId = none) ∧
    (∃ (s : State) (h : HlHdr) (b : ReqBody) (k : Collar), (Instr.hlMsgPause h b).wf = true ∧
      HostTakes s h ⟨0x13, 0, 0, false⟩ ∧ Named s h b.requestId k ∧ lcPaused ≤ k.img.lcState) ∧
    (∃ (s : State) (h : HlHdr) (b : ReqBody) (k : Collar), (Instr.hlMsgPause h b).wf = true ∧
      HostTakes s h ⟨0x13, 0, 0, false⟩ ∧ Named s h b.requestId k ∧ k.img.lcState = lcAdmitted ∧ k.pausing = false) ∧
    (∃ (s : State) (h : HlHdr) (b : ReqBody) (k : Collar), (Instr.hlMsgQuery h b).wf = true ∧
      HostTakes s h ⟨0x14, 0, 0, false⟩ ∧ Named s h b.requestId k) ∧
    (∃ (s : State) (h : HlHdr) (b : ReqBody), (Instr.hlMsgQuery h b).wf = true ∧ HostTakes s h ⟨0x14, 0, 0, false⟩ ∧
      ((taken s h).collar b.requestId).any ((taken s h).mayControl h.port) = false) :=
  ⟨⟨(servingWith [{ zCollar with img := { zCollarImg with requestId := 5, lcState := 4, adapter := 0xFFFF } }]),
    { zh 0x11 with xseq := 1, hc := 1 },
    { zResumeBody with requestId := 5, maxNew := 4, nAppend := 1, append := [zPromptTok] },
    { zCollar with img := { zCollarImg with requestId := 5, lcState := 4, adapter := 0xFFFF } }, by decide +kernel⟩,
    ⟨(servingWith [{ zCollar with img := { zCollarImg with requestId := 5, lcState := 0 } }]),
      { zh 0x11 with xseq := 1, hc := 1 },
      { zResumeBody with requestId := 5, maxNew := 4, nAppend := 1, append := [zPromptTok] },
      { zCollar with img := { zCollarImg with requestId := 5, lcState := 0 } }, by decide +kernel⟩,
    ⟨(servingWith [{ zCollar with img := { zCollarImg with requestId := 5, lcState := 5 } }]),
      { zh 0x12 with xseq := 1, hc := 0 }, { zReqBody with requestId := 5 },
      { zCollar with img := { zCollarImg with requestId := 5, lcState := 5 } }, by decide +kernel⟩,
    ⟨(servingWith [{ zCollar with img := { zCollarImg with requestId := 5, lcState := 0 } }]),
      { zh 0x12 with xseq := 1, hc := 0 }, { zReqBody with requestId := 5 },
      { zCollar with img := { zCollarImg with requestId := 5, lcState := 0 } }, by decide +kernel⟩,
    ⟨(servingWith [{ zCollar with img := { zCollarImg with requestId := 5, lcState := 4 } }]),
      { zh 0x13 with xseq := 1, hc := 0 }, { zReqBody with requestId := 5 },
      { zCollar with img := { zCollarImg with requestId := 5, lcState := 4 } }, by decide +kernel⟩,
    ⟨(servingWith [{ zCollar with img := { zCollarImg with requestId := 5, lcState := 0 } }]),
      { zh 0x13 with xseq := 1, hc := 0 }, { zReqBody with requestId := 5 },
      { zCollar with img := { zCollarImg with requestId := 5, lcState := 0 } }, by decide +kernel⟩,
    ⟨(servingWith [{ zCollar with img := { zCollarImg with requestId := 5, lcState := 2 } }]),
      { zh 0x14 with xseq := 1, hc := 0 }, { zReqBody with requestId := 5 },
      { zCollar with img := { zCollarImg with requestId := 5, lcState := 2 } }, by decide +kernel⟩,
    ⟨serving, { zh 0x14 with xseq := 1, hc := 0 }, { zReqBody with requestId := 5 }, by decide +kernel⟩⟩

theorem witness_adapterInstallLoadsOrRetires :
    (∃ (s : State) (h : HlHdr) (b : AdapterBody) (k : _), (Instr.hlMsgAdapterInstall h b).wf = true ∧
      HostTakes s h ⟨0x18, 1, b.rsvd, false⟩ ∧ (taken s h).installStatus h.port b = stOk ∧ b.remove = false ∧
      b.drain = false ∧ (upTo 1024).find? (fun j => (taken s h).slotState j == 0) = some k) ∧
    (∃ (s : State) (h : HlHdr) (b : AdapterBody) (k : _), (Instr.hlMsgAdapterInstall h b).wf = true ∧
      HostTakes s h ⟨0x18, 1, b.rsvd, false⟩ ∧ (taken s h).installStatus h.port b = stOk ∧ b.remove = true ∧
      ((taken s h).adapterSlots b.part b.adapter [2]).head? = some k) :=
  ⟨⟨(windowOpen serving), { zh 0x18 with xseq := 1, hc := 1 }, { zAdapterBody with rank := 8, srcLength := 64 }, 0,
    by decide +kernel⟩,
    ⟨(onChip serving fun c => (c.setFld (Reg.adapterSlot 0 1) 63 61 2).setFld (Reg.adapterSlot 0 0) 31 16 0),
      { zh 0x18 with xseq := 1, hc := 1 }, { zAdapterBody with remove := true }, 0, by decide +kernel⟩⟩

theorem witness_embeddingMessages :
    (∃ (s : State) (h : HlHdr) (b : EmbTableBody), (Instr.hlMsgEmbTable h b).wf = true ∧
      HostTakes s h ⟨0x20, 1, b.rsvd ||| mapRsvd b.map, false⟩ ∧ (taken s h).embTableStatus h.port b = stOk ∧
      b.action = 0) ∧
    (∃ (s : State) (h : HlHdr) (b : GatherBody) (v : TableVer), (Instr.hlMsgEmbGather h b).wf = true ∧
      HostTakes s h ⟨0x21, 1, b.rsvd ||| bagsRsvd b.bags, false⟩ ∧
      (taken s h).lookupStatus h.port b.part b.table (b.rsvd != 0 || decide (16 ≤ b.part) || decide (64 ≤ b.table) || b.bags.isEmpty || decide (256 < b.bags.length) || b.bags.any bagBad) (b.bags.all (fun x => x.weights.all f32Finite)) = stOk ∧
      (taken s h).curVer b.table = some v) ∧
    (∃ (s : State) (h : HlHdr) (b : UpdateBody) (v : TableVer), (Instr.hlMsgEmbUpdate h b).wf = true ∧
      HostTakes s h ⟨0x22, 1, b.rsvd, false⟩ ∧ (taken s h).curVer b.table = some v ∧
      (taken s h).lookupStatus h.port b.part b.table (b.rsvd != 0 || decide (16 ≤ b.part) || decide (64 ≤ b.table) || b.rows.isEmpty || decide (256 < b.rows.length) || b.rows.any (fun r => decide (2 ^ 40 ≤ r.1)) || b.rows.any (fun r => r.2.length != v.width)) (b.rows.all (fun r => r.2.all f32Finite)) = stOk) ∧
    (∃ (s : State) (h : HlHdr) (b : MigrateBody), (Instr.hlMsgEmbMigrate h b).wf = true ∧
      HostTakes s h ⟨0x23, 1, b.rsvd, false⟩ ∧ (taken s h).migrateStatus h.port b = stOk ∧ b.action ≠ 1) :=
  ⟨⟨serving, { zh 0x20 with xseq := 1, hc := 1 },
    { zEmbTableBody with partMask := 1, rows := 4, width := 64, fmt := 1, log2Shard := 12, nShards := 1, map := [{ zShardEnt with device := 7 }], version := 1 },
    by decide +kernel⟩,
    ⟨(onChip serving fun c => { c with emb := { c.emb with vers := [sampleTable] } }),
      { zh 0x21 with xseq := 1, hc := 1 }, { zGatherBody with bags := [{ zBagIn with idx := [1], outFmt := 1 }] },
      sampleTable, by decide +kernel⟩,
    ⟨(onChip serving fun c => { c with emb := { c.emb with vers := [sampleTable] } }),
      { zh 0x22 with xseq := 1, hc := 1 }, { zUpdateBody with rows := [(0, List.replicate 32 0#32)] }, sampleTable,
      by decide +kernel⟩,
    ⟨(onChip serving fun c => { c with emb := { c.emb with vers := [sampleTable] } }),
      { zh 0x23 with xseq := 1, hc := 1 }, { zMigrateBody with version := 1, newDevice := 8 }, by decide +kernel⟩⟩

theorem witness_registerMessages :
    (∃ (s : State) (h : HlHdr) (b : RegReadBody), (Instr.hlMsgRegRead h b).wf = true ∧
      HostTakes s h ⟨0x30, 0, b.rsvd, true⟩ ∧ b.half = false ∧ regFormOk b.offset false b.count = true ∧
      (∀ k < b.count, (taken s h).inWindow h.port (b.offset + 8 * k) = true)) ∧
    (∃ (s : State) (h : HlHdr) (b : RegReadBody), (Instr.hlMsgRegRead h b).wf = true ∧
      HostTakes s h ⟨0x30, 0, b.rsvd, true⟩ ∧ b.half = false ∧ regFormOk b.offset false b.count = true ∧
      (taken s h).inWindow h.port b.offset = false) ∧
    (∃ (s : State) (h : HlHdr) (b : RegWriteBody) (v : W64), (Instr.hlMsgRegWrite h b).wf = true ∧
      HostTakes s h ⟨0x31, 0, b.rsvd, false⟩ ∧ b.half = false ∧ b.values = [v] ∧ b.offset % 8 = 0 ∧
      (taken s h).inWindow h.port b.offset = true) ∧
    (∃ (s : State) (h : HlHdr) (b : RegWriteBody) (v : W64), (Instr.hlMsgRegWrite h b).wf = true ∧
      HostTakes s h ⟨0x31, 0, b.rsvd, false⟩ ∧ b.half = false ∧ b.values = [v] ∧ b.offset % 8 = 0 ∧
      (taken s h).inWindow h.port b.offset = false) :=
  ⟨⟨live, { zh 0x30 with xseq := 1, hc := 0 }, { zRegReadBody with count := 2 }, by decide +kernel⟩,
    ⟨live, { zh 0x30 with xseq := 1, port := 1 }, { zRegReadBody with count := 1, offset := 0x100280 },
      by decide +kernel⟩,
    ⟨live, { zh 0x31 with xseq := 1, hc := 0 }, { zRegWriteBody with values := [0#64] }, 0#64, by decide +kernel⟩,
    ⟨live, { zh 0x31 with xseq := 1, port := 1 }, { zRegWriteBody with values := [0#64], offset := 0x100280 }, 0#64,
      by decide +kernel⟩⟩

theorem witness_linkMessages :
    (∃ (s : State) (h : HlHdr) (b : SyncBody), (Instr.hlMsgLinkSync h b).wf = true ∧
      HostTakes s h ⟨0x01, 0, b.rsvd, true⟩ ∧ b.session ≠ (s.chip.reg (Reg.hlPortSession h.port)).toNat) ∧
    (∃ (s : State) (h : HlHdr) (b : SyncBody), (Instr.hlMsgLinkSync h b).wf = true ∧
      HostTakes s h ⟨0x01, 0, b.rsvd, true⟩ ∧ b.session = (s.chip.reg (Reg.hlPortSession h.port)).toNat ∧
      beforeLog (s.chip.hlPort h.port).log0 (s.chip.hlPort h.port).next0 b.expect0 = false ∧
      beforeLog (s.chip.hlPort h.port).log2 (s.chip.hlPort h.port).next2 b.expect2 = false ∧
      s.chip.hlState h.port = 5) ∧
    (∃ (s : State) (h : HlHdr) (b : BulkDataBody) (k : Bulk), (Instr.hlMsgBulkData h b).wf = true ∧
      HostTakes s h ⟨0x51, 3, b.rsvd, false⟩ ∧ (s.chip.bump (Reg.hlCnt 4)).bulkFor h.port b.tag false = some k ∧
      b.data.length = (if b.status = stOk then k.length else 0)) ∧
    (∃ (s : State) (h : HlHdr) (b : BulkAckBody) (k : Bulk), (Instr.hlMsgBulkWriteAck h b).wf = true ∧
      HostTakes s h ⟨0x53, 3, b.rsvd, false⟩ ∧ (s.chip.bump (Reg.hlCnt 4)).bulkFor h.port b.tag true = some k) ∧
    (∃ (s : State) (h : HlHdr) (b : BulkAckBody), (Instr.hlMsgBulkWriteAck h b).wf = true ∧
      HostTakes s h ⟨0x53, 3, b.rsvd, false⟩ ∧ (s.chip.bump (Reg.hlCnt 4)).bulkFor h.port b.tag true = none) :=
  ⟨⟨live, zh 0x01, { zSyncBody with session := 1 }, by decide +kernel⟩,
    ⟨(liveWith fun c => c.setFld (Reg.hlPortStatus 0) 63 61 5), zh 0x01,
      { zSyncBody with expect0 := 1, expect2 := 1, expect1 := 1 }, by decide +kernel⟩,
    ⟨(liveWith fun c => { c with hl := { c.hl with bulks := [{ zBulk with tag := 4, length := 1 }] } }),
      { zh 0x51 with xseq := 1, hc := 3 }, { zBulkDataBody with tag := 4, data := [0#8] },
      { zBulk with tag := 4, length := 1 }, by decide +kernel⟩,
    ⟨(liveWith fun c => { c with hl := { c.hl with bulks := [{ zBulk with tag := 4, length := 1, write := true }] } }),
      { zh 0x53 with xseq := 1, hc := 3 }, { zBulkAckBody with tag := 4 },
      { zBulk with tag := 4, length := 1, write := true }, by decide +kernel⟩,
    ⟨live, { zh 0x53 with xseq := 1, hc := 3 }, zBulkAckBody, by decide +kernel⟩⟩

theorem witness_emitTakesTheRingInOrder :
    (∃ (s : State) (p : Nat) (e : RingEnt) (rest : List RingEnt) (k : Collar) (tag : _) (status : _), (Instr.hc2Emit p).wf = true ∧
      s.chip.hlState p = 3 ∧ (s.chip.hlPort p).link.out.any (fun o => o.tc == 2) = false ∧
      (s.chip.hlPort p).ring = e :: rest ∧ s.chip.collar e.requestId = some k ∧ e.ack = [(tag, status)] ∧
      e.result = false ∧ e.ended = false ∧ k.emitted ≤ k.sent) ∧
    (∃ (s : State) (p : Nat) (e : RingEnt) (rest : List RingEnt) (k : Collar), (Instr.hc2Emit p).wf = true ∧
      s.chip.hlState p = 3 ∧ (s.chip.hlPort p).link.out.any (fun o => o.tc == 2) = false ∧
      (s.chip.hlPort p).ring = e :: rest ∧ s.chip.collar e.requestId = some k ∧ e.ack = [] ∧ k.emitted ≤ k.sent ∧
      e.result = false ∧ e.ended = true) :=
  ⟨⟨(onChip (servingWith [{ zCollar with img := { zCollarImg with requestId := 5, lastEmitted := 0xFFFFFFFF } }]) fun c => c.setHlPort 0 { c.hlPort 0 with ring := [{ zRingEnt with requestId := 5, ack := [(6, 0)] }] }),
    0, { zRingEnt with requestId := 5, ack := [(6, 0)] }, [],
    { zCollar with img := { zCollarImg with requestId := 5, lastEmitted := 0xFFFFFFFF } }, 6, 0, by decide +kernel⟩,
    ⟨(onChip (servingWith [{ zCollar with img := { zCollarImg with requestId := 5, lastEmitted := 0xFFFFFFFF } }]) fun c => c.setHlPort 0 { c.hlPort 0 with ring := [{ zRingEnt with requestId := 5, ended := true }] }),
      0, { zRingEnt with requestId := 5, ended := true }, [],
      { zCollar with img := { zCollarImg with requestId := 5, lastEmitted := 0xFFFFFFFF } }, by decide +kernel⟩⟩

theorem witness_phaseControl :
    (∃ (s : State) (h : FabHdr) (b : PlaceBody), (Instr.fabPktPhasePlace h b).wf = true ∧
      Arrives s h (.phasePlace b) (b.rsvd ||| b.common.rsvd) ∧ 4096 ≤ b.pktIndex) ∧
    (∃ (s : State) (h : FabHdr) (b : PlaceBody), (Instr.fabPktPhasePlace h b).wf = true ∧
      Arrives s h (.phasePlace b) (b.rsvd ||| b.common.rsvd) ∧ b.pktIndex < 4096 ∧
      (got s h (.phasePlace b)).reassemble h b.pktIndex 0 b.data.length stOk b.data = .duplicate) ∧
    (∃ (s : State) (h : FabHdr) (b : PlaceBody), (Instr.fabPktPhasePlace h b).wf = true ∧
      Arrives s h (.phasePlace b) (b.rsvd ||| b.common.rsvd) ∧ b.pktIndex < 4096 ∧
      (got s h (.phasePlace b)).reassemble h b.pktIndex 0 b.data.length stOk b.data = .noRoom) ∧
    (∃ (s : State) (h : FabHdr) (b : PlaceBody) (x : _), (Instr.fabPktPhasePlace h b).wf = true ∧
      Arrives s h (.phasePlace b) (b.rsvd ||| b.common.rsvd) ∧ b.pktIndex < 4096 ∧
      (got s h (.phasePlace b)).reassemble h b.pktIndex 0 b.data.length stOk b.data = .more x) ∧
    (∃ (s : State) (h : FabHdr) (b : PlaceBody) (x : _), (Instr.fabPktPhasePlace h b).wf = true ∧
      Arrives s h (.phasePlace b) (b.rsvd ||| b.common.rsvd) ∧ b.pktIndex < 4096 ∧
      (got s h (.phasePlace b)).reassemble h b.pktIndex 0 b.data.length stOk b.data = .whole x ∧
      placementOf (ctxBody x) = none) ∧
    (∃ (s : State) (h : FabHdr) (b : PlaceBody) (x : _) (p : _), (Instr.fabPktPhasePlace h b).wf = true ∧
      Arrives s h (.phasePlace b) (b.rsvd ||| b.common.rsvd) ∧ b.pktIndex < 4096 ∧
      (got s h (.phasePlace b)).reassemble h b.pktIndex 0 b.data.length stOk b.data = .whole x ∧
      placementOf (ctxBody x) = some p ∧ placement ((got s h (.phasePlace b)).dropCtx h.src h.msgId) p = stOk ∧
      ((got s h (.phasePlace b)).dropCtx h.src h.msgId).holdsVersion p.collar.part p.collar.adapter p.collar.adapterVer = true) ∧
    (∃ (s : State) (h : FabHdr) (b : PlaceBody) (x : _) (p : _), (Instr.fabPktPhasePlace h b).wf = true ∧
      Arrives s h (.phasePlace b) (b.rsvd ||| b.common.rsvd) ∧ b.pktIndex < 4096 ∧
      (got s h (.phasePlace b)).reassemble h b.pktIndex 0 b.data.length stOk b.data = .whole x ∧
      placementOf (ctxBody x) = some p ∧ placement ((got s h (.phasePlace b)).dropCtx h.src h.msgId) p = stOk ∧
      ((got s h (.phasePlace b)).dropCtx h.src h.msgId).holdsVersion p.collar.part p.collar.adapter p.collar.adapterVer = false) ∧
    (∃ (s : State) (h : FabHdr) (b : PlaceBody) (x : _) (p : _), (Instr.fabPktPhasePlace h b).wf = true ∧
      Arrives s h (.phasePlace b) (b.rsvd ||| b.common.rsvd) ∧ b.pktIndex < 4096 ∧
      (got s h (.phasePlace b)).reassemble h b.pktIndex 0 b.data.length stOk b.data = .whole x ∧
      placementOf (ctxBody x) = some p ∧ placement ((got s h (.phasePlace b)).dropCtx h.src h.msgId) p = stPartFull) ∧
    (∃ (s : State) (h : FabHdr) (b : PhaseCtrlBody) (q : Seq), (Instr.fabPktPhaseCtrl h b).wf = true ∧
      Arrives s h (.phaseCtrl b) (ctrlRsvd b) ∧
      (∀ m ∈ (got s h (.phaseCtrl b)).work.src, m.requestId = b.common.requestId → m.state ≠ 4) ∧ b.action = 0 ∧
      (got s h (.phaseCtrl b)).seq b.common.requestId = some q ∧ precedes 16 b.common.placement q.placement = false ∧
      ¬ (statusOf b.status = stAborted ∧ (got s h (.phaseCtrl b)).cancelWaits q = true)) ∧
    (∃ (s : State) (h : FabHdr) (b : PhaseCtrlBody) (q : Seq), (Instr.fabPktPhaseCtrl h b).wf = true ∧
      Arrives s h (.phaseCtrl b) (ctrlRsvd b) ∧
      (∀ m ∈ (got s h (.phaseCtrl b)).work.src, m.requestId = b.common.requestId → m.state ≠ 4) ∧ b.action = 0 ∧
      (got s h (.phaseCtrl b)).seq b.common.requestId = some q ∧ precedes 16 b.common.placement q.placement = false ∧
      statusOf b.status = stAborted ∧ (got s h (.phaseCtrl b)).cancelWaits q = true) ∧
    (∃ (s : State) (h : FabHdr) (b : PhaseCtrlBody) (q : Seq), (Instr.fabPktPhaseCtrl h b).wf = true ∧
      Arrives s h (.phaseCtrl b) (ctrlRsvd b) ∧
      (∀ m ∈ (got s h (.phaseCtrl b)).work.src, m.requestId = b.common.requestId → m.state ≠ 4) ∧ b.action = 0 ∧
      (got s h (.phaseCtrl b)).seq b.common.requestId = some q ∧ precedes 16 b.common.placement q.placement = true) ∧
    (∃ (s : State) (h : FabHdr) (b : PhaseCtrlBody) (q : Seq), (Instr.fabPktPhaseCtrl h b).wf = true ∧
      Arrives s h (.phaseCtrl b) (ctrlRsvd b) ∧
      (∀ m ∈ (got s h (.phaseCtrl b)).work.src, m.requestId = b.common.requestId → m.state ≠ 4) ∧ b.action = 1 ∧
      (got s h (.phaseCtrl b)).seq b.common.requestId = some q ∧ q.running = true) ∧
    (∃ (s : State) (h : FabHdr) (b : PhaseCtrlBody) (m : MoveSrc), (Instr.fabPktPhaseCtrl h b).wf = true ∧
      Arrives s h (.phaseCtrl b) (ctrlRsvd b) ∧
      (∀ m ∈ (got s h (.phaseCtrl b)).work.src, m.requestId = b.common.requestId → m.state ≠ 4) ∧ 2 ≤ b.action ∧
      (got s h (.phaseCtrl b)).moveSrc b.common.requestId = some m) :=
  ⟨⟨live, (zf 0x20 64), { zPlaceBody with pktIndex := 4096 }, by decide +kernel⟩,
    ⟨(liveWith fun c => { c with rma := { c.rma with ctxs := [{ zRmaCtx with src := 5, msgId := 3, kind := 0x20, bits := 1, count := 64 }] } }),
      (zf 0x20 64), zPlaceBody, by decide +kernel⟩,
    ⟨(liveWith fun c => { c with rma := { c.rma with ctxs := List.replicate 8192 zRmaCtx } }),
      { zf 0x20 64 with totalLen := 128, last := false }, zPlaceBody, by decide +kernel⟩,
    ⟨live, { zf 0x20 64 with totalLen := 128, last := false }, zPlaceBody,
      { zRmaCtx with src := 5, msgId := 3, kind := 0x20, bits := 1, count := 64 }, by decide +kernel⟩,
    ⟨live, (zf 0x20 64), zPlaceBody, { zRmaCtx with src := 5, msgId := 3, kind := 0x20, bits := 1, count := 64 },
      by decide +kernel⟩,
    ⟨serving, (zf 0x20 64),
      { zPlaceBody with data := placeBytes (placed { zCollarImg with requestId := 5, runs := [(0, false)] }) },
      { zRmaCtx with src := 5, msgId := 3, kind := 0x20, bits := 1, count := 64, buf := [(0, placeBytes (placed { zCollarImg with requestId := 5, runs := [(0, false)] }))], bytes := (placeBytes (placed { zCollarImg with requestId := 5, runs := [(0, false)] })).length },
      (placed { zCollarImg with requestId := 5, runs := [(0, false)] }), by decide +kernel⟩,
    ⟨serving, (zf 0x20 64),
      { zPlaceBody with data := placeBytes (placed { zCollarImg with requestId := 5, runs := [(0, false)], adapterVer := 3 }) },
      { zRmaCtx with src := 5, msgId := 3, kind := 0x20, bits := 1, count := 64, buf := [(0, placeBytes (placed { zCollarImg with requestId := 5, runs := [(0, false)], adapterVer := 3 }))], bytes := (placeBytes (placed { zCollarImg with requestId := 5, runs := [(0, false)], adapterVer := 3 })).length },
      (placed { zCollarImg with requestId := 5, runs := [(0, false)], adapterVer := 3 }), by decide +kernel⟩,
    ⟨(working fun w => { w with slotWait := [8] }), (zf 0x20 64),
      { zPlaceBody with data := placeBytes (placed { zCollarImg with requestId := 5, runs := [(0, false)] }) },
      { zRmaCtx with src := 5, msgId := 3, kind := 0x20, bits := 1, count := 64, buf := [(0, placeBytes (placed { zCollarImg with requestId := 5, runs := [(0, false)] }))], bytes := (placeBytes (placed { zCollarImg with requestId := 5, runs := [(0, false)] })).length },
      (placed { zCollarImg with requestId := 5, runs := [(0, false)] }), by decide +kernel⟩,
    ⟨(working fun w => { w with seqs := [{ zSeq with requestId := 5, anchor := 5, placement := 1 }] }), (zf 0x22 64),
      { zPhaseCtrlBody with common := { zMoveCommon with requestId := 5, placement := 1 }, action := 0 },
      { zSeq with requestId := 5, anchor := 5, placement := 1 }, by decide +kernel⟩,
    ⟨(working fun w => { w with seqs := [{ zSeq with requestId := 5, anchor := 5, placement := 1, running := true, recompute := true }], steps := [{ zStep with segs := [{ zSeg with requestId := 5, work := .recompute }] }] }),
      (zf 0x22 64),
      { zPhaseCtrlBody with common := { zMoveCommon with requestId := 5, placement := 1 }, action := 0, status := stAborted },
      { zSeq with requestId := 5, anchor := 5, placement := 1, running := true, recompute := true },
      by decide +kernel⟩,
    ⟨(working fun w => { w with seqs := [{ zSeq with requestId := 5, anchor := 5, placement := 1 }] }), (zf 0x22 64),
      { zPhaseCtrlBody with common := { zMoveCommon with requestId := 5, placement := 0 }, action := 0 },
      { zSeq with requestId := 5, anchor := 5, placement := 1 }, by decide +kernel⟩,
    ⟨(working fun w => { w with seqs := [{ zSeq with requestId := 5, anchor := 5, placement := 1, running := true }] }),
      (zf 0x22 64),
      { zPhaseCtrlBody with common := { zMoveCommon with requestId := 5, placement := 1 }, action := 1 },
      { zSeq with requestId := 5, anchor := 5, placement := 1, running := true }, by decide +kernel⟩,
    ⟨(working fun w => { w with src := [{ zMoveSrc with requestId := 5, moveId := 9, dest := 5, placement := 1, state := 1 }] }),
      (zf 0x22 64),
      { zPhaseCtrlBody with common := { zMoveCommon with requestId := 5, placement := 1 }, action := 2 },
      { zMoveSrc with requestId := 5, moveId := 9, dest := 5, placement := 1, state := 1 }, by decide +kernel⟩⟩

theorem witness_phaseReports :
    (∃ (s : State) (h : FabHdr) (b : ReportBody), (Instr.fabPktPhaseReport h b).wf = true ∧
      Arrives s h (.phaseReport b) (reportRsvd b) ∧ (got s h (.phaseReport b)).collar b.common.requestId = none ∧
      (b.kind = 0 ∨ b.kind = 1 ∨ b.kind = 6)) ∧
    (∃ (s : State) (h : FabHdr) (b : ReportBody) (k : Collar), (Instr.fabPktPhaseReport h b).wf = true ∧
      Arrives s h (.phaseReport b) (reportRsvd b) ∧ (got s h (.phaseReport b)).collar b.common.requestId = some k ∧
      k.img.placement ≠ b.common.placement ∧ 1 < b.kind ∧ b.kind < 6) ∧
    (∃ (s : State) (h : FabHdr) (b : ReportBody) (k : Collar), (Instr.fabPktPhaseReport h b).wf = true ∧
      Arrives s h (.phaseReport b) (reportRsvd b) ∧ (got s h (.phaseReport b)).collar b.common.requestId = some k ∧
      k.img.placement = b.common.placement ∧ (k.img.lcState = lcPaused ∨ k.img.lcState = lcEnded) ∧
      (b.kind = 0 ∨ b.kind = 1 ∨ b.kind = 6)) ∧
    (∃ (s : State) (h : FabHdr) (b : ReportBody) (k : Collar), (Instr.fabPktPhaseReport h b).wf = true ∧
      Arrives s h (.phaseReport b) (reportRsvd b) ∧ (got s h (.phaseReport b)).collar b.common.requestId = some k ∧
      k.img.placement = b.common.placement ∧ k.img.lcState < lcPaused ∧ k.place.waiting = true ∧
      k.place.node = some h.src ∧ h.src ≠ (got s h (.phaseReport b)).deviceId ∧ k.pausing = false ∧ b.kind = 0 ∧
      b.status = stBusy) ∧
    (∃ (s : State) (h : FabHdr) (b : ReportBody) (k : Collar), (Instr.fabPktPhaseReport h b).wf = true ∧
      Arrives s h (.phaseReport b) (reportRsvd b) ∧ (got s h (.phaseReport b)).collar b.common.requestId = some k ∧
      k.img.placement = b.common.placement ∧ k.img.lcState < lcPaused ∧ k.place.waiting = true ∧
      k.place.node = some h.src ∧ b.kind = 5 ∧ (statusOf b.status) = stBusy) :=
  ⟨⟨serving, (zf 0x21 64),
    { zReportBody with common := { zMoveCommon with requestId := 5, placement := 1, moveId := 9 } },
    by decide +kernel⟩,
    ⟨(servingWith [{ zCollar with img := { zCollarImg with requestId := 5, placement := 2 } }]), (zf 0x21 64),
      { zReportBody with common := { zMoveCommon with requestId := 5, placement := 1, moveId := 9 }, kind := 2 },
      { zCollar with img := { zCollarImg with requestId := 5, placement := 2 } }, by decide +kernel⟩,
    ⟨(servingWith [{ zCollar with img := { zCollarImg with requestId := 5, placement := 1, lcState := 4 } }]),
      (zf 0x21 64), { zReportBody with common := { zMoveCommon with requestId := 5, placement := 1, moveId := 9 } },
      { zCollar with img := { zCollarImg with requestId := 5, placement := 1, lcState := 4 } }, by decide +kernel⟩,
    ⟨(servingWith [{ zCollar with img := { zCollarImg with requestId := 5, placement := 1 }, place := { zPlaceRec with waiting := true, node := some 5 } }]),
      (zf 0x21 64),
      { zReportBody with common := { zMoveCommon with requestId := 5, placement := 1, moveId := 9 }, status := 1 },
      { zCollar with img := { zCollarImg with requestId := 5, placement := 1 }, place := { zPlaceRec with waiting := true, node := some 5 } },
      by decide +kernel⟩,
    ⟨(servingWith [{ zCollar with img := { zCollarImg with requestId := 5, placement := 1 }, place := { zPlaceRec with waiting := true, node := some 5 } }]),
      (zf 0x21 64),
      { zReportBody with common := { zMoveCommon with requestId := 5, placement := 1, moveId := 9 }, status := 1, kind := 5 },
      { zCollar with img := { zCollarImg with requestId := 5, placement := 1 }, place := { zPlaceRec with waiting := true, node := some 5 } },
      by decide +kernel⟩⟩

theorem witness_moveAtTheSource :
    (∃ (s : State) (h : FabHdr) (b : MoveReplyBody) (m : MoveSrc), (Instr.fabPktMoveReply h b).wf = true ∧
      Arrives s h (.moveReply b) (regionRsvd b.rxRegion (b.rsvd ||| b.common.rsvd) true) ∧
      (got s h (.moveReply b)).work.src.find? (fun m => m.moveId == b.common.moveId && m.dest == h.src) = some m ∧
      m.state = 1 ∧ statusOf b.status = stOk) ∧
    (∃ (s : State) (h : FabHdr) (b : MoveReplyBody) (m : MoveSrc), (Instr.fabPktMoveReply h b).wf = true ∧
      Arrives s h (.moveReply b) (regionRsvd b.rxRegion (b.rsvd ||| b.common.rsvd) true) ∧
      (got s h (.moveReply b)).work.src.find? (fun m => m.moveId == b.common.moveId && m.dest == h.src) = some m ∧
      m.state = 1 ∧ statusOf b.status ≠ stOk) ∧
    (∃ (s : State) (req : Nat) (m : MoveSrc), (Instr.moveDataSent req).wf = true ∧ s.chip.moveSrc req = some m ∧
      m.state = 2 ∧ m.ready = true ∧ m.acked = true ∧ (s.chip.moveWrite m [(0, s.chip.moveHead m)]).1 = true) ∧
    (∃ (s : State) (h : FabHdr) (b : MoveAckBody) (m : MoveSrc), (Instr.fabPktMoveAck h b).wf = true ∧
      Arrives s h (.moveAck b) (b.rsvd ||| b.common.rsvd) ∧
      (got s h (.moveAck b)).work.src.find? (fun m => m.moveId == b.common.moveId && m.dest == h.src) = some m ∧
      m.state = 4) ∧
    (∃ (s : State) (h : FabHdr) (b : MoveAckBody) (m : MoveSrc), (Instr.fabPktMoveAck h b).wf = true ∧
      Arrives s h (.moveAck b) (b.rsvd ||| b.common.rsvd) ∧
      (got s h (.moveAck b)).work.src.find? (fun m => m.moveId == b.common.moveId && m.dest == h.src) = some m ∧
      m.state = 3 ∧ m.kind ≠ 0) ∧
    (∃ (s : State) (h : FabHdr) (b : MoveBareBody), (Instr.fabPktMoveQuery h b).wf = true ∧
      Arrives s h (.moveQuery b) (b.rsvd ||| b.common.rsvd) ∧
      (got s h (.moveQuery b)).migQuery h b.common.moveId = none ∧
      (got s h (.moveQuery b)).work.src.find? (fun m => m.moveId == b.common.moveId && m.dest == h.src) = none) ∧
    (∃ (s : State) (h : FabHdr) (b : MoveBareBody) (m : MoveSrc), (Instr.fabPktMoveQuery h b).wf = true ∧
      Arrives s h (.moveQuery b) (b.rsvd ||| b.common.rsvd) ∧
      (got s h (.moveQuery b)).migQuery h b.common.moveId = none ∧
      (got s h (.moveQuery b)).work.src.find? (fun m => m.moveId == b.common.moveId && m.dest == h.src) = some m ∧
      m.state = 4) ∧
    (∃ (s : State) (h : FabHdr) (b : MoveBareBody) (m : MoveSrc), (Instr.fabPktMoveQuery h b).wf = true ∧
      Arrives s h (.moveQuery b) (b.rsvd ||| b.common.rsvd) ∧
      (got s h (.moveQuery b)).migQuery h b.common.moveId = none ∧
      (got s h (.moveQuery b)).work.src.find? (fun m => m.moveId == b.common.moveId && m.dest == h.src) = some m ∧
      m.state ≠ 4) :=
  ⟨⟨(working fun w => { w with src := [{ zMoveSrc with requestId := 5, moveId := 9, dest := 5, placement := 1, state := 1 }] }),
    (zf 0x29 64), { zMoveReplyBody with common := { zMoveCommon with requestId := 5, placement := 1, moveId := 9 } },
    { zMoveSrc with requestId := 5, moveId := 9, dest := 5, placement := 1, state := 1 }, by decide +kernel⟩,
    ⟨(working fun w => { w with src := [{ zMoveSrc with requestId := 5, moveId := 9, dest := 5, placement := 1, state := 1 }] }),
      (zf 0x29 64),
      { zMoveReplyBody with common := { zMoveCommon with requestId := 5, placement := 1, moveId := 9 }, status := 1 },
      { zMoveSrc with requestId := 5, moveId := 9, dest := 5, placement := 1, state := 1 }, by decide +kernel⟩,
    ⟨(onChip (working fun w => { w with seqs := [{ zSeq with requestId := 5, anchor := 5, placement := 1 }], src := [{ zMoveSrc with requestId := 5, moveId := 9, dest := 5, placement := 1, state := 2, ready := true, acked := true, kind := 1, region := 3 }] }) granted),
      5,
      { zMoveSrc with requestId := 5, moveId := 9, dest := 5, placement := 1, state := 2, ready := true, acked := true, kind := 1, region := 3 },
      by decide +kernel⟩,
    ⟨(working fun w => { w with src := [{ zMoveSrc with requestId := 5, moveId := 9, dest := 5, placement := 1, state := 4 }] }),
      (zf 0x2A 64), { zMoveAckBody with common := { zMoveCommon with requestId := 5, placement := 1, moveId := 9 } },
      { zMoveSrc with requestId := 5, moveId := 9, dest := 5, placement := 1, state := 4 }, by decide +kernel⟩,
    ⟨(working fun w => { w with src := [{ zMoveSrc with requestId := 5, moveId := 9, dest := 5, placement := 1, state := 3, kind := 1 }] }),
      (zf 0x2A 64), { zMoveAckBody with common := { zMoveCommon with requestId := 5, placement := 1, moveId := 9 } },
      { zMoveSrc with requestId := 5, moveId := 9, dest := 5, placement := 1, state := 3, kind := 1 },
      by decide +kernel⟩,
    ⟨serving, (zf 0x2D 64),
      { zMoveBareBody with common := { zMoveCommon with requestId := 5, placement := 1, moveId := 9 } },
      by decide +kernel⟩,
    ⟨(working fun w => { w with src := [{ zMoveSrc with requestId := 5, moveId := 9, dest := 5, placement := 1, state := 4 }] }),
      (zf 0x2D 64),
      { zMoveBareBody with common := { zMoveCommon with requestId := 5, placement := 1, moveId := 9 } },
      { zMoveSrc with requestId := 5, moveId := 9, dest := 5, placement := 1, state := 4 }, by decide +kernel⟩,
    ⟨(working fun w => { w with src := [{ zMoveSrc with requestId := 5, moveId := 9, dest := 5, placement := 1, state := 1 }] }),
      (zf 0x2D 64),
      { zMoveBareBody with common := { zMoveCommon with requestId := 5, placement := 1, moveId := 9 } },
      { zMoveSrc with requestId := 5, moveId := 9, dest := 5, placement := 1, state := 1 }, by decide +kernel⟩⟩

theorem witness_moveAtTheDestination :
    (∃ (s : State) (h : FabHdr) (b : OfferBody) (p : _) (n : _) (dr : _) (r : _) (o : _), (Instr.fabPktMoveOffer h b).wf = true ∧
      Arrives s h (.moveOffer b) (offerRsvd b) ∧ (got s h (.moveOffer b)).offerPart h b = (stOk, p) ∧
      (got s h (.moveOffer b)).offerShape p b = some (n, dr) ∧ (got s h (.moveOffer b)).moveWindow p = some r ∧
      (got s h (.moveOffer b)).carveRange r (slotsStart n b.pages + b.pages * (got s h (.moveOffer b)).slotSize p) = some o) ∧
    (∃ (s : State) (h : FabHdr) (b : OfferBody) (st : _) (p : _), (Instr.fabPktMoveOffer h b).wf = true ∧
      Arrives s h (.moveOffer b) (offerRsvd b) ∧ (got s h (.moveOffer b)).offerPart h b = (st, p) ∧ st ≠ stOk ∧
      st ≠ stPartFull) ∧
    (∃ (s : State) (h : FabHdr) (b : MoveBareBody) (d : MoveDst), (Instr.fabPktMoveCommit h b).wf = true ∧
      Arrives s h (.moveCommit b) (b.rsvd ||| b.common.rsvd) ∧
      (got s h (.moveCommit b)).moveDst h.src b.common.moveId = some d ∧ d.state = 2) ∧
    (∃ (s : State) (h : FabHdr) (b : MoveAbortBody) (d : MoveDst), (Instr.fabPktMoveAbort h b).wf = true ∧
      Arrives s h (.moveAbort b) (b.rsvd ||| b.common.rsvd) ∧
      (got s h (.moveAbort b)).moveDst h.src b.common.moveId = some d) ∧
    (∃ (s : State) (h : FabHdr) (b : MoveAnswerBody) (d : MoveDst), (Instr.fabPktMoveAnswer h b).wf = true ∧
      Arrives s h (.moveAnswer b) (answerRsvd b) ∧ (got s h (.moveAnswer b)).moveDst h.src b.common.moveId = some d ∧
      (b.answer = 2 ∨ d.state = 2)) ∧
    (∃ (s : State) (h : FabHdr) (b : MovePullBody) (t : _) (c' : _), (Instr.fabPktMovePull h b).wf = true ∧
      Arrives s h (.movePull b) (b.rsvd ||| b.common.rsvd) ∧
      (got s h (.movePull b)).stored? b.common.requestId = some t ∧ (got s h (.movePull b)).storedOk t = true ∧
      (got s h (.movePull b)).moveSrc b.common.requestId = none ∧
      (got s h (.movePull b)).startMove t.seq 2 b.common.placement t.seq.c t.pages.length ((got s h (.movePull b)).ttlLeft t.seq) [h.src] = some c') ∧
    (∃ (s : State) (h : FabHdr) (b : MovePullBody), (Instr.fabPktMovePull h b).wf = true ∧
      Arrives s h (.movePull b) (b.rsvd ||| b.common.rsvd) ∧
      (got s h (.movePull b)).heldSleeve b.common.requestId = none) :=
  ⟨⟨(onChip (working fun w => { w with seqs := [{ zSeq with requestId := 5, anchor := 5, placement := 1 }], pulls := [{ zPull with requestId := 5, placement := 1, holder := 5 }] }) windowed),
    (zf 0x28 64),
    { zOfferBody with common := { zMoveCommon with requestId := 5, placement := 1, moveId := 9 }, kind := 2 }, 0, 0,
    false, 0, 0, by decide +kernel⟩,
    ⟨serving, (zf 0x28 64),
      { zOfferBody with common := { zMoveCommon with requestId := 5, placement := 1, moveId := 9 }, kind := 2 },
      stUnsupported, 0, by decide +kernel⟩,
    ⟨(working fun w => { w with dst := [{ zMoveDst with source := 5, moveId := 9, state := 2 }] }), (zf 0x2B 64),
      { zMoveBareBody with common := { zMoveCommon with requestId := 5, placement := 1, moveId := 9 } },
      { zMoveDst with source := 5, moveId := 9, state := 2 }, by decide +kernel⟩,
    ⟨(working fun w => { w with dst := [{ zMoveDst with source := 5, moveId := 9, state := 1 }] }), (zf 0x2C 64),
      { zMoveAbortBody with common := { zMoveCommon with requestId := 5, placement := 1, moveId := 9 } },
      { zMoveDst with source := 5, moveId := 9, state := 1 }, by decide +kernel⟩,
    ⟨(working fun w => { w with dst := [{ zMoveDst with source := 5, moveId := 9, state := 2 }] }), (zf 0x2E 64),
      { zMoveAnswerBody with common := { zMoveCommon with requestId := 5, placement := 1, moveId := 9 } },
      { zMoveDst with source := 5, moveId := 9, state := 2 }, by decide +kernel⟩,
    ⟨(working fun w => { w with stored := [{ zStored with seq := { zSeq with requestId := 5, anchor := 5, placement := 1 } }] }),
      (zf 0x2F 64),
      { zMovePullBody with common := { zMoveCommon with requestId := 5, placement := 1, moveId := 9 } },
      { zStored with seq := { zSeq with requestId := 5, anchor := 5, placement := 1 } },
      (((got (working fun w => { w with stored := [{ zStored with seq := { zSeq with requestId := 5, anchor := 5, placement := 1 } }] }) (zf 0x2F 64) (.movePull { zMovePullBody with common := { zMoveCommon with requestId := 5, placement := 1, moveId := 9 } })).startMove { zSeq with requestId := 5, anchor := 5, placement := 1 } 2 1 0 0 ((got (working fun w => { w with stored := [{ zStored with seq := { zSeq with requestId := 5, anchor := 5, placement := 1 } }] }) (zf 0x2F 64) (.movePull { zMovePullBody with common := { zMoveCommon with requestId := 5, placement := 1, moveId := 9 } })).ttlLeft { zSeq with requestId := 5, anchor := 5, placement := 1 }) [5]).getD .init),
      by decide +kernel⟩,
    ⟨serving, (zf 0x2F 64),
      { zMovePullBody with common := { zMoveCommon with requestId := 5, placement := 1, moveId := 9 } },
      by decide +kernel⟩⟩

theorem witness_moveAndRequestTimers :
    (∃ (s : State) (req : Nat) (m : MoveSrc), (Instr.moveOfferWait req).wf = true ∧ s.chip.collar req = none ∧
      s.chip.moveSrc req = some m ∧ m.state = 1) ∧
    (∃ (s : State) (req : Nat) (k : Collar), (Instr.moveOfferWait req).wf = true ∧ s.chip.collar req = some k ∧
      k.place.waiting = true ∧ (s.chip.placeRefused k.nextPlacement).moveSrc req = none) ∧
    (∃ (s : State) (id : Nat) (m : MoveSrc), (Instr.moveAckWait id).wf = true ∧
      s.chip.work.src.find? (fun m => m.moveId == id) = some m ∧ m.state = 3) ∧
    (∃ (s : State) (src : Nat) (id : Nat) (d : MoveDst), (Instr.moveCommitWait src id).wf = true ∧
      s.chip.moveDst src id = some d ∧ d.queries < 4) ∧
    (∃ (s : State) (src : Nat) (id : Nat) (d : MoveDst), (Instr.moveCommitWait src id).wf = true ∧
      s.chip.moveDst src id = some d ∧ 4 ≤ d.queries) ∧
    (∃ (s : State) (id : Nat) (m : MoveSrc), (Instr.moveRecordExpires id).wf = true ∧
      s.chip.work.src.find? (fun m => m.moveId == id) = some m ∧ m.state = 4) ∧
    (∃ (s : State) (id : Nat) (m : MoveSrc), (Instr.moveRecordExpires id).wf = true ∧
      s.chip.work.src.find? (fun m => m.moveId == id) = some m ∧ m.state ≠ 4) ∧
    (∃ (s : State) (req : Nat) (q : Seq) (c : _), (Instr.localMoveCompletes req).wf = true ∧
      s.chip.seq req = some q ∧ s.chip.moveSrc req = none ∧ q.phase = .hold ∧ s.chip.storeLocal q = some c) ∧
    (∃ (s : State) (req : Nat) (q : Seq), (Instr.localMoveCompletes req).wf = true ∧ s.chip.seq req = some q ∧
      s.chip.moveSrc req = none ∧ q.phase = .hold ∧ s.chip.storeLocal q = none) ∧
    (∃ (s : State) (req : Nat) (q : Seq) (st : Stored), (Instr.localMoveCompletes req).wf = true ∧
      s.chip.seq req = some q ∧ q.phase = .restoring ∧ s.chip.stored? req = some st ∧
      s.chip.work.pulls.any (fun p => p.requestId == req) = false) ∧
    (∃ (s : State) (req : Nat) (q : Seq), (Instr.phaseReportInterval req).wf = true ∧ s.chip.seq req = some q ∧
      q.anchor ≠ s.chip.deviceId ∧ q.progress = true) ∧
    (∃ (s : State) (req : Nat) (q : Seq), (Instr.phaseReportInterval req).wf = true ∧ s.chip.seq req = some q ∧
      q.anchor ≠ s.chip.deviceId ∧ beatStatus q = stBusy) ∧
    (∃ (s : State) (req : Nat) (k : Collar) (d : Nat), (Instr.decodeSilenceLimit req).wf = true ∧
      s.chip.collar req = some k ∧ k.silence = true ∧ k.img.lcState ≤ lcDecode ∧ k.place.node = some d ∧
      k.img.lcState = lcDecode) ∧
    (∃ (s : State) (req : Nat) (k : Collar) (d : Nat), (Instr.decodeSilenceLimit req).wf = true ∧
      s.chip.collar req = some k ∧ k.silence = true ∧ k.img.lcState ≤ lcDecode ∧ k.place.node = some d ∧
      k.img.lcState ≠ lcDecode) ∧
    (∃ (s : State) (req : Nat) (q : Seq), (Instr.restoreMs req).wf = true ∧ s.chip.seq req = some q ∧
      q.phase = .restoring ∧ s.chip.work.pulls.find? (fun p => p.requestId == req) = none) ∧
    (∃ (s : State) (req : Nat) (q : Seq), (Instr.restoreMs req).wf = true ∧ s.chip.seq req = some q ∧
      q.phase ≠ .restoring ∧ q.swapped.any (fun x => x.reading) = true) ∧
    (∃ (s : State) (req : Nat) (t : Stored), (Instr.ttlFull req).wf = true ∧ s.chip.stored? req = some t ∧
      s.chip.moveSrc req = none) :=
  ⟨⟨(working fun w => { w with src := [{ zMoveSrc with requestId := 5, moveId := 9, dest := 5, placement := 1, state := 1 }] }),
    5, { zMoveSrc with requestId := 5, moveId := 9, dest := 5, placement := 1, state := 1 }, by decide +kernel⟩,
    ⟨(servingWith [{ zCollar with img := { zCollarImg with requestId := 5, placement := 1 }, place := { zPlaceRec with waiting := true, node := some 5 } }]),
      5,
      { zCollar with img := { zCollarImg with requestId := 5, placement := 1 }, place := { zPlaceRec with waiting := true, node := some 5 } },
      by decide +kernel⟩,
    ⟨(working fun w => { w with src := [{ zMoveSrc with requestId := 5, moveId := 9, dest := 5, placement := 1, state := 3 }] }),
      9, { zMoveSrc with requestId := 5, moveId := 9, dest := 5, placement := 1, state := 3 }, by decide +kernel⟩,
    ⟨(working fun w => { w with dst := [{ zMoveDst with source := 5, moveId := 9 }] }), 5, 9,
      { zMoveDst with source := 5, moveId := 9 }, by decide +kernel⟩,
    ⟨(working fun w => { w with dst := [{ zMoveDst with source := 5, moveId := 9, queries := 4 }] }), 5, 9,
      { zMoveDst with source := 5, moveId := 9, queries := 4 }, by decide +kernel⟩,
    ⟨(working fun w => { w with src := [{ zMoveSrc with requestId := 5, moveId := 9, dest := 5, placement := 1, state := 4 }] }),
      9, { zMoveSrc with requestId := 5, moveId := 9, dest := 5, placement := 1, state := 4 }, by decide +kernel⟩,
    ⟨(working fun w => { w with src := [{ zMoveSrc with requestId := 5, moveId := 9, dest := 5, placement := 1, state := 3 }] }),
      9, { zMoveSrc with requestId := 5, moveId := 9, dest := 5, placement := 1, state := 3 }, by decide +kernel⟩,
    ⟨(onChip (working fun w => { w with seqs := [{ zSeq with requestId := 5, anchor := 5, placement := 1, phase := .hold }] }) stores),
      5, { zSeq with requestId := 5, anchor := 5, placement := 1, phase := .hold },
      (((onChip (working fun w => { w with seqs := [{ zSeq with requestId := 5, anchor := 5, placement := 1, phase := .hold }] }) stores).chip.storeLocal { zSeq with requestId := 5, anchor := 5, placement := 1, phase := .hold }).getD .init),
      by decide +kernel⟩,
    ⟨(working fun w => { w with seqs := [{ zSeq with requestId := 5, anchor := 5, placement := 1, phase := .hold }] }),
      5, { zSeq with requestId := 5, anchor := 5, placement := 1, phase := .hold }, by decide +kernel⟩,
    ⟨(working fun w => { w with seqs := [{ zSeq with requestId := 5, anchor := 5, placement := 1, phase := .restoring }], stored := [{ zStored with seq := { zSeq with requestId := 5, anchor := 5, placement := 1 } }] }),
      5, { zSeq with requestId := 5, anchor := 5, placement := 1, phase := .restoring },
      { zStored with seq := { zSeq with requestId := 5, anchor := 5, placement := 1 } }, by decide +kernel⟩,
    ⟨(working fun w => { w with seqs := [{ zSeq with requestId := 5, anchor := 5, placement := 1, progress := true }] }),
      5, { zSeq with requestId := 5, anchor := 5, placement := 1, progress := true }, by decide +kernel⟩,
    ⟨(working fun w => { w with seqs := [{ zSeq with requestId := 5, anchor := 5, placement := 1, running := true }] }),
      5, { zSeq with requestId := 5, anchor := 5, placement := 1, running := true }, by decide +kernel⟩,
    ⟨(servingWith [{ zCollar with img := { zCollarImg with requestId := 5, placement := 1, lcState := lcDecode }, silence := true, place := { zPlaceRec with node := some 5 } }]),
      5,
      { zCollar with img := { zCollarImg with requestId := 5, placement := 1, lcState := lcDecode }, silence := true, place := { zPlaceRec with node := some 5 } },
      5, by decide +kernel⟩,
    ⟨(servingWith [{ zCollar with img := { zCollarImg with requestId := 5, placement := 1 }, silence := true, place := { zPlaceRec with node := some 5 } }]),
      5,
      { zCollar with img := { zCollarImg with requestId := 5, placement := 1 }, silence := true, place := { zPlaceRec with node := some 5 } },
      5, by decide +kernel⟩,
    ⟨(working fun w => { w with seqs := [{ zSeq with requestId := 5, anchor := 5, placement := 1, phase := .restoring }] }),
      5, { zSeq with requestId := 5, anchor := 5, placement := 1, phase := .restoring }, by decide +kernel⟩,
    ⟨(working fun w => { w with seqs := [{ zSeq with requestId := 5, anchor := 5, placement := 1, swapped := [{ zSwapPage with reading := true }] }] }),
      5, { zSeq with requestId := 5, anchor := 5, placement := 1, swapped := [{ zSwapPage with reading := true }] },
      by decide +kernel⟩,
    ⟨(working fun w => { w with stored := [{ zStored with seq := { zSeq with requestId := 5, anchor := 5, placement := 1 } }] }),
      5, { zStored with seq := { zSeq with requestId := 5, anchor := 5, placement := 1 } }, by decide +kernel⟩⟩

end Sys2Proof.Tests
end

