-- ==== Sys2Proof/Tests/WitnessesB.lean ====
section
/-!
SUPPORT. For each clause of each statement, a state and operands that meet its hypotheses together (part 2).
-/
namespace Sys2Proof.Tests
open Sys2Proof.Machine
set_option linter.unusedVariables false
set_option maxRecDepth 8000
set_option Elab.async false

theorem witness_stepsStart :
    (∃ (s : State) (p : Nat) (eng : Nat), (Instr.stepLaunch p eng).wf = true ∧ s.chip.partRefusal p = stOk ∧
      s.chip.role ≠ 3 ∧ s.chip.refitDue p = false) ∧
    (∃ (s : State) (p : Nat) (eng : Nat), (Instr.stepLaunch p eng).wf = true ∧ s.chip.partRefusal p ≠ stOk) ∧
    (∃ (s : State) (req : Nat) (q : Seq), (Instr.selfPauseRetry req).wf = true ∧ s.chip.seq req = some q ∧
      q.paused = true ∧ q.swapped ≠ []) ∧
    (∃ (s : State) (req : Nat) (q : Seq) (r : _) (q' : _) (c' : _), (Instr.selfPauseRetry req).wf = true ∧
      s.chip.seq req = some q ∧ q.paused = true ∧ q.swapped = [] ∧
      ((if q.recompute && !q.started then s.chip.startRecompute q else s.chip).seq req).filter (fun q => q.phase == SeqPhase.prompt || q.phase == SeqPhase.decode) = some r ∧
      (if q.recompute && !q.started then s.chip.startRecompute q else s.chip).grow r ((if q.recompute && !q.started then s.chip.startRecompute q else s.chip).workPages r) [] = (.got, q', c')) ∧
    (∃ (s : State) (req : Nat) (q : Seq) (r : _) (q' : _) (c' : _), (Instr.selfPauseRetry req).wf = true ∧
      s.chip.seq req = some q ∧ q.paused = true ∧ q.swapped = [] ∧
      ((if q.recompute && !q.started then s.chip.startRecompute q else s.chip).seq req).filter (fun q => q.phase == SeqPhase.prompt || q.phase == SeqPhase.decode) = some r ∧
      (if q.recompute && !q.started then s.chip.startRecompute q else s.chip).grow r ((if q.recompute && !q.started then s.chip.startRecompute q else s.chip).workPages r) [] = (.alone, q', c')) ∧
    (∃ (s : State) (req : Nat) (q : Seq) (r : _) (res : _) (q' : _) (c' : _), (Instr.selfPauseRetry req).wf = true ∧
      s.chip.seq req = some q ∧ q.paused = true ∧ q.swapped = [] ∧
      ((if q.recompute && !q.started then s.chip.startRecompute q else s.chip).seq req).filter (fun q => q.phase == SeqPhase.prompt || q.phase == SeqPhase.decode) = some r ∧
      (if q.recompute && !q.started then s.chip.startRecompute q else s.chip).grow r ((if q.recompute && !q.started then s.chip.startRecompute q else s.chip).workPages r) [] = (res, q', c') ∧
      (res = .wait ∨ res = .short)) ∧
    (∃ (s : State) (req : Nat) (q : Seq), (Instr.selfPauseLimit req).wf = true ∧ s.chip.seq req = some q ∧
      q.paused = true) ∧
    (∃ (s : State) (req : Nat) (q : Seq), (Instr.selfPauseLimit req).wf = true ∧ s.chip.seq req = some q ∧
      q.paused = false) :=
  ⟨⟨serving, 0, 0, by decide +kernel⟩,
    ⟨live, 0, 0, by decide +kernel⟩,
    ⟨(working fun w => { w with seqs := [{ zSeq with requestId := 5, anchor := 5, placement := 1, paused := true, swapped := [zSwapPage] }] }),
      5, { zSeq with requestId := 5, anchor := 5, placement := 1, paused := true, swapped := [zSwapPage] },
      by decide +kernel⟩,
    ⟨(working fun w => { w with seqs := [{ zSeq with requestId := 5, anchor := 5, placement := 1, paused := true }] }),
      5, { zSeq with requestId := 5, anchor := 5, placement := 1, paused := true },
      { zSeq with requestId := 5, anchor := 5, placement := 1, paused := true },
      (((working fun w => { w with seqs := [{ zSeq with requestId := 5, anchor := 5, placement := 1, paused := true }] })).chip.grow { zSeq with requestId := 5, anchor := 5, placement := 1, paused := true } (((working fun w => { w with seqs := [{ zSeq with requestId := 5, anchor := 5, placement := 1, paused := true }] })).chip.workPages { zSeq with requestId := 5, anchor := 5, placement := 1, paused := true }) []).2.1,
      (((working fun w => { w with seqs := [{ zSeq with requestId := 5, anchor := 5, placement := 1, paused := true }] })).chip.grow { zSeq with requestId := 5, anchor := 5, placement := 1, paused := true } (((working fun w => { w with seqs := [{ zSeq with requestId := 5, anchor := 5, placement := 1, paused := true }] })).chip.workPages { zSeq with requestId := 5, anchor := 5, placement := 1, paused := true }) []).2.2,
      by decide +kernel⟩,
    ⟨(working fun w => { w with seqs := [{ zSeq with requestId := 5, anchor := 5, placement := 1, paused := true, phase := .decode, table := [zPosEnt] }], parts := { Part.init with base := some deepModel } :: List.replicate 15 .init }),
      5,
      { zSeq with requestId := 5, anchor := 5, placement := 1, paused := true, phase := .decode, table := [zPosEnt] },
      { zSeq with requestId := 5, anchor := 5, placement := 1, paused := true, phase := .decode, table := [zPosEnt] },
      (((working fun w => { w with seqs := [{ zSeq with requestId := 5, anchor := 5, placement := 1, paused := true, phase := .decode, table := [zPosEnt] }], parts := { Part.init with base := some deepModel } :: List.replicate 15 .init })).chip.grow { zSeq with requestId := 5, anchor := 5, placement := 1, paused := true, phase := .decode, table := [zPosEnt] } (((working fun w => { w with seqs := [{ zSeq with requestId := 5, anchor := 5, placement := 1, paused := true, phase := .decode, table := [zPosEnt] }], parts := { Part.init with base := some deepModel } :: List.replicate 15 .init })).chip.workPages { zSeq with requestId := 5, anchor := 5, placement := 1, paused := true, phase := .decode, table := [zPosEnt] }) []).2.1,
      (((working fun w => { w with seqs := [{ zSeq with requestId := 5, anchor := 5, placement := 1, paused := true, phase := .decode, table := [zPosEnt] }], parts := { Part.init with base := some deepModel } :: List.replicate 15 .init })).chip.grow { zSeq with requestId := 5, anchor := 5, placement := 1, paused := true, phase := .decode, table := [zPosEnt] } (((working fun w => { w with seqs := [{ zSeq with requestId := 5, anchor := 5, placement := 1, paused := true, phase := .decode, table := [zPosEnt] }], parts := { Part.init with base := some deepModel } :: List.replicate 15 .init })).chip.workPages { zSeq with requestId := 5, anchor := 5, placement := 1, paused := true, phase := .decode, table := [zPosEnt] }) []).2.2,
      by decide +kernel⟩,
    ⟨(working fun w => { w with seqs := [{ zSeq with requestId := 5, anchor := 5, placement := 1, paused := true, phase := .decode, table := [zPosEnt] }, { zSeq with requestId := 6, pages := [zPageRef] }], parts := { Part.init with base := some deepModel } :: List.replicate 15 .init }),
      5,
      { zSeq with requestId := 5, anchor := 5, placement := 1, paused := true, phase := .decode, table := [zPosEnt] },
      { zSeq with requestId := 5, anchor := 5, placement := 1, paused := true, phase := .decode, table := [zPosEnt] },
      .short,
      (((working fun w => { w with seqs := [{ zSeq with requestId := 5, anchor := 5, placement := 1, paused := true, phase := .decode, table := [zPosEnt] }, { zSeq with requestId := 6, pages := [zPageRef] }], parts := { Part.init with base := some deepModel } :: List.replicate 15 .init })).chip.grow { zSeq with requestId := 5, anchor := 5, placement := 1, paused := true, phase := .decode, table := [zPosEnt] } (((working fun w => { w with seqs := [{ zSeq with requestId := 5, anchor := 5, placement := 1, paused := true, phase := .decode, table := [zPosEnt] }, { zSeq with requestId := 6, pages := [zPageRef] }], parts := { Part.init with base := some deepModel } :: List.replicate 15 .init })).chip.workPages { zSeq with requestId := 5, anchor := 5, placement := 1, paused := true, phase := .decode, table := [zPosEnt] }) []).2.1,
      (((working fun w => { w with seqs := [{ zSeq with requestId := 5, anchor := 5, placement := 1, paused := true, phase := .decode, table := [zPosEnt] }, { zSeq with requestId := 6, pages := [zPageRef] }], parts := { Part.init with base := some deepModel } :: List.replicate 15 .init })).chip.grow { zSeq with requestId := 5, anchor := 5, placement := 1, paused := true, phase := .decode, table := [zPosEnt] } (((working fun w => { w with seqs := [{ zSeq with requestId := 5, anchor := 5, placement := 1, paused := true, phase := .decode, table := [zPosEnt] }, { zSeq with requestId := 6, pages := [zPageRef] }], parts := { Part.init with base := some deepModel } :: List.replicate 15 .init })).chip.workPages { zSeq with requestId := 5, anchor := 5, placement := 1, paused := true, phase := .decode, table := [zPosEnt] }) []).2.2,
      by decide +kernel⟩,
    ⟨(working fun w => { w with seqs := [{ zSeq with requestId := 5, anchor := 5, placement := 1, paused := true }] }),
      5, { zSeq with requestId := 5, anchor := 5, placement := 1, paused := true }, by decide +kernel⟩,
    ⟨(working fun w => { w with seqs := [{ zSeq with requestId := 5, anchor := 5, placement := 1 }] }), 5,
      { zSeq with requestId := 5, anchor := 5, placement := 1 }, by decide +kernel⟩⟩

theorem witness_tilesArrive :
    (∃ (s : State) (p : Nat) (sink : Nat) (tile : Tile) (hdrs : List W64) (tierError : Bool) (x : SrcCtx), (Instr.tileArrives p sink tile hdrs tierError).wf = true ∧
      s.chip.tileStream p tile.tag = some x ∧ x.freed.closed = false ∧ (x.pl.sinksOf x.s).contains sink = true ∧
      (x.freed.sink sink).withheld = none ∧ tile.tag.resetEpoch ≠ s.chip.domEpoch (x.t.srcDomain x.s)) ∧
    (∃ (s : State) (p : Nat) (sink : Nat) (tile : Tile) (hdrs : List W64) (tierError : Bool) (x : SrcCtx), (Instr.tileArrives p sink tile hdrs tierError).wf = true ∧
      s.chip.tileStream p tile.tag = some x ∧ x.freed.closed = false ∧ (x.pl.sinksOf x.s).contains sink = true ∧
      (x.freed.sink sink).withheld = none ∧ tile.tag.resetEpoch = s.chip.domEpoch (x.t.srcDomain x.s) ∧
      tile.tag.kind = .data ∧ (tile.tag.rows = 0 ∨ tile.tag.cols = 0)) ∧
    (∃ (s : State) (p : Nat) (sink : Nat) (tile : Tile) (hdrs : List W64) (tierError : Bool) (x : SrcCtx), (Instr.tileArrives p sink tile hdrs tierError).wf = true ∧
      s.chip.tileStream p tile.tag = some x ∧ x.freed.closed = false ∧ (x.pl.sinksOf x.s).contains sink = true ∧
      (x.freed.sink sink).withheld = none ∧ tile.tag.resetEpoch = s.chip.domEpoch (x.t.srcDomain x.s) ∧
      overCount x.s x.kv ((x.freed.sink sink).band tile.tag.band) tile.tag.kind = true) ∧
    (∃ (s : State) (p : Nat) (sink : Nat) (tile : Tile) (hdrs : List W64) (tierError : Bool) (x : SrcCtx), (Instr.tileArrives p sink tile hdrs tierError).wf = true ∧
      s.chip.tileStream p tile.tag = some x ∧ x.freed.closed = false ∧ (x.pl.sinksOf x.s).contains sink = true ∧
      (x.freed.sink sink).withheld = none ∧ x.refused (x.freed.sink sink) tile.tag = none ∧
      x.fired.sent sink (x.freed.sink sink) tile = none) ∧
    (∃ (s : State) (p : Nat) (sink : Nat) (tile : Tile) (hdrs : List W64) (tierError : Bool) (x : SrcCtx) (made : _), (Instr.tileArrives p sink tile hdrs tierError).wf = true ∧
      s.chip.tileStream p tile.tag = some x ∧ x.freed.closed = false ∧ (x.pl.sinksOf x.s).contains sink = true ∧
      (x.freed.sink sink).withheld = none ∧ x.refused (x.freed.sink sink) tile.tag = none ∧
      x.fired.sent sink (x.freed.sink sink) tile = some made ∧
      x.freed.maySend (x.freed.sink sink) made.tag.kind = false) ∧
    (∃ (s : State) (p : Nat) (sink : Nat) (tile : Tile) (hdrs : List W64) (tierError : Bool) (x : SrcCtx) (made : _), (Instr.tileArrives p sink tile hdrs tierError).wf = true ∧
      s.chip.tileStream p tile.tag = some x ∧ x.freed.closed = false ∧ (x.pl.sinksOf x.s).contains sink = true ∧
      (x.freed.sink sink).withheld = none ∧ x.refused (x.freed.sink sink) tile.tag = none ∧
      x.fired.sent sink (x.freed.sink sink) tile = some made ∧
      x.freed.maySend (x.freed.sink sink) made.tag.kind = true ∧ tierError = false) ∧
    (∃ (s : State) (p : Nat) (sink : Nat) (tile : Tile) (hdrs : List W64) (tierError : Bool) (x : SrcCtx) (made : _), (Instr.tileArrives p sink tile hdrs tierError).wf = true ∧
      s.chip.tileStream p tile.tag = some x ∧ x.freed.closed = false ∧ (x.pl.sinksOf x.s).contains sink = true ∧
      (x.freed.sink sink).withheld = none ∧ x.refused (x.freed.sink sink) tile.tag = none ∧
      x.fired.sent sink (x.freed.sink sink) tile = some made ∧
      x.freed.maySend (x.freed.sink sink) made.tag.kind = true ∧ tierError = true ∧ x.isLd = true ∧
      (made.tag.kind = .data ∨ made.tag.kind = .anchors)) ∧
    (∃ (s : State) (p : Nat) (sink : Nat) (tile : Tile) (hdrs : List W64) (tierError : Bool) (x : SrcCtx) (made : _), (Instr.tileArrives p sink tile hdrs tierError).wf = true ∧
      s.chip.tileStream p tile.tag = some x ∧ x.freed.closed = false ∧ (x.pl.sinksOf x.s).contains sink = true ∧
      (x.freed.sink sink).withheld = none ∧ x.refused (x.freed.sink sink) tile.tag = none ∧
      x.fired.sent sink (x.freed.sink sink) tile = some made ∧
      x.freed.maySend (x.freed.sink sink) made.tag.kind = true ∧ tierError = true ∧ roleKind x.s.src = 7) ∧
    (∃ (s : State) (p : Nat) (sink : Nat) (tile : Tile) (hdrs : List W64) (x : SrcCtx) (w : Withheld), (Instr.pleatRefetchCompletes p sink ⟨none, tile, hdrs⟩ false).wf = true ∧
      s.chip.tileStream p tile.tag = some x ∧ x.inst.closed = false ∧ (x.inst.sink sink).withheld = some w ∧
      w.attempts = 1 ∧ w.tile.tag.tileIndex = tile.tag.tileIndex) :=
  ⟨⟨(stepping (planned 1 (streamWords [] [] [])) (sampleStep 1 [])), 0, 0x1000,
    { zTile with tag := { zTileTag with streamId := 1, planId := 6, stepSeq := 3, resetEpoch := 5 } }, [], false,
    (SrcCtx.mk (stepping (planned 1 (streamWords [] [] [])) (sampleStep 1 [])).chip (sampleStep 1 []) (planOf (planWith 1 (streamWords [] [] []))) false (streamOf (streamWords [] [] [])) 0),
    by decide +kernel⟩,
    ⟨(stepping (planned 1 (streamWords [] [] [])) (sampleStep 1 [])), 0, 0x1000,
      { zTile with tag := { zTileTag with streamId := 1, planId := 6, stepSeq := 3, resetEpoch := 1 } }, [], false,
      (SrcCtx.mk (stepping (planned 1 (streamWords [] [] [])) (sampleStep 1 [])).chip (sampleStep 1 []) (planOf (planWith 1 (streamWords [] [] []))) false (streamOf (streamWords [] [] [])) 0),
      by decide +kernel⟩,
    ⟨(stepping (planned 1 (streamWords [] [] [])) (sampleStep 1 [{ zStreamInst with id := 1, sinks := [{ zSinkInst with role := 0x1000, bands := [⟨0, 1, 0, []⟩] }] }])),
      0, 0x1000,
      { zTile with tag := { zTileTag with streamId := 1, planId := 6, stepSeq := 3, rows := 1, cols := 1, resetEpoch := 1 } },
      [], false,
      (SrcCtx.mk (stepping (planned 1 (streamWords [] [] [])) (sampleStep 1 [{ zStreamInst with id := 1, sinks := [{ zSinkInst with role := 0x1000, bands := [⟨0, 1, 0, []⟩] }] }])).chip (sampleStep 1 [{ zStreamInst with id := 1, sinks := [{ zSinkInst with role := 0x1000, bands := [⟨0, 1, 0, []⟩] }] }]) (planOf (planWith 1 (streamWords [] [] []))) false (streamOf (streamWords [] [] [])) 0),
      by decide +kernel⟩,
    ⟨(stepping (planned 1 (streamWords [] [] [])) (sampleStep 1 [])), 0, 0x1000,
      { zTile with tag := { zTileTag with streamId := 1, planId := 6, stepSeq := 3, rows := 1, cols := 1, tileIndex := 5, resetEpoch := 1 } },
      [], false,
      (SrcCtx.mk (stepping (planned 1 (streamWords [] [] [])) (sampleStep 1 [])).chip (sampleStep 1 []) (planOf (planWith 1 (streamWords [] [] []))) false (streamOf (streamWords [] [] [])) 0),
      by decide +kernel⟩,
    ⟨(stepping (planned 1 (streamWords [] [] [])) (sampleStep 1 [{ zStreamInst with id := 1, sinks := [{ zSinkInst with role := 0x1000, credits := 0 }] }])),
      0, 0x1000,
      { zTile with tag := { zTileTag with streamId := 1, planId := 6, stepSeq := 3, rows := 1, cols := 1, resetEpoch := 1 } },
      [], false,
      (SrcCtx.mk (stepping (planned 1 (streamWords [] [] [])) (sampleStep 1 [{ zStreamInst with id := 1, sinks := [{ zSinkInst with role := 0x1000, credits := 0 }] }])).chip (sampleStep 1 [{ zStreamInst with id := 1, sinks := [{ zSinkInst with role := 0x1000, credits := 0 }] }]) (planOf (planWith 1 (streamWords [] [] []))) false (streamOf (streamWords [] [] [])) 0),
      (((SrcCtx.mk (stepping (planned 1 (streamWords [] [] [])) (sampleStep 1 [{ zStreamInst with id := 1, sinks := [{ zSinkInst with role := 0x1000, credits := 0 }] }])).chip (sampleStep 1 [{ zStreamInst with id := 1, sinks := [{ zSinkInst with role := 0x1000, credits := 0 }] }]) (planOf (planWith 1 (streamWords [] [] []))) false (streamOf (streamWords [] [] [])) 0).fired.sent 0x1000 ((SrcCtx.mk (stepping (planned 1 (streamWords [] [] [])) (sampleStep 1 [{ zStreamInst with id := 1, sinks := [{ zSinkInst with role := 0x1000, credits := 0 }] }])).chip (sampleStep 1 [{ zStreamInst with id := 1, sinks := [{ zSinkInst with role := 0x1000, credits := 0 }] }]) (planOf (planWith 1 (streamWords [] [] []))) false (streamOf (streamWords [] [] [])) 0).inst.sink 0x1000) { zTile with tag := { zTileTag with streamId := 1, planId := 6, stepSeq := 3, rows := 1, cols := 1, resetEpoch := 1 } }).getD zTile),
      by decide +kernel⟩,
    ⟨(stepping (planned 1 (streamWords [] [] [])) (sampleStep 1 [{ zStreamInst with id := 1, sinks := [{ zSinkInst with role := 0x1000, credits := 1 }] }])),
      0, 0x1000,
      { zTile with tag := { zTileTag with streamId := 1, planId := 6, stepSeq := 3, rows := 1, cols := 1, resetEpoch := 1 } },
      [], false,
      (SrcCtx.mk (stepping (planned 1 (streamWords [] [] [])) (sampleStep 1 [{ zStreamInst with id := 1, sinks := [{ zSinkInst with role := 0x1000, credits := 1 }] }])).chip (sampleStep 1 [{ zStreamInst with id := 1, sinks := [{ zSinkInst with role := 0x1000, credits := 1 }] }]) (planOf (planWith 1 (streamWords [] [] []))) false (streamOf (streamWords [] [] [])) 0),
      (((SrcCtx.mk (stepping (planned 1 (streamWords [] [] [])) (sampleStep 1 [{ zStreamInst with id := 1, sinks := [{ zSinkInst with role := 0x1000, credits := 1 }] }])).chip (sampleStep 1 [{ zStreamInst with id := 1, sinks := [{ zSinkInst with role := 0x1000, credits := 1 }] }]) (planOf (planWith 1 (streamWords [] [] []))) false (streamOf (streamWords [] [] [])) 0).fired.sent 0x1000 ((SrcCtx.mk (stepping (planned 1 (streamWords [] [] [])) (sampleStep 1 [{ zStreamInst with id := 1, sinks := [{ zSinkInst with role := 0x1000, credits := 1 }] }])).chip (sampleStep 1 [{ zStreamInst with id := 1, sinks := [{ zSinkInst with role := 0x1000, credits := 1 }] }]) (planOf (planWith 1 (streamWords [] [] []))) false (streamOf (streamWords [] [] [])) 0).inst.sink 0x1000) { zTile with tag := { zTileTag with streamId := 1, planId := 6, stepSeq := 3, rows := 1, cols := 1, resetEpoch := 1 } }).getD zTile),
      by decide +kernel⟩,
    ⟨(stepping (planned 1 (streamWords [] [] [])) (sampleStep 1 [{ zStreamInst with id := 1, sinks := [{ zSinkInst with role := 0x1000, credits := 1 }] }])),
      0, 0x1000,
      { zTile with tag := { zTileTag with streamId := 1, planId := 6, stepSeq := 3, rows := 1, cols := 1, resetEpoch := 1 } },
      [], true,
      (SrcCtx.mk (stepping (planned 1 (streamWords [] [] [])) (sampleStep 1 [{ zStreamInst with id := 1, sinks := [{ zSinkInst with role := 0x1000, credits := 1 }] }])).chip (sampleStep 1 [{ zStreamInst with id := 1, sinks := [{ zSinkInst with role := 0x1000, credits := 1 }] }]) (planOf (planWith 1 (streamWords [] [] []))) false (streamOf (streamWords [] [] [])) 0),
      (((SrcCtx.mk (stepping (planned 1 (streamWords [] [] [])) (sampleStep 1 [{ zStreamInst with id := 1, sinks := [{ zSinkInst with role := 0x1000, credits := 1 }] }])).chip (sampleStep 1 [{ zStreamInst with id := 1, sinks := [{ zSinkInst with role := 0x1000, credits := 1 }] }]) (planOf (planWith 1 (streamWords [] [] []))) false (streamOf (streamWords [] [] [])) 0).fired.sent 0x1000 ((SrcCtx.mk (stepping (planned 1 (streamWords [] [] [])) (sampleStep 1 [{ zStreamInst with id := 1, sinks := [{ zSinkInst with role := 0x1000, credits := 1 }] }])).chip (sampleStep 1 [{ zStreamInst with id := 1, sinks := [{ zSinkInst with role := 0x1000, credits := 1 }] }]) (planOf (planWith 1 (streamWords [] [] []))) false (streamOf (streamWords [] [] [])) 0).inst.sink 0x1000) { zTile with tag := { zTileTag with streamId := 1, planId := 6, stepSeq := 3, rows := 1, cols := 1, resetEpoch := 1 } }).getD zTile),
      by decide +kernel⟩,
    ⟨(stepping (planned 1 (streamWords [(47, 32, 0x7000)] [] [])) (sampleStep 1 [{ zStreamInst with id := 1, sinks := [{ zSinkInst with role := 0x1000, credits := 1 }] }])),
      0, 0x1000,
      { zTile with tag := { zTileTag with streamId := 1, planId := 6, stepSeq := 3, rows := 1, cols := 1, resetEpoch := 1 } },
      [], true,
      (SrcCtx.mk (stepping (planned 1 (streamWords [(47, 32, 0x7000)] [] [])) (sampleStep 1 [{ zStreamInst with id := 1, sinks := [{ zSinkInst with role := 0x1000, credits := 1 }] }])).chip (sampleStep 1 [{ zStreamInst with id := 1, sinks := [{ zSinkInst with role := 0x1000, credits := 1 }] }]) (planOf (planWith 1 (streamWords [(47, 32, 0x7000)] [] []))) false (streamOf (streamWords [(47, 32, 0x7000)] [] [])) 0),
      (((SrcCtx.mk (stepping (planned 1 (streamWords [(47, 32, 0x7000)] [] [])) (sampleStep 1 [{ zStreamInst with id := 1, sinks := [{ zSinkInst with role := 0x1000, credits := 1 }] }])).chip (sampleStep 1 [{ zStreamInst with id := 1, sinks := [{ zSinkInst with role := 0x1000, credits := 1 }] }]) (planOf (planWith 1 (streamWords [(47, 32, 0x7000)] [] []))) false (streamOf (streamWords [(47, 32, 0x7000)] [] [])) 0).fired.sent 0x1000 ((SrcCtx.mk (stepping (planned 1 (streamWords [(47, 32, 0x7000)] [] [])) (sampleStep 1 [{ zStreamInst with id := 1, sinks := [{ zSinkInst with role := 0x1000, credits := 1 }] }])).chip (sampleStep 1 [{ zStreamInst with id := 1, sinks := [{ zSinkInst with role := 0x1000, credits := 1 }] }]) (planOf (planWith 1 (streamWords [(47, 32, 0x7000)] [] []))) false (streamOf (streamWords [(47, 32, 0x7000)] [] [])) 0).inst.sink 0x1000) { zTile with tag := { zTileTag with streamId := 1, planId := 6, stepSeq := 3, rows := 1, cols := 1, resetEpoch := 1 } }).getD zTile),
      by decide +kernel⟩,
    ⟨(stepping (planned 1 (streamWords [] [] [])) (sampleStep 1 [{ zStreamInst with id := 1, sinks := [{ zSinkInst with role := 0x1000, withheld := some { zWithheld with attempts := 1 } }] }])),
      0, 0x1000, { zTile with tag := { zTileTag with streamId := 1, planId := 6, stepSeq := 3, resetEpoch := 1 } },
      [],
      (SrcCtx.mk (stepping (planned 1 (streamWords [] [] [])) (sampleStep 1 [{ zStreamInst with id := 1, sinks := [{ zSinkInst with role := 0x1000, withheld := some { zWithheld with attempts := 1 } }] }])).chip (sampleStep 1 [{ zStreamInst with id := 1, sinks := [{ zSinkInst with role := 0x1000, withheld := some { zWithheld with attempts := 1 } }] }]) (planOf (planWith 1 (streamWords [] [] []))) false (streamOf (streamWords [] [] [])) 0),
      { zWithheld with attempts := 1 }, by decide +kernel⟩⟩

theorem witness_streamsEnd :
    (∃ (s : State) (p : Nat) (sq : Nat) (id : Nat) (layer : Nat) (credit : Nat) (anchor : Nat) (tier : Nat) (x : SrcCtx), (Instr.streamCompletes p sq id layer credit anchor 0 tier).wf = true ∧
      s.chip.stepStream p sq id layer = some x ∧ x.inst.closed = false ∧ x.done x.inst = true ∧ x.s.pleated = false ∧
      x.s.lateClass ≠ 3 ∧ x.pl.allJ.any (fun j => j.kind == 3 && attendOut j == x.s.id) = false) ∧
    (∃ (s : State) (p : Nat) (sq : Nat) (id : Nat) (layer : Nat) (x : SrcCtx), (Instr.streamDeadline p sq id layer).wf = true ∧
      s.chip.stepStream p sq id layer = some x ∧ x.s.deadline ≠ 0 ∧ x.isLd = true ∧ x.inst.closed = false ∧
      x.inst.delivered = 0 ∧ x.inst.suppressed = 0 ∧ x.s.lateClass = 0) ∧
    (∃ (s : State) (p : Nat) (sq : Nat) (id : Nat) (layer : Nat) (x : SrcCtx), (Instr.streamDeadline p sq id layer).wf = true ∧
      s.chip.stepStream p sq id layer = some x ∧ x.s.deadline ≠ 0 ∧ x.isLd = true ∧ x.inst.closed = false ∧
      x.inst.delivered = 0 ∧ x.inst.suppressed = 0 ∧ x.s.lateClass = 1 ∧ x.draft = false) ∧
    (∃ (s : State) (p : Nat) (sq : Nat) (id : Nat) (layer : Nat) (x : SrcCtx), (Instr.streamDeadline p sq id layer).wf = true ∧
      s.chip.stepStream p sq id layer = some x ∧ x.s.deadline ≠ 0 ∧ x.isLd = true ∧ x.inst.closed = false ∧
      x.inst.delivered = 0 ∧ x.inst.suppressed = 0 ∧ x.s.lateClass = 2) ∧
    (∃ (s : State) (p : Nat) (dr : Bool) (sq : Nat) (id : Nat) (layer : Nat) (status : Nat) (x : SrcCtx), (Instr.secondSourceReadCompletes p dr sq id layer status).wf = true ∧
      s.chip.stepStream p sq id layer = some x ∧ x.draft = dr ∧
      x.inst.sinks.any (fun k => k.withheld.any (fun w => w.attempts == 2)) = true ∧ x.copyBad p = false ∧
      status = stOk) ∧
    (∃ (s : State) (p : Nat) (dr : Bool) (sq : Nat) (id : Nat) (layer : Nat) (status : Nat) (x : SrcCtx), (Instr.secondSourceReadCompletes p dr sq id layer status).wf = true ∧
      s.chip.stepStream p sq id layer = some x ∧ x.draft = dr ∧
      x.inst.sinks.any (fun k => k.withheld.any (fun w => w.attempts == 2)) = true ∧ x.copyBad p = false ∧
      status ≠ stOk) ∧
    (∃ (s : State) (p : Nat) (dr : Bool) (sq : Nat) (id : Nat) (layer : Nat) (status : Nat) (x : SrcCtx), (Instr.secondSourceReadCompletes p dr sq id layer status).wf = true ∧
      s.chip.stepStream p sq id layer = some x ∧ x.draft = dr ∧
      x.inst.sinks.any (fun k => k.withheld.any (fun w => w.attempts == 2)) = true ∧ x.copyBad p = true ∧
      s.chip.domUp 5 = false) ∧
    (∃ (s : State) (p : Nat) (dr : Bool) (sq : Nat) (id : Nat) (layer : Nat) (status : Nat) (x : SrcCtx), (Instr.secondSourceReadCompletes p dr sq id layer status).wf = true ∧
      s.chip.stepStream p sq id layer = some x ∧ x.draft = dr ∧
      x.inst.sinks.any (fun k => k.withheld.any (fun w => w.attempts == 2)) = true ∧ x.copyBad p = true ∧
      s.chip.domUp 5 = true) :=
  ⟨⟨(stepping (planned 1 (streamWords [] [] [])) (sampleStep 1 [{ zStreamInst with id := 1, sinks := [{ zSinkInst with role := 0x1000, bands := [⟨0, 1, 0, []⟩] }] }])),
    0, 3, 1, 0, 0, 0, 0,
    (SrcCtx.mk (stepping (planned 1 (streamWords [] [] [])) (sampleStep 1 [{ zStreamInst with id := 1, sinks := [{ zSinkInst with role := 0x1000, bands := [⟨0, 1, 0, []⟩] }] }])).chip (sampleStep 1 [{ zStreamInst with id := 1, sinks := [{ zSinkInst with role := 0x1000, bands := [⟨0, 1, 0, []⟩] }] }]) (planOf (planWith 1 (streamWords [] [] []))) false (streamOf (streamWords [] [] [])) 0),
    by decide +kernel⟩,
    ⟨(stepping (planned 1 (streamWords [] [] [(63, 32, 9)])) (sampleStep 1 [])), 0, 3, 1, 0,
      (SrcCtx.mk (stepping (planned 1 (streamWords [] [] [(63, 32, 9)])) (sampleStep 1 [])).chip (sampleStep 1 []) (planOf (planWith 1 (streamWords [] [] [(63, 32, 9)]))) false (streamOf (streamWords [] [] [(63, 32, 9)])) 0),
      by decide +kernel⟩,
    ⟨(stepping (planned 1 (streamWords [] [] [(63, 32, 9), (31, 30, 1)])) (sampleStep 1 [])), 0, 3, 1, 0,
      (SrcCtx.mk (stepping (planned 1 (streamWords [] [] [(63, 32, 9), (31, 30, 1)])) (sampleStep 1 [])).chip (sampleStep 1 []) (planOf (planWith 1 (streamWords [] [] [(63, 32, 9), (31, 30, 1)]))) false (streamOf (streamWords [] [] [(63, 32, 9), (31, 30, 1)])) 0),
      by decide +kernel⟩,
    ⟨(stepping (planned 1 (streamWords [] [] [(63, 32, 9), (31, 30, 2)])) (sampleStep 1 [])), 0, 3, 1, 0,
      (SrcCtx.mk (stepping (planned 1 (streamWords [] [] [(63, 32, 9), (31, 30, 2)])) (sampleStep 1 [])).chip (sampleStep 1 []) (planOf (planWith 1 (streamWords [] [] [(63, 32, 9), (31, 30, 2)]))) false (streamOf (streamWords [] [] [(63, 32, 9), (31, 30, 2)])) 0),
      by decide +kernel⟩,
    ⟨(stepping (planned 1 (streamWords [] [] [])) (sampleStep 1 [{ zStreamInst with id := 1, sinks := [{ zSinkInst with role := 0x1000, withheld := some { zWithheld with attempts := 2 } }] }])),
      0, false, 3, 1, 0, 0,
      (SrcCtx.mk (stepping (planned 1 (streamWords [] [] [])) (sampleStep 1 [{ zStreamInst with id := 1, sinks := [{ zSinkInst with role := 0x1000, withheld := some { zWithheld with attempts := 2 } }] }])).chip (sampleStep 1 [{ zStreamInst with id := 1, sinks := [{ zSinkInst with role := 0x1000, withheld := some { zWithheld with attempts := 2 } }] }]) (planOf (planWith 1 (streamWords [] [] []))) false (streamOf (streamWords [] [] [])) 0),
      by decide +kernel⟩,
    ⟨(stepping (planned 1 (streamWords [] [] [])) (sampleStep 1 [{ zStreamInst with id := 1, sinks := [{ zSinkInst with role := 0x1000, withheld := some { zWithheld with attempts := 2 } }] }])),
      0, false, 3, 1, 0, 1,
      (SrcCtx.mk (stepping (planned 1 (streamWords [] [] [])) (sampleStep 1 [{ zStreamInst with id := 1, sinks := [{ zSinkInst with role := 0x1000, withheld := some { zWithheld with attempts := 2 } }] }])).chip (sampleStep 1 [{ zStreamInst with id := 1, sinks := [{ zSinkInst with role := 0x1000, withheld := some { zWithheld with attempts := 2 } }] }]) (planOf (planWith 1 (streamWords [] [] []))) false (streamOf (streamWords [] [] [])) 0),
      by decide +kernel⟩,
    ⟨(onChip (stepping (planned 1 (streamWords [] [] [])) (sampleStep 1 [{ zStreamInst with id := 1, sinks := [{ zSinkInst with role := 0x1000, withheld := some { zWithheld with attempts := 2 } }] }])) fun c => { c.setFld (Reg.pwrDomainStatus 5) 63 61 0 with boot := { c.boot with img := some { sampleImage with partitions := [{ zPartDecl with base2 := { zSrcDesc with kind := 2 } }] } } }),
      0, false, 3, 1, 0, 0,
      (SrcCtx.mk (onChip (stepping (planned 1 (streamWords [] [] [])) (sampleStep 1 [{ zStreamInst with id := 1, sinks := [{ zSinkInst with role := 0x1000, withheld := some { zWithheld with attempts := 2 } }] }])) fun c => { c.setFld (Reg.pwrDomainStatus 5) 63 61 0 with boot := { c.boot with img := some { sampleImage with partitions := [{ zPartDecl with base2 := { zSrcDesc with kind := 2 } }] } } }).chip (sampleStep 1 [{ zStreamInst with id := 1, sinks := [{ zSinkInst with role := 0x1000, withheld := some { zWithheld with attempts := 2 } }] }]) (planOf (planWith 1 (streamWords [] [] []))) false (streamOf (streamWords [] [] [])) 0),
      by decide +kernel⟩,
    ⟨(onChip (stepping (planned 1 (streamWords [] [] [])) (sampleStep 1 [{ zStreamInst with id := 1, sinks := [{ zSinkInst with role := 0x1000, withheld := some { zWithheld with attempts := 2 } }] }])) fun c => { c with boot := { c.boot with img := some { sampleImage with partitions := [{ zPartDecl with base2 := { zSrcDesc with kind := 2 } }] } }, board := { c.board with marked := [0] } }),
      0, false, 3, 1, 0, 0,
      (SrcCtx.mk (onChip (stepping (planned 1 (streamWords [] [] [])) (sampleStep 1 [{ zStreamInst with id := 1, sinks := [{ zSinkInst with role := 0x1000, withheld := some { zWithheld with attempts := 2 } }] }])) fun c => { c with boot := { c.boot with img := some { sampleImage with partitions := [{ zPartDecl with base2 := { zSrcDesc with kind := 2 } }] } }, board := { c.board with marked := [0] } }).chip (sampleStep 1 [{ zStreamInst with id := 1, sinks := [{ zSinkInst with role := 0x1000, withheld := some { zWithheld with attempts := 2 } }] }]) (planOf (planWith 1 (streamWords [] [] []))) false (streamOf (streamWords [] [] [])) 0),
      by decide +kernel⟩⟩

theorem witness_stepsEnd :
    (∃ (s : State) (p : Nat) (sq : Nat) (t : Step) (pl : PlanD), (Instr.commitJoin p sq).wf = true ∧
      s.chip.step? p sq = some t ∧ s.chip.passPlan t = some pl ∧ t.abandoned = false ∧
      (firedAll s.chip t pl).2.commitReady (firedAll s.chip t pl).1 pl (firedAll s.chip t pl).1.passPlan.2 = false) ∧
    (∃ (s : State) (p : Nat) (sq : Nat) (t : Step) (pl : PlanD), (Instr.commitJoin p sq).wf = true ∧
      s.chip.step? p sq = some t ∧ s.chip.passPlan t = some pl ∧ t.abandoned = false ∧
      (firedAll s.chip t pl).2.commitReady (firedAll s.chip t pl).1 pl (firedAll s.chip t pl).1.passPlan.2 = true ∧
      (firedAll s.chip t pl).1.passPlan.1 = 4) ∧
    (∃ (s : State) (p : Nat) (sq : Nat) (t : Step) (pl : PlanD), (Instr.commitJoin p sq).wf = true ∧
      s.chip.step? p sq = some t ∧ s.chip.passPlan t = some pl ∧ t.abandoned = false ∧
      (firedAll s.chip t pl).2.commitReady (firedAll s.chip t pl).1 pl (firedAll s.chip t pl).1.passPlan.2 = true ∧
      (firedAll s.chip t pl).1.passPlan.1 ≠ 4 ∧ (firedAll s.chip t pl).1.kind ≠ 3) ∧
    (∃ (s : State) (p : Nat) (sq : Nat) (t : Step) (pl : PlanD), (Instr.commitJoin p sq).wf = true ∧
      s.chip.step? p sq = some t ∧ s.chip.passPlan t = some pl ∧ t.abandoned = false ∧
      (firedAll s.chip t pl).2.commitReady (firedAll s.chip t pl).1 pl (firedAll s.chip t pl).1.passPlan.2 = true ∧
      (firedAll s.chip t pl).1.passPlan.1 ≠ 4 ∧ (firedAll s.chip t pl).1.kind = 3) ∧
    (∃ (s : State) (p : Nat) (sq : Nat) (t : Step), (Instr.stepWatchdog p sq).wf = true ∧
      s.chip.step? p sq = some t ∧ t.abandoned = false ∧ t.retried = false) ∧
    (∃ (s : State) (r : StationRef), (Instr.stationStorageError r).wf = true ∧
      s.chip.fld (stnReg (stnKey r)) 34 31 = 0) :=
  ⟨⟨(stepping (planned 1 (streamWords [] [] [])) (sampleStep 1 [])), 0, 3, (sampleStep 1 []),
    (planOf (planWith 1 (streamWords [] [] []))), by decide +kernel⟩,
    ⟨(stepping (planned 4 (streamWords [] [] [])) { sampleStep 4 [] with bands := 0 }), 0, 3,
      { sampleStep 4 [] with bands := 0 }, (planOf (planWith 4 (streamWords [] [] []))), by decide +kernel⟩,
    ⟨(stepping (planned 1 (streamWords [] [] [])) { sampleStep 1 [] with bands := 0 }), 0, 3,
      { sampleStep 1 [] with bands := 0 }, (planOf (planWith 1 (streamWords [] [] []))), by decide +kernel⟩,
    ⟨(stepping (planned 3 (streamWords [] [] [])) { sampleStep 3 [] with bands := 0 }), 0, 3,
      { sampleStep 3 [] with bands := 0 }, (planOf (planWith 3 (streamWords [] [] []))), by decide +kernel⟩,
    ⟨(stepping (planned 1 (streamWords [] [] [])) (sampleStep 1 [])), 0, 3, (sampleStep 1 []), by decide +kernel⟩,
    ⟨live, (.quad 0 0), by decide +kernel⟩⟩

theorem witness_stationsFencedByTheOwner :
    (∃ (s : State) (port : Nat) (quad : Nat) (i : Nat), (Instr.stationFence port quad i).wf = true ∧
      OwnerPort s port ∧ s.chip.fld (stnReg (128 * quad + i)) 34 31 = 0) ∧
    (∃ (s : State) (port : Nat) (quad : Nat) (i : Nat), (Instr.stationUnfence port quad i).wf = true ∧
      OwnerPort s port ∧ s.chip.fld (stnReg (128 * quad + i)) 34 31 = 4) ∧
    (∃ (s : State) (port : Nat) (quad : Nat) (i : Nat), (Instr.stationUnfence port quad i).wf = true ∧
      OwnerPort s port ∧ s.chip.fld (stnReg (128 * quad + i)) 34 31 ≠ 4) ∧
    (∃ (s : State) (p : Nat), (Instr.refitCompletes p).wf = true ∧ s.chip.work.refitting = some p ∧
      s.chip.work.refitAgain = [] ∧ s.chip.work.refitOld = [] ∧
      (s.chip.onWork (fun w => { w with refitting := none, refitAgain := [], refitOld := [] })).partState p = 2 ∧
      (((s.chip.onWork (fun w => { w with refitting := none, refitAgain := [], refitOld := [] })).refit p).refitDue p) = false) :=
  ⟨⟨live, 0, 0, 1, by decide +kernel⟩,
    ⟨(liveWith fun c => c.setFld (stnReg 1) 34 31 4), 0, 0, 1, by decide +kernel⟩,
    ⟨live, 0, 0, 1, by decide +kernel⟩,
    ⟨(working fun w => { w with refitting := some 0 }), 0, by decide +kernel⟩⟩

theorem witness_loads :
    (∃ (s : State) (port : Nat) (p : Nat), (Instr.partReload port p).wf = true ∧ OwnerPort s port ∧
      2 ≤ s.chip.partState p ∧ s.chip.partState p ≠ 6) ∧
    (∃ (s : State) (p : Nat) (base : PullResult) (draft : PullResult) (d : PartDecl) (b : _) (m : _), (Instr.partitionLoadCompletes p base draft).wf = true ∧
      s.chip.decl p = some d ∧ s.chip.loadTurn p = true ∧ s.chip.pulled p d.baseSrc base d.baseMeas = some b ∧
      d.draftMeas ≠ 0 ∧ s.chip.pulled p d.draftSrc draft d.draftMeas = some m) ∧
    (∃ (s : State) (p : Nat) (base : PullResult) (draft : PullResult) (d : PartDecl) (b : _), (Instr.partitionLoadCompletes p base draft).wf = true ∧
      s.chip.decl p = some d ∧ s.chip.loadTurn p = true ∧ s.chip.pulled p d.baseSrc base d.baseMeas = some b ∧
      d.draftMeas = 0) ∧
    (∃ (s : State) (p : Nat) (base : PullResult) (draft : PullResult) (d : PartDecl), (Instr.partitionLoadCompletes p base draft).wf = true ∧
      s.chip.decl p = some d ∧ s.chip.loadTurn p = true ∧ s.chip.pulled p d.baseSrc base d.baseMeas = none) ∧
    (∃ (s : State) (slot : Nat) (fits : Bool) (digest : Nat) (status : Nat) (i : Install), (Instr.adapterLoadCompletes slot fits digest status).wf = true ∧
      s.chip.work.installs.find? (fun i => i.slot == slot) = some i ∧ i.waiting = false ∧ s.chip.slotState slot = 1 ∧
      status = stOk ∧ (fits = false ∨ digest ≠ i.measure)) ∧
    (∃ (s : State) (slot : Nat) (fits : Bool) (digest : Nat) (status : Nat) (i : Install), (Instr.adapterLoadCompletes slot fits digest status).wf = true ∧
      s.chip.work.installs.find? (fun i => i.slot == slot) = some i ∧ i.waiting = false ∧ s.chip.slotState slot = 1 ∧
      status = stOk ∧ fits = true ∧ digest = i.measure ∧ s.chip.adapterSlots i.part i.adapter [2] = []) :=
  ⟨⟨serving, 0, 0, by decide +kernel⟩,
    ⟨(onChip (windowOpen serving) fun c => { c.setFld (Reg.partState 0) 2 0 6 with boot := { c.boot with img := some { sampleImage with partitions := [{ zPartDecl with baseMeas := imgMeasurement sampleModel, draftMeas := imgMeasurement sampleModel }] } } }),
      0, (.image sampleModel), (.image sampleModel),
      { zPartDecl with baseMeas := imgMeasurement sampleModel, draftMeas := imgMeasurement sampleModel },
      sampleModel, sampleModel, by decide +kernel⟩,
    ⟨(onChip (windowOpen serving) fun c => { c.setFld (Reg.partState 0) 2 0 6 with boot := { c.boot with img := some { sampleImage with partitions := [{ zPartDecl with baseMeas := imgMeasurement sampleModel }] } } }),
      0, (.image sampleModel), .none, { zPartDecl with baseMeas := imgMeasurement sampleModel }, sampleModel,
      by decide +kernel⟩,
    ⟨(onChip (windowOpen serving) fun c => { c.setFld (Reg.partState 0) 2 0 6 with boot := { c.boot with img := some { sampleImage with partitions := [{ zPartDecl with baseMeas := imgMeasurement sampleModel }] } } }),
      0, .none, .none, { zPartDecl with baseMeas := imgMeasurement sampleModel }, by decide +kernel⟩,
    ⟨(onChip (working fun w => { w with installs := [{ zInstall with adapter := 4 }] }) fun c => c.setFld (Reg.adapterSlot 0 1) 63 61 1),
      0, false, 0, 0, { zInstall with adapter := 4 }, by decide +kernel⟩,
    ⟨(onChip (working fun w => { w with installs := [{ zInstall with adapter := 4 }] }) fun c => c.setFld (Reg.adapterSlot 0 1) 63 61 1),
      0, true, 0, 0, { zInstall with adapter := 4 }, by decide +kernel⟩⟩

theorem witness_customersAndShares :
    (∃ (s : State), s.chip.boot.img.isSome = true) ∧
    (∃ (s : State) (port : Nat) (cust : Nat) (zero : Bool), (Instr.tenHistSnap port cust zero).wf = true ∧
      OwnerPort s port) ∧
    (∃ (s : State) (port : Nat) (p : Nat) (v : W64), (Instr.kvShareWrite port p v).wf = true ∧ OwnerPort s port) ∧
    (∃ (s : State) (port : Nat) (v : W64), (Instr.kvDescSel port v).wf = true ∧ OwnerPort s port ∧
      s.chip.frameAt (fieldOf v 21 20) (fieldOf v 19 0) = none) ∧
    (∃ (s : State) (port : Nat) (v : W64) (p : _) (i : _) (f : _), (Instr.kvDescSel port v).wf = true ∧
      OwnerPort s port ∧ s.chip.frameAt (fieldOf v 21 20) (fieldOf v 19 0) = some (p, i) ∧
      s.chip.frame p (fieldOf v 21 20) i = some f) ∧
    (∃ (s : State) (port : Nat) (v : W64) (p : _) (i : _), (Instr.kvDescSel port v).wf = true ∧ OwnerPort s port ∧
      s.chip.frameAt (fieldOf v 21 20) (fieldOf v 19 0) = some (p, i) ∧ s.chip.frame p (fieldOf v 21 20) i = none) :=
  ⟨⟨serving, by decide +kernel⟩,
    ⟨live, 0, 0, false, by decide +kernel⟩,
    ⟨live, 0, 0, 0#64, by decide +kernel⟩,
    ⟨live, 0, 0#64, by decide +kernel⟩,
    ⟨(onChip (working fun w => { w with frames := [zFrame], parts := { Part.init with base := some sampleModel, mask := 1 } :: List.replicate 15 .init }) fun c => { c with boot := { c.boot with img := some { sampleImage with partitions := [{ zPartDecl with kvFrames := [2, 0, 0, 0] }] } } }),
      0, 0#64, 0, 0, zFrame, by decide +kernel⟩,
    ⟨(onChip (working fun w => { w with frames := [], parts := { Part.init with base := some sampleModel, mask := 1 } :: List.replicate 15 .init }) fun c => { c with boot := { c.boot with img := some { sampleImage with partitions := [{ zPartDecl with kvFrames := [2, 0, 0, 0] }] } } }),
      0, 0#64, 0, 0, by decide +kernel⟩⟩

theorem witness_flitsReplaysAndBufferErrors :
    (∃ (s : State) (lp : LinkPort) (f : Flit), (Instr.flitReceived lp f).wf = true ∧ s.chip.linkPower lp = true ∧
      s.chip.linkOpen lp = false) ∧
    (∃ (s : State) (lp : LinkPort) (f : Flit), (Instr.flitReceived lp f).wf = true ∧ s.chip.linkPower lp = true ∧
      s.chip.linkOpen lp = true ∧ ((flitFields f).crcOk = false ∨ 4 ≤ (flitFields f).type) ∧
      s.chip.linkGet lp (fun _ l => l.nacked) = true) ∧
    (∃ (s : State) (lp : LinkPort) (f : Flit), (Instr.flitReceived lp f).wf = true ∧ s.chip.linkPower lp = true ∧
      s.chip.linkOpen lp = true ∧ ((flitFields f).crcOk = false ∨ 4 ≤ (flitFields f).type) ∧
      s.chip.linkGet lp (fun _ l => l.nacked) = false) ∧
    (∃ (s : State) (lp : LinkPort) (f : Flit), (Instr.flitReceived lp f).wf = true ∧ s.chip.linkPower lp = true ∧
      s.chip.linkOpen lp = true ∧ (flitFields f).crcOk = true ∧ (flitFields f).type = 1 ∧
      (flitFields f).seq = s.chip.rxNext lp) ∧
    (∃ (s : State) (lp : LinkPort) (f : Flit), (Instr.flitReceived lp f).wf = true ∧ s.chip.linkPower lp = true ∧
      s.chip.linkOpen lp = true ∧ (flitFields f).crcOk = true ∧ (flitFields f).type = 1 ∧
      (flitFields f).seq ≠ s.chip.rxNext lp ∧ precedes 12 (s.chip.rxNext lp) (flitFields f).seq = false) ∧
    (∃ (s : State) (lp : LinkPort) (f : Flit), (Instr.flitReceived lp f).wf = true ∧ s.chip.linkPower lp = true ∧
      s.chip.linkOpen lp = true ∧ (flitFields f).crcOk = true ∧ (flitFields f).type = 1 ∧
      (flitFields f).seq ≠ s.chip.rxNext lp ∧ precedes 12 (s.chip.rxNext lp) (flitFields f).seq = true) ∧
    (∃ (s : State) (lp : LinkPort) (f : Flit), (Instr.flitReceived lp f).wf = true ∧ s.chip.linkPower lp = true ∧
      s.chip.linkOpen lp = true ∧ (flitFields f).crcOk = true ∧ (flitFields f).type = 3 ∧
      (flitFields f).seq = s.chip.rxNext lp ∧ lpIsHl lp = false) ∧
    (∃ (s : State) (lp : LinkPort) (f : Flit), (Instr.flitReceived lp f).wf = true ∧ s.chip.linkPower lp = true ∧
      s.chip.linkOpen lp = true ∧ (flitFields f).crcOk = true ∧ (flitFields f).type = 3 ∧
      (flitFields f).seq = s.chip.rxNext lp ∧ lpIsHl lp = true) ∧
    (∃ (s : State) (lp : LinkPort) (f : Flit), (Instr.flitReceived lp f).wf = true ∧ s.chip.linkPower lp = true ∧
      s.chip.linkOpen lp = true ∧ (flitFields f).crcOk = true ∧ (flitFields f).type = 2 ∧
      precedes 12 (s.chip.rxNext lp) (flitFields f).seq = false) ∧
    (∃ (s : State) (lp : LinkPort), (Instr.fabReplayTimeout lp).wf = true ∧ s.chip.linkPower lp = true ∧
      s.chip.linkOpen lp = true ∧ s.chip.linkGet lp (fun _ l => l.replay.length) ≠ 0) ∧
    (∃ (s : State) (lp : LinkPort), (Instr.fabReplayTimeout lp).wf = true ∧ s.chip.linkPower lp = true ∧
      s.chip.linkOpen lp = true ∧ s.chip.linkGet lp (fun _ l => l.replay.length) = 0) ∧
    (∃ (s : State) (k : FabPkt) (intact : Bool), (Instr.seamBufferEccError k intact).wf = true ∧
      s.chip.fabricUp = true ∧ intact = false) ∧
    (∃ (s : State) (k : FabPkt) (intact : Bool), (Instr.seamBufferEccError k intact).wf = true ∧
      s.chip.fabricUp = true ∧ intact = true) :=
  ⟨⟨(linked 1 fun _ l => l), (.fabric 0), zFlit, by decide +kernel⟩,
    ⟨(linked 3 fun _ l => { l with nacked := true }), (.fabric 0), zFlit, by decide +kernel⟩,
    ⟨live, (.fabric 0), zFlit, by decide +kernel⟩,
    ⟨live, (.fabric 0), (flitOf 1 0), by decide +kernel⟩,
    ⟨live, (.fabric 0), (flitOf 1 4095), by decide +kernel⟩,
    ⟨live, (.fabric 0), (flitOf 1 2), by decide +kernel⟩,
    ⟨live, (.fabric 0), (flitOf 3 0), by decide +kernel⟩,
    ⟨live, (.lateter 0), (flitOf 3 0), by decide +kernel⟩,
    ⟨live, (.fabric 0), (flitOf 2 0), by decide +kernel⟩,
    ⟨(linked 3 fun _ l => { l with replay := [⟨0, 0, 0, [], []⟩] }), (.fabric 0), by decide +kernel⟩,
    ⟨live, (.fabric 0), by decide +kernel⟩,
    ⟨live, zFabPkt, false, by decide +kernel⟩,
    ⟨live, zFabPkt, true, by decide +kernel⟩⟩

theorem witness_trainingAndRetraining :
    (∃ (s : State) (lp : LinkPort), (Instr.signalDetected lp).wf = true ∧ s.chip.linkPower lp = true ∧
      s.chip.linkGet lp (fun _ l => l.signal) = false ∧ s.chip.linkState lp = 1) ∧
    (∃ (s : State) (lp : LinkPort), (Instr.lossOfSignal lp).wf = true ∧ s.chip.linkPower lp = true ∧
      s.chip.linkGet lp (fun _ l => l.signal) = true ∧ s.chip.linkState lp = 2) ∧
    (∃ (s : State) (lp : LinkPort), (Instr.lossOfSignal lp).wf = true ∧ s.chip.linkPower lp = true ∧
      s.chip.linkGet lp (fun _ l => l.signal) = true ∧ s.chip.linkState lp = 3) ∧
    (∃ (s : State) (lp : LinkPort) (i : TrainInfo), (Instr.trainingAttemptPasses lp i).wf = true ∧
      s.chip.linkPower lp = true ∧ s.chip.linkState lp = 2 ∧
      (s.chip.settleLanes lp i).2.fld (lpStatus lp) 56 49 ≠ 255 ∧
      (s.chip.settleLanes lp i).2.partnerBad lp i (s.chip.settleLanes lp i).1 = none) ∧
    (∃ (s : State) (lp : LinkPort) (why : TrainFail), (Instr.trainingAttemptFails lp why).wf = true ∧
      s.chip.linkPower lp = true ∧ s.chip.linkState lp = 2 ∧
      (s.chip.linkGet lp (fun _ l => l.attempt) + 1) < s.chip.fld (lpTimers lp) 62 60) ∧
    (∃ (s : State) (lp : LinkPort) (why : TrainFail), (Instr.trainingAttemptFails lp why).wf = true ∧
      s.chip.linkPower lp = true ∧ s.chip.linkState lp = 2 ∧
      s.chip.fld (lpTimers lp) 62 60 ≤ (s.chip.linkGet lp (fun _ l => l.attempt) + 1)) ∧
    (∃ (s : State) (lp : LinkPort), (Instr.fabTrainLimit lp).wf = true ∧ s.chip.linkPower lp = true) ∧
    (∃ (s : State) (lp : LinkPort), (Instr.fabRetryInterval lp).wf = true ∧ s.chip.linkPower lp = true ∧
      s.chip.linkState lp = 1 ∧ s.chip.linkGet lp (fun _ l => l.retry) = true) ∧
    (∃ (s : State) (lp : LinkPort), (Instr.fabRetryInterval lp).wf = true ∧ s.chip.linkPower lp = true ∧
      s.chip.linkState lp = 1 ∧ s.chip.linkGet lp (fun _ l => l.retry) = false) ∧
    (∃ (s : State) (lp : LinkPort), s.chip.linkPower lp = true ∧ s.chip.linkOpen lp = true ∧
      (Instr.retrainTrigger lp .codewords).wf = true) ∧
    (∃ (s : State) (lp : LinkPort), s.chip.linkPower lp = true ∧ s.chip.linkOpen lp = true ∧
      (Instr.retrainTrigger lp .replays).wf = true ∧
      s.chip.fld (lpTimers lp) 59 56 ≤ s.chip.linkGet lp (fun _ l => l.replays)) ∧
    (∃ (s : State) (lp : LinkPort), s.chip.linkPower lp = true ∧ s.chip.linkOpen lp = true ∧
      (Instr.retrainTrigger lp .replays).wf = true ∧
      s.chip.linkGet lp (fun _ l => l.replays) < s.chip.fld (lpTimers lp) 59 56) ∧
    (∃ (s : State) (lp : LinkPort) (i : _), s.chip.linkPower lp = true ∧ s.chip.linkOpen lp = true ∧
      (Instr.retrainTrigger lp (.noisyLane i)).wf = true) ∧
    (∃ (s : State) (p : Nat) (i : TrainInfo), (Instr.retrainPasses (.fabric p) i).wf = true ∧
      s.chip.linkPower (.fabric p) = true ∧ s.chip.linkState (.fabric p) = 4 ∧
      (s.chip.settleLanes (.fabric p) i).2.fld (lpStatus (.fabric p)) 56 49 ≠ 255 ∧
      (s.chip.settleLanes (.fabric p) i).1 ≠ 0) ∧
    (∃ (s : State) (lp : LinkPort), s.chip.linkPower lp = true ∧ s.chip.linkState lp = 4 ∧
      (Instr.retrainFails lp).wf = true) ∧
    (∃ (s : State) (lp : LinkPort), s.chip.linkPower lp = true ∧ s.chip.linkState lp = 4 ∧
      (Instr.fabRetrainLimit lp).wf = true) :=
  ⟨⟨(linked 1 fun _ l => l), (.fabric 0), by decide +kernel⟩,
    ⟨(linked 2 fun _ l => { l with signal := true }), (.fabric 0), by decide +kernel⟩,
    ⟨(linked 3 fun _ l => { l with signal := true }), (.fabric 0), by decide +kernel⟩,
    ⟨(linked 2 fun _ l => l), (.fabric 0), { zTrainInfo with partnerDevice := 5, partnerLanes := 255 },
      by decide +kernel⟩,
    ⟨(linked 2 fun _ l => l), (.fabric 0), .failed, by decide +kernel⟩,
    ⟨(linked 2 fun _ l => { l with attempt := 9 }), (.fabric 0), .failed, by decide +kernel⟩,
    ⟨live, (.fabric 0), by decide +kernel⟩,
    ⟨(linked 1 fun _ l => { l with retry := true }), (.fabric 0), by decide +kernel⟩,
    ⟨(linked 1 fun _ l => l), (.fabric 0), by decide +kernel⟩,
    ⟨live, (.fabric 0), by decide +kernel⟩,
    ⟨(linked 3 fun _ l => { l with replays := 15 }), (.fabric 0), by decide +kernel⟩,
    ⟨live, (.fabric 0), by decide +kernel⟩,
    ⟨live, (.fabric 0), 0, by decide +kernel⟩,
    ⟨(linked 4 fun _ l => l), 0, { zTrainInfo with partnerDevice := 5, partnerLanes := 255 }, by decide +kernel⟩,
    ⟨(linked 4 fun _ l => l), (.fabric 0), by decide +kernel⟩,
    ⟨(linked 4 fun _ l => l), (.fabric 0), by decide +kernel⟩⟩

theorem witness_fabricPortControls :
    (∃ (s : State) (acc : Accessor) (p : Nat), s.chip.writeOpen = true ∧ s.chip.accSeam acc = true ∧
      (Instr.fabPortFence acc p).wf = true) ∧
    (∃ (s : State) (acc : Accessor) (p : Nat), s.chip.writeOpen = true ∧ s.chip.accSeam acc = true ∧
      (Instr.fabPortUnfence acc p).wf = true) ∧
    (∃ (s : State) (acc : Accessor) (p : Nat) (drain : _), s.chip.writeOpen = true ∧ s.chip.accSeam acc = true ∧
      (Instr.fabPortDrain acc p drain).wf = true) ∧
    (∃ (s : State) (acc : Accessor) (p : Nat), s.chip.writeOpen = true ∧ s.chip.accSeam acc = true ∧
      (Instr.fabPortRetrain acc p).wf = true) ∧
    (∃ (s : State) (acc : Accessor) (p : Nat) (lanes : _), s.chip.writeOpen = true ∧ s.chip.accSeam acc = true ∧
      (Instr.fabLaneFence acc p lanes).wf = true) ∧
    (∃ (s : State) (acc : Accessor) (p : Nat), s.chip.writeOpen = true ∧ s.chip.accSeam acc = false ∧
      (Instr.fabPortFence acc p).wf = true) :=
  ⟨⟨live, (.port 0), 0, by decide +kernel⟩,
    ⟨live, (.port 0), 0, by decide +kernel⟩,
    ⟨live, (.port 0), 0, false, by decide +kernel⟩,
    ⟨live, (.port 0), 0, by decide +kernel⟩,
    ⟨live, (.port 0), 0, 0, by decide +kernel⟩,
    ⟨live, (.port 1), 0, by decide +kernel⟩⟩

theorem witness_lateterPortControls :
    (∃ (s : State) (acc : Accessor) (p : Nat), s.chip.writeOpen = true ∧ s.chip.accOwner acc = true ∧
      (Instr.hlPortFence acc p).wf = true ∧ s.chip.isOwner p = false) ∧
    (∃ (s : State) (acc : Accessor) (p : Nat), s.chip.writeOpen = true ∧ s.chip.accOwner acc = true ∧
      (Instr.hlPortFence acc p).wf = true ∧ s.chip.isOwner p = true) ∧
    (∃ (s : State) (acc : Accessor) (p : Nat), s.chip.writeOpen = true ∧ s.chip.accOwner acc = true ∧
      (Instr.hlPortUnfence acc p).wf = true) ∧
    (∃ (s : State) (acc : Accessor) (p : Nat), s.chip.writeOpen = true ∧ s.chip.accOwner acc = true ∧
      (Instr.hlPortRetrain acc p).wf = true ∧ s.chip.isOwner p = false) ∧
    (∃ (s : State) (acc : Accessor) (p : Nat) (lanes : _), s.chip.writeOpen = true ∧ s.chip.accOwner acc = true ∧
      (Instr.hlLaneFence acc p lanes).wf = true ∧ s.chip.isOwner p = false) ∧
    (∃ (s : State) (acc : Accessor) (p : Nat) (w : Nat) (v : W64), s.chip.writeOpen = true ∧
      s.chip.accOwner acc = true ∧ (Instr.hostWindowWrite acc p w 1 v).wf = true) ∧
    (∃ (s : State) (acc : Accessor) (p : Nat) (w : Nat) (v : W64), s.chip.writeOpen = true ∧
      s.chip.accOwner acc = true ∧ (Instr.hostWindowWrite acc p w 0 v).wf = true ∧ winSwaps v = false ∧
      winSwaps (s.chip.reg (Reg.hlHostWin p w 0)) = false) :=
  ⟨⟨live, (.port 0), 1, by decide +kernel⟩,
    ⟨live, (.port 0), 0, by decide +kernel⟩,
    ⟨live, (.port 0), 1, by decide +kernel⟩,
    ⟨live, (.port 0), 1, by decide +kernel⟩,
    ⟨live, (.port 0), 1, 0, by decide +kernel⟩,
    ⟨live, (.port 0), 1, 0, 0#64, by decide +kernel⟩,
    ⟨live, (.port 0), 1, 0, 0#64, by decide +kernel⟩⟩

end Sys2Proof.Tests
end

