-- ==== Sys2Proof/Tests/WitnessesC.lean ====
section
/-!
SUPPORT. For each clause of each statement, a state and operands that meet its hypotheses together (part 3).
-/
namespace Sys2Proof.Tests
open Sys2Proof.Machine
set_option linter.unusedVariables false
set_option maxRecDepth 8000
set_option Elab.async false

theorem witness_lateterTimers :
    (∃ (s : State) (p : Nat), (Instr.hlSyncWait p).wf = true ∧ s.chip.hlState p = 5) ∧
    (∃ (s : State) (p : Nat), (Instr.hlSyncWait p).wf = true ∧ s.chip.hlState p ≠ 5) ∧
    (∃ (s : State) (p : Nat), (Instr.hlCreditStall p).wf = true ∧ s.chip.hlState p = 3 ∧
      s.chip.stalledClasses p ≠ [] ∧ s.chip.bit (Reg.hlPortStatus p) 42 = false) ∧
    (∃ (s : State) (p : Nat), (Instr.hlDownHold p).wf = true ∧ s.chip.bit (Reg.hlPortStatus p) 43 = true) ∧
    (∃ (s : State) (p : Nat), (Instr.hlDownHold p).wf = true ∧ s.chip.bit (Reg.hlPortStatus p) 43 = false) ∧
    (∃ (s : State) (tag : Nat) (b : Bulk) (c : Chip), (Instr.hlBulkTimeout tag).wf = true ∧ s.chip.domUp 1 = true ∧
      s.chip.bulkTake tag = (some b, c) ∧ (c.bump (Reg.hlCnt 10)).fld Reg.hlHostTimers 62 60 ≤ b.sends) :=
  ⟨⟨(lateter 5), 0, by decide +kernel⟩,
    ⟨live, 0, by decide +kernel⟩,
    ⟨(liveWith fun c => c.setHlPort 0 { c.hlPort 0 with link := { (c.hlPort 0).link with credits := [0, 0, 0, 0], out := [⟨0, (0, .linkSync 0 0 0 0), false, [], false⟩] } }),
      0, by decide +kernel⟩,
    ⟨(liveWith fun c => c.setFld (Reg.hlPortStatus 0) 43 43 1), 0, by decide +kernel⟩,
    ⟨live, 0, by decide +kernel⟩,
    ⟨(liveWith fun c => { c with hl := { c.hl with bulks := [{ zBulk with tag := 4, length := 1, sends := 7 }] } }),
      4, { zBulk with tag := 4, length := 1, sends := 7 },
      (((liveWith fun c => { c with hl := { c.hl with bulks := [{ zBulk with tag := 4, length := 1, sends := 7 }] } })).chip.bulkTake 4).2,
      by decide +kernel⟩⟩

theorem witness_routes :
    (∃ (s : State) (acc : Accessor) (sh : Bool) (dst : Nat) (v : W64) (half : Bool), (Instr.routeEntryWrite acc sh dst v half).wf = true ∧
      s.chip.writeOpen = true ∧ s.chip.accSeam acc = true ∧ half = false ∧ routeBad v = false) ∧
    (∃ (s : State) (acc : Accessor) (sh : Bool) (dst : Nat) (v : W64) (half : Bool), (Instr.routeEntryWrite acc sh dst v half).wf = true ∧
      s.chip.writeOpen = true ∧ (s.chip.accSeam acc = false ∨ half = true ∨ routeBad v = true)) ∧
    (∃ (s : State) (acc : Accessor) (e : Nat), (Instr.swEpochCommit acc e).wf = true ∧ s.chip.writeOpen = true ∧
      s.chip.accSeam acc = true ∧ (s.chip.devState = 2 ∨ s.chip.devState = 4 ∨ s.chip.devState = 5) ∧
      e = wrapSucc 16 (s.chip.fld Reg.swCtrl 60 45)) ∧
    (∃ (s : State) (acc : Accessor) (e : Nat), (Instr.swEpochCommit acc e).wf = true ∧ s.chip.writeOpen = true ∧
      s.chip.accSeam acc = true ∧ e ≠ wrapSucc 16 (s.chip.fld Reg.swCtrl 60 45)) ∧
    (∃ (s : State), s.chip.bit Reg.swCtrl 61 = true) ∧
    (∃ (s : State), s.chip.bit Reg.swCtrl 61 = false) :=
  ⟨⟨live, (.port 0), false, 0, 0#64, false, by decide +kernel⟩,
    ⟨live, (.port 1), false, 0, 0#64, false, by decide +kernel⟩,
    ⟨(liveIn 4 id), (.port 0), 1, by decide +kernel⟩,
    ⟨live, (.port 0), 5, by decide +kernel⟩,
    ⟨(liveWith fun c => c.setFld Reg.swCtrl 61 61 1), by decide +kernel⟩,
    ⟨live, by decide +kernel⟩⟩

theorem witness_managerPackets :
    (∃ (s : State) (h : FabHdr) (b : SwWriteBody), (Instr.fabPktSwWrite h b).wf = true ∧
      Arrives s h (.swWrite b) (entriesRsvd b) ∧ h.src = (got s h (.swWrite b)).mgrDevice ∧ h.src ≠ 0xFFFF) ∧
    (∃ (s : State) (h : FabHdr) (b : SwWriteBody), (Instr.fabPktSwWrite h b).wf = true ∧
      Arrives s h (.swWrite b) (entriesRsvd b) ∧ h.src ≠ (got s h (.swWrite b)).mgrDevice) ∧
    (∃ (s : State) (h : FabHdr) (b : SwWriteBody), (Instr.fabPktRmaGrant h b).wf = true ∧
      Arrives s h (.rmaGrant b) (entriesRsvd b) ∧ h.src = (got s h (.rmaGrant b)).mgrDevice ∧ h.src ≠ 0xFFFF) ∧
    (∃ (s : State) (h : FabHdr) (b : SwAckBody), (Instr.fabPktSwWriteAck h b).wf = true ∧
      Arrives s h (.swWriteAck b) b.rsvd) ∧
    (∃ (s : State) (h : FabHdr), (Instr.fabPktCcEcho h).wf = true ∧ Arrives s h .ccEcho 0) ∧
    (∃ (s : State) (h : FabHdr) (b : NackBody) (o : _), (Instr.fabPktNack h b).wf = true ∧
      Arrives s h (.nack b) b.rsvd ∧ (got s h (.nack b)).op? b.msgId = some o ∧ opType o.kind = b.droppedType) ∧
    (∃ (s : State) (h : FabHdr) (b : NackBody) (o : _), (Instr.fabPktNack h b).wf = true ∧
      Arrives s h (.nack b) b.rsvd ∧ (got s h (.nack b)).op? b.msgId = some o ∧ opType o.kind ≠ b.droppedType) ∧
    (∃ (s : State) (h : FabHdr) (b : NackBody), (Instr.fabPktNack h b).wf = true ∧ Arrives s h (.nack b) b.rsvd ∧
      (got s h (.nack b)).op? b.msgId = none ∧ b.droppedType ≠ 0x38) :=
  ⟨⟨live, { zf 0x03 64 with src := 9 }, { zSwWriteBody with entries := [(0x100000, 0, 0#64)] }, by decide +kernel⟩,
    ⟨live, (zf 0x03 64), { zSwWriteBody with entries := [(0x100000, 0, 0#64)] }, by decide +kernel⟩,
    ⟨live, { zf 0x1E 64 with src := 9 }, { zSwWriteBody with entries := [(0x100000, 0, 0#64)] }, by decide +kernel⟩,
    ⟨live, (zf 0x04 64), zSwAckBody, by decide +kernel⟩,
    ⟨live, (zf 0x02 64), by decide +kernel⟩,
    ⟨(liveWith fun c => { c with rma := { c.rma with ops := [{ zPendOp with msgId := 3 }] } }), (zf 0x01 64),
      { zNackBody with msgId := 3, droppedType := 0x10 }, { zPendOp with msgId := 3 }, by decide +kernel⟩,
    ⟨(liveWith fun c => { c with rma := { c.rma with ops := [{ zPendOp with msgId := 3, kind := .store }] } }),
      (zf 0x01 64), { zNackBody with msgId := 3, droppedType := 0x10 }, { zPendOp with msgId := 3, kind := .store },
      by decide +kernel⟩,
    ⟨live, (zf 0x01 64), { zNackBody with msgId := 3, droppedType := 0x10 }, by decide +kernel⟩⟩

theorem witness_congestion :
    (∃ (s : State) (p : Nat) (k : FabPkt), (Instr.seamForward p k).wf = true ∧ s.chip.fabricUp = true ∧
      s.chip.fabState p = 3) ∧
    (∃ (s : State) (p : Nat) (k : FabPkt), (Instr.seamForward p k).wf = true ∧ s.chip.fabricUp = true ∧
      s.chip.fabState p ≠ 3) ∧
    (∃ (s : State) (p : Nat), (Instr.egressDequeue p).wf = true ∧ s.chip.fabState p ≠ 3) ∧
    (∃ (s : State) (p : Nat), (Instr.egressDequeue p).wf = true ∧ s.chip.fabState p = 3 ∧
      s.chip.fillShaper.pickClass (s.chip.fillShaper.fillTc0 p (s.chip.fillShaper.fabPort p)) = none) ∧
    (∃ (s : State) (p : Nat) (tc : _) (r : _) (m : _) (defs : _) (k : _) (i : _) (it : _), (Instr.egressDequeue p).wf = true ∧
      s.chip.fabState p = 3 ∧
      s.chip.fillShaper.pickClass (s.chip.fillShaper.fillTc0 p (s.chip.fillShaper.fabPort p)) = some (tc, r) ∧
      s.chip.fillShaper.pickMember r tc = some (m, defs, k) ∧
      findIdx1 (fun i => i.pkt.hdr.tc == tc && i.member == m) r.queue = some (i, it)) ∧
    (∃ (s : State) (id : Nat) (e : Combine), s.chip.fab.combines.find? (fun e => e.id == id) = some e ∧
      (Instr.swCombineWindow id).wf = true) ∧
    (∃ (s : State) (id : Nat) (e : Combine), s.chip.fab.combines.find? (fun e => e.id == id) = some e ∧
      (Instr.swCombineHold id).wf = true ∧ e.sent.isSome = true) ∧
    (∃ (s : State) (p : Nat) (tc : Nat), (Instr.hotspotDetected p tc).wf = true ∧ p < 16 ∧
      s.chip.fld Reg.swParams 63 48 * 1024 < s.chip.queuedBytes p tc ∧ (s.chip.fabPort p).hot.getD tc false = false) ∧
    (∃ (s : State) (d : Nat) (e : RateEnt) (i : _) (rest : _), s.chip.rateEnt d = some e ∧
      (Instr.pacedRelease d).wf = true ∧ (fillBucket s.chip.time e).queue = i :: rest ∧
      0 ≤ (fillBucket s.chip.time e).bucket) ∧
    (∃ (s : State) (d : Nat) (e : RateEnt), s.chip.rateEnt d = some e ∧ (Instr.ccNoSample d).wf = true ∧
      e.unechoed ≠ 0) :=
  ⟨⟨live, 0, zFabPkt, by decide +kernel⟩,
    ⟨(linked 1 fun _ l => l), 0, zFabPkt, by decide +kernel⟩,
    ⟨(linked 1 fun _ l => l), 0, by decide +kernel⟩,
    ⟨live, 0, by decide +kernel⟩,
    ⟨queueing, 0, 0,
      (((queueing.chip.fillShaper.pickClass (queueing.chip.fillShaper.fillTc0 0 (queueing.chip.fillShaper.fabPort 0))).map Prod.snd).getD .init),
      .device,
      (((queueing.chip.fillShaper.pickMember (((queueing.chip.fillShaper.pickClass (queueing.chip.fillShaper.fillTc0 0 (queueing.chip.fillShaper.fabPort 0))).map Prod.snd).getD .init) 0)).getD (.device, [], 0)).2.1,
      (((queueing.chip.fillShaper.pickMember (((queueing.chip.fillShaper.pickClass (queueing.chip.fillShaper.fillTc0 0 (queueing.chip.fillShaper.fabPort 0))).map Prod.snd).getD .init) 0)).getD (.device, [], 0)).2.2,
      0, sampleItem, by decide +kernel⟩,
    ⟨(liveWith fun c => { c with fab := { c.fab with combines := [{ zCombine with id := 4 }] } }), 4,
      { zCombine with id := 4 }, by decide +kernel⟩,
    ⟨(liveWith fun c => { c with fab := { c.fab with combines := [{ zCombine with id := 4, sent := some 3 }] } }), 4,
      { zCombine with id := 4, sent := some 3 }, by decide +kernel⟩,
    ⟨(onChip queueing fun c => c.setFld Reg.swParams 63 48 0), 0, 0, by decide +kernel⟩,
    ⟨(liveWith fun c => { c with fab := { c.fab with rates := [{ zRateEnt with dst := 5, queue := [sampleItem], unechoed := 1 }] } }),
      5, { zRateEnt with dst := 5, queue := [sampleItem], unechoed := 1 }, sampleItem, [], by decide +kernel⟩,
    ⟨(liveWith fun c => { c with fab := { c.fab with rates := [{ zRateEnt with dst := 5, queue := [sampleItem], unechoed := 1 }] } }),
      5, { zRateEnt with dst := 5, queue := [sampleItem], unechoed := 1 }, by decide +kernel⟩⟩

theorem witness_storeWritesItsRange :
    (∃ (s : State) (h : FabHdr) (b : StoreBody), (Instr.fabPktStore h b false).wf = true ∧
      Arrives s h (.store b) (storeRsvd b) ∧ memWf s.chip.work.t1 = true ∧ memWf s.chip.work.t2 = true ∧
      (got s h (.store b)).regionStatus h b.region b.offset b.data.length = stOk) ∧
    (∃ (s : State) (h : FabHdr) (b : StoreBody), (Instr.fabPktStore h b false).wf = true ∧
      Arrives s h (.store b) (storeRsvd b) ∧ memWf s.chip.work.t1 = true ∧ memWf s.chip.work.t2 = true ∧
      (got s h (.store b)).regionStatus h b.region b.offset b.data.length ≠ stOk) :=
  ⟨⟨(liveWith windowed), (zf 0x12 64), { zStoreBody with data := [1#8] }, by decide +kernel⟩,
    ⟨live, (zf 0x12 64), { zStoreBody with data := [1#8] }, by decide +kernel⟩⟩

theorem witness_loadsAndReadsAnswerTheBytes :
    (∃ (s : State) (h : FabHdr) (b : LoadBody), (Instr.fabPktLoad h b false).wf = true ∧
      Arrives s h (.load b) (regionRsvd b.region b.rsvd true) ∧ h.enc = false ∧
      (got s h (.load b)).regionBad b.region b.offset 64 = false ∧
      (got s h (.load b)).regionStatus h b.region b.offset 64 = stOk) ∧
    (∃ (s : State) (h : FabHdr) (b : LoadBody), (Instr.fabPktLoad h b false).wf = true ∧
      Arrives s h (.load b) (regionRsvd b.region b.rsvd true) ∧ h.enc = false ∧
      (got s h (.load b)).regionBad b.region b.offset 64 = false ∧
      (got s h (.load b)).regionStatus h b.region b.offset 64 ≠ stOk) ∧
    (∃ (s : State) (h : FabHdr) (b : ReadBody), (Instr.fabPktRead h b false).wf = true ∧
      Arrives s h (.read b) (regionRsvd b.region b.rsvd true) ∧ h.enc = false ∧ 0 < b.length ∧ b.length ≤ 16711680 ∧
      (got s h (.read b)).regionBad b.region b.offset b.length = false ∧
      (got s h (.read b)).regionStatus h b.region b.offset b.length = stOk) ∧
    (∃ (s : State) (h : FabHdr) (b : ReadBody), (Instr.fabPktRead h b false).wf = true ∧
      Arrives s h (.read b) (regionRsvd b.region b.rsvd true) ∧ h.enc = false ∧ 0 < b.length ∧ b.length ≤ 16711680 ∧
      (got s h (.read b)).regionBad b.region b.offset b.length = false ∧
      (got s h (.read b)).regionStatus h b.region b.offset b.length ≠ stOk) :=
  ⟨⟨(liveWith windowed), (zf 0x10 64), zLoadBody, by decide +kernel⟩,
    ⟨live, (zf 0x10 64), zLoadBody, by decide +kernel⟩,
    ⟨(liveWith windowed), (zf 0x14 64), { zReadBody with length := 64 }, by decide +kernel⟩,
    ⟨live, (zf 0x14 64), { zReadBody with length := 64 }, by decide +kernel⟩⟩

theorem witness_atomicsApplyOnce :
    (∃ (s : State) (h : FabHdr) (b : AtomicBody), (Instr.fabPktAtomic h b false).wf = true ∧
      Arrives s h (.atomic b) (atomicRsvd b) ∧ h.enc = false ∧ memWf s.chip.work.t1 = true ∧
      memWf s.chip.work.t2 = true ∧ b.op = 1 ∧ (got s h (.atomic b)).regionStatus h b.region b.offset 8 = stOk ∧
      (got s h (.atomic b)).replay? h.src b.seq = none ∧ b.tgtEpoch = 0 ∧ b.try_ = 0 ∧
      (got s h (.atomic b)).belowFloor h.src b.seq = false ∧ (got s h (.atomic b)).rma.replay.length < 4096 ∧
      (got s h (.atomic b)).regionBad b.region b.offset 8 = false) ∧
    (∃ (s : State) (h : FabHdr) (b : AtomicBody) (e : _), (Instr.fabPktAtomic h b false).wf = true ∧
      Arrives s h (.atomic b) (atomicRsvd b) ∧ h.enc = false ∧ memWf s.chip.work.t1 = true ∧
      memWf s.chip.work.t2 = true ∧ b.op ≤ 3 ∧
      (got s h (.atomic b)).regionStatus h b.region b.offset (atomicLen b.op) = stOk ∧
      (got s h (.atomic b)).replay? h.src b.seq = some e) :=
  ⟨⟨(liveWith windowed), (zf 0x18 64), { zAtomicBody with op := 1 }, by decide +kernel⟩,
    ⟨(liveWith fun c => windowed { c with rma := { c.rma with replay := [{ zReplayEnt with req := 5 }] } }),
      (zf 0x18 64), zAtomicBody, { zReplayEnt with req := 5 }, by decide +kernel⟩⟩

theorem witness_writesCombinedAddsAndCancels :
    (∃ (s : State) (h : FabHdr) (b : WriteBody), (Instr.fabPktWrite h b false).wf = true ∧
      Arrives s h (.write b) (writeRsvd b) ∧ b.pktIndex < 4096 ∧ (got s h (.write b)).ctx? h.src h.msgId = none ∧
      h.payLen = h.totalLen ∧ ((got s h (.write b)).regionStatus h b.region b.dstOffset b.data.length) = stOk) ∧
    (∃ (s : State) (h : FabHdr) (b : WriteBody), (Instr.fabPktWrite h b false).wf = true ∧
      Arrives s h (.write b) (writeRsvd b) ∧ b.pktIndex < 4096 ∧ (got s h (.write b)).ctx? h.src h.msgId = none ∧
      h.payLen = h.totalLen ∧ ((got s h (.write b)).regionStatus h b.region b.dstOffset b.data.length) ≠ stOk ∧
      ((got s h (.write b)).regionStatus h b.region b.dstOffset b.data.length) ≠ stUncorrectable) ∧
    (∃ (s : State) (h : FabHdr) (b : WriteBody) (x : _), (Instr.fabPktWrite h b false).wf = true ∧
      Arrives s h (.write b) (writeRsvd b) ∧ b.pktIndex < 4096 ∧ (got s h (.write b)).ctx? h.src h.msgId = some x ∧
      x.bits.testBit b.pktIndex = true) ∧
    (∃ (s : State) (h : FabHdr) (b : CombinedBody), (Instr.fabPktAtomicCombined h b false).wf = true ∧
      Arrives s h (.atomicCombined b) (combinedRsvd b) ∧
      (got s h (.atomicCombined b)).regionStatus h b.region b.offset 8 = stOk ∧
      (got s h (.atomicCombined b)).freshTable = false ∧
      (b.entries.filter (fun e => ((got s h (.atomicCombined b)).replay? e.1 e.2.1).isNone)).any (fun e => (got s h (.atomicCombined b)).belowFloor e.1 e.2.1) = false ∧
      (got s h (.atomicCombined b)).rma.replay.length + (b.entries.filter (fun e => ((got s h (.atomicCombined b)).replay? e.1 e.2.1).isNone)).length ≤ 4096 ∧
      (got s h (.atomicCombined b)).regionBad b.region b.offset 8 = false) ∧
    (∃ (s : State) (h : FabHdr) (b : CombinedBody), (Instr.fabPktAtomicCombined h b false).wf = true ∧
      Arrives s h (.atomicCombined b) (combinedRsvd b) ∧
      (got s h (.atomicCombined b)).regionStatus h b.region b.offset 8 ≠ stOk) ∧
    (∃ (s : State) (h : FabHdr) (b : CancelBody), (Instr.fabPktCancel h b).wf = true ∧
      Arrives s h (.cancel b) b.rsvd ∧ (got s h (.cancel b)).rma.cancels.length < 1024) ∧
    (∃ (s : State) (h : FabHdr) (b : CancelBody), (Instr.fabPktCancel h b).wf = true ∧
      Arrives s h (.cancel b) b.rsvd ∧ 1024 ≤ (got s h (.cancel b)).rma.cancels.length ∧
      (got s h (.cancel b)).rma.cancels.contains (h.src, b.cancelId) = false) ∧
    (∃ (s : State) (h : FabHdr) (b : RevokeDoneBody), (Instr.fabPktRmaRevokeDone h b).wf = true ∧
      Arrives s h (.revokeDone b) b.rsvd) :=
  ⟨⟨(liveWith windowed), (zf 0x16 64), { zWriteBody with data := [1#8] }, by decide +kernel⟩,
    ⟨live, (zf 0x16 64), { zWriteBody with data := [1#8] }, by decide +kernel⟩,
    ⟨(liveWith fun c => { c with rma := { c.rma with ctxs := [{ zRmaCtx with src := 5, msgId := 3, bits := 1 }] } }),
      (zf 0x16 64), { zWriteBody with data := [1#8] }, { zRmaCtx with src := 5, msgId := 3, bits := 1 },
      by decide +kernel⟩,
    ⟨(liveWith fun c => windowed { c with time := 10 ^ 9 }), (zf 0x1A 64),
      { zCombinedBody with entries := [(1, 1, 0#64), (2, 1, 0#64)] }, by decide +kernel⟩,
    ⟨live, (zf 0x1A 64), { zCombinedBody with entries := [(1, 1, 0#64), (2, 1, 0#64)] }, by decide +kernel⟩,
    ⟨live, (zf 0x1C 64), zCancelBody, by decide +kernel⟩,
    ⟨(liveWith fun c => { c with rma := { c.rma with cancels := List.replicate 1024 (1, 1) } }), (zf 0x1C 64),
      zCancelBody, by decide +kernel⟩,
    ⟨live, (zf 0x1F 64), zRevokeDoneBody, by decide +kernel⟩⟩

theorem witness_requesterTakesAnswers :
    (∃ (s : State) (h : FabHdr) (b : LoadReplyBody) (o : _), (Instr.fabPktLoadReply h b).wf = true ∧
      Arrives s h (.loadReply b) b.rsvd ∧ (got s h (.loadReply b)).combineFor h.msgId false = none ∧
      (got s h (.loadReply b)).op? h.msgId = some o ∧ o.kind = .load) ∧
    (∃ (s : State) (h : FabHdr) (b : LoadReplyBody), (Instr.fabPktLoadReply h b).wf = true ∧
      Arrives s h (.loadReply b) b.rsvd ∧ (got s h (.loadReply b)).combineFor h.msgId false = none ∧
      (got s h (.loadReply b)).op? h.msgId = none) ∧
    (∃ (s : State) (h : FabHdr) (b : AckBody) (o : _), (Instr.fabPktStoreAck h b).wf = true ∧
      Arrives s h (.storeAck b) b.rsvd ∧ (got s h (.storeAck b)).op? h.msgId = some o ∧ o.kind = .store) ∧
    (∃ (s : State) (h : FabHdr) (b : AckBody), (Instr.fabPktStoreAck h b).wf = true ∧
      Arrives s h (.storeAck b) b.rsvd ∧ (got s h (.storeAck b)).op? h.msgId = none ∧
      (got s h (.storeAck b)).cancelOf h.msgId = none) ∧
    (∃ (s : State) (h : FabHdr) (b : AckBody) (o : _), (Instr.fabPktStoreAck h b).wf = true ∧
      Arrives s h (.storeAck b) b.rsvd ∧ (got s h (.storeAck b)).op? h.msgId = none ∧
      (got s h (.storeAck b)).cancelOf h.msgId = some o) ∧
    (∃ (s : State) (h : FabHdr) (b : AckBody) (o : _), (Instr.fabPktWriteAck h b).wf = true ∧
      Arrives s h (.writeAck b) b.rsvd ∧ (got s h (.writeAck b)).op? h.msgId = some o ∧ o.kind = .write) ∧
    (∃ (s : State) (h : FabHdr) (b : ReadDataBody) (o : PendOp), (Instr.fabPktReadData h b).wf = true ∧
      Arrives s h (.readData b) b.rsvd ∧ b.pktIndex < 4096 ∧ readOp (got s h (.readData b)) h b = some o ∧
      b.status = stOk ∧ (got s h (.readData b)).ctx? h.src h.msgId = none ∧ h.payLen = h.totalLen ∧
      b.dataOffset + b.data.length ≤ o.length ∧ o.owner ≠ .second) ∧
    (∃ (s : State) (h : FabHdr) (b : AtomicReplyBody) (o : PendOp), (Instr.fabPktAtomicReply h b).wf = true ∧
      Arrives s h (.atomicReply b) b.rsvd ∧
      (got s h (.atomicReply b)).rma.ops.find? (fun o => o.kind == .atomic && o.seq == b.seq) = some o ∧
      b.status = stOk ∧ b.tgtEpoch = 0) ∧
    (∃ (s : State) (h : FabHdr) (b : AtomicReplyBody) (o : PendOp), (Instr.fabPktAtomicReply h b).wf = true ∧
      Arrives s h (.atomicReply b) b.rsvd ∧
      (got s h (.atomicReply b)).rma.ops.find? (fun o => o.kind == .atomic && o.seq == b.seq) = some o ∧
      b.status = stBusy ∧ o.busy < 16) ∧
    (∃ (s : State) (h : FabHdr) (b : CombinedReplyBody) (e : _), (Instr.fabPktAtomicCombinedReply h b).wf = true ∧
      Arrives s h (.atomicCombinedReply b) b.rsvd ∧
      (got s h (.atomicCombinedReply b)).combineFor h.msgId true = some e) ∧
    (∃ (s : State) (h : FabHdr) (b : CombinedReplyBody), (Instr.fabPktAtomicCombinedReply h b).wf = true ∧
      Arrives s h (.atomicCombinedReply b) b.rsvd ∧
      (got s h (.atomicCombinedReply b)).combineFor h.msgId true = none) ∧
    (∃ (s : State) (h : FabHdr) (b : CancelAckBody) (o : PendOp), (Instr.fabPktCancelAck h b).wf = true ∧
      Arrives s h (.cancelAck b) b.rsvd ∧
      (got s h (.cancelAck b)).rma.ops.find? (fun o => o.kind == .cancel && o.body == .cancel { cancelId := b.cancelId, rsvd := 0 }) = some o ∧
      statusOf b.status ≠ stBusy) :=
  ⟨⟨(liveWith fun c => { c with rma := { c.rma with ops := [{ zPendOp with msgId := 3 }] } }), (zf 0x11 64),
    zLoadReplyBody, { zPendOp with msgId := 3 }, by decide +kernel⟩,
    ⟨live, (zf 0x11 64), zLoadReplyBody, by decide +kernel⟩,
    ⟨(liveWith fun c => { c with rma := { c.rma with ops := [{ zPendOp with msgId := 3, kind := .store }] } }),
      (zf 0x13 64), zAckBody, { zPendOp with msgId := 3, kind := .store }, by decide +kernel⟩,
    ⟨live, (zf 0x13 64), zAckBody, by decide +kernel⟩,
    ⟨(liveWith fun c => { c with rma := { c.rma with ops := [{ zPendOp with msgId := 4, kind := .cancel, body := .cancel { zCancelBody with cancelId := 3 } }] } }),
      (zf 0x13 64), zAckBody,
      { zPendOp with msgId := 4, kind := .cancel, body := .cancel { zCancelBody with cancelId := 3 } },
      by decide +kernel⟩,
    ⟨(liveWith fun c => { c with rma := { c.rma with ops := [{ zPendOp with msgId := 3, kind := .write }] } }),
      (zf 0x17 64), zAckBody, { zPendOp with msgId := 3, kind := .write }, by decide +kernel⟩,
    ⟨(liveWith fun c => { c with rma := { c.rma with ops := [{ zPendOp with msgId := 3, kind := .read, target := 5, length := 64, readTag := 4 }] } }),
      (zf 0x15 64), { zReadDataBody with readTag := 4, data := [1#8] },
      { zPendOp with msgId := 3, kind := .read, target := 5, length := 64, readTag := 4 }, by decide +kernel⟩,
    ⟨(liveWith fun c => { c with rma := { c.rma with ops := [{ zPendOp with msgId := 3, kind := .atomic, target := 5 }] } }),
      (zf 0x19 64), zAtomicReplyBody, { zPendOp with msgId := 3, kind := .atomic, target := 5 }, by decide +kernel⟩,
    ⟨(liveWith fun c => { c with rma := { c.rma with ops := [{ zPendOp with msgId := 3, kind := .atomic, target := 5 }] } }),
      (zf 0x19 64), { zAtomicReplyBody with status := 1 }, { zPendOp with msgId := 3, kind := .atomic, target := 5 },
      by decide +kernel⟩,
    ⟨(liveWith fun c => { c with fab := { c.fab with combines := [{ zCombine with id := 4, add := true, sent := some 3 }] } }),
      (zf 0x1B 64), zCombinedReplyBody, { zCombine with id := 4, add := true, sent := some 3 }, by decide +kernel⟩,
    ⟨live, (zf 0x1B 64), zCombinedReplyBody, by decide +kernel⟩,
    ⟨(liveWith fun c => { c with rma := { c.rma with ops := [{ zPendOp with msgId := 3, kind := .cancel, body := (.cancel zCancelBody) }] } }),
      (zf 0x1D 64), zCancelAckBody, { zPendOp with msgId := 3, kind := .cancel, body := (.cancel zCancelBody) },
      by decide +kernel⟩⟩

theorem witness_rmaTimers :
    (∃ (s : State) (id : Nat) (o : PendOp), s.chip.op? id = some o ∧ o.hold = false ∧
      (Instr.rmaAtomicTimeout id).wf = true ∧ o.kind = .load ∧ o.sends < s.chip.tries) ∧
    (∃ (s : State) (id : Nat) (o : PendOp), s.chip.op? id = some o ∧ o.hold = false ∧
      (Instr.rmaAtomicTimeout id).wf = true ∧ o.kind = .load ∧ s.chip.tries ≤ o.sends) ∧
    (∃ (s : State) (id : Nat) (o : PendOp), s.chip.op? id = some o ∧ o.hold = false ∧
      (Instr.rmaAtomicTimeout id).wf = true ∧ o.kind = .atomic ∧ s.chip.tries ≤ o.sends) ∧
    (∃ (s : State) (id : Nat) (o : PendOp), s.chip.op? id = some o ∧ o.hold = false ∧
      (Instr.rmaStoreTimeout id).wf = true ∧ o.kind = .store) ∧
    (∃ (s : State) (id : Nat) (o : PendOp), s.chip.op? id = some o ∧ o.hold = false ∧
      (Instr.rmaWriteTimeout id).wf = true ∧ o.kind = .write) ∧
    (∃ (s : State) (id : Nat) (o : PendOp), (Instr.rmaBusyBackoff id).wf = true ∧ s.chip.op? id = some o ∧
      o.hold = true) ∧
    (∃ (s : State) (id : Nat) (o : PendOp), (Instr.rmaBusyBackoff id).wf = true ∧ s.chip.op? id = some o ∧
      o.hold = false) ∧
    (∃ (s : State) (req : Nat) (seq : Nat) (e : ReplayEnt), (Instr.rmaReplayHold req seq).wf = true ∧
      s.chip.replay? req seq = some e ∧ s.chip.rma.floors.find? (fun f => f.1 == req) = none) ∧
    (∃ (s : State) (req : Nat), (Instr.replayFloorDiscard req).wf = true) ∧
    (∃ (s : State) (src : Nat) (id : Nat) (x : RmaCtx), (Instr.rmaReassemblyLimit src id).wf = true ∧
      s.chip.ctx? src id = some x) ∧
    (∃ (s : State) (src : Nat) (id : Nat), (Instr.rmaCancelHold src id).wf = true) :=
  ⟨⟨(liveWith fun c => { c with rma := { c.rma with ops := [{ zPendOp with msgId := 3 }] } }), 3,
    { zPendOp with msgId := 3 }, by decide +kernel⟩,
    ⟨(liveWith fun c => { c with rma := { c.rma with ops := [{ zPendOp with msgId := 3, sends := 15 }] } }), 3,
      { zPendOp with msgId := 3, sends := 15 }, by decide +kernel⟩,
    ⟨(liveWith fun c => { c with rma := { c.rma with ops := [{ zPendOp with msgId := 3, sends := 15, kind := .atomic }] } }),
      3, { zPendOp with msgId := 3, sends := 15, kind := .atomic }, by decide +kernel⟩,
    ⟨(liveWith fun c => { c with rma := { c.rma with ops := [{ zPendOp with msgId := 3, kind := .store }] } }), 3,
      { zPendOp with msgId := 3, kind := .store }, by decide +kernel⟩,
    ⟨(liveWith fun c => { c with rma := { c.rma with ops := [{ zPendOp with msgId := 3, kind := .write }] } }), 3,
      { zPendOp with msgId := 3, kind := .write }, by decide +kernel⟩,
    ⟨(liveWith fun c => { c with rma := { c.rma with ops := [{ zPendOp with msgId := 3, hold := true }] } }), 3,
      { zPendOp with msgId := 3, hold := true }, by decide +kernel⟩,
    ⟨(liveWith fun c => { c with rma := { c.rma with ops := [{ zPendOp with msgId := 3 }] } }), 3,
      { zPendOp with msgId := 3 }, by decide +kernel⟩,
    ⟨(liveWith fun c => { c with rma := { c.rma with replay := [{ zReplayEnt with req := 5 }] } }), 5, 0,
      { zReplayEnt with req := 5 }, by decide +kernel⟩,
    ⟨live, 5, by decide +kernel⟩,
    ⟨(liveWith fun c => { c with rma := { c.rma with ctxs := [{ zRmaCtx with src := 5, msgId := 3, bits := 1 }] } }),
      5, 3, { zRmaCtx with src := 5, msgId := 3, bits := 1 }, by decide +kernel⟩,
    ⟨live, 5, 3, by decide +kernel⟩⟩

theorem witness_grantsListsAndKeys :
    (∃ (s : State) (acc : Accessor) (g : Nat) (v : _), s.chip.writeOpen = true ∧
      (acc = .manager ∨ s.chip.accOwner acc = true) ∧ (Instr.grantActivate acc g v).wf = true ∧
      s.chip.grantAccepts g (putField v 63 62 1) = true) ∧
    (∃ (s : State) (acc : Accessor) (g : Nat) (v : _), s.chip.writeOpen = true ∧
      (acc = .manager ∨ s.chip.accOwner acc = true) ∧ (Instr.grantActivate acc g v).wf = true ∧
      s.chip.grantAccepts g (putField v 63 62 1) = false) ∧
    (∃ (s : State) (acc : Accessor) (g : Nat), s.chip.writeOpen = true ∧
      (acc = .manager ∨ s.chip.accOwner acc = true) ∧ (Instr.grantRevoke acc g).wf = true ∧
      s.chip.grantAccepts g (grantWord s g 2) = true) ∧
    (∃ (s : State) (acc : Accessor) (g : Nat), s.chip.writeOpen = true ∧
      (acc = .manager ∨ s.chip.accOwner acc = true) ∧ (Instr.grantInvalidate acc g).wf = true ∧
      s.chip.grantAccepts g (grantWord s g 0) = true) ∧
    (∃ (s : State) (port : Nat) (l : Nat) (v : W64), OwnerPort s port ∧ s.chip.wlReserved l = false ∧
      (Instr.wlArm port l v).wf = true ∧ s.chip.fld (Reg.rmaWlHdr l 0) 63 62 ≠ 1) ∧
    (∃ (s : State) (port : Nat) (l : Nat) (v : W64), OwnerPort s port ∧ s.chip.wlReserved l = false ∧
      (Instr.wlStop port l v).wf = true ∧ s.chip.fld (Reg.rmaWlHdr l 0) 63 62 = 1) ∧
    (∃ (s : State) (port : Nat) (v : W64), OwnerPort s port ∧ (Instr.rmaWlAdvance port v).wf = true ∧
      bitOf v 63 = true) ∧
    (∃ (s : State) (port : Nat) (v : W64), OwnerPort s port ∧ (Instr.keyInstall port v).wf = true) ∧
    (∃ (s : State) (port : Nat) (v : W64), OwnerPort s port ∧ (Instr.keyErase port v).wf = true) :=
  ⟨⟨live, (.port 0), 0, 0#64, by decide +kernel⟩,
    ⟨(liveWith granted), (.port 0), 0, 0#64, by decide +kernel⟩,
    ⟨(liveWith granted), (.port 0), 0, by decide +kernel⟩,
    ⟨(liveWith fun c => (granted c).setFld (Reg.rmaGrant 0 0) 63 62 3), (.port 0), 0, by decide +kernel⟩,
    ⟨live, 0, 0, 0#64, by decide +kernel⟩,
    ⟨(liveWith fun c => c.setFld (Reg.rmaWlHdr 0 0) 63 62 1), 0, 0, 0#64, by decide +kernel⟩,
    ⟨live, 0, (wordOf [(63, 63, 1)]), by decide +kernel⟩,
    ⟨live, 0, 0#64, by decide +kernel⟩,
    ⟨live, 0, 0#64, by decide +kernel⟩⟩

theorem witness_embeddingPackets :
    (∃ (s : State) (h : FabHdr) (b : EmbReadBody) (te : Bool), (Instr.fabPktEmbRead h b te).wf = true ∧
      Arrives s h (.embRead b) b.rsvd ∧ h.enc = false ∧ (got s h (.embRead b)).domUp 6 = false) ∧
    (∃ (s : State) (h : FabHdr) (b : EmbReadBody) (te : Bool), (Instr.fabPktEmbRead h b te).wf = true ∧
      Arrives s h (.embRead b) b.rsvd ∧ h.enc = false ∧ (got s h (.embRead b)).domUp 6 = true ∧
      (got s h (.embRead b)).ver b.table b.version = none) ∧
    (∃ (s : State) (h : FabHdr) (b : EmbReadBody) (te : Bool) (v : _), (Instr.fabPktEmbRead h b te).wf = true ∧
      Arrives s h (.embRead b) b.rsvd ∧ h.enc = false ∧ (got s h (.embRead b)).domUp 6 = true ∧
      (got s h (.embRead b)).ver b.table b.version = some v ∧ b.rows ≠ [] ∧
      b.rows.length ≤ rowsPerRead v.fmt v.width ∧
      (∀ row ∈ b.rows, (got s h (.embRead b)).migFor b.table b.version row = none)) ∧
    (∃ (s : State) (h : FabHdr) (b : EmbScatterBody) (te : Bool) (v : TableVer), (Instr.fabPktEmbScatter h b te).wf = true ∧
      Arrives s h (.embScatter b) b.rsvd ∧ (got s h (.embScatter b)).domUp 6 = true ∧
      (got s h (.embScatter b)).ver b.table b.version = some v ∧ b.delta.length = v.width ∧ h.payLen = h.totalLen ∧
      (got s h (.embScatter b)).migFor b.table b.version b.row = none) ∧
    (∃ (s : State) (h : FabHdr) (b : EmbScatterBody) (te : Bool) (v : TableVer) (r : _), (Instr.fabPktEmbScatter h b te).wf = true ∧
      Arrives s h (.embScatter b) b.rsvd ∧ (got s h (.embScatter b)).domUp 6 = true ∧
      (got s h (.embScatter b)).ver b.table b.version = some v ∧ b.delta.length = v.width ∧ h.payLen = h.totalLen ∧
      (got s h (.embScatter b)).migFor b.table b.version b.row = some r ∧ r.state = 2) ∧
    (∃ (s : State) (h : FabHdr) (b : EmbScatterBody) (te : Bool) (v : TableVer) (x : _), (Instr.fabPktEmbScatter h b te).wf = true ∧
      Arrives s h (.embScatter b) b.rsvd ∧ h.payLen ≠ h.totalLen ∧
      scatterJoins (got s h (.embScatter b)) h b = .more x) ∧
    (∃ (s : State) (h : FabHdr) (b : EmbScatterBody) (te : Bool) (v : TableVer) (x : _), (Instr.fabPktEmbScatter h b te).wf = true ∧
      Arrives s h (.embScatter b) b.rsvd ∧ h.payLen ≠ h.totalLen ∧
      scatterJoins (got s h (.embScatter b)) h b = .whole x) ∧
    (∃ (s : State) (h : FabHdr) (b : EmbRowsBody) (o : PendOp) (q : EmbReadBody) (v : TableVer), (Instr.fabPktEmbRows h b).wf = true ∧
      Arrives s h (.embRows b) b.rsvd ∧ (got s h (.embRows b)).op? h.msgId = some o ∧ o.body = .embRead q ∧
      statusOf b.status = stOk ∧ (got s h (.embRows b)).ver q.table q.version = some v ∧
      b.rows.length = q.rows.length ∧ (∀ r ∈ b.rows, r.length = rowReplyBytes v.fmt v.width)) ∧
    (∃ (s : State) (h : FabHdr) (b : EmbScatterAckBody) (o : PendOp), (Instr.fabPktEmbScatterAck h b).wf = true ∧
      Arrives s h (.embScatterAck b) b.rsvd ∧
      (got s h (.embScatterAck b)).rma.ops.find? (fun o => o.kind == .scatter && o.seq == b.seq) = some o ∧
      statusOf b.status ≠ stBusy ∧ statusOf b.status ≠ stReset) ∧
    (∃ (s : State) (h : FabHdr) (b : EmbRedirectBody), (Instr.fabPktEmbRedirect h b).wf = true ∧
      Arrives s h (.embRedirect b) (regionRsvd b.newRegion b.rsvd true) ∧ statusOf b.status ≠ stStaleMap) ∧
    (∃ (s : State) (h : FabHdr) (b : EmbRedirectBody) (o : _) (d : _), (Instr.fabPktEmbRedirect h b).wf = true ∧
      Arrives s h (.embRedirect b) (regionRsvd b.newRegion b.rsvd true) ∧ statusOf b.status = stStaleMap ∧
      (learned (got s h (.embRedirect b)) b).op? h.msgId = some o ∧ o.kind = .scatter ∧ o.body = .embScatter d) :=
  ⟨⟨(liveWith fun c => c.setFld (Reg.pwrDomainStatus 6) 63 61 0), (zf 0x30 64),
    { zEmbReadBody with version := 1, rows := [0] }, false, by decide +kernel⟩,
    ⟨live, (zf 0x30 64), { zEmbReadBody with version := 1, rows := [0] }, false, by decide +kernel⟩,
    ⟨(liveWith fun c => { c with emb := { c.emb with vers := [sampleTable] } }), (zf 0x30 64),
      { zEmbReadBody with version := 1, rows := [0] }, false, sampleTable, by decide +kernel⟩,
    ⟨(liveWith fun c => { c with emb := { c.emb with vers := [sampleTable] } }), (zf 0x32 64),
      { zEmbScatterBody with version := 1, delta := List.replicate 32 0#32 }, false, sampleTable, by decide +kernel⟩,
    ⟨(liveWith fun c => { c with emb := { c.emb with vers := [sampleTable], out := [{ zMigOut with id := 9, version := 1, m := 2, newDevice := 5, newRegion := 3, state := 2 }] } }),
      (zf 0x32 64), { zEmbScatterBody with version := 1, delta := List.replicate 32 0#32 }, false, sampleTable,
      { zMigOut with id := 9, version := 1, m := 2, newDevice := 5, newRegion := 3, state := 2 }, by decide +kernel⟩,
    ⟨live, { zf 0x32 64 with totalLen := 128, last := false },
      { zEmbScatterBody with version := 1, delta := List.replicate 32 0#32 }, false, sampleTable,
      { zRmaCtx with src := 5, msgId := 3, kind := 0x32, bits := 1, count := 64, buf := [(0, scatterBytes { zEmbScatterBody with version := 1, delta := List.replicate 32 0#32 })], bytes := 128 },
      by decide +kernel⟩,
    ⟨(liveWith fun c => { c with rma := { c.rma with ctxs := [{ zRmaCtx with src := 5, msgId := 3, kind := 0x32, bits := 2, count := 64, bytes := 3 }] } }),
      { zf 0x32 64 with totalLen := 128, last := false },
      { zEmbScatterBody with version := 1, delta := List.replicate 32 0#32 }, false, sampleTable,
      { zRmaCtx with src := 5, msgId := 3, kind := 0x32, bits := 3, count := 128, buf := [(0, scatterBytes { zEmbScatterBody with version := 1, delta := List.replicate 32 0#32 })], bytes := 131 },
      by decide +kernel⟩,
    ⟨(onChip (liveWith fun c => { c with emb := { c.emb with vers := [sampleTable] } }) fun c => { c with rma := { c.rma with ops := [{ zPendOp with msgId := 3, kind := .embRead, body := (.embRead { zEmbReadBody with version := 1, rows := [0] }) }] } }),
      (zf 0x31 64), { zEmbRowsBody with rows := [List.replicate 64 0#8] },
      { zPendOp with msgId := 3, kind := .embRead, body := (.embRead { zEmbReadBody with version := 1, rows := [0] }) },
      { zEmbReadBody with version := 1, rows := [0] }, sampleTable, by decide +kernel⟩,
    ⟨(liveWith fun c => { c with rma := { c.rma with ops := [{ zPendOp with msgId := 3, kind := .scatter }] } }),
      (zf 0x33 64), zEmbScatterAckBody, { zPendOp with msgId := 3, kind := .scatter }, by decide +kernel⟩,
    ⟨live, (zf 0x34 64), zEmbRedirectBody, by decide +kernel⟩,
    ⟨(liveWith fun c => { c with rma := { c.rma with ops := [{ zPendOp with msgId := 3, kind := .scatter, body := (.embScatter zEmbScatterBody) }] } }),
      (zf 0x34 64), { zEmbRedirectBody with status := 0x40 },
      { zPendOp with msgId := 3, kind := .scatter, body := (.embScatter zEmbScatterBody) }, zEmbScatterBody,
      by decide +kernel⟩⟩

theorem witness_migration :
    (∃ (s : State) (h : FabHdr) (b : MigOfferBody), (Instr.fabPktEmbMigOffer h b).wf = true ∧
      Arrives s h (.migOffer b) b.rsvd ∧ (got s h (.migOffer b)).ver b.table b.version = none) ∧
    (∃ (s : State) (h : FabHdr) (b : MigOfferBody), (Instr.fabPktEmbMigOffer h b).wf = true ∧
      Arrives s h (.migOffer b) b.rsvd ∧ (got s h (.migOffer b)).ver b.table b.version ≠ none ∧
      ((got s h (.migOffer b)).domUp 6 = false ∨ ((got s h (.migOffer b)).emb.ins.any (fun r => r.table == b.table && r.version == b.version && (covers r.first r.m b.firstRow || covers b.firstRow b.log2Rows r.first))) = true)) ∧
    (∃ (s : State) (h : FabHdr) (b : MigOfferBody), (Instr.fabPktEmbMigOffer h b).wf = true ∧
      Arrives s h (.migOffer b) b.rsvd ∧ (got s h (.migOffer b)).ver b.table b.version ≠ none ∧
      (got s h (.migOffer b)).domUp 6 = true ∧
      ((got s h (.migOffer b)).emb.ins.any (fun r => r.table == b.table && r.version == b.version && (covers r.first r.m b.firstRow || covers b.firstRow b.log2Rows r.first))) = false) ∧
    (∃ (s : State) (h : FabHdr) (b : MoveReplyBody) (r : MigOut), (Instr.fabPktEmbMigReply h b).wf = true ∧
      Arrives s h (.migReply b) (regionRsvd b.rxRegion (b.rsvd ||| b.common.rsvd) true) ∧
      (got s h (.migReply b)).migOut? b.common.moveId = some r ∧ r.newDevice = h.src ∧ r.state = 1 ∧
      r.written = false ∧ statusOf b.status ≠ stOk) ∧
    (∃ (s : State) (h : FabHdr) (b : MoveReplyBody) (r : MigOut) (v : _), (Instr.fabPktEmbMigReply h b).wf = true ∧
      Arrives s h (.migReply b) (regionRsvd b.rxRegion (b.rsvd ||| b.common.rsvd) true) ∧
      (got s h (.migReply b)).migOut? b.common.moveId = some r ∧ r.newDevice = h.src ∧ r.state = 1 ∧
      r.written = false ∧ statusOf b.status = stOk ∧ (got s h (.migReply b)).ver r.table r.version = some v ∧
      (((got s h (.migReply b)).setMigOut { r with written := true }).migWrite { r with written := true } v (rangeRuns v r)).1 = none) ∧
    (∃ (s : State) (h : FabHdr) (b : MoveReplyBody) (r : MigOut), (Instr.fabPktEmbMigReply h b).wf = true ∧
      Arrives s h (.migReply b) (regionRsvd b.rxRegion (b.rsvd ||| b.common.rsvd) true) ∧
      (got s h (.migReply b)).migOut? b.common.moveId = some r ∧ r.newDevice = h.src ∧ r.written = true) ∧
    (∃ (s : State) (h : FabHdr) (b : MoveAckBody) (r : MigOut), (Instr.fabPktEmbMigAck h b).wf = true ∧
      Arrives s h (.migAck b) (ackRsvd b) ∧ (got s h (.migAck b)).migOut? b.common.moveId = some r ∧
      r.newDevice = h.src ∧ b.phase = 0 ∧ r.state = 1 ∧ r.written = true) ∧
    (∃ (s : State) (h : FabHdr) (b : MoveAckBody) (r : MigOut), (Instr.fabPktEmbMigAck h b).wf = true ∧
      Arrives s h (.migAck b) (ackRsvd b) ∧ (got s h (.migAck b)).migOut? b.common.moveId = some r ∧
      r.newDevice = h.src ∧ b.phase ≠ 0 ∧ r.state = 2 ∧ (got s h (.migAck b)).migBytes r ≤ b.bytes) ∧
    (∃ (s : State) (h : FabHdr) (b : MoveAckBody) (r : MigOut), (Instr.fabPktEmbMigAck h b).wf = true ∧
      Arrives s h (.migAck b) (ackRsvd b) ∧ (got s h (.migAck b)).migOut? b.common.moveId = some r ∧
      r.newDevice = h.src ∧ b.phase ≠ 0 ∧ r.state = 2 ∧ b.bytes < (got s h (.migAck b)).migBytes r) ∧
    (∃ (s : State) (h : FabHdr) (b : MoveAckBody) (r : MigOut), (Instr.fabPktEmbMigAck h b).wf = true ∧
      Arrives s h (.migAck b) (ackRsvd b) ∧ (got s h (.migAck b)).migOut? b.common.moveId = some r ∧
      r.newDevice = h.src ∧ b.phase ≠ 0 ∧ r.state = 3) ∧
    (∃ (s : State) (h : FabHdr) (b : MoveBareBody) (r : MigIn), (Instr.fabPktEmbMigCommit h b).wf = true ∧
      Arrives s h (.migCommit b) (b.rsvd ||| b.common.rsvd) ∧
      (got s h (.migCommit b)).migIn? h.src b.common.moveId = some r ∧ r.state = 3) ∧
    (∃ (s : State) (h : FabHdr) (b : MoveBareBody) (r : MigIn), (Instr.fabPktEmbMigCommit h b).wf = true ∧
      Arrives s h (.migCommit b) (b.rsvd ||| b.common.rsvd) ∧
      (got s h (.migCommit b)).migIn? h.src b.common.moveId = some r ∧ r.state ≠ 3) ∧
    (∃ (s : State) (h : FabHdr) (b : MoveAbortBody) (r : _), (Instr.fabPktEmbMigAbort h b).wf = true ∧
      Arrives s h (.migAbort b) (b.rsvd ||| b.common.rsvd) ∧
      (got s h (.migAbort b)).migIn? h.src b.common.moveId = some r) ∧
    (∃ (s : State) (h : FabHdr) (b : MoveAbortBody) (r : _), (Instr.fabPktEmbMigAbort h b).wf = true ∧
      Arrives s h (.migAbort b) (b.rsvd ||| b.common.rsvd) ∧
      (got s h (.migAbort b)).migIn? h.src b.common.moveId = none ∧
      (got s h (.migAbort b)).migOut? b.common.moveId = some r ∧ r.state ≤ 2 ∧ r.newDevice = h.src) ∧
    (∃ (s : State) (id : Nat) (r : MigOut), (Instr.migrationForwardingTimer id).wf = true ∧
      s.chip.migOut? id = some r ∧ r.state = 3) ∧
    (∃ (s : State) (id : Nat) (r : MigOut), (Instr.migrationForwardingTimer id).wf = true ∧
      s.chip.migOut? id = some r ∧ r.state ≠ 3) :=
  ⟨⟨live, (zf 0x38 64), { zMigOfferBody with version := 1, log2Rows := 2 }, by decide +kernel⟩,
    ⟨(onChip (liveWith fun c => { c with emb := { c.emb with vers := [sampleTable] } }) fun c => c.setFld (Reg.pwrDomainStatus 6) 63 61 0),
      (zf 0x38 64), { zMigOfferBody with version := 1, log2Rows := 2 }, by decide +kernel⟩,
    ⟨(liveWith fun c => { c with emb := { c.emb with vers := [sampleTable] } }), (zf 0x38 64),
      { zMigOfferBody with version := 1, log2Rows := 2 }, by decide +kernel⟩,
    ⟨(liveWith fun c => { c with emb := { c.emb with vers := [sampleTable], out := [{ zMigOut with id := 9, version := 1, m := 2, newDevice := 5, newRegion := 3, state := 1 }] } }),
      (zf 0x39 64),
      { zMoveReplyBody with common := { zMoveCommon with requestId := 5, placement := 1, moveId := 9 }, status := 1 },
      { zMigOut with id := 9, version := 1, m := 2, newDevice := 5, newRegion := 3, state := 1 }, by decide +kernel⟩,
    ⟨(onChip (liveWith fun c => { c with emb := { c.emb with vers := [sampleTable], out := [{ zMigOut with id := 9, version := 1, m := 2, newDevice := 5, newRegion := 3, state := 1 }] } }) granted),
      (zf 0x39 64),
      { zMoveReplyBody with common := { zMoveCommon with requestId := 5, placement := 1, moveId := 9 } },
      { zMigOut with id := 9, version := 1, m := 2, newDevice := 5, newRegion := 3, state := 1 }, sampleTable,
      by decide +kernel⟩,
    ⟨(liveWith fun c => { c with emb := { c.emb with vers := [sampleTable], out := [{ zMigOut with id := 9, version := 1, m := 2, newDevice := 5, newRegion := 3, state := 1, written := true }] } }),
      (zf 0x39 64),
      { zMoveReplyBody with common := { zMoveCommon with requestId := 5, placement := 1, moveId := 9 } },
      { zMigOut with id := 9, version := 1, m := 2, newDevice := 5, newRegion := 3, state := 1, written := true },
      by decide +kernel⟩,
    ⟨(liveWith fun c => { c with emb := { c.emb with vers := [sampleTable], out := [{ zMigOut with id := 9, version := 1, m := 2, newDevice := 5, newRegion := 3, state := 1, written := true }] } }),
      (zf 0x3A 64), { zMoveAckBody with common := { zMoveCommon with requestId := 5, placement := 1, moveId := 9 } },
      { zMigOut with id := 9, version := 1, m := 2, newDevice := 5, newRegion := 3, state := 1, written := true },
      by decide +kernel⟩,
    ⟨(liveWith fun c => { c with emb := { c.emb with vers := [sampleTable], out := [{ zMigOut with id := 9, version := 1, m := 2, newDevice := 5, newRegion := 3, state := 2 }] } }),
      (zf 0x3A 64),
      { zMoveAckBody with common := { zMoveCommon with requestId := 5, placement := 1, moveId := 9 }, phase := 1, bytes := 1000000000 },
      { zMigOut with id := 9, version := 1, m := 2, newDevice := 5, newRegion := 3, state := 2 }, by decide +kernel⟩,
    ⟨(liveWith fun c => { c with emb := { c.emb with vers := [sampleTable], out := [{ zMigOut with id := 9, version := 1, m := 2, newDevice := 5, newRegion := 3, state := 2 }] } }),
      (zf 0x3A 64),
      { zMoveAckBody with common := { zMoveCommon with requestId := 5, placement := 1, moveId := 9 }, phase := 1 },
      { zMigOut with id := 9, version := 1, m := 2, newDevice := 5, newRegion := 3, state := 2 }, by decide +kernel⟩,
    ⟨(liveWith fun c => { c with emb := { c.emb with vers := [sampleTable], out := [{ zMigOut with id := 9, version := 1, m := 2, newDevice := 5, newRegion := 3, state := 3 }] } }),
      (zf 0x3A 64),
      { zMoveAckBody with common := { zMoveCommon with requestId := 5, placement := 1, moveId := 9 }, phase := 1 },
      { zMigOut with id := 9, version := 1, m := 2, newDevice := 5, newRegion := 3, state := 3 }, by decide +kernel⟩,
    ⟨(liveWith fun c => { c with emb := { c.emb with vers := [sampleTable], ins := [{ zMigIn with source := 5, id := 9, state := 3 }] } }),
      (zf 0x3B 64),
      { zMoveBareBody with common := { zMoveCommon with requestId := 5, placement := 1, moveId := 9 } },
      { zMigIn with source := 5, id := 9, state := 3 }, by decide +kernel⟩,
    ⟨(liveWith fun c => { c with emb := { c.emb with vers := [sampleTable], ins := [{ zMigIn with source := 5, id := 9, state := 2 }] } }),
      (zf 0x3B 64),
      { zMoveBareBody with common := { zMoveCommon with requestId := 5, placement := 1, moveId := 9 } },
      { zMigIn with source := 5, id := 9, state := 2 }, by decide +kernel⟩,
    ⟨(liveWith fun c => { c with emb := { c.emb with vers := [sampleTable], ins := [{ zMigIn with source := 5, id := 9, state := 1 }] } }),
      (zf 0x3C 64),
      { zMoveAbortBody with common := { zMoveCommon with requestId := 5, placement := 1, moveId := 9 } },
      { zMigIn with source := 5, id := 9, state := 1 }, by decide +kernel⟩,
    ⟨(liveWith fun c => { c with emb := { c.emb with vers := [sampleTable], out := [{ zMigOut with id := 9, version := 1, m := 2, newDevice := 5, newRegion := 3, state := 1 }] } }),
      (zf 0x3C 64),
      { zMoveAbortBody with common := { zMoveCommon with requestId := 5, placement := 1, moveId := 9 } },
      { zMigOut with id := 9, version := 1, m := 2, newDevice := 5, newRegion := 3, state := 1 }, by decide +kernel⟩,
    ⟨(liveWith fun c => { c with emb := { c.emb with vers := [sampleTable], out := [{ zMigOut with id := 9, version := 1, m := 2, newDevice := 5, newRegion := 3, state := 3 }] } }),
      9, { zMigOut with id := 9, version := 1, m := 2, newDevice := 5, newRegion := 3, state := 3 },
      by decide +kernel⟩,
    ⟨(liveWith fun c => { c with emb := { c.emb with vers := [sampleTable], out := [{ zMigOut with id := 9, version := 1, m := 2, newDevice := 5, newRegion := 3, state := 2 }] } }),
      9, { zMigOut with id := 9, version := 1, m := 2, newDevice := 5, newRegion := 3, state := 2 },
      by decide +kernel⟩⟩

theorem witness_embeddingTimers :
    (∃ (s : State) (id : Nat) (g : Gather) (b : BagIn) (rest : List BagIn) (v : TableVer), (Instr.bagPooled id).wf = true ∧
      s.chip.gather? id = some g ∧ g.bags = b :: rest ∧ s.chip.ver g.table g.version = some v ∧ g.started = true ∧
      g.asked = true ∧ g.fail = none ∧ g.missing b = [] ∧ b.idx = []) ∧
    (∃ (s : State) (id : Nat) (g : Gather) (b : BagIn) (rest : List BagIn) (v : TableVer), (Instr.bagPooled id).wf = true ∧
      s.chip.gather? id = some g ∧ g.bags = b :: rest ∧ s.chip.ver g.table g.version = some v ∧ g.started = true ∧
      g.asked = true ∧ g.fail = none ∧ g.missing b = [] ∧ b.idx ≠ []) ∧
    (∃ (s : State) (id : Nat) (stall : Nat) (g : Gather) (b : BagIn) (rest : List BagIn), (Instr.gatherDeadline id stall).wf = true ∧
      s.chip.gather? id = some g ∧ g.bags = b :: rest ∧ g.started = true ∧ g.asked = true ∧ g.fail = none ∧
      g.late = false ∧ g.deadline ≠ 0 ∧ g.missing b ≠ [] ∧ s.chip.staleOk g.part = false) ∧
    (∃ (s : State) (t : Nat) (v : Nat) (row : Nat) (r : Replica) (tv : TableVer), s.chip.replica? t v row = some r ∧
      s.chip.ver t v = some tv ∧ (Instr.replicaRefresh t v row).wf = true ∧ r.bytes ≠ none ∧ r.asking = none ∧
      r.used = false) ∧
    (∃ (s : State) (t : Nat) (v : Nat) (row : Nat) (r : Replica) (tv : TableVer) (c : _), s.chip.replica? t v row = some r ∧
      s.chip.ver t v = some tv ∧ (Instr.replicaRefresh t v row).wf = true ∧ r.bytes ≠ none ∧ r.asking = none ∧
      r.used = true ∧
      (s.chip.setReplica { r with asking := some s.chip.time }).askRows r.part (.refresh t v row) tv 0 [row] = ([], none, c)) ∧
    (∃ (s : State) (t : Nat) (v : Nat) (row : Nat) (r : Replica) (tv : TableVer), s.chip.replica? t v row = some r ∧
      s.chip.ver t v = some tv ∧ (Instr.replicaExpiry t v row).wf = true) ∧
    (∃ (s : State), (Instr.embEpoch).wf = true) ∧
    (∃ (s : State) (port : Nat) (p : Nat) (v : W64), (Instr.replicaStoreWrite port p v).wf = true ∧
      OwnerPort s port) :=
  ⟨⟨(liveWith fun c => { c with emb := { c.emb with vers := [sampleTable], gathers := [{ zGather with id := 4, version := 1, started := true, asked := true, bags := [{ zBagIn with outFmt := 1, idx := [] }] }] } }),
    4,
    { zGather with id := 4, version := 1, started := true, asked := true, bags := [{ zBagIn with outFmt := 1, idx := [] }] },
    { zBagIn with outFmt := 1, idx := [] }, [], sampleTable, by decide +kernel⟩,
    ⟨(liveWith fun c => { c with emb := { c.emb with vers := [sampleTable], gathers := [{ zGather with id := 4, version := 1, started := true, asked := true, bags := [{ zBagIn with outFmt := 1, idx := [2] }], rows := [(2, List.replicate 64 0#8)] }] } }),
      4,
      { zGather with id := 4, version := 1, started := true, asked := true, bags := [{ zBagIn with outFmt := 1, idx := [2] }], rows := [(2, List.replicate 64 0#8)] },
      { zBagIn with outFmt := 1, idx := [2] }, [], sampleTable, by decide +kernel⟩,
    ⟨(liveWith fun c => { c with emb := { c.emb with vers := [sampleTable], gathers := [{ zGather with id := 4, version := 1, started := true, asked := true, bags := [{ zBagIn with outFmt := 1, idx := [2] }], deadline := 5 }] } }),
      4, 0,
      { zGather with id := 4, version := 1, started := true, asked := true, bags := [{ zBagIn with outFmt := 1, idx := [2] }], deadline := 5 },
      { zBagIn with outFmt := 1, idx := [2] }, [], by decide +kernel⟩,
    ⟨(liveWith fun c => { c with emb := { c.emb with vers := [sampleTable], replicas := [{ zReplica with version := 1, row := 2, bytes := some [] }] } }),
      0, 1, 2, { zReplica with version := 1, row := 2, bytes := some [] }, sampleTable, by decide +kernel⟩,
    ⟨(liveWith fun c => granted { c with emb := { c.emb with vers := [{ sampleTable with map := [{ zShardEnt with device := 5, region := 3 }] }], replicas := [{ zReplica with version := 1, row := 2, bytes := some [], used := true }] } }),
      0, 1, 2, { zReplica with version := 1, row := 2, bytes := some [], used := true },
      { sampleTable with map := [{ zShardEnt with device := 5, region := 3 }] },
      ((((liveWith fun c => granted { c with emb := { c.emb with vers := [{ sampleTable with map := [{ zShardEnt with device := 5, region := 3 }] }], replicas := [{ zReplica with version := 1, row := 2, bytes := some [], used := true }] } })).chip.setReplica { zReplica with version := 1, row := 2, bytes := some [], used := true, asking := some ((liveWith fun c => granted { c with emb := { c.emb with vers := [{ sampleTable with map := [{ zShardEnt with device := 5, region := 3 }] }], replicas := [{ zReplica with version := 1, row := 2, bytes := some [], used := true }] } })).chip.time }).askRows 0 (.refresh 0 1 2) { sampleTable with map := [{ zShardEnt with device := 5, region := 3 }] } 0 [2]).2.2,
      by decide +kernel⟩,
    ⟨(liveWith fun c => { c with emb := { c.emb with vers := [sampleTable], replicas := [{ zReplica with version := 1, row := 2 }] } }),
      0, 1, 2, { zReplica with version := 1, row := 2 }, sampleTable, by decide +kernel⟩,
    ⟨live, by decide +kernel⟩,
    ⟨live, 0, 0, 0#64, by decide +kernel⟩⟩

theorem witness_deviceStateCommands :
    (∃ (s : State) (p : Nat), BootIdle s p ∧
      (s.chip.devState = 2 ∧ s.chip.board.collarOk = true ∨ 3 ≤ s.chip.devState)) ∧
    (∃ (s : State) (p : Nat), BootIdle s p ∧ s.chip.devState = 2 ∧ s.chip.board.collarOk = true) ∧
    (∃ (s : State) (p : Nat), BootIdle s p ∧ s.chip.devState = 4) ∧
    (∃ (s : State) (p : Nat), BootIdle s p ∧ (s.chip.devState = 3 ∨ s.chip.devState = 5)) ∧
    (∃ (s : State) (p : Nat), BootIdle s p ∧ s.chip.devState = 2) ∧
    (∃ (s : State) (p : Nat), BootIdle s p ∧ (s.chip.devState = 3 ∨ s.chip.devState = 4)) :=
  ⟨⟨live, 0, by decide +kernel⟩,
    ⟨(liveIn 2 fun c => { c with board := { c.board with collarOk := true } }), 0, by decide +kernel⟩,
    ⟨(liveIn 4 id), 0, by decide +kernel⟩,
    ⟨live, 0, by decide +kernel⟩,
    ⟨(liveIn 2 id), 0, by decide +kernel⟩,
    ⟨live, 0, by decide +kernel⟩⟩

end Sys2Proof.Tests
end

