-- ==== Sys2Proof/Tests/WitnessesD.lean ====
section
/-!
SUPPORT. For each clause of each statement, a state and operands that meet its hypotheses together (part 4).
-/
namespace Sys2Proof.Tests
open Sys2Proof.Machine
set_option linter.unusedVariables false
set_option maxRecDepth 8000
set_option Elab.async false

theorem witness_imageCommands :
    (∃ (s : State) (p : Nat) (slot : Nat) (q : Nat) (w : Nat) (img : ReadImage), BootIdle s p ∧
      (Instr.applyImage p false slot q w img).wf = true ∧ s.chip.devState = 3) ∧
    (∃ (s : State) (p : Nat) (slot : Nat) (q : Nat) (w : Nat) (img : ReadImage) (i : _) (old : _) (rd : _), BootIdle s p ∧
      (Instr.applyImage p false slot q w img).wf = true ∧ s.chip.devState ≠ 3 ∧ img = .image rd ∧
      s.nv.slots.getD slot none = some i ∧ s.chip.boot.img = some old ∧
      (s.reading 4 (applyWord false slot q w)).imageResult i = 1 ∧ imageFixed old i = true) ∧
    (∃ (s : State) (p : Nat) (slot : Nat) (q : Nat) (w : Nat) (img : ReadImage) (i : _) (old : _) (rd : _), BootIdle s p ∧
      (Instr.applyImage p false slot q w img).wf = true ∧ s.chip.devState ≠ 3 ∧ img = .image rd ∧
      s.nv.slots.getD slot none = some i ∧ s.chip.boot.img = some old ∧
      (s.reading 4 (applyWord false slot q w)).imageResult i = 1 ∧ imageFixed old i = false) ∧
    (∃ (s : State) (p : Nat) (slot : Nat) (q : Nat) (w : Nat) (img : ReadImage) (i : _) (old : _) (rd : _), BootIdle s p ∧
      (Instr.applyImage p false slot q w img).wf = true ∧ s.chip.devState ≠ 3 ∧ img = .image rd ∧
      s.nv.slots.getD slot none = some i ∧ s.chip.boot.img = some old ∧
      (s.reading 4 (applyWord false slot q w)).imageResult i ≠ 1) ∧
    (∃ (s : State) (p : Nat) (slot : Nat) (q : Nat) (w : Nat) (i : CfgImage), BootIdle s p ∧
      (Instr.writeSlot p slot q w (.image i)).wf = true ∧ s.chip.bootedFrom = some slot) ∧
    (∃ (s : State) (p : Nat) (slot : Nat) (q : Nat) (w : Nat) (i : CfgImage), BootIdle s p ∧
      (Instr.writeSlot p slot q w (.image i)).wf = true ∧ s.chip.readCheck (slotWord slot q w) 5 = stOk ∧
      (s.reading 5 (slotWord slot q w)).chip.imageInWindow (slotWord slot q w) i = true ∧
      (s.reading 5 (slotWord slot q w)).imageResult i = 1) ∧
    (∃ (s : State) (p : Nat) (slot : Nat) (q : Nat) (w : Nat) (i : CfgImage), BootIdle s p ∧
      (Instr.writeSlot p slot q w (.image i)).wf = true ∧ s.chip.readCheck (slotWord slot q w) 5 = stOk ∧
      (s.reading 5 (slotWord slot q w)).chip.imageInWindow (slotWord slot q w) i = true ∧
      (s.reading 5 (slotWord slot q w)).imageResult i ≠ 1) :=
  ⟨⟨live, 0, 0, 0, 0, (.failed 0), by decide +kernel⟩,
    ⟨(bootedOn goodImage), 0, 0, 0, 0, (.image zCfgImage), goodImage, goodImage, zCfgImage, by decide +kernel,
      by decide +kernel, by decide +kernel, rfl, rfl, rfl, goodImage_result _ rfl, goodImage_fixed⟩,
    ⟨(bootedOn sampleImage), 0, 0, 0, 0, (.image zCfgImage), goodImage, sampleImage, zCfgImage, by decide +kernel,
      by decide +kernel, by decide +kernel, rfl, rfl, rfl, goodImage_result _ rfl, by decide +kernel⟩,
    ⟨{ bootedOn sampleImage with nv := { keyed with slots := [some sampleImage, none] } }, 0, 0, 0, 0,
      (.image zCfgImage), sampleImage, sampleImage, zCfgImage, by decide +kernel⟩,
    ⟨(liveWith fun c => c.setFld Reg.idBootStatus 53 51 1), 0, 0, 0, 0, zCfgImage, by decide +kernel⟩,
    ⟨(windowOpen (bootedOn sampleImage)), 0, 1, 0, 0, goodImage, by decide +kernel, goodImage_writes,
      by decide +kernel, by decide +kernel, goodImage_result _ rfl⟩,
    ⟨(windowOpen (bootedOn sampleImage)), 0, 1, 0, 0, zCfgImage, by decide +kernel⟩⟩

theorem witness_flashCommands :
    (∃ (s : State) (p : Nat) (kinds : Nat), BootIdle s p ∧ kinds < 64 ∧ s.nv.overlay = none) ∧
    (∃ (s : State) (p : Nat) (kinds : Nat) (w : _) (k : _), BootIdle s p ∧ kinds < 64 ∧ s.nv.overlay = some (w, k)) ∧
    (∃ (s : State) (p : Nat), BootIdle s p) ∧
    (∃ (s : State) (p : Nat) (i : CfgImage), BootIdle s p ∧ s.chip.boot.img = some i ∧ svnUnits s.nv i = 0) ∧
    (∃ (s : State) (p : Nat) (i : CfgImage), BootIdle s p ∧ s.chip.boot.img = some i ∧ 0 < svnUnits s.nv i) ∧
    (∃ (s : State) (ok : Bool) (r : BootRun), s.chip.boot.run = some r ∧ r.waits = false ∧ r.cut = false ∧
      1 < r.units) ∧
    (∃ (s : State) (ok : Bool) (r : BootRun), s.chip.boot.run = some r ∧ r.waits = false ∧ r.cut = false ∧
      r.units ≤ 1) :=
  ⟨⟨live, 0, 0, by decide +kernel⟩,
    ⟨{ live with nv := { Nv.blank with copyA := (CalCopy.of 1 []) } }, 0, 0, 0, (CalCopy.of 1 []), by decide +kernel⟩,
    ⟨live, 0, by decide +kernel⟩,
    ⟨(bootedOn zCfgImage), 0, zCfgImage, by decide +kernel⟩,
    ⟨(bootedOn { zCfgImage with keyIndex := 1, revokeLower := true }), 0,
      { zCfgImage with keyIndex := 1, revokeLower := true }, by decide +kernel⟩,
    ⟨(liveWith fun c => { c with boot := { c.boot with run := some { BootRun.mk0 6 0#64 with units := 2 } } }),
      false, { BootRun.mk0 6 0#64 with units := 2 }, by decide +kernel⟩,
    ⟨(liveWith fun c => { c with boot := { c.boot with run := some (BootRun.mk0 6 0#64) } }), false,
      (BootRun.mk0 6 0#64), by decide +kernel⟩⟩

theorem witness_documents :
    (∃ (s : State) (p : Nat) (v : W64), OwnerPort s p ∧ s.chip.boot.doc = none ∧ (Instr.quote p v).wf = true ∧
      s.chip.docCheck (putField v 63 63 1) (384 + 17088 + (8 + 40 * s.chip.boot.log.length)) = stOk) ∧
    (∃ (s : State) (p : Nat) (v : W64), OwnerPort s p ∧ s.chip.boot.doc = none ∧ (Instr.quote p v).wf = true ∧
      s.chip.docCheck (putField v 63 63 1) (384 + 17088 + (8 + 40 * s.chip.boot.log.length)) ≠ stOk) ∧
    (∃ (s : State) (p : Nat) (v : W64), OwnerPort s p ∧ s.chip.boot.doc = none ∧
      (Instr.serviceReport p v).wf = true ∧
      s.chip.docCheck (putField v 63 63 1) (928 + 17088 + (8 + 40 * s.chip.boot.log.length)) = stOk) ∧
    (∃ (s : State) (p : Nat) (v : W64), OwnerPort s p ∧ s.chip.boot.doc = none ∧
      (Instr.endorsementRecord p v).wf = true ∧ s.chip.docCheck (putField v 63 63 1) 7920 = stOk) ∧
    (∃ (s : State) (d : DocRun), s.chip.boot.doc = some d ∧ d.signed = false) ∧
    (∃ (s : State) (p : Nat) (v : W64) (k : Nat), OwnerPort s p ∧ p < 4 ∧ k < 16) ∧
    (∃ (s : State) (p : Nat) (v : W64), OwnerPort s p ∧ p < 4) :=
  ⟨⟨(windowOpen live), 0, (wordOf [(17, 16, 1)]), by decide +kernel⟩,
    ⟨live, 0, (wordOf [(17, 16, 1)]), by decide +kernel⟩,
    ⟨(windowOpen live), 0, (wordOf [(17, 16, 2)]), by decide +kernel⟩,
    ⟨(windowOpen live), 0, (wordOf [(17, 16, 3)]), by decide +kernel⟩,
    ⟨(liveWith fun c => { c with boot := { c.boot with doc := some zDocRun } }), zDocRun, by decide +kernel⟩,
    ⟨live, 0, 0#64, 0, by decide +kernel⟩,
    ⟨live, 0, 0#64, by decide +kernel⟩⟩

theorem witness_powerOn :
    (∃ (s : State) (straps : Nat), straps < 8) ∧
    (∃ (s : State), s.chip.powered = true ∧ s.chip.pwr.clockHold = false) ∧
    (∃ (s : State), s.chip.powered = true ∧ s.chip.pwr.clockHold = true ∧ s.chip.pwr.inCold = none) ∧
    (∃ (s : State), s.chip.held = false ∧ s.chip.fld Reg.idBootStatus 60 56 = 1 ∧ s.chip.pwr.refPresent = true) ∧
    (∃ (s : State) (a : Bool) (b : Bool), s.chip.held = false ∧ s.chip.fld Reg.idBootStatus 60 56 = 5 ∧
      s.chip.devState = 0 ∧ s.chip.domUp 1 = true) ∧
    (∃ (s : State) (failed : List StationRef) (stackOk : List Bool) (channels : List ChannelInfo), (Instr.domainsTrained failed stackOk channels).wf = true ∧
      s.chip.held = false ∧ s.chip.fld Reg.idBootStatus 60 56 = 7 ∧ s.chip.domUp 1 = true) :=
  ⟨⟨live, 7, by decide +kernel⟩,
    ⟨live, by decide +kernel⟩,
    ⟨(liveWith fun c => { c with pwr := { c.pwr with clockHold := true } }), by decide +kernel⟩,
    ⟨(liveIn 0 fun c => ({ c with pwr := { c.pwr with refPresent := true } }).setFld Reg.idBootStatus 60 56 1),
      by decide +kernel⟩,
    ⟨(liveIn 0 fun c => (c).setFld Reg.idBootStatus 60 56 5), true, true, by decide +kernel⟩,
    ⟨(liveIn 0 fun c => (c).setFld Reg.idBootStatus 60 56 7), [], [], [], by decide +kernel⟩⟩

theorem witness_coldResetsAndSmbus :
    (∃ (s : State) (ns : Nat), s.chip.powered = true ∧ s.chip.pwr.inCold = none ∧ ns < 2 ^ 64 ∧ 10000 ≤ ns) ∧
    (∃ (s : State) (ns : Nat), s.chip.powered = true ∧ s.chip.pwr.inCold = none ∧ ns < 2 ^ 64 ∧ ns < 1000) ∧
    (∃ (s : State) (k : Nat), s.chip.pwr.inCold = some k ∧ (k = 3 ∨ k = 10)) ∧
    (∃ (s : State) (p : Nat) (v : W64), OwnerPort s p ∧ p < 4 ∧ bitOf v 63 = true ∧ fieldOf v 15 0 = 0x0C0D) ∧
    (∃ (s : State) (p : Nat) (v : W64), OwnerPort s p ∧ p < 4 ∧ bitOf v 63 = true ∧ fieldOf v 15 0 = 0x0C0D ∧
      s.chip.work.slotWait = []) ∧
    (∃ (s : State) (p : Nat) (v : W64), OwnerPort s p ∧ p < 4 ∧ bitOf v 63 = true ∧ fieldOf v 15 0 ≠ 0x0C0D) ∧
    (∃ (s : State) (bs : List Byte), s.chip.powered = true ∧ s.chip.held = false ∧ bs.length = 4 ∧
      natOfLe bs % 8 = 0) ∧
    (∃ (s : State), s.chip.powered = true ∧ s.chip.held = false) :=
  ⟨⟨live, 10000, by decide +kernel⟩,
    ⟨live, 500, by decide +kernel⟩,
    ⟨(liveWith fun c => { c with pwr := { c.pwr with inCold := some 3 } }), 3, by decide +kernel⟩,
    ⟨live, 0, (wordOf [(63, 63, 1), (15, 0, 0x0C0D)]), by decide +kernel⟩,
    ⟨live, 0, (wordOf [(63, 63, 1), (15, 0, 0x0C0D)]), by decide +kernel⟩,
    ⟨live, 0, (wordOf [(63, 63, 1)]), by decide +kernel⟩,
    ⟨live, [0#8, 0#8, 0#8, 0#8], by decide +kernel⟩,
    ⟨live, by decide +kernel⟩⟩

theorem witness_powerCommands :
    (∃ (s : State) (p : Nat) (d : Nat) (cas : Bool), OwnerPort s p ∧ p < 4 ∧ d < 32) ∧
    (∃ (s : State) (p : Nat) (d : Nat) (cas : Bool) (a : _), OwnerPort s p ∧ p < 4 ∧ d < 32 ∧ s.chip.pwr.cmd = none ∧
      depOf d = some a ∧ s.chip.domUp a = false ∧ s.chip.domState d = 0 ∧ d < 20 ∧ d ≠ 0 ∧
      s.chip.roleDown d = false ∧ (dependents d).any s.chip.domUp = false) :=
  ⟨⟨live, 0, 9, false, by decide +kernel⟩,
    ⟨(liveWith fun c => (c.setFld (Reg.pwrDomainStatus 9) 63 61 0).setFld (Reg.pwrDomainStatus 17) 63 61 0), 0, 9,
      false, 17, by decide +kernel⟩⟩

theorem witness_supplyAndDomains :
    (∃ (s : State) (mv : Nat) (us : Nat), (Instr.vInSample mv us).wf = true ∧ s.chip.held = false ∧
      s.chip.fld Reg.idBootStatus 60 56 ≠ 0 ∧ mv < 36000 ∧ s.chip.pwr.vMv < 36000 ∧ 5 ≤ s.chip.pwr.underRun + us) ∧
    (∃ (s : State) (ns : Nat), (Instr.referenceLoss ns true).wf = true ∧ s.chip.held = false ∧
      s.chip.pwr.rootLocked = true ∧ ns = 0) ∧
    (∃ (s : State) (d : Nat) (ok : Bool) (f : List StationRef) (ch : List ChannelInfo), (Instr.domainRampCompletes d ok f ch).wf = true ∧
      s.chip.held = false ∧ s.chip.domState d = 1 ∧ ok = false) ∧
    (∃ (s : State) (d : Nat) (ok : Bool) (f : List StationRef) (ch : List ChannelInfo), (Instr.domainRampCompletes d ok f ch).wf = true ∧
      s.chip.held = false ∧ s.chip.domState d = 1 ∧ ok = true ∧ d < 16 ∧ d ≠ 5) ∧
    (∃ (s : State) (d : Nat), (Instr.railFault d).wf = true ∧ 1 < d ∧ s.chip.held = false ∧
      (s.chip.domState d = 1 ∨ s.chip.domState d = 2)) ∧
    (∃ (s : State) (d : Nat), (Instr.downSequenceEnds d).wf = true ∧ d ≠ 1 ∧ d < 16 ∧ s.chip.held = false ∧
      s.chip.domState d = 3 ∧ s.chip.railFaults d < 3 ∧ s.chip.ret d = .stay) ∧
    (∃ (s : State) (d : Nat), (Instr.downSequenceEnds d).wf = true ∧ d ≠ 1 ∧ d < 16 ∧ s.chip.held = false ∧
      s.chip.domState d = 3 ∧ 3 ≤ s.chip.railFaults d) ∧
    (∃ (s : State), s.chip.domUp 1 = true) :=
  ⟨⟨(liveWith fun c => { c with pwr := { c.pwr with vMv := 30000 } }), 30000, 10, by decide +kernel⟩,
    ⟨(liveWith fun c => { c with pwr := { c.pwr with rootLocked := true } }), 0, by decide +kernel⟩,
    ⟨(liveWith fun c => c.setFld (Reg.pwrDomainStatus 9) 63 61 1), 9, false, [], [], by decide +kernel⟩,
    ⟨(liveWith fun c => c.setFld (Reg.pwrDomainStatus 9) 63 61 1), 9, true, [], [], by decide +kernel⟩,
    ⟨live, 9, by decide +kernel⟩,
    ⟨(liveWith fun c => c.setFld (Reg.pwrDomainStatus 9) 63 61 3), 9, by decide +kernel⟩,
    ⟨(liveWith fun c => c.setFlds (Reg.pwrDomainStatus 9) [(63, 61, 3), (31, 24, 3)]), 9, by decide +kernel⟩,
    ⟨live, by decide +kernel⟩⟩

theorem witness_powerThermalAndBoardMemory :
    (∃ (s : State) (mv : Nat) (ma : Nat), (Instr.powerSample mv ma).wf = true ∧ s.chip.held = false ∧
      s.chip.domUp 1 = true) ∧
    (∃ (s : State) (mv : Nat) (ma : Nat), (Instr.powerSample mv ma).wf = true ∧ s.chip.held = false ∧
      s.chip.domUp 1 = true ∧ s.chip.fld Reg.pwrLimitCtrl 59 48 < mv * ma / 1000000) ∧
    (∃ (s : State) (mv : Nat) (ma : Nat), (Instr.powerSample mv ma).wf = true ∧ s.chip.held = false ∧
      s.chip.domUp 1 = true ∧ min (s.chip.fld Reg.pwrLimitCtrl 47 36) (75 * mv / 1000) < mv * ma / 1000000 ∧
      s.chip.bit Reg.pwrLimitCtrl 23 = false) ∧
    (∃ (s : State) (temps : List Int), (Instr.thermalSample temps).wf = true ∧ s.chip.held = false ∧
      s.chip.domUp 1 = true) ∧
    (∃ (s : State) (k : Nat), (Instr.thermalLevelRise k).wf = true ∧ s.chip.held = false ∧ s.chip.domUp 1 = true ∧
      (8 * s.chip.throttleAt k : Int) < s.chip.temp k) ∧
    (∃ (s : State) (k : Nat), (Instr.thermalLevelRise k).wf = true ∧ s.chip.held = false ∧ s.chip.domUp 1 = true ∧
      (8 * s.chip.throttleAt k : Int) < s.chip.temp k ∧ s.chip.pwr.thermSeen.getD k false = false) ∧
    (∃ (s : State) (k : Nat) (n : Nat), (Instr.thermalLevelFall k).wf = true ∧ s.chip.held = false ∧
      s.chip.domUp 1 = true ∧ s.chip.pwr.therm.getD k 0 = n + 2 ∧
      s.chip.temp k ≤ (8 * (s.chip.throttleAt k - s.chip.fld Reg.pwrThermalCtrl 39 32) : Nat)) ∧
    (∃ (s : State) (a : Nat) (cor : Bool), a < 2 ^ 64 ∧ s.chip.domUp 5 = true ∧ a < s.chip.board.t2Mib * 2 ^ 20 ∧
      s.chip.board.marked.contains (a / 64 * 64) = false) ∧
    (∃ (s : State) (a : Nat) (cor : Bool), a < 2 ^ 64 ∧ s.chip.domUp 5 = true ∧ a < s.chip.board.t2Mib * 2 ^ 20) ∧
    (∃ (s : State) (ts : List Int), s.chip.domUp 5 = true ∧ s.chip.channelState 0 = 2 ∧
      s.chip.board.dimmHot.contains 0 = false ∧ s.chip.board.dimmSlow.contains 0 = false ∧
      ts.any (fun t => decide (95 < t)) = true ∧ (Instr.dimmThermalRead [ts]).wf = true) ∧
    (∃ (s : State) (n : Nat), n < 16 ∧ s.chip.channelState n = 1) :=
  ⟨⟨live, 48000, 0, by decide +kernel⟩,
    ⟨live, 48000, 100000, by decide +kernel⟩,
    ⟨live, 48000, 100000, by decide +kernel⟩,
    ⟨live, (List.replicate 10 0), by decide +kernel⟩,
    ⟨(onChip live fun c => (c.setFld (Reg.pwrThermalStatus 0) 63 52 1000)), 0, by decide +kernel⟩,
    ⟨(onChip live fun c => (c.setFld (Reg.pwrThermalStatus 0) 63 52 1000)), 0, by decide +kernel⟩,
    ⟨(liveWith fun c => { c with pwr := { c.pwr with therm := 2 :: List.replicate 9 0 } }), 0, 0, by decide +kernel⟩,
    ⟨(liveWith fun c => { c with board := { c.board with t2Mib := 1 } }), 64, false, by decide +kernel⟩,
    ⟨(liveWith fun c => { c with board := { c.board with t2Mib := 1 } }), 64, false, by decide +kernel⟩,
    ⟨(liveWith fun c => c.setFld (Reg.bmChannelStatus 0) 63 61 2), [96], by decide +kernel⟩,
    ⟨(liveWith fun c => c.setFld (Reg.bmChannelStatus 0) 63 61 1), 0, by decide +kernel⟩⟩

theorem witness_eventsCountersAndRegisters :
    (∃ (s : State) (p : Nat) (v : W64) (r : _), OwnerPort s p ∧ p < 4 ∧
      firstAtOrAfter s.chip.evt.stored (fieldOf v 47 0) = some r) ∧
    (∃ (s : State) (p : Nat) (v : W64), OwnerPort s p ∧ p < 4 ∧
      firstAtOrAfter s.chip.evt.stored (fieldOf v 47 0) = none) ∧
    (∃ (s : State) (p : Nat) (v : W64), OwnerPort s p ∧ p < 4 ∧ codeDefined (s.chip.fld Reg.evtRateSel 15 0) = true) ∧
    (∃ (s : State) (p : Nat) (v : W64), OwnerPort s p ∧ p < 4) ∧
    (∃ (s : State) (p : Nat) (v : W64), OwnerPort s p ∧ p < 4 ∧ bitOf v 63 = true) ∧
    (∃ (s : State) (r : EvRec) (q : List EvRec), s.chip.evt.mirLive = true ∧ s.chip.evt.queue = r :: q ∧
      s.chip.evt.mirHdr = false ∧ s.chip.evt.sectorFull = false ∧ (holdup s.chip s.nv.flash.pageUs 0).1 = true) ∧
    (∃ (s : State), s.chip.evt.mirLive = true ∧ s.chip.evt.mirNext = false ∧ s.chip.evt.sectorFull = false ∧
      (holdup s.chip s.nv.flash.eraseUs 0).1 = true) ∧
    (∃ (s : State) (p : Nat) (off : Nat), (Instr.rlLowHalfRead p off).wf = true ∧ s.chip.inWindow p off = true ∧
      off % 8 = 0 ∧ readLatched off = true) ∧
    (∃ (s : State) (a : Accessor) (off : Nat) (v : W64), (Instr.registerWrite a off v false).wf = true ∧
      s.chip.writeOpen = true) ∧
    (∃ (s : State) (a : Accessor) (off : Nat) (v : W64), (Instr.registerWrite a off v false).wf = true ∧
      s.chip.writeOpen = true ∧ regAccess off ≠ some .rw ∧ regAccess off ≠ some .w1c ∧ regAccess off ≠ some .wo) ∧
    (∃ (s : State) (a : Accessor) (off : Nat) (v : W64), (Instr.registerWrite a off v false).wf = true ∧
      s.chip.writeOpen = false) :=
  ⟨⟨(liveWith fun c => { c with evt := { c.evt with live := true, ring := [{ zEvRec with seq := 1 }] } }), 0, 0#64,
    { zEvRec with seq := 1 }, by decide +kernel⟩,
    ⟨live, 0, 0#64, by decide +kernel⟩,
    ⟨(liveWith fun c => c.setFld Reg.evtRateSel 15 0 0x0101), 0, 0#64, by decide +kernel⟩,
    ⟨live, 0, 0#64, by decide +kernel⟩,
    ⟨live, 0, (wordOf [(63, 63, 1)]), by decide +kernel⟩,
    ⟨(liveWith fun c => heldUp { c with evt := { c.evt with mirLive := true, queue := [zEvRec], mirPos := 1 } }),
      zEvRec, [], by decide +kernel⟩,
    ⟨(liveWith fun c => heldUp { c with evt := { c.evt with mirLive := true, queue := [zEvRec], mirPos := 1 } }),
      by decide +kernel⟩,
    ⟨live, 0, (Reg.hlCnt 4), by decide +kernel⟩,
    ⟨live, (.port 0), 0x100280, 0#64, by decide +kernel⟩,
    ⟨live, (.port 0), 0, 0#64, by decide +kernel⟩,
    ⟨(liveIn 1 id), (.port 0), 0, 0#64, by decide +kernel⟩⟩

theorem witness_healthAndAlert :
    (∃ (s : State), s.chip.boot.healthHold = none) ∧
    (∃ (s : State) (v : _), s.chip.boot.healthHold = some v) :=
  ⟨⟨live, by decide +kernel⟩,
    ⟨(liveWith fun c => { c with boot := { c.boot with healthHold := some 0#64 } }), 0#64, by decide +kernel⟩⟩

theorem witness_counterSaturates :
    (∃ (w : W64) (n : Nat), fieldOf w 62 0 + n ≤ 2 ^ 63 - 1) ∧
    (∃ (w : W64) (n : Nat), 2 ^ 63 - 1 < fieldOf w 62 0 + n) ∧
    (∃ (w : W64) (n : Nat) (m : _), fieldOf w 62 0 = 2 ^ 63 - 1 ∧ bitOf w 63 = true ∧ 0 < m) :=
  ⟨⟨0#64, 1, by decide +kernel⟩,
    ⟨0#64, 2 ^ 63, by decide +kernel⟩,
    ⟨(wordOf [(63, 0, 2 ^ 64 - 1)]), 1, 1, by decide +kernel⟩⟩

theorem witness_serialComparison :
    (∃ (n : Nat) (a : Nat) (b : Nat) (d : _), 0 < n ∧ a < 2 ^ n ∧ b < 2 ^ n ∧ 0 < d ∧ d < 2 ^ (n - 1)) ∧
    (∃ (n : Nat) (a : Nat) (b : Nat), 0 < n ∧ a < 2 ^ n ∧ b < 2 ^ n) :=
  ⟨⟨8, 255, 1, 2, by decide +kernel⟩,
    ⟨8, 255, 1, by decide +kernel⟩⟩

end Sys2Proof.Tests
end

section
/-!
PROOF. Training and retraining of link ports (R304, R306 to R308): what each training operation of a chip does in each of its
cases, and from these the obligation `TrainingAndRetraining`.
-/
namespace Sys2Proof.Machine

/-! Commands that act on the chip alone. -/

/-- An existing command that acts on the chip alone puts the new chip. -/
theorem command_onChip {i : Instr} {s : State} {f : Chip → Chip} {c : Chip} (hw : i.wf = true) (hc : f s.chip = c) :
    command i s (onChip f) = .next (s.put c) := by
  rw [command_next i s _ hw, ← hc]; rfl

/-- An existing command that acts on the chip alone and leaves it as it is changes nothing. -/
theorem command_onChip_same {i : Instr} {s : State} {f : Chip → Chip} (hw : i.wf = true) (hc : f s.chip = s.chip) :
    command i s (onChip f) = .next s :=
  command_onChip hw hc

/-- An existing command that may free a request slot puts the new chip with the slots given out. -/
theorem command_freeing {i : Instr} {s : State} {f : Chip → Chip} {c : Chip} (hw : i.wf = true) (hc : f s.chip = c) :
    command i s (freeing f) = .next (s.put c.drainSlots) := by
  rw [command_next i s _ hw, ← hc]; rfl

/-- A noisy lane that a command can name is one of the eight. -/
theorem noisyLane_lt {lp : LinkPort} {i : Nat} (hw : (Instr.retrainTrigger lp (.noisyLane i)).wf = true) : i < 8 := by
  have h : (lp.wf && fits i 3) = true := hw
  simpa [fits] using (Bool.and_eq_true_iff.1 h).2

section Ports
variable {c : Chip} {lp : LinkPort}

/-! A change of the link layer leaves the registers, and with them the state of the port. -/

@[simp] theorem Chip.onLink_regs (f : (α : Type) → Link α → Link α) : (c.onLink lp f).regs = c.regs := by
  cases lp <;> rfl

@[simp] theorem Chip.onLink_linkState (f : (α : Type) → Link α → Link α) (lq : LinkPort) :
    (c.onLink lp f).linkState lq = c.linkState lq := by
  simp [Chip.linkState, Chip.fld, Chip.reg]

@[simp] theorem Chip.onLink_linkOpen (f : (α : Type) → Link α → Link α) (lq : LinkPort) :
    (c.onLink lp f).linkOpen lq = c.linkOpen lq := by
  simp [Chip.linkOpen]

/-- An ACTIVE port is open (R368). -/
theorem Chip.linkOpen_of_active (h : c.linkState lp = 3) : c.linkOpen lp = true := by simp [Chip.linkOpen, h]

/-- R307: a trigger at an open port retrains it. -/
theorem Chip.retrainNow_open (h : c.linkOpen lp = true) : c.retrainNow lp = c.toRetrain lp := by simp [Chip.retrainNow, h]

/-! Attempts that fail (R307, R308). -/

/-- R308: the way of a port to DOWN that tries again after its retry interval and is logged. -/
theorem Chip.toDown_retried (cause : Nat) : c.toDown lp cause true true =
    ((((c.leaveLink lp).onLink lp (fun _ l => { l with retry := true, attempt := 0 })).setFlds (lpStatus lp)
      (downFields lp cause)).linkLog lp 2).linkStops lp := rfl

/-- While attempts remain, a port in TRAIN whose attempt failed starts the next one. -/
theorem Chip.trainFails_again (cause : Nat) (ht : c.linkState lp = 2)
    (hn : c.linkGet lp (fun _ l => l.attempt) + 1 < c.fld (lpTimers lp) 62 60) :
    c.trainFails lp cause =
      (c.onLink lp (fun _ l => { l with attempt := c.linkGet lp (fun _ l => l.attempt) + 1 })).applyLanes lp := by
  simp [Chip.trainFails, ht, hn]

/-- The last attempt that fails makes a port in TRAIN DOWN. -/
theorem Chip.trainFails_last (cause : Nat) (ht : c.linkState lp = 2)
    (hn : c.fld (lpTimers lp) 62 60 ≤ c.linkGet lp (fun _ l => l.attempt) + 1) :
    c.trainFails lp cause = c.toDown lp cause true true := by
  simp [Chip.trainFails, ht, Nat.not_lt.2 hn]

/-! Timers and triggers that are not due leave the chip as it is, powered or not. -/

theorem retryInterval_notDue (hr : c.linkGet lp (fun _ l => l.retry) = false) : retryInterval c lp = c := by
  simp [retryInterval, hr]

theorem retrainTrigger_replays_below (hn : c.linkGet lp (fun _ l => l.replays) < c.fld (lpTimers lp) 59 56) :
    retrainTrigger c lp .replays = c := by
  simp [retrainTrigger, Nat.not_le.2 hn]

/-! The events of a powered port, case by case. -/

section Powered
variable (hp : c.linkPower lp = true)
include hp

theorem signalDetected_down (hs : c.linkGet lp (fun _ l => l.signal) = false) (hd : c.linkState lp = 1) :
    signalDetected c lp = (c.onLink lp (fun _ l => { l with signal := true })).toTrain lp := by
  simp [signalDetected, hp, hs, hd]

theorem lossOfSignal_train (hs : c.linkGet lp (fun _ l => l.signal) = true) (ht : c.linkState lp = 2) :
    lossOfSignal c lp = (c.onLink lp (fun _ l => { l with signal := false })).trainFails lp 1 := by
  simp [lossOfSignal, hp, hs, ht]

theorem lossOfSignal_active (hs : c.linkGet lp (fun _ l => l.signal) = true) (ha : c.linkState lp = 3) :
    lossOfSignal c lp = (c.onLink lp (fun _ l => { l with signal := false })).toRetrain lp := by
  have ho : (c.onLink lp (fun _ l => { l with signal := false })).linkOpen lp = true :=
    Chip.linkOpen_of_active (by rw [Chip.onLink_linkState, ha])
  simp [lossOfSignal, hp, hs, ha, Chip.retrainNow_open ho]

/-- R304: an attempt with a lane left and a partner that is accepted brings the port up. -/
theorem trainingPasses_up {i : TrainInfo} (ht : c.linkState lp = 2)
    (hl : (c.settleLanes lp i).2.fld (lpStatus lp) 56 49 ≠ 255)
    (hb : (c.settleLanes lp i).2.partnerBad lp i (c.settleLanes lp i).1 = none) :
    trainingPasses c lp i = (c.settleLanes lp i).2.linkComesUp lp i (c.settleLanes lp i).1 true := by
  simp [trainingPasses, hp, ht, hl, hb]

theorem trainingFails_powered (why : TrainFail) : trainingFails c lp why = c.trainFails lp (failCause why) := by
  simp [trainingFails, hp]

theorem trainLimit_powered : trainLimit c lp = c.trainFails lp 1 := by simp [trainLimit, hp]

theorem retryInterval_due (hd : c.linkState lp = 1) (hr : c.linkGet lp (fun _ l => l.retry) = true) :
    retryInterval c lp = c.toTrain lp := by
  simp [retryInterval, hp, hd, hr]

/-- RETRAIN_FAILS and FAB_RETRAIN_LIMIT: a port in RETRAIN leaves for DOWN with cause 2. -/
theorem retrainFails_retraining (hr : c.linkState lp = 4) : retrainFails c lp = c.toDown lp 2 true true := by
  simp [retrainFails, hp, hr]

/-! The triggers of an open port (R306). -/

section OpenPort
variable (ho : c.linkOpen lp = true)
include ho

theorem retrainTrigger_codewords : retrainTrigger c lp .codewords = c.toRetrain lp := by
  simp [retrainTrigger, hp, ho, Chip.retrainNow_open ho]

theorem retrainTrigger_replays_limit (hn : c.fld (lpTimers lp) 59 56 ≤ c.linkGet lp (fun _ l => l.replays)) :
    retrainTrigger c lp .replays = c.toRetrain lp := by
  simp [retrainTrigger, hp, ho, hn, Chip.retrainNow_open ho]

/-- A noisy lane is fenced first. -/
theorem retrainTrigger_noisyLane {i : Nat} (hi : i < 8) :
    retrainTrigger c lp (.noisyLane i) = (c.fenceLanes lp (2 ^ i)).retrainNow lp := by
  simp [retrainTrigger, hp, ho, Nat.mod_eq_of_lt hi]

end OpenPort
end Powered
end Ports

/-- R304, R307: a retrain with a lane in common brings a fabric port back. -/
theorem retrainPasses_fabric_up {c : Chip} {p : Nat} {i : TrainInfo} (hp : c.linkPower (.fabric p) = true)
    (hr : c.linkState (.fabric p) = 4) (hl : (c.settleLanes (.fabric p) i).2.fld (lpStatus (.fabric p)) 56 49 ≠ 255)
    (hc : (c.settleLanes (.fabric p) i).1 ≠ 0) :
    retrainPasses c (.fabric p) i = (c.settleLanes (.fabric p) i).2.linkComesUp (.fabric p) i (c.settleLanes (.fabric p) i).1 false := by
  simp [retrainPasses, hp, hr, hl, hc]

/-- Settles O31: each clause is one case of its training operation, put by its command. -/
theorem trainingAndRetraining : Obligations.TrainingAndRetraining := by
  refine ⟨?signal, ?loss, ?passes, ?fails, ?limit, ?retry, ?trigger, ?back, ?down⟩
  case signal => exact fun s lp hw hp hs hd => command_onChip hw (signalDetected_down hp hs hd)
  case loss =>
    intro s lp hw hp hs
    exact ⟨fun ht => command_onChip hw (lossOfSignal_train hp hs ht), fun ha => command_onChip hw (lossOfSignal_active hp hs ha)⟩
  case passes => exact fun s lp i hw hp ht hl hb => command_freeing hw (trainingPasses_up hp ht hl hb)
  case fails =>
    intro s lp why hw hp ht
    have hf := trainingFails_powered hp why
    exact ⟨fun hn => command_onChip hw (hf.trans (Chip.trainFails_again _ ht hn)),
      fun hn => command_onChip hw (hf.trans ((Chip.trainFails_last _ ht hn).trans (Chip.toDown_retried _)))⟩
  case limit => exact fun s lp hw hp => command_onChip hw (trainLimit_powered hp)
  case retry =>
    intro s lp hw hp hd
    exact ⟨fun hr => command_onChip hw (retryInterval_due hp hd hr), fun hr => command_onChip_same hw (retryInterval_notDue hr)⟩
  case trigger =>
    intro s lp hp ho
    exact ⟨fun hw => command_onChip hw (retrainTrigger_codewords hp ho),
      fun hw hn => command_onChip hw (retrainTrigger_replays_limit hp ho hn),
      fun hw hn => command_onChip_same hw (retrainTrigger_replays_below hn),
      fun i hw => command_onChip hw (retrainTrigger_noisyLane hp ho (noisyLane_lt hw))⟩
  case back => exact fun s p i hw hp hr hl hc => command_freeing hw (retrainPasses_fabric_up hp hr hl hc)
  case down =>
    intro s lp hp hr
    have hd := (retrainFails_retraining hp hr).trans (Chip.toDown_retried 2)
    exact ⟨fun hw => command_onChip hw hd, fun hw => command_onChip hw hd⟩

end Sys2Proof.Machine
end

section
/-!
PROOF. Serial comparison (R457): the number of increments from one value to another decides the comparison, and from that the
obligation `SerialComparison`.
-/
namespace Sys2Proof.Machine

/-- R457: `(b - a) mod 2 ^ n`, how many increments of an `n`-bit counter lead from `a` to `b`. -/
def serialSteps (n a b : Nat) : Nat := (b + 2 ^ n - a % 2 ^ n) % 2 ^ n

/-! The comparisons of the model, by the number of increments. -/

/-- R457: the signed reading of the number of increments. -/
theorem serialDiff_eq_serialSteps (n a b : Nat) :
    serialDiff n a b =
      if serialSteps n a b < 2 ^ (n - 1) then (serialSteps n a b : Int) else (serialSteps n a b : Int) - (2 ^ n : Nat) := rfl

theorem serialSteps_lt (n a b : Nat) : serialSteps n a b < 2 ^ n := Nat.mod_lt _ (Nat.two_pow_pos n)

theorem precedes_iff_serialSteps (n a b : Nat) :
    precedes n a b = true ↔ 0 < serialSteps n a b ∧ serialSteps n a b < 2 ^ (n - 1) := by
  have hlt := serialSteps_lt n a b
  rw [precedes, decide_eq_true_iff, serialDiff_eq_serialSteps]
  split <;> omega

theorem atOrBefore_iff_serialSteps (n a b : Nat) : atOrBefore n a b = true ↔ serialSteps n a b < 2 ^ (n - 1) := by
  have hlt := serialSteps_lt n a b
  rw [atOrBefore, decide_eq_true_iff, serialDiff_eq_serialSteps]
  split <;> omega

/-! The number of increments between two values of the counter. -/

section Values
variable {n a b d : Nat} (ha : a < 2 ^ n)
include ha

theorem serialSteps_of_le (hb : b < 2 ^ n) (h : a ≤ b) : serialSteps n a b = b - a := by
  rw [serialSteps, Nat.mod_eq_of_lt ha, Nat.sub_add_comm h, Nat.add_mod_right, Nat.mod_eq_of_lt (by omega)]

/-- Past the wrap: up to the end of the range, then on from 0. -/
theorem serialSteps_of_gt (h : b < a) : serialSteps n a b = b + 2 ^ n - a := by
  rw [serialSteps, Nat.mod_eq_of_lt ha, Nat.mod_eq_of_lt (by omega)]

theorem serialSteps_eq_zero (hb : b < 2 ^ n) : serialSteps n a b = 0 ↔ a = b := by
  rcases Nat.lt_or_ge b a with h | h
  · rw [serialSteps_of_gt ha h]; omega
  · rw [serialSteps_of_le ha hb h]; omega

theorem ne_of_serialSteps_pos (hb : b < 2 ^ n) (h : 0 < serialSteps n a b) : a ≠ b :=
  fun he => h.ne' ((serialSteps_eq_zero ha hb).2 he)

/-- Between two different values, the way there and the way back make up the whole range. -/
theorem serialSteps_add_swap (hb : b < 2 ^ n) (hne : a ≠ b) : serialSteps n a b + serialSteps n b a = 2 ^ n := by
  rcases Nat.lt_or_gt_of_ne hne with h | h
  · rw [serialSteps_of_le ha hb h.le, serialSteps_of_gt hb h]; omega
  · rw [serialSteps_of_gt ha h, serialSteps_of_le hb ha h.le]; omega

/-- Counting up by `d` takes `d` increments, whatever the wrap. -/
theorem serialSteps_add (hd : d < 2 ^ n) : serialSteps n a ((a + d) % 2 ^ n) = d := by
  rcases Nat.lt_or_ge (a + d) (2 ^ n) with h | h
  · rw [Nat.mod_eq_of_lt h, serialSteps_of_le ha h (by omega)]; omega
  · have hwrap : (a + d) % 2 ^ n = a + d - 2 ^ n := by rw [Nat.mod_eq_sub_mod h, Nat.mod_eq_of_lt (by omega)]
    rw [hwrap, serialSteps_of_gt ha (by omega)]; omega

/-- The way back from a value reached by counting up is the rest of the range. -/
theorem serialSteps_add_back (h0 : 0 < d) (hd : d < 2 ^ n) : serialSteps n ((a + d) % 2 ^ n) a = 2 ^ n - d := by
  have hb : (a + d) % 2 ^ n < 2 ^ n := Nat.mod_lt _ (Nat.two_pow_pos n)
  have hthere := serialSteps_add ha hd
  have hsum := serialSteps_add_swap ha hb (ne_of_serialSteps_pos ha hb (by omega))
  omega

end Values

/-! The clauses of R457. -/

section Clauses
variable {n a b d : Nat} (ha : a < 2 ^ n)
include ha

theorem atOrBefore_iff_eq_or_precedes (hb : b < 2 ^ n) : atOrBefore n a b = true ↔ a = b ∨ precedes n a b = true := by
  have hpos := Nat.two_pow_pos (n - 1)
  rw [atOrBefore_iff_serialSteps, precedes_iff_serialSteps, ← serialSteps_eq_zero ha hb]
  omega

variable (hn : 0 < n)
include hn

/-- A value less than half the range ahead is later. -/
theorem precedes_add_lt_half (h0 : 0 < d) (hd : d < 2 ^ (n - 1)) :
    precedes n a ((a + d) % 2 ^ n) = true ∧ precedes n ((a + d) % 2 ^ n) a = false := by
  have hrange := Nat.two_pow_pred_add_two_pow_pred hn
  have hlt : d < 2 ^ n := by omega
  rw [← Bool.not_eq_true, precedes_iff_serialSteps, precedes_iff_serialSteps, serialSteps_add ha hlt,
    serialSteps_add_back ha h0 hlt]
  omega

/-- Half the range ahead is half the range behind: neither value precedes the other. -/
theorem precedes_add_half :
    precedes n a ((a + 2 ^ (n - 1)) % 2 ^ n) = false ∧ precedes n ((a + 2 ^ (n - 1)) % 2 ^ n) a = false := by
  have hrange := Nat.two_pow_pred_add_two_pow_pred hn
  have hpos := Nat.two_pow_pos (n - 1)
  have hlt : 2 ^ (n - 1) < 2 ^ n := by omega
  rw [← Bool.not_eq_true, ← Bool.not_eq_true, precedes_iff_serialSteps, precedes_iff_serialSteps, serialSteps_add ha hlt,
    serialSteps_add_back ha hpos hlt]
  omega

/-- Two ways of less than half the range each would not make up the range. -/
theorem precedes_asymm (hb : b < 2 ^ n) : ¬ (precedes n a b = true ∧ precedes n b a = true) := by
  rw [precedes_iff_serialSteps, precedes_iff_serialSteps]
  rintro ⟨⟨hpos, hab⟩, -, hba⟩
  have hrange := Nat.two_pow_pred_add_two_pow_pred hn
  have hsum := serialSteps_add_swap ha hb (ne_of_serialSteps_pos ha hb hpos)
  omega

end Clauses

/-- Settles O60: each clause compares the way from one value to the other, and the way back, with half the range. -/
theorem serialComparison : Obligations.SerialComparison := fun _ _ _ hn ha hb =>
  ⟨fun _ h0 hd => precedes_add_lt_half ha hn h0 hd, precedes_add_half ha hn, precedes_asymm ha hn hb,
    atOrBefore_iff_eq_or_precedes ha hb⟩

end Sys2Proof.Machine
end

section
/-!
PROOF. ID_HEALTH and ALERT_N (R472, R484): each bit of the register is one Boolean of its sources, a field is nonzero when one of its
bits is 1, and from these the obligation `HealthAndAlert`.
-/
namespace Sys2Proof.Machine

/-! Words made of single bits, and the bits of a field. -/

/-- A Boolean put as a bit reads back at its place, and leaves the other bits alone. -/
theorem bitOf_putField_bitN (w : W64) (i j : Nat) (b : Bool) (hi : i < 64) :
    bitOf (putField w i i (bitN b)) j = if j = i then b else bitOf w j := by
  split
  case isTrue h => subst h; rw [bitOf_putField_same _ _ _ hi]; cases b <;> rfl
  case isFalse h => exact bitOf_putField_other w i i _ j le_rfl hi (Nat.lt_or_gt_of_ne h)

@[simp] theorem bitOf_zero (i : Nat) : bitOf 0#64 i = false := Nat.zero_testBit i

@[simp] theorem fieldOf_zero (hi lo : Nat) : fieldOf 0#64 hi lo = 0 := by simp [fieldOf]

/-- A field is nonzero when one of its bits is 1. -/
theorem fieldOf_ne_zero_iff (w : W64) (hi lo : Nat) : fieldOf w hi lo ≠ 0 ↔ ∃ i, lo ≤ i ∧ i ≤ hi ∧ bitOf w i = true := by
  constructor
  · intro h
    obtain ⟨j, hj⟩ := Nat.exists_testBit_of_ne_zero h
    rw [fieldOf_testBit, Bool.and_eq_true, decide_eq_true_iff] at hj
    exact ⟨lo + j, by omega, by omega, hj.2⟩
  · rintro ⟨i, hlo, hhi, hb⟩ h0
    have hbit : (fieldOf w hi lo).testBit (i - lo) = true := by
      rw [fieldOf_testBit, Nat.add_sub_cancel' hlo, Bool.and_eq_true, decide_eq_true_iff]
      exact ⟨by omega, hb⟩
    simp [h0] at hbit

@[simp] theorem mem_upTo {n k : Nat} : k ∈ upTo n ↔ k < n := List.mem_range

/-! The register and its sources. -/

theorem regAccess_idHealth : regAccess Reg.idHealth = some .ro := by decide

theorem State.regRead_idHealth (s : State) : s.regRead Reg.idHealth = s.chip.health := by
  simp only [State.regRead, regAccess_idHealth]
  rfl

section Sources
variable (c : Chip)

/-- R472: bits 63:58 of ID_HEALTH are each their source's, and the others are 0. -/
theorem Chip.bitOf_healthNow (i : Nat) : bitOf c.healthNow i =
    if i = 58 then c.reg (Reg.evtLastSevere 0) != 0#64
    else if i = 59 then c.fld Reg.pwrThrottleStatus 31 0 != 0
    else if i = 60 then (upTo 10).any (fun k => c.fld (Reg.pwrThermalStatus k) 43 42 != 0)
    else if i = 61 then (upTo 20).any (fun d => c.domState d == 4)
    else if i = 62 then (upTo 16).any (fun p => c.partState p == 4 || c.partState p == 5)
    else if i = 63 then (upTo 16).any (fun p => c.partState p == 3)
    else false := by
  simp [Chip.healthNow, wordOf, bitOf_putField_bitN]

/-- Every field that the sources put lies above the reserved bits. -/
theorem Chip.fieldOf_healthNow_reserved : fieldOf c.healthNow 57 0 = 0 := by
  simp [Chip.healthNow, wordOf, fieldOf_putField_other]

theorem Chip.alertLow_iff : c.alertLow = true ↔ ∃ i, 58 ≤ i ∧ i ≤ 63 ∧ bitOf c.health i = true := by
  rw [Chip.alertLow, bne_iff_ne, fieldOf_ne_zero_iff]

variable {c}

theorem Chip.health_unheld (h : c.boot.healthHold = none) : c.health = c.healthNow := by simp [Chip.health, h]

theorem Chip.health_held {v : W64} (h : c.boot.healthHold = some v) : c.health = v := by simp [Chip.health, h]

end Sources

/-- Settles O58: the register reads as its sources make it or as it is held, and ALERT_N reads its field 63:58. -/
theorem healthAndAlert : Obligations.HealthAndAlert := by
  intro s
  rw [s.regRead_idHealth]
  refine ⟨fun h => ?sources, fun v h => Chip.health_held h, s.chip.alertLow_iff⟩
  rw [Chip.health_unheld h]
  refine ⟨?degraded, ?lost, ?locked, ?thermal, ?limiting, ?severe, s.chip.fieldOf_healthNow_reserved⟩
  -- `bitOf_healthNow` names the source of each bit; where it is a search of a list of registers, that is the ∃ of the clause.
  all_goals simp [Chip.bitOf_healthNow]

end Sys2Proof.Machine
end

section
/-!
PROOF. Every command completes (log entry 8): what each of the 197 commands keeps of the whole state, and from that the obligations
about a step, the non-volatile store and the queue.
-/
namespace Sys2Proof.Machine

/-- An existing command ends in the state that its effect makes. -/
theorem command_to {i : Instr} {s t : State} {f : State → State} (hw : i.wf = true) (h : f s = t) : command i s f = .next t := by
  rw [command_next i s f hw, h]

/-- The outcome `o` of a command is a next state with the same queue, the store in form and its fuses not fallen, the store as it
was where the command does not reach it, and the same state where the command does not exist. -/
def Completed (i : Instr) (s : State) (o : Host.Outcome State Fault Refusal) : Prop :=
  ∃ t, o = .next t ∧ Keeps s t ∧ (mayReachFlash i = false → t.nv = s.nv) ∧ (i.wf = false → t = s)

/-- An effect that puts another chip completes, whatever the command. -/
theorem completed_of_put {i : Instr} {s : State} {f : State → State} (h : ∃ c, f s = s.put c) : Completed i s (command i s f) := by
  obtain ⟨c, hc⟩ := h
  obtain ⟨t, ho, hw, hk⟩ := command_keeps i s f (hc ▸ Keeps.chip s c)
  refine ⟨t, ho, hk, fun _ => ?_, hw⟩
  cases hi : i.wf with
  | false => rw [hw hi]
  | true =>
    rw [command_next i s f hi, Host.Outcome.next.injEq, hc] at ho
    exact ho ▸ rfl

/-- So does one that may reach the store and keeps its form. -/
theorem completed_of_keeps {i : Instr} {s : State} {f : State → State} (h : Keeps s (f s)) (hm : mayReachFlash i = true := by rfl) :
    Completed i s (command i s f) := by
  obtain ⟨t, ho, hw, hk⟩ := command_keeps i s f h
  exact ⟨t, ho, hk, fun hn => absurd hn (by simp [hm]), hw⟩

theorem onChip_put (f : Chip → Chip) (s : State) : ∃ c, onChip f s = s.put c := ⟨f s.chip, rfl⟩

theorem freeing_put (f : Chip → Chip) (s : State) : ∃ c, freeing f s = s.put c := onChip_put _ s

theorem onFab_put (h : FabHdr) (b : FabBody) (n : Nat) (f : Chip → Chip) (s : State) : ∃ c, onFab h b n f s = s.put c :=
  onChip_put _ s

theorem onFabFreeing_put (h : FabHdr) (b : FabBody) (n : Nat) (f : Chip → Chip) (s : State) :
    ∃ c, onFabFreeing h b n f s = s.put c :=
  freeing_put _ s

/-- A host message whose unit puts another chip puts another chip, whatever the transaction layer makes of it. -/
theorem onHost_put {h : HlHdr} {m : HlMeta} {f : State → State} (hf : ∀ s, ∃ c, f s = s.put c) (s : State) :
    ∃ c, s.onHost h m f = s.put c := by
  unfold State.onHost
  split
  · exact ⟨_, rfl⟩ -- not carried
  generalize (if sequenced h = true then s.chip.takeSeq h.port h.hc h.xseq else (true, s.chip)) = r
  obtain ⟨go, c⟩ := r
  dsimp only
  split
  · exact ⟨_, rfl⟩ -- a duplicate or a gap
  split
  · exact ⟨_, rfl⟩ -- malformed
  split
  · exact ⟨_, rfl⟩ -- early
  · exact hf _

theorem onHostChip_put (h : HlHdr) (m : HlMeta) (f : Chip → Chip) (s : State) : ∃ c, onHostChip h m f s = s.put c :=
  onHost_put (fun _ => ⟨_, rfl⟩) s

theorem onHostFreeing_put (h : HlHdr) (m : HlMeta) (f : Chip → Chip) (s : State) : ∃ c, onHostFreeing h m f s = s.put c := by
  obtain ⟨c, hc⟩ := onHostChip_put h m f s
  exact ⟨c.drainSlots, congrArg (onChip Chip.drainSlots) hc⟩

/-- Each command is one effect on an existing command's state: on the chip alone, by way of a host message, or on the whole state by an
operation that keeps the queue and the store. -/
theorem exec_completed (i : Instr) (s : State) : Completed i s (exec i s) := by
  cases i <;> unfold exec
  case hc2Emit | moveRecordExpires | phaseReportInterval | tenRefill | fabReplayTimeout | seamBufferEccError
      | signalDetected | lossOfSignal | trainingAttemptFails | retrainTrigger | retrainFails | fabTrainLimit
      | fabRetrainLimit | fabRetryInterval | seamForward | routeEntryWrite | swDrain | egressDequeue | swCombineWindow
      | swCombineHold | hotspotDetected | pacedRelease | ccNoSample | rmaReplayHold | replayFloorDiscard
      | rmaReassemblyLimit | rmaCancelHold | bagPooled | gatherDeadline | replicaRefresh | replicaExpiry | embEpoch
      | migrationForwardingTimer | hlSyncWait | hlCreditStall | thermalLevelRise | thermalLevelFall | patrolScrub
      | dimmThermalRead | channelTrainingTimeout | documentSigned => exact completed_of_put (onChip_put _ s)
  case moveDataSent | localMoveCompletes | moveOfferWait | moveAckWait | moveCommitWait | decodeSilenceLimit | restoreMs
      | ttlFull | stepLaunch | selfPauseRetry | selfPauseLimit | tileArrives | pleatRefetchCompletes | streamCompletes
      | streamDeadline | commitJoin | stepWatchdog | stationStorageError | refitCompletes | adapterLoadCompletes
      | secondSourceReadCompletes | flitReceived | trainingAttemptPasses | retrainPasses | rmaAtomicTimeout
      | rmaStoreTimeout | rmaWriteTimeout | rmaBusyBackoff | hlDownHold | hlBulkTimeout | vInSample | referenceLoss
      | domainRampCompletes | railFault | hubWatchdog | powerSample | thermalSample => exact completed_of_put (freeing_put _ s)
  case fabPktCcEcho | fabPktLoad | fabPktLoadReply | fabPktStore | fabPktStoreAck | fabPktRead | fabPktAtomic
      | fabPktAtomicReply | fabPktAtomicCombined | fabPktAtomicCombinedReply | fabPktCancel | fabPktCancelAck
      | fabPktRmaRevokeDone | fabPktEmbRead | fabPktEmbRows | fabPktEmbScatter | fabPktEmbScatterAck | fabPktEmbRedirect
      | fabPktEmbMigOffer | fabPktEmbMigReply | fabPktEmbMigAck | fabPktEmbMigCommit | fabPktEmbMigAbort | fabPktSwWriteAck =>
    exact completed_of_put (onFab_put _ _ _ _ s)
  case fabPktPhasePlace | fabPktPhaseReport | fabPktPhaseCtrl | fabPktMoveOffer | fabPktMoveReply | fabPktMoveAck
      | fabPktMoveCommit | fabPktMoveAbort | fabPktMoveQuery | fabPktMoveAnswer | fabPktMovePull | fabPktNack
      | fabPktReadData | fabPktWrite | fabPktWriteAck => exact completed_of_put (onFabFreeing_put _ _ _ _ s)
  case hlMsgAdmit | hlMsgResume | hlMsgCancel | hlMsgPause | hlMsgLinkSync | hlMsgBulkData | hlMsgBulkWriteAck =>
    exact completed_of_put (onHostFreeing_put _ _ _ s)
  case hlMsgQuery | hlMsgAdapterInstall | hlMsgEmbTable | hlMsgEmbGather | hlMsgEmbUpdate | hlMsgEmbMigrate =>
    exact completed_of_put (onHostChip_put _ _ _ s)
  case stationFence | stationUnfence | partReload | swEpochCommit | grantActivate | grantRevoke | grantInvalidate | wlArm
      | wlStop | rmaWlAdvance | hostWindowWrite | enterService | enterTest | enterRecovery | calSave | calRestoreFactory
      | svnCommit | quote | serviceReport | endorsementRecord | protectionWrite | powerDown | powerUp | reset | update
      | pwrModuleReset => exact completed_of_keeps (writing_keeps _ _ _ s)
  case fabPortFence | fabPortUnfence | fabPortDrain | fabPortRetrain | fabLaneFence | hlPortFence | hlPortUnfence
      | hlPortRetrain | hlLaneFence => exact completed_of_keeps (writingField_keeps _ _ _ _ _ s)
  case tenHistSnap | kvShareWrite | kvDescSel | keyInstall | keyErase | replicaStoreWrite | evtReadSel | evtRateWrite
      | evtMirrorSel | cntClear => exact completed_of_keeps (registerWrite_keeps s _ _ _ _)
  case fabPktSwWrite | fabPktRmaGrant =>
    exact completed_of_keeps (onFabState_keeps _ _ _ _ s (fun t => managerWrite_keeps t _ _ _))
  case applyImage | writeSlot => exact completed_of_keeps ((imageCommand_keeps s _ _ _ _).trans (settled_keeps _))
  case hlMsgRegRead => exact completed_of_keeps (onHost_keeps s _ _ _ (fun t => regReadMsg_keeps t _ _))
  case hlMsgRegWrite => exact completed_of_keeps ((onHost_keeps s _ _ _ (fun t => regWriteMsg_keeps t _ _)).trans (settled_keeps _))
  case registerWrite => exact completed_of_keeps ((registerWrite_keeps s _ _ _ _).trans (settled_keeps _))
  case rlLowHalfRead => exact completed_of_keeps (rlLowRead_keeps s _ _)
  case flashUnitCompletes => exact completed_of_keeps ((flashUnit_keeps s _).trans (settled_keeps _))
  case mirrorRecordWrite => exact completed_of_keeps (mirWrite_keeps s)
  case mirrorSectorErase => exact completed_of_keeps (mirEraseNext_keeps s)
  case imageSlotVerified => exact completed_of_keeps ((imageVerified_keeps s _ _).trans (settled_keeps _))
  case domainsTrained => exact completed_of_keeps ((domainsTrained_keeps s _ _ _).trans (settled_keeps _))
  case partitionLoadCompletes => exact completed_of_keeps ((freeing_keeps _ s).trans (bootCheck_keeps _))
  case downSequenceEnds => exact completed_of_keeps ((downSequenceEnds_keeps s _).trans (settled_keeps _))
  case resetNAsserted => exact completed_of_keeps (resetN_keeps s _)
  case powerGood => exact completed_of_keeps (powerGood_keeps s _)
  case referencePresent => exact completed_of_keeps (referencePresent_keeps s)
  case rootPllLocked => exact completed_of_keeps (rootLocked_keeps s)
  case inputRecovered => exact completed_of_keeps (inputRecovered_keeps s)
  case smbusSetOffset => exact completed_of_keeps (smbusSet_keeps s _ _ _)
  case smbusRead => exact completed_of_keeps (smbusRead_keeps s _ _)

/-- A tick completes too, so every step does. -/
theorem step_keeps_store {s t : State} (h : step s = .next t) (hn : NvOk s.nv) : NvOk t.nv ∧ FusesRise s.nv t.nv := by
  unfold step at h
  split at h
  case h_1 =>
    cases h
    exact ⟨hn, .refl _⟩
  case h_2 i rest _ =>
    obtain ⟨u, ho, hk, -⟩ := exec_completed i { s with pending := rest }
    rw [ho, Host.Outcome.next.injEq] at h
    exact h ▸ hk.2 hn

/-- Settles O1: a state with a command queued is one whose queue is that command and the rest. -/
theorem stepRunsFrontCommand : Obligations.StepRunsFrontCommand := fun _ _ => rfl

/-- Settles O2: the tick of `step`, with the running of the time written as the field's. -/
theorem emptyQueueTicksLocalTime : Obligations.EmptyQueueTicksLocalTime := by
  intro s hq
  have htick : s.chip.tick = { s.chip with time := if s.chip.timeOn then s.chip.time + 1 else s.chip.time } := by
    unfold Chip.tick
    split <;> rfl
  simp only [step, hq, htick, State.put]

/-- Settles O3: every command is one that completes. -/
theorem everyCommandCompletesOrDoesNotExist : Obligations.EveryCommandCompletesOrDoesNotExist := by
  intro i s
  obtain ⟨t, ho, ⟨hp, -⟩, hn, hw⟩ := exec_completed i s
  exact ⟨t, ho, hp, hn, hw⟩

/-- Settles O4: the stores of a blank device are empty lists. -/
theorem resetIsCanonical : Obligations.ResetIsCanonical := by
  refine ⟨⟨by decide, rfl, rfl, rfl⟩, ⟨rfl, memWf_nil, memWf_nil⟩, ?_, rfl, rfl, rfl, rfl, rfl⟩
  intro i hi
  cases hi

/-- Settles O5: with no register written, each reads its reset value. -/
theorem resetRegisters : Obligations.ResetRegisters := by
  unfold Obligations.ResetRegisters
  decide +kernel

/-- Settles O6: the form of the store is what each command keeps. -/
theorem stepKeepsStoreForm : Obligations.StepKeepsStoreForm := fun _ _ hn h => (step_keeps_store h hn).1

/-- Settles O7: so is the rise of its fuses. -/
theorem fusesOnlyRise : Obligations.FusesOnlyRise := fun _ _ hn h => (step_keeps_store h hn).2

end Sys2Proof.Machine
end

section
/-!
PROOF. Register writes from a port that is not the owner port (R409, R460, R463): each block answers such a write with a record at most,
and a half write may load the port's latch besides; from these the obligation `OtherPortsWriteNothing`.
-/
namespace Sys2Proof.Machine

/-- A write that its writer may not make changes the recorder at most. -/
theorem guardW_refused {ok : Bool} {code off : Nat} {c : Chip} {f : Chip → Bool × Chip} (h : ok = false) :
    Recorded c (guardW ok code off c f).2 := by
  simp only [guardW, h, Bool.false_eq_true, if_false]
  split
  · exact .refl _ c
  · exact c.log_recorded _

/-! Each block, written from a port that is not the owner port. -/

section Blocks
variable {c : Chip} {p : Nat} (h : c.isOwner p = false) (off : Nat) (v : W64)
include h

theorem Chip.accOwner_otherPort : c.accOwner (.port p) = false := h

theorem Chip.accSeam_otherPort : c.accSeam (.port p) = false := h

theorem pwrWrite_otherPort : Recorded c (pwrWrite c (.port p) off v).2 := by
  have ho := Chip.accOwner_otherPort h
  simp only [pwrWrite, moduleReset, pwrCommand, ho, Bool.false_and, Bool.not_false, Bool.true_or, Bool.false_eq_true, if_false, if_true]
  split
  · exact c.log_recorded _ -- PWR_DOMAIN_CMD
  split
  · exact c.log_recorded _ -- PWR_MODULE_RESET
  split <;> exact guardW_refused rfl

theorem reqWrite_otherPort : Recorded c (reqWrite c (.port p) off v).2 := by
  have ho := Chip.accOwner_otherPort h
  simp only [reqWrite, partReload, ho, Bool.false_and, Bool.not_false, Bool.true_or, Bool.false_eq_true, if_false, if_true]
  split
  · exact guardW_refused rfl
  split
  · exact c.log_recorded _ -- PART_RELOAD
  repeat' split
  all_goals exact guardW_refused rfl

theorem kvWrite_otherPort : Recorded c (kvWrite c (.port p) off v).2 := by
  unfold kvWrite
  split
  · exact guardW_refused h
  split <;> exact guardW_refused h

theorem fabWrite_otherPort : Recorded c (fabWrite c (.port p) off v).2 := by
  have ho := Chip.accSeam_otherPort h
  simp only [fabWrite, routeWrite, epochCommit, ho, Bool.false_and, Bool.not_false, if_true]
  repeat' split
  case isTrue.isTrue => exact c.log_recorded _ -- SW_EPOCH_COMMIT
  all_goals exact guardW_refused rfl

theorem rmaBlockWrite_otherPort : Recorded c (rmaBlockWrite c (.port p) off v).2 := by
  have ho := Chip.accOwner_otherPort h
  simp only [rmaBlockWrite, regionWrite, grantWordWrite, listHdrWrite, ho, Bool.false_and, Bool.not_false, if_true]
  repeat' split
  all_goals first | exact guardW_refused rfl | exact c.log_recorded _

theorem hlWrite_otherPort : Recorded c (hlWrite c (.port p) off v).2 := by
  have ho := Chip.accOwner_otherPort h
  simp only [hlWrite, hlCtrlWrite, hostWindow, ho, Bool.false_and]
  repeat' split
  all_goals exact guardW_refused rfl

theorem quadWrite_otherPort : Recorded c (quadWrite c (.port p) off v).2 := by
  have ho := Chip.accOwner_otherPort h
  simp only [quadWrite, stationFence, ho, Bool.not_false, Bool.true_or, if_true]
  split
  · exact c.log_recorded _ -- the station fence
  · exact guardW_refused rfl

end Blocks

/-! The whole space. -/

/-- `t` is `s` but for the recorder. -/
def RecordedState (s t : State) : Prop := ∃ c, Recorded s.chip c ∧ t = s.put c

theorem RecordedState.refl (s : State) : RecordedState s s := ⟨s.chip, .refl _ _, rfl⟩

section State
variable {s : State} {p : Nat} (h : s.chip.isOwner p = false) (off : Nat) (v : W64)
include h

theorem bootWrite_otherPort : RecordedState s (bootWrite s (.port p) off v).2 := by
  refine ⟨s.chip.log (refused 0x010D off), s.chip.log_recorded _, ?_⟩
  simp only [bootWrite, Chip.accOwner_otherPort h, Bool.not_false, if_true, State.put]

theorem regWrite_otherPort : RecordedState s (s.regWrite (.port p) off v).2 := by
  have put : ∀ {c}, Recorded s.chip c → RecordedState s { s with chip := c } := fun hc => ⟨_, hc, rfl⟩
  have hgo : RecordedState s
      (if off < 0x200000 then bootWrite s (.port p) off v
      else if off < 0x300000 then ((pwrWrite s.chip (.port p) off v).1, { s with chip := (pwrWrite s.chip (.port p) off v).2 })
      else if off < 0x400000 then ((evtWrite s.chip s.nv (.port p) off v).1, { s with chip := (evtWrite s.chip s.nv (.port p) off v).2 })
      else if off < 0x800000 then ((reqWrite s.chip (.port p) off v).1, { s with chip := (reqWrite s.chip (.port p) off v).2 })
      else if off < 0xA00000 then ((movWrite s.chip (.port p) off v).1, { s with chip := (movWrite s.chip (.port p) off v).2 })
      else if off < 0xC00000 then ((kvWrite s.chip (.port p) off v).1, { s with chip := (kvWrite s.chip (.port p) off v).2 })
      else if off < 0xE00000 then ((fabWrite s.chip (.port p) off v).1, { s with chip := (fabWrite s.chip (.port p) off v).2 })
      else if off < 0x1000000 then ((rmaBlockWrite s.chip (.port p) off v).1, { s with chip := (rmaBlockWrite s.chip (.port p) off v).2 })
      else if off < 0x1200000 then ((hlWrite s.chip (.port p) off v).1, { s with chip := (hlWrite s.chip (.port p) off v).2 })
      else if off < 0x2000000 then ((embWrite s.chip (.port p) off v).1, { s with chip := (embWrite s.chip (.port p) off v).2 })
      else ((quadWrite s.chip (.port p) off v).1, { s with chip := (quadWrite s.chip (.port p) off v).2 })).2 := by
    split
    · exact bootWrite_otherPort h off v
    split
    · exact put (pwrWrite_otherPort h off v)
    split
    · exact put (guardW_refused h) -- events
    split
    · exact put (reqWrite_otherPort h off v)
    split
    · exact put (guardW_refused h) -- the state mover
    split
    · exact put (kvWrite_otherPort h off v)
    split
    · exact put (fabWrite_otherPort h off v)
    split
    · exact put (rmaBlockWrite_otherPort h off v)
    split
    · exact put (hlWrite_otherPort h off v)
    split
    · exact put (guardW_refused h) -- embedding
    · exact put (quadWrite_otherPort h off v)
  unfold State.regWrite
  dsimp only
  split
  · exact hgo
  · exact hgo
  · exact hgo
  · exact .refl s

/-- The outcome of a register write from another port: a record, and the latch of that port where the write is a half. -/
def OtherPortWrote (s : State) (p : Nat) (half : Bool) (t : State) : Prop :=
  ∃ (c : Chip) (l : List (Option HalfLatch)), Recorded { s.chip with latch := l } c ∧ (half = false → l = s.chip.latch) ∧
    (∀ q ≠ p, l.getD q none = s.chip.latchOf q) ∧ t = s.put c

omit h in
theorem RecordedState.otherPortWrote {t : State} (half : Bool) (ht : RecordedState s t) : OtherPortWrote s p half t := by
  obtain ⟨c, hc, rfl⟩ := ht
  exact ⟨c, s.chip.latch, hc, fun _ => rfl, fun _ _ => rfl, rfl⟩

/-- R460: a half of a write-only register waits in the port's latch; the other halves are whole writes, or are refused. -/
theorem regWriteHalf_otherPort (x : Nat) : OtherPortWrote s p true (s.regWriteHalf p off x) := by
  have whole : ∀ w, OtherPortWrote s p true (s.regWrite (.port p) (off - off % 8) w).2 := fun w =>
    (regWrite_otherPort h _ w).otherPortWrote true
  have hroute : Recorded s.chip (routeWrite s.chip (.port p) (off - off % 8) 0#64 true).2 := guardW_refused (by simp)
  unfold State.regWriteHalf
  dsimp only
  split
  · exact RecordedState.otherPortWrote true ⟨_, hroute, rfl⟩
  split
  · split
    · exact whole _
    · refine ⟨_, s.chip.latch.set p _, .refl _ _, by simp, fun q hq => ?_, rfl⟩
      simp [Chip.latchOf, List.getElem?_set_ne (Ne.symm hq)]
  · split <;> exact whole _
  · split <;> exact whole _
  · exact (RecordedState.refl s).otherPortWrote true

theorem registerWrite_otherPort (half : Bool) : OtherPortWrote s p half (registerWrite s (.port p) off v half) := by
  unfold registerWrite
  split
  · exact (RecordedState.refl s).otherPortWrote half
  split
  case isTrue hh => exact hh ▸ regWriteHalf_otherPort h off _
  case isFalse => exact (regWrite_otherPort h off v).otherPortWrote half

end State

/-- Settles O8: the command is the write, then what follows every write. -/
theorem otherPortsWriteNothing : Obligations.OtherPortsWriteNothing := by
  intro s p off v half hw hp
  obtain ⟨c, l, hc, hl, hq, ht⟩ := registerWrite_otherPort hp off v half
  refine ⟨c, l, hc, hl, hq, ?_⟩
  unfold exec
  exact command_to hw (congrArg State.settled ht)

end Sys2Proof.Machine
end

section
/-!
PROOF. Support for the statements about single commands: what a command's operands reach once its guard is passed (a packet's unit,
a message's unit, a register), and what is read of a chip at which a packet has left the local queue.
-/
namespace Sys2Proof.Machine

/-! Packets. -/

section Packets
variable {s : State} {h : FabHdr} {b : FabBody} {r : Nat} (a : Arrives s h b r)
include a

theorem onFab_arrives {f : Chip → Chip} {c : Chip} (hc : f (got s h b) = c) : onFab h b r f s = s.put c :=
  congrArg s.put ((onPkt_arrives f a).trans hc)

theorem onFabFreeing_arrives {f : Chip → Chip} {c : Chip} (hc : f (got s h b) = c) : onFabFreeing h b r f s = s.put c.drainSlots :=
  congrArg (fun c : Chip => s.put c.drainSlots) ((onPkt_arrives f a).trans hc)

end Packets

/-- Taking a packet from the local queue changes the seam, its counters and the recorder alone (R333). -/
theorem got_seam (s : State) (h : FabHdr) (b : FabBody) : SeamOnly s.chip (got s h b) := Chip.takeLocal_seam _ _

/-! What a change of the seam leaves. -/

section Seam
variable {c d : Chip} (h : SeamOnly c d)
include h

theorem SeamOnly.work : d.work = c.work := h.rest.2.2.2.2.2.2.2.2.2.1
theorem SeamOnly.rma : d.rma = c.rma := h.rest.2.2.2.2.2.2.2.2.1
theorem SeamOnly.emb : d.emb = c.emb := h.rest.2.2.2.2.2.2.2.2.2.2
theorem SeamOnly.board : d.board = c.board := h.rest.2.2.2.2.2.1

theorem SeamOnly.region (r : Nat) : d.region r = c.region r := by
  have hr : ∀ w, d.reg (Reg.rmaRegion r w) = c.reg (Reg.rmaRegion r w) := fun w =>
    h.reg _ (by simp only [seamCounter, Reg.rmaRegion]; omega) (by simp only [recorderReg, Reg.rmaRegion]; omega)
  simp only [Chip.region, hr]

theorem SeamOnly.tier (k : Nat) : d.tier k = c.tier k := by simp only [Chip.tier, h.work]

end Seam

/-! Messages. -/

section Messages
variable {s : State} {h : HlHdr} {m : HlMeta} (a : HostTakes s h m) {f : Chip → Chip} {c : Chip}
include a

theorem onHostChip_takes (hq : sequenced h = true) (hc : f (taken s h) = c) : onHostChip h m f s = s.put c :=
  (onHost_takes (onChip f) a hq).trans (congrArg s.put hc)

theorem onHostFreeing_takes (hq : sequenced h = true) (hc : f (taken s h) = c) : onHostFreeing h m f s = s.put c.drainSlots :=
  congrArg (onChip Chip.drainSlots) (onHostChip_takes a hq hc)

theorem onHostFreeing_takes_loose (hq : sequenced h = false) (hc : f (s.chip.bump (Reg.hlCnt 4)) = c) :
    onHostFreeing h m f s = s.put c.drainSlots :=
  congrArg (onChip Chip.drainSlots) ((onHost_takes_loose (onChip f) a hq).trans (congrArg s.put hc))

end Messages

/-! The chip alone. -/

theorem onChip_put_eq {s : State} {f : Chip → Chip} {c : Chip} (hc : f s.chip = c) : onChip f s = s.put c := congrArg s.put hc

theorem freeing_put_eq {s : State} {f : Chip → Chip} {c : Chip} (hc : f s.chip = c) : freeing f s = s.put c.drainSlots :=
  congrArg (fun c : Chip => s.put c.drainSlots) hc

end Sys2Proof.Machine
end

section
/-!
PROOF. Remote stores and atomics at the target (R343, R347, R354): what a write to a region leaves of the tiers, and from that the
obligations `StoreWritesItsRange` and `AtomicsApplyOnce`.
-/
namespace Sys2Proof.Machine

/-! Bytes. -/

theorem natOfLe_leBytes (k : Nat) : ∀ n : Nat, natOfLe (leBytes n k) = n % 256 ^ k := by
  induction k with
  | zero => intro n; simp [leBytes, natOfLe, Nat.mod_one]
  | succ k ih =>
    intro n
    rw [leBytes, natOfLe, ih, BitVec.toNat_ofNat, show 256 ^ (k + 1) = 256 * 256 ^ k from Nat.pow_succ']
    exact (Nat.mod_mul (a := 256)).symm

@[simp] theorem memReadBytes_length (m : Mem) (n : Nat) : ∀ a : Nat, (memReadBytes m a n).length = n := by
  induction n with
  | zero => intro a; rfl
  | succ n ih => intro a; simp [memReadBytes, ih]

/-! A write to a region (R343, R495). -/

section Write
variable (c : Chip) (g : Region) (off : Nat) (bs : List Byte)

/-- The marks that a write clears are the board's. -/
theorem Chip.clearMarks_eq (k a n : Nat) : ∃ b, c.clearMarks k a n = { c with board := b } := by
  unfold Chip.clearMarks
  split
  · exact ⟨_, rfl⟩
  · exact ⟨c.board, rfl⟩

theorem Chip.regionWrite_regs : (c.regionWrite g off bs).regs = c.regs := by
  obtain ⟨b, hb⟩ := c.clearMarks_eq g.tier (g.base + off) bs.length
  rw [Chip.regionWrite, hb]; rfl

theorem Chip.regionWrite_tier (k : Nat) :
    (c.regionWrite g off bs).tier k =
      if (k = 2 ↔ g.tier = 2) then memWriteBytes (c.tier k) (g.base + off) bs else c.tier k := by
  obtain ⟨b, hb⟩ := c.clearMarks_eq g.tier (g.base + off) bs.length
  rw [Chip.regionWrite, hb]
  by_cases hk : k = 2 <;> by_cases hg : g.tier = 2 <;> simp [Chip.tier, Chip.setTier, hk, hg]

end Write

/-- The bytes of a tier are in canonical form where both memories are. -/
theorem memWf_tier {c : Chip} (h1 : memWf c.work.t1 = true) (h2 : memWf c.work.t2 = true) (k : Nat) : memWf (c.tier k) = true := by
  unfold Chip.tier
  split <;> assumption

/-- What a state whose tiers are those of a region's write reads there, and that it keeps the rest. -/
theorem regionWrite_readBack {s t : State} {g : Region} {off : Nat} {bs : List Byte} (hw : memWf (s.chip.tier g.tier) = true)
    (ht : ∀ k, t.chip.tier k = (s.chip.regionWrite g off bs).tier k) :
    memReadBytes (t.chip.tier g.tier) (g.base + off) bs.length = bs ∧ TierKept g.tier (g.base + off) bs.length s t := by
  have hg : t.chip.tier g.tier = memWriteBytes (s.chip.tier g.tier) (g.base + off) bs := by simp [ht, Chip.regionWrite_tier]
  refine ⟨?read, ?outside, ?other⟩
  case read => rw [hg, memReadBytes_memWriteBytes _ _ _ hw]
  case outside => exact fun x hx => by rw [hg, memRead_memWriteBytes_other _ _ _ _ hw hx]
  case other =>
    intro k hk
    have hn : ¬ (k = 2 ↔ g.tier = 2) := by tauto
    rw [ht, Chip.regionWrite_tier, if_neg hn]

/-! What follows the write: an operation served, and its answer. -/

theorem Chip.reply_tier (c : Chip) (m : Member) (h : FabHdr) (b : FabBody) (k : Nat) : (c.reply m h b).tier k = c.tier k :=
  (c.reply_seam m h b).tier k

@[simp] theorem Chip.bump_tier (c : Chip) (off k : Nat) : (c.bump off).tier k = c.tier k := by simp [Chip.tier]

/-- A region reads as before when a remote operation is counted. -/
theorem Chip.bump_rmaCnt_region (c : Chip) (i : Nat) {r : Nat} (hr : r < 4096) : (c.bump (Reg.rmaCnt i)).region r = c.region r := by
  have hw : ∀ w < 2, (c.bump (Reg.rmaCnt i)).reg (Reg.rmaRegion r w) = c.reg (Reg.rmaRegion r w) := fun w _ =>
    c.bump_reg _ _ (by simp only [recorderReg, Reg.rmaRegion]; omega) (by simp only [Reg.rmaCnt, Reg.rmaRegion]; omega)
  simp only [Chip.region, hw 0 (by decide), hw 1 (by decide)]

/-- R350: a packet that passes its layout names a region below 4096. -/
theorem region_lt_of_rsvd {region rsvd : Nat} {ok : Bool} (h : regionRsvd region rsvd ok = 0) : region < 4096 := by
  by_contra hn
  simp [regionRsvd, needs, hn] at h

/-- Registers that no counter of the step and no record touches. -/
theorem served_reply_regs {c d : Chip} (m : Member) (h : FabHdr) (b : FabBody) (hregs : d.regs = c.regs) (o : Nat)
    (hn : o ≠ Reg.rmaCnt 1) (hs : ¬ seamCounter o) (hr : ¬ recorderReg o) : (d.served.reply m h b).reg o = c.reg o := by
  rw [(Chip.reply_seam _ m h b).reg o hs hr, Chip.served, Chip.bump_reg _ _ _ hr hn, Chip.reg_congr _ _ hregs]

/-! Stores. -/

section Store
variable {c : Chip} {h : FabHdr} {b : StoreBody}

/-- R347: a store that passes the checks is written, counted and acknowledged. -/
theorem rmaStore_ok (hok : c.regionStatus h b.region b.offset b.data.length = stOk) :
    rmaStore c h b false = ((c.regionWrite (c.region b.region) b.offset b.data).served).reply (c.regionMember b.region) h
      (.storeAck { status := stOk, rsvd := 0 }) := by
  simp [rmaStore, Chip.serveStatus, hok]

/-- R343: one that fails a check is answered with the status alone. -/
theorem rmaStore_refused (hno : c.regionStatus h b.region b.offset b.data.length ≠ stOk) :
    rmaStore c h b false = c.reply (c.regionMember b.region) h
      (.storeAck { status := c.regionStatus h b.region b.offset b.data.length, rsvd := 0 }) := by
  simp [rmaStore, Chip.serveStatus, hno]

end Store

/-- Settles O38: an accepted store is the write of its range, one count and an answer; a refused one is an answer. -/
theorem storeWritesItsRange : Obligations.StoreWritesItsRange := by
  intro s h b hw ha h1 h2 g
  have hgot := got_seam s h (.store b)
  have hreg : (got s h (.store b)).region b.region = g := hgot.region _
  refine ⟨fun hok => ?ok, fun hno => ?refused⟩
  case ok =>
    refine ⟨_, command_to hw (onFab_arrives ha (rmaStore_ok hok)), ?_⟩
    rw [hreg]
    have htier : ∀ k, ((((got s h (.store b)).regionWrite g b.offset b.data).served).reply ((got s h (.store b)).regionMember b.region) h
        (.storeAck { status := stOk, rsvd := 0 })).tier k = (s.chip.regionWrite g b.offset b.data).tier k := by
      intro k
      simp only [Chip.reply_tier, Chip.served, Chip.bump_tier, Chip.regionWrite_tier, hgot.tier]
    obtain ⟨hread, hkept⟩ := regionWrite_readBack (s := s) (t := s.put _) (memWf_tier h1 h2 g.tier) htier
    refine ⟨hread, hkept, fun o hn hs hr => ?_⟩
    exact (served_reply_regs _ h _ (Chip.regionWrite_regs _ g b.offset b.data) o hn hs hr).trans (hgot.reg o hs hr)
  case refused =>
    have hreply := Chip.reply_seam (got s h (.store b)) ((got s h (.store b)).regionMember b.region) h
      (.storeAck { status := (got s h (.store b)).regionStatus h b.region b.offset b.data.length, rsvd := 0 })
    exact ⟨_, command_to hw (onFab_arrives ha (rmaStore_refused hno)), (hgot.trans hreply).work, (hgot.trans hreply).reg⟩

/-! Atomics. -/

section Atomic
variable {c : Chip} {h : FabHdr} {b : AtomicBody}

/-- R353: an atomic that is not encrypted is answered in the clear. -/
theorem Chip.atomicReply_plain (he : h.enc = false) (m : Member) (seq status : Nat) (r0 r1 : W64) :
    c.atomicReply m h seq status r0 r1 =
      c.reply m h (.atomicReply { status := status, tgtEpoch := c.rmaEpoch, seq := seq, r0 := r0, r1 := r1, rsvd := 0 }) := by
  simp [Chip.atomicReply, Chip.dataReply, he]

/-- R354: an atomic that the replay table holds is counted, and answered from the table. -/
theorem rmaAtomic_replayed {e : ReplayEnt} (hr : b.region < 4096) (he : h.enc = false)
    (hok : c.regionStatus h b.region b.offset (atomicLen b.op) = stOk) (hfound : c.replay? h.src b.seq = some e) :
    rmaAtomic c h b false = atomicAnswer (c.bump (Reg.rmaCnt 4)) h b e.status e.r0 e.r1 := by
  simp [rmaAtomic, atomicAnswer, hok, hfound, Chip.atomicReply_plain he, Chip.regionMember, c.bump_rmaCnt_region 4 hr]

/-- The entry that an add of 64 bits leaves in the replay table (R354). -/
def addEntry (h : FabHdr) (b : AtomicBody) (old : Nat) : ReplayEnt :=
  { req := h.src, seq := b.seq, status := stOk, r0 := BitVec.ofNat 64 old, r1 := 0#64, row := none }

/-- R347: an add of 64 bits of a new SEQ writes the sum and is recorded; what follows is a count and an answer. -/
theorem rmaAtomic_add (he : h.enc = false) (hop : b.op = 1) (hok : c.regionStatus h b.region b.offset 8 = stOk)
    (hnew : c.replay? h.src b.seq = none) (hepoch : b.tgtEpoch = 0) (htry : b.try_ = 0) (hfloor : c.belowFloor h.src b.seq = false)
    (hroom : c.rma.replay.length < 4096) (hmark : c.regionBad b.region b.offset 8 = false) {old : Nat}
    (hold : natOfLe (c.regionRead (c.region b.region) b.offset 8) = old) :
    ∃ d, rmaAtomic c h b false = d ∧ addEntry h b old ∈ d.rma.replay ∧ ∀ k, d.tier k =
      (c.regionWrite (c.region b.region) b.offset (leBytes ((old + b.a0.toNat) % 2 ^ 64) 8)).tier k := by
  have htake : (c.regionRead (c.region b.region) b.offset 8).take 8 = c.regionRead (c.region b.region) b.offset 8 :=
    List.take_of_length_le (by simp [Chip.regionRead])
  have hlen : atomicLen 1 = 8 := rfl
  have hd : ∃ k, rmaAtomic c h b false = (((c.regionWrite (c.region b.region) b.offset
      (leBytes ((old + b.a0.toNat) % 2 ^ 64) 8)).record (addEntry h b old)).served).reply (c.regionMember b.region) h k := by
    simp [rmaAtomic, hlen, hok, hnew, hepoch, htry, hfloor, Nat.not_le.2 hroom, hmark, atomicResult, hop, htake, hold, addEntry,
      Chip.atomicReply_plain he]
  obtain ⟨k, hk⟩ := hd
  refine ⟨_, hk, ?_, fun j => ?_⟩
  · simp [(Chip.reply_seam _ (c.regionMember b.region) h k).rma, Chip.served]
  · rw [Chip.reply_tier, Chip.served, Chip.bump_tier]
    rfl

end Atomic

/-- Settles O40: an add is the write of the sum, an entry, a count and an answer; a repeated atomic is a count and an answer. -/
theorem atomicsApplyOnce : Obligations.AtomicsApplyOnce := by
  intro s h b hw ha he h1 h2 c g old
  have hgot : SeamOnly s.chip c := got_seam s h (.atomic b)
  have hreg : c.region b.region = g := hgot.region _
  refine ⟨fun hop hok hnew hepoch htry hfloor hroom hmark => ?add, fun e _ hok hfound => ?replay⟩
  case add =>
    have hold : natOfLe (c.regionRead (c.region b.region) b.offset 8) = old := by rw [Chip.regionRead, hreg, hgot.tier]
    obtain ⟨d, hd, hent, htier⟩ := rmaAtomic_add he hop hok hnew hepoch htry hfloor hroom hmark hold
    have hback : ∀ k, (s.put d).chip.tier k = (s.chip.regionWrite g b.offset (leBytes ((old + b.a0.toNat) % 2 ^ 64) 8)).tier k :=
      fun k => by simp only [State.put, htier, hreg, Chip.regionWrite_tier, hgot.tier]
    obtain ⟨hread, hkept⟩ := regionWrite_readBack (memWf_tier h1 h2 g.tier) hback
    rw [leBytes_length] at hread hkept
    refine ⟨s.put d, command_to hw (onFab_arrives ha hd), ?_, hkept, hent⟩
    rw [hread, natOfLe_leBytes, Nat.mod_mod_of_dvd _ ⟨1, by norm_num⟩]
    norm_num
  case replay =>
    have hr : b.region < 4096 := region_lt_of_rsvd ha.2.2.2.1
    refine ⟨command_to hw (onFab_arrives ha (rmaAtomic_replayed hr he hok hfound)), ?_⟩
    exact ((Chip.reply_seam _ _ _ _).work.trans (Chip.bump_work _ _)).trans hgot.work

end Sys2Proof.Machine
end

section
/-!
PROOF. Messages from the hosts (R220 to R231, R276 to R293, R369 to R382): what the transaction layer does with a message it does not
hand on, what each unit makes of one it takes, and from these the obligations about host messages and the emission ring.
-/
namespace Sys2Proof.Machine

/-! Sequence and form (R371, R372). -/

section Sequence
variable {s : State} {h : HlHdr} {m : HlMeta} (f : State → State) (hc : s.chip.hlCarries h.port m.type = true) (hq : sequenced h = true)
include hc hq

/-- A message whose number is not the expected one goes no further than its number. -/
theorem onHost_unexpected {c : Chip} (ht : s.chip.takeSeq h.port h.hc h.xseq = (false, c)) : s.onHost h m f = s.put c := by
  simp [State.onHost, hc, hq, ht, State.put]

/-- One of a wrong form is counted and refused. -/
theorem onHost_illFormed {c : Chip} (ht : s.chip.takeSeq h.port h.hc h.xseq = (true, c)) (hf : formStatus h m ≠ stOk) :
    s.onHost h m f = s.put ((c.bump (Reg.hlCnt 8)).refuseMsg h (formStatus h m)) := by
  simp [State.onHost, hc, hq, ht, hf, State.put]

/-- Before an image is applied, one that is not early is counted and refused. -/
theorem onHost_early {c : Chip} (ht : s.chip.takeSeq h.port h.hc h.xseq = (true, c)) (hf : formStatus h m = stOk)
    (hd : c.devState < 2) (he : m.early = false) :
    s.onHost h m f = s.put (((c.bump (Reg.hlCnt 4)).bump (Reg.hlCnt 9)).refuseMsg h stNotReady) := by
  have hd' : (c.bump (Reg.hlCnt 4)).devState < 2 := by rwa [Chip.bump_rx_devState]
  simp [State.onHost, hc, hq, ht, hf, hd', he, State.put]

end Sequence

section TakeSeq
variable (c : Chip) {p hc x : Nat}

theorem Chip.takeSeq_expected (h : x = (c.hlPort p).expect hc) :
    c.takeSeq p hc x = (true, c.setHlPort p ((c.hlPort p).setExpect hc (wrapSuccSkip0 32 x) false)) := by
  simp [Chip.takeSeq, seqResult, ← h]

variable (hx : x ≠ (c.hlPort p).expect hc)
include hx

theorem Chip.takeSeq_duplicate (hp : precedes 32 x ((c.hlPort p).expect hc) = true) :
    c.takeSeq p hc x = (false, c.bump (Reg.hlCnt 7)) := by
  simp [Chip.takeSeq, seqResult, hx, hp]

variable (hp : precedes 32 x ((c.hlPort p).expect hc) = false)
include hp

theorem Chip.takeSeq_inGap (hg : (if hc = 0 then (c.hlPort p).gap0 else (c.hlPort p).gap1) = true) : c.takeSeq p hc x = (false, c) := by
  simp [Chip.takeSeq, seqResult, hx, hp, hg]

theorem Chip.takeSeq_opensGap (hg : (if hc = 0 then (c.hlPort p).gap0 else (c.hlPort p).gap1) = false) :
    c.takeSeq p hc x = (false, (((c.setHlPort p ((c.hlPort p).setExpect hc ((c.hlPort p).expect hc) true)).bump (Reg.hlCnt 8)).log
      { code := 0x1005, refKind := 3, ref := p }).sendSync p) := by
  simp [Chip.takeSeq, seqResult, hx, hp, hg]

end TakeSeq

/-- Settles O9: each clause is one outcome of the sequence check, and the message goes no further. -/
theorem sequencedMessagesInOrder : Obligations.SequencedMessagesInOrder := by
  intro s h b hw hq hc hx
  exact ⟨fun hp => command_to hw (onHost_unexpected _ hc hq (s.chip.takeSeq_duplicate hx hp)),
    fun hp hg => command_to hw (onHost_unexpected _ hc hq (s.chip.takeSeq_inGap hx hp hg)),
    fun hp hg => command_to hw (onHost_unexpected _ hc hq (s.chip.takeSeq_opensGap hx hp hg))⟩

/-- A message of HC0 or HC1 that is not LINK_SYNC is numbered. -/
theorem sequenced_of_type {h : HlHdr} (hc : h.hc < 2) (ht : h.msgType ≠ 1) : sequenced h = true := by
  simp [sequenced, hc, ht]

/-- R371: a message of its own type in a form that the type does not have. -/
theorem formStatus_malformed {h : HlHdr} {m : HlMeta} (ht : h.msgType = m.type)
    (hf : h.hc ≠ m.hc ∨ lenOk h = false ∨ offOk h = false ∨ h.rsvd ≠ 0 ∨ m.rsvd ≠ 0 ∨ (h.hc = 0 ∧ 1 < h.pkts.length)) :
    formStatus h m = stMalformed := by
  rw [formStatus, if_neg (not_not.2 ht), if_pos hf]

/-- R369: every message but admits and resumes is refused in HC0. -/
theorem Chip.refuseMsg_ack (c : Chip) {h : HlHdr} (status : Nat) (ht : ¬ (h.msgType = 0x10 ∨ h.msgType = 0x11)) :
    c.refuseMsg h status = c.ack h.port (if 8 ≤ bodyLenOf h then h.rawTag else 0) 0 status 0 := by
  rw [Chip.refuseMsg, ackClass, if_neg ht]
  rfl

/-- Settles O10: a PAUSE of the expected number stops at its form, or at the device's state. -/
theorem illFormedMessagesAnswered : Obligations.IllFormedMessagesAnswered := by
  intro s h b hw hc ht hcar hx
  have hq : sequenced h = true := sequenced_of_type hc (by simp [ht])
  have htake := s.chip.takeSeq_expected hx
  have hack : ¬ (h.msgType = 0x10 ∨ h.msgType = 0x11) := by simp [ht]
  have reached : ∀ {c : Chip}, s.onHost h ⟨0x13, 0, 0, false⟩ (onChip (fun c => pause c h.port b)) = s.put c →
      exec (.hlMsgPause h b) s = .next (s.put c.drainSlots) := fun e => command_to hw (congrArg (onChip Chip.drainSlots) e)
  refine ⟨fun hbad => ?malformed, fun hok hd => ?early⟩
  case malformed =>
    have hform : formStatus h ⟨0x13, 0, 0, false⟩ = stMalformed := formStatus_malformed ht (by simpa using hbad)
    have hne : formStatus h ⟨0x13, 0, 0, false⟩ ≠ stOk := by rw [hform]; decide
    rw [reached (onHost_illFormed _ hcar hq htake hne), hform, Chip.refuseMsg_ack _ _ hack]
  case early =>
    obtain ⟨h0, hlen, hoff, hrsvd, hone⟩ := hok
    have hform : formStatus h ⟨0x13, 0, 0, false⟩ = stOk := by
      simp [formStatus, ht, h0, hlen, hoff, hrsvd, hone]
    rw [reached (onHost_early _ hcar hq htake hform hd rfl), Chip.refuseMsg_ack _ _ hack]
    rfl

/-! Messages that reach their unit. -/

section Taken
variable {s : State} {h : HlHdr} {m : HlMeta} (a : HostTakes s h m)
include a

theorem HostTakes.class_eq : h.hc = m.hc := a.2.2.2.1

theorem HostTakes.type_eq : h.msgType = m.type := a.2.2.1

theorem HostTakes.numbered (hm : (decide (m.hc < 2) && m.type != 1) = true := by rfl) : sequenced h = true := by
  rw [Bool.and_eq_true, decide_eq_true_iff, bne_iff_ne] at hm
  exact sequenced_of_type (a.class_eq ▸ hm.1) (a.type_eq ▸ hm.2)

/-- LINK_SYNC and the messages of HC3 take no number. -/
theorem HostTakes.unnumbered (hm : (m.hc == 3 || (m.hc == 0 && m.type == 1)) = true := by rfl) : sequenced h = false := by
  rw [sequenced, a.class_eq, a.type_eq]
  rcases Bool.or_eq_true_iff.1 hm with hc | hc
  · simp [beq_iff_eq.1 hc]
  · simp [hc]

end Taken

/-- R225: an admission that passes the checks. -/
theorem admitHost_ok {c : Chip} {p : Nat} {b : AdmitBody} (h : c.admitStatus p b = stOk) :
    admitHost c p b = (admitted c p b).placePhase (c.deviceId * 2 ^ 48 + c.nextLocal (c.work.collars.length + 1) c.work.localNum)
      none none := by
  simp [admitHost, h, admitted]

/-- One that fails a check. -/
theorem admitHost_refused {c : Chip} {p : Nat} {b : AdmitBody} (h : c.admitStatus p b ≠ stOk) :
    admitHost c p b = (c.bump (Reg.reqCnt 1)).ackIn p 2 b.hostTag 0 (c.admitStatus p b) 0 := by
  simp [admitHost, h]

/-- Settles O11: an admission is one of two, by its status. -/
theorem admitPlacesOrRefuses : Obligations.AdmitPlacesOrRefuses := by
  intro s h b hw a
  have hq := a.numbered
  exact ⟨fun hok => command_to hw (onHostFreeing_takes a hq (admitHost_ok hok)),
    fun hno => command_to hw (onHostFreeing_takes a hq (admitHost_refused hno))⟩

/-! Request controls (R226, R227, R231). -/

section Controls
variable {s : State} {h : HlHdr} {req : Nat} {k : Collar}

/-- A message that names a collar its port may control acts on the collar as it is read. -/
theorem onCollar_named (hk : Named s h req k) (hc tag : Nat) (f : Chip → Collar → Chip) :
    (taken s h).onCollar h.port hc tag req f = f ((taken s h).readCollar req) k := by
  obtain ⟨old, ho, he⟩ := Option.map_eq_some_iff.1 hk
  obtain ⟨hcol, hmay⟩ := Option.filter_eq_some_iff.1 ho
  simp only [Chip.onCollar, hcol, hmay, if_true, he]

/-- So the port may control it. -/
theorem mayControl_of_named (hk : Named s h req k) : ((taken s h).collar req).any ((taken s h).mayControl h.port) = true := by
  obtain ⟨old, ho, -⟩ := Option.map_eq_some_iff.1 hk
  obtain ⟨hcol, hmay⟩ := Option.filter_eq_some_iff.1 ho
  simp [hcol, hmay]

end Controls

/-- R226: one that its port may not control is denied. -/
theorem onCollar_denied {c : Chip} {p req : Nat} (hno : (c.collar req).any (c.mayControl p) = false) (hc tag : Nat)
    (f : Chip → Collar → Chip) : c.onCollar p hc tag req f = c.ackIn p hc tag req stDenied 0 := by
  unfold Chip.onCollar
  split
  next k hk => simp_all
  next => rfl

/-- The status of a RESUME of the collar `k` (R227). -/
def resumeStatusOf (c : Chip) (k : Collar) (b : ResumeBody) : Nat :=
  if resumeBad b then stMalformed else if k.img.lcState ≠ lcPaused then stBusy
    else c.resumeStatus k b (decide (0 < b.nAppend) || k.img.summaryOnly || k.prefill)

section Resume
variable {s : State} {h : HlHdr} {b : ResumeBody} {k : Collar} (hk : Named s h b.requestId k)
include hk

theorem resume_ok (hok : resumeStatusOf ((taken s h).readCollar b.requestId) k b = stOk) :
    let c := (taken s h).readCollar b.requestId
    resume (taken s h) h.port b = (((c.setCollar (resumedCollar c k b)).collarWritten (resumedCollar c k b)).oweAck k.img.port
      k.img.requestId b.hostTag stOk).placePhase k.img.requestId (if k.img.summaryOnly then none else some k.img.homeDevice) none := by
  have hgood : resumeBad b = false := by
    by_contra hb
    simp [resumeStatusOf, Bool.not_eq_false _ ▸ hb, stMalformed, stOk] at hok
  have hpaused : k.img.lcState = lcPaused := by
    by_contra hp
    simp [resumeStatusOf, hgood, hp, stBusy, stOk] at hok
  have hst : ((taken s h).readCollar b.requestId).resumeStatus k b (decide (0 < b.nAppend) || k.img.summaryOnly || k.prefill) = stOk := by
    simpa [resumeStatusOf, hgood, hpaused] using hok
  simp only [resume, hgood, Bool.false_and, Bool.false_eq_true, if_false, onCollar_named hk, hpaused, hst, ne_eq, not_true_eq_false]
  rfl

theorem resume_refused (hno : resumeStatusOf ((taken s h).readCollar b.requestId) k b ≠ stOk) :
    resume (taken s h) h.port b = ((taken s h).readCollar b.requestId).oweAck k.img.port b.requestId b.hostTag
      (resumeStatusOf ((taken s h).readCollar b.requestId) k b) := by
  simp only [resume, mayControl_of_named hk, Bool.not_true, Bool.and_false, Bool.false_eq_true, if_false, onCollar_named hk]
  unfold resumeStatusOf at hno ⊢
  split
  · rfl
  · split
    · rfl
    · simp_all

end Resume

section Live
variable {s : State} {h : HlHdr} {b : ReqBody} {k : Collar} (hk : Named s h b.requestId k)
include hk

/-- R231: a CANCEL of an ended request only answers. -/
theorem cancel_ended (he : lcDone ≤ k.img.lcState) :
    cancel (taken s h) h.port b = ((taken s h).readCollar b.requestId).ack h.port b.hostTag b.requestId stOk 0 := by
  simp only [cancel, onCollar_named hk, he, if_true]

theorem cancel_live (hl : k.img.lcState < lcDone)
    (hr : (((taken s h).readCollar b.requestId).ack h.port b.hostTag b.requestId stOk 0).runningHere b.requestId = none) :
    cancel (taken s h) h.port b =
      (((taken s h).readCollar b.requestId).ack h.port b.hostTag b.requestId stOk 0).endReq b.requestId stAborted := by
  simp only [cancel, onCollar_named hk, Nat.not_le.2 hl, if_false, hr]

/-- R231: a PAUSE of a paused or ended request only answers. -/
theorem pause_rested (hp : lcPaused ≤ k.img.lcState) :
    pause (taken s h) h.port b = ((taken s h).readCollar b.requestId).ack h.port b.hostTag b.requestId stOk 0 := by
  simp [pause, onCollar_named hk, hp]

theorem pause_admitted (hl : k.img.lcState = lcAdmitted) (hp : k.pausing = false) :
    pause (taken s h) h.port b = (((taken s h).readCollar b.requestId).ack h.port b.hostTag b.requestId stOk 0).pauseBare k := by
  simp [pause, onCollar_named hk, hl, hp, lcPaused, lcAdmitted]

theorem query_named : query (taken s h) h.port b = ((taken s h).readCollar b.requestId).hlSend h.port 0 (.state b.hostTag
    k.img.requestId k.img.lcState k.img.summaryOnly k.img.endStatus k.img.placement k.img.homeDevice k.img.committed
    k.img.lastEmitted) := by
  simp only [query, onCollar_named hk]

end Live

/-- Settles O12: each message acts on the collar it names, by the state of the request. -/
theorem requestControls : Obligations.RequestControls := by
  refine ⟨?resume, ?cancel, ?pause, ?query, ?denied⟩
  case resume =>
    intro s h b k hw a hk c st
    have hq := a.numbered
    exact ⟨fun hok => command_to hw (onHostFreeing_takes a hq (resume_ok hk hok)),
      fun hno => command_to hw (onHostFreeing_takes a hq (resume_refused hk hno))⟩
  case cancel =>
    intro s h b k hw a hk c
    have hq := a.numbered
    exact ⟨fun he => command_to hw (onHostFreeing_takes a hq (cancel_ended hk he)),
      fun hl hr => command_to hw (onHostFreeing_takes a hq (cancel_live hk hl hr))⟩
  case pause =>
    intro s h b k hw a hk c
    have hq := a.numbered
    exact ⟨fun hp => command_to hw (onHostFreeing_takes a hq (pause_rested hk hp)),
      fun hl hp => command_to hw (onHostFreeing_takes a hq (pause_admitted hk hl hp))⟩
  case query =>
    intro s h b k hw a hk
    exact command_to hw (onHostChip_takes a a.numbered (query_named hk))
  case denied =>
    intro s h b hw a hno
    exact command_to hw (onHostChip_takes a a.numbered (onCollar_denied hno _ _ _))

/-! Adapters (R220 to R222). -/

section Install
variable {c : Chip} {p : Nat} {b : AdapterBody} {k : Nat} (hst : c.installStatus p b = stOk)
include hst

theorem adapterInstall_loads (hr : b.remove = false) (hd : b.drain = false)
    (hk : (upTo 1024).find? (fun j => c.slotState j == 0) = some k) :
    adapterInstall c p b = (c.loadSlot k b).onWork (fun w => { w with installs := w.installs ++ [newInstall p b k] }) := by
  simp [adapterInstall, hst, hr, hd, hk, newInstall]

theorem adapterInstall_retires (hr : b.remove = true) (hk : (c.adapterSlots b.part b.adapter [2]).head? = some k) :
    adapterInstall c p b = (c.retire k).ack p b.hostTag 0 stOk 0 := by
  simp [adapterInstall, hst, hr, hk]

end Install

/-- Settles O13: an accepted install loads a slot or retires the version. -/
theorem adapterInstallLoadsOrRetires : Obligations.AdapterInstallLoadsOrRetires := by
  intro s h b hw a hst
  have hq := a.numbered
  exact ⟨fun k hr hd hk => command_to hw (onHostChip_takes a hq (adapterInstall_loads hst hr hd hk)),
    fun k hr hk => command_to hw (onHostChip_takes a hq (adapterInstall_retires hst hr hk))⟩

/-! Embedding (R276, R282, R285, R293). -/

theorem embTable_installs {c : Chip} {p : Nat} {b : EmbTableBody} (hst : c.embTableStatus p b = stOk) (ha : b.action = 0) :
    embTable c p b = (c.onEmb (fun e => { e with vers := e.vers ++ [newTable b] })).ack p b.hostTag 0 stOk 0 := by
  simp [embTable, hst, ha, newTable]

theorem embGather_starts {c : Chip} {p : Nat} {b : GatherBody} {v : TableVer}
    (hst : c.lookupStatus p b.part b.table (b.rsvd != 0 || decide (16 ≤ b.part) || decide (64 ≤ b.table) || b.bags.isEmpty ||
      decide (256 < b.bags.length) || b.bags.any bagBad) (b.bags.all (fun x => x.weights.all f32Finite)) = stOk)
    (hv : c.curVer b.table = some v) :
    embGather c p b = (c.onEmb (fun e =>
      { e with gatherId := c.emb.gatherId + 1, gathers := e.gathers ++ [newGather c p b v] })).driveGathers b.part := by
  simp only [embGather, hst, hv, if_true, newGather]

theorem embUpdate_starts {c : Chip} {p : Nat} {b : UpdateBody} {v : TableVer} (hv : c.curVer b.table = some v)
    (hst : c.lookupStatus p b.part b.table (b.rsvd != 0 || decide (16 ≤ b.part) || decide (64 ≤ b.table) || b.rows.isEmpty ||
      decide (256 < b.rows.length) || b.rows.any (fun r => decide (2 ^ 40 ≤ r.1)) || b.rows.any (fun r => r.2.length != v.width))
      (b.rows.all (fun r => r.2.all f32Finite)) = stOk) :
    embUpdate c p b = (b.rows.zipIdx).foldl (updateRow b.part (c.emb.updateId + 1) v)
      (c.onEmb (fun e => { e with updateId := c.emb.updateId + 1, updates := e.updates ++ [newUpdate c p b v] })) := by
  simp only [embUpdate, hv, Option.map_some, Option.getD_some, Option.isSome_some, Bool.true_and, hst, if_true]
  rfl

theorem embMigrate_offers {c : Chip} {p : Nat} {b : MigrateBody} (hst : c.migrateStatus p b = stOk) (ha : b.action ≠ 1) :
    embMigrate c p b = (((((c.onWork (fun w => { w with moveId := wrapSucc 32 c.work.moveId })).onEmb (fun e =>
      { e with out := e.out ++ [newMigration c p b], lastMig := (newMigration c p b).id })).migStatus (newMigration c p b) 1 0 0).sendNew
        .device b.newDevice 0 (.migOffer (migrationOffer c b))).2) := by
  simp only [embMigrate, hst, ha, ne_eq, not_true_eq_false, if_false, newMigration, migrationOffer]

/-- Settles O14: each message that passes its checks starts its work. -/
theorem embeddingMessages : Obligations.EmbeddingMessages := by
  refine ⟨?table, ?gather, ?update, ?migrate⟩
  case table =>
    exact fun s h b hw a hst ha =>
      command_to hw (onHostChip_takes a a.numbered (embTable_installs hst ha))
  case gather =>
    exact fun s h b v hw a hst hv =>
      command_to hw (onHostChip_takes a a.numbered (embGather_starts hst hv))
  case update =>
    exact fun s h b v hw a hv hst =>
      command_to hw (onHostChip_takes a a.numbered (embUpdate_starts hv hst))
  case migrate =>
    exact fun s h b hw a hst ha =>
      command_to hw (onHostChip_takes a a.numbered (embMigrate_offers hst ha))

end Sys2Proof.Machine
end

section
/-!
PROOF. Register messages, LINK_SYNC, bulk answers and the emission ring (R373, R374, R379, R382, R387), and from these their obligations.
-/
namespace Sys2Proof.Machine

/-! Register access (R379). -/

/-- Whole reads within the window read each register in order and change nothing. -/
theorem regReads_inWindow {s : State} {p : Nat} (n : Nat) : ∀ off, (∀ k < n, s.chip.inWindow p (off + 8 * k) = true) →
    regReads p false n off s = (stOk, (List.range n).map (fun k => s.regRead (off + 8 * k)), s) := by
  induction n with
  | zero => intro off _; rfl
  | succ n ih =>
    intro off hin
    have h0 : s.chip.inWindow p off = true := hin 0 (Nat.succ_pos n)
    have htail := ih (off + 8) (fun k hk => by
      rw [show off + 8 + 8 * k = off + 8 * (k + 1) by omega]; exact hin (k + 1) (Nat.succ_lt_succ hk))
    simp only [regReads, h0, Bool.not_true, Bool.false_eq_true, if_false, htail, List.range_succ_eq_map, List.map_cons, List.map_map,
      Nat.mul_zero, Nat.add_zero]
    congr 3
    refine List.map_congr_left (fun k _ => ?_)
    simp only [Function.comp_apply, Nat.succ_eq_add_one, Nat.mul_add, Nat.mul_one, Nat.add_assoc, Nat.add_comm (8 * k)]

theorem regReads_outside {s : State} {p n off : Nat} (half : Bool) (h : s.chip.inWindow p off = false) :
    regReads p half (n + 1) off s = (s.chip.outside, [], s) := by
  simp [regReads, h]

section RegRead
variable {s : State} {p : Nat} {b : RegReadBody} (hh : b.half = false) (hf : regFormOk b.offset false b.count = true)
include hh hf

theorem regReadMsg_inWindow (hin : ∀ k < b.count, s.chip.inWindow p (b.offset + 8 * k) = true) :
    regReadMsg s p b = s.put (s.chip.hlSend p 0 (.regData b.hostTag stOk ((List.range b.count).map (fun k => s.regRead
      (b.offset + 8 * k))))) := by
  simp [regReadMsg, hh, hf, regReads_inWindow b.count b.offset hin, State.put, stOk, stNotReady]

theorem regReadMsg_outside (hd : 2 ≤ s.chip.devState) (hout : s.chip.inWindow p b.offset = false) :
    regReadMsg s p b = s.put (s.chip.hlSend p 0 (.regData b.hostTag stPrivilege [])) := by
  have hcount : ∃ n, b.count = n + 1 := by
    have h1 : 1 ≤ b.count := by simp [regFormOk] at hf; omega
    exact ⟨b.count - 1, by omega⟩
  obtain ⟨n, hn⟩ := hcount
  have hst : s.chip.outside = stPrivilege := by rw [Chip.outside, if_neg (by omega)]
  rw [hn] at hf
  simp [regReadMsg, hh, hn, hf, regReads_outside false hout, hst, State.put, stPrivilege, stNotReady]

end RegRead

section RegWrite
variable {s : State} {p : Nat} {b : RegWriteBody} {v : W64} (hh : b.half = false) (hv : b.values = [v]) (ho : b.offset % 8 = 0)
include hh hv ho

theorem regWriteMsg_one (hin : s.chip.inWindow p b.offset = true) :
    regWriteMsg s p b = State.put (s.regWrite (.port p) b.offset v).2 ((s.regWrite
      (.port p) b.offset v).2.chip.ack p b.hostTag 0 stOk 1) := by
  simp [regWriteMsg, regWrites, regFormOk, hh, hv, ho, hin, State.put]

theorem regWriteMsg_outside (hout : s.chip.inWindow p b.offset = false) :
    regWriteMsg s p b = s.put (s.chip.ack p b.hostTag 0 stPrivilege 0) := by
  simp [regWriteMsg, regWrites, regFormOk, hh, hv, ho, hout, State.put]

end RegWrite

/-- A message that was handed on found an image applied (R380). -/
theorem HostTakes.devState_taken {s : State} {h : HlHdr} {m : HlMeta} (a : HostTakes s h m) : 2 ≤ (taken s h).devState := by
  have hd : 2 ≤ s.chip.devState := a.2.2.2.2.2.2.2.2.2
  rw [taken, Chip.bump_rx_devState]
  exact hd

/-- Settles O15: a register message reaches its unit, which reads or writes within the window. -/
theorem registerMessages : Obligations.RegisterMessages := by
  refine ⟨?read, ?write⟩
  case read =>
    intro s h b hw a hh hf
    have reached := onHost_takes (fun s => regReadMsg s h.port b) a a.numbered
    exact ⟨fun hin => by unfold exec; exact command_to hw (reached.trans (regReadMsg_inWindow hh hf hin)),
      fun hout => by unfold exec; exact command_to hw (reached.trans (regReadMsg_outside hh hf a.devState_taken hout))⟩
  case write =>
    intro s h b v hw a hh hv ho
    have reached := onHost_takes (fun s => regWriteMsg s h.port b) a a.numbered
    exact ⟨fun hin => by unfold exec; exact command_to hw (congrArg State.settled (reached.trans (regWriteMsg_one hh hv ho hin))),
      fun hout => by unfold exec; exact command_to hw (congrArg State.settled (reached.trans (regWriteMsg_outside hh hv ho hout)))⟩

/-! LINK_SYNC (R373, R374). -/

/-- Counting a message leaves the registers of the ports. -/
theorem Chip.bump_rx_reg (c : Chip) {off : Nat} (h : 0x1000000 ≤ off ∧ off < 0x1003000) : (c.bump (Reg.hlCnt 4)).reg off = c.reg off :=
  c.bump_reg _ _ (by simp only [recorderReg]; omega) (by simp only [Reg.hlCnt]; omega)

section LinkSync
variable {c : Chip} {p : Nat} {b : SyncBody}

theorem linkSync_otherSession (h : b.session ≠ (c.reg (Reg.hlPortSession p)).toNat) : linkSync c p b = c.retrainNow (.lateter p) := by
  rw [linkSync, if_neg h]

theorem linkSync_inSync (h : b.session = (c.reg (Reg.hlPortSession p)).toNat)
    (h0 : beforeLog (c.hlPort p).log0 (c.hlPort p).next0 b.expect0 = false)
    (h2 : beforeLog (c.hlPort p).log2 (c.hlPort p).next2 b.expect2 = false) (hs : c.hlState p = 5) :
    linkSync c p b = (((((c.setFld (Reg.hlPortStatus p) 63 61 3).linkLog (.lateter p) 1).stopHold p).sendSync p).resend p 0
      b.expect0).resend p 2 b.expect2 := by
  simp [linkSync, Chip.synced, h, h0, h2, hs]

end LinkSync

/-! Bulk answers (R387). -/

theorem bulkData_named {c : Chip} {h : HlHdr} {b : BulkDataBody} {k : Bulk} (hk : c.bulkFor h.port b.tag false = some k)
    (hl : b.data.length = (if b.status = stOk then k.length else 0)) :
    bulkData c h b = ((c.bulkTake b.tag).2).bulkEnded k (statusOf b.status) b.data := by
  simp only [bulkData, hk, hl, ne_eq, not_true_eq_false, if_false]

theorem bulkWriteAck_named {c : Chip} {h : HlHdr} {b : BulkAckBody} {k : Bulk} (hk : c.bulkFor h.port b.tag true = some k) :
    bulkWriteAck c h b = ((c.bulkTake b.tag).2).bulkEnded k (statusOf b.status) [] := by
  simp only [bulkWriteAck, hk]

theorem bulkWriteAck_unnamed {c : Chip} {h : HlHdr} {b : BulkAckBody} (hk : c.bulkFor h.port b.tag true = none) :
    bulkWriteAck c h b = c.bump (Reg.hlCnt 11) := by
  simp only [bulkWriteAck, hk]

/-- Settles O16: each message takes no number, and its unit acts on the port's session or on the transfer it names. -/
theorem linkMessages : Obligations.LinkMessages := by
  refine ⟨?sync, ?data, ?ack, ?late⟩
  case sync =>
    intro s h b hw a
    have hp : h.port < 4 := by
      have hw' : (h.wf 0x01 && b.wf) = true := hw
      simp [HlHdr.wf, fits] at hw'
      omega
    have hsession : (s.chip.bump (Reg.hlCnt 4)).reg (Reg.hlPortSession h.port) = s.chip.reg (Reg.hlPortSession h.port) :=
      Chip.bump_rx_reg _ (by simp only [Reg.hlPortSession]; omega)
    have hstate : (s.chip.bump (Reg.hlCnt 4)).hlState h.port = s.chip.hlState h.port := by
      simp only [Chip.hlState, Chip.fld, Chip.bump_rx_reg s.chip (off := Reg.hlPortStatus h.port) (by simp only [Reg.hlPortStatus]; omega)]
    have hport : (s.chip.bump (Reg.hlCnt 4)).hlPort h.port = s.chip.hlPort h.port := by simp [Chip.hlPort]
    refine ⟨fun hs => ?other, fun hs h0 h2 h5 => ?same⟩
    case other =>
      exact command_to hw (onHostFreeing_takes_loose a a.unnumbered (linkSync_otherSession (by rwa [hsession])))
    case same =>
      exact command_to hw (onHostFreeing_takes_loose a a.unnumbered
        (linkSync_inSync (by rwa [hsession]) (by rwa [hport]) (by rwa [hport]) (by rwa [hstate])))
  case data =>
    exact fun s h b k hw a hk hl => command_to hw (onHostFreeing_takes_loose a a.unnumbered (bulkData_named hk hl))
  case ack =>
    exact fun s h b k hw a hk => command_to hw (onHostFreeing_takes_loose a a.unnumbered (bulkWriteAck_named hk))
  case late =>
    exact fun s h b hw a hk => command_to hw (onHostFreeing_takes_loose a a.unnumbered (bulkWriteAck_unnamed hk))

/-! The emission ring (R381, R382). -/

@[simp] theorem Chip.hlPush_work (c : Chip) (p hc n : Nat) (m : HostMsg) (b : Bool) : (c.hlPush p hc n m b).work = c.work := by
  unfold Chip.hlPush
  split <;> rfl

@[simp] theorem Chip.hlSend_work (c : Chip) (p hc : Nat) (m : HostMsg) : (c.hlSend p hc m).work = c.work := by
  simp [Chip.hlSend]

@[simp] theorem Chip.hlSend_collar (c : Chip) (p hc : Nat) (m : HostMsg) (req : Nat) : (c.hlSend p hc m).collar req = c.collar req := by
  simp [Chip.collar]

section Emit
variable {c : Chip} {p : Nat} {e : RingEnt} {rest : List RingEnt} {k : Collar} (ha : c.hlState p = 3)
  (ho : (c.hlPort p).link.out.any (fun o => o.tc == 2) = false) (hr : (c.hlPort p).ring = e :: rest) (hk : c.collar e.requestId = some k)
include ha ho hr hk

/-- An entry that owes nothing once it has sent leaves the ring. -/
theorem hc2Emit_once {e' : RingEnt} {m : HostMsg} (hid : e'.requestId = e.requestId) (hw : owes k e = true) (hn : owes k e' = false)
    (hone : ∀ c : Chip, c.emitOne p k e = (e', c.hlSend p 2 m)) :
    hc2Emit c p = (c.setHlPort p { c.hlPort p with ring := rest }).hlSend p 2 m := by
  have hcol : (c.setHlPort p { c.hlPort p with ring := rest }).collar e.requestId = some k := hk
  simp [hc2Emit, ha, ho, hr, hcol, hw, hone, hid, hn]

variable (hs : k.emitted ≤ k.sent)
include hs

theorem hc2Emit_ack {tag status : Nat} (hack : e.ack = [(tag, status)]) (hres : e.result = false) (hend : e.ended = false) :
    hc2Emit c p = (c.setHlPort p { c.hlPort p with ring := rest }).hlSend p 2 (.ack tag k.img.requestId status 0) :=
  hc2Emit_once (e' := { e with ack := [] }) ha ho hr hk rfl (by simp [owes, hack]) (by simp [owes, hres, hend, hs])
    (fun c => by simp only [Chip.emitOne, hack])

theorem hc2Emit_ended (hack : e.ack = []) (hres : e.result = false) (hend : e.ended = true) :
    hc2Emit c p = (c.setHlPort p { c.hlPort p with ring := rest }).hlSend p 2
      (.ended k.img.requestId k.img.hostTag k.img.endStatus k.emitted) :=
  hc2Emit_once (e' := { e with ended := false }) ha ho hr hk rfl (by simp [owes, hend]) (by simp [owes, hack, hres, hs])
    (fun c => by simp only [Chip.emitOne, hack, Nat.not_lt.2 hs, hres, Bool.false_eq_true, if_false])

end Emit

/-- Settles O17: the first entry of the ring sends its one message and leaves. -/
theorem emitTakesTheRingInOrder : Obligations.EmitTakesTheRingInOrder := by
  intro s p e rest k hw ha ho hr hk
  exact ⟨fun tag status hack hres hend hs => command_to hw (onChip_put_eq (hc2Emit_ack ha ho hr hk hs hack hres hend)),
    fun hack hs hres hend => command_to hw (onChip_put_eq (hc2Emit_ended ha ho hr hk hs hack hres hend))⟩

end Sys2Proof.Machine
end

section
/-!
PROOF. Placements, phase controls and phase reports (R248, R263, R264, R357, R358), and from these their obligations.
-/
namespace Sys2Proof.Machine

/-- The list search for a record that no member is gives none. -/
theorem find?_none_of_state {l : List MoveSrc} {req n : Nat} (h : ∀ m ∈ l, m.requestId = req → m.state ≠ n) :
    l.find? (fun m => m.requestId == req && m.state == n) = none := by
  simpa using h

/-! FAB_PKT_PHASE_PLACE at the node (R248, R357, R358). -/

section Place
variable {c : Chip} {h : FabHdr} {b : PlaceBody}

theorem phasePlace_pastLimit (hi : 4096 ≤ b.pktIndex) : phasePlace c h b = c.nackPkt ⟨h, .phasePlace b⟩ stMalformed := by
  simp only [phasePlace, hi, if_true]

variable (hi : b.pktIndex < 4096)
include hi

theorem phasePlace_duplicate (hr : c.reassemble h b.pktIndex 0 b.data.length stOk b.data = .duplicate) :
    phasePlace c h b = c.bump (Reg.rmaCnt 9) := by
  simp only [phasePlace, Nat.not_le.mpr hi, if_false, hr]

theorem phasePlace_noRoom (hr : c.reassemble h b.pktIndex 0 b.data.length stOk b.data = .noRoom) :
    phasePlace c h b = c.nackPkt ⟨h, .phasePlace b⟩ stBusy := by
  simp only [phasePlace, Nat.not_le.mpr hi, if_false, hr]

theorem phasePlace_more {x : RmaCtx} (hr : c.reassemble h b.pktIndex 0 b.data.length stOk b.data = .more x) :
    phasePlace c h b = c.setCtx x := by
  simp only [phasePlace, Nat.not_le.mpr hi, if_false, hr]

variable {x : RmaCtx} (hr : c.reassemble h b.pktIndex 0 b.data.length stOk b.data = .whole x)
include hr

theorem phasePlace_wholeIllFormed (hp : placementOf (ctxBody x) = none) :
    phasePlace c h b = (c.dropCtx h.src h.msgId).nackPkt ⟨h, .phasePlace b⟩ stMalformed := by
  simp only [phasePlace, Nat.not_le.mpr hi, if_false, hr, hp]

theorem phasePlace_whole {p : PlacedPhase} (hp : placementOf (ctxBody x) = some p) :
    phasePlace c h b = (c.dropCtx h.src h.msgId).placed h.src p := by
  simp only [phasePlace, Nat.not_le.mpr hi, if_false, hr, hp]

end Place

theorem placed_accepted {c : Chip} {src : Nat} {p : PlacedPhase} (hs : placement c p = stOk)
    (hv : c.holdsVersion p.collar.part p.collar.adapter p.collar.adapterVer = true) :
    c.placed src p = (c.acceptPlace p.collar (p.collar.lcState ≤ lcPrefill) (if p.source = 2 then some p.holder else none) src
      p.silenceMs).sendReport (placedSeq c src p) 0 stOk 0 0 [] [] := by
  simp only [placement] at hs
  simp [Chip.placed, hs, hv, placedSeq]

theorem placed_lacksVersion {c : Chip} {src : Nat} {p : PlacedPhase} (hs : placement c p = stOk)
    (hv : c.holdsVersion p.collar.part p.collar.adapter p.collar.adapterVer = false) :
    c.placed src p = c.sendReport (placedSeq c src p) 5 stAdapterUnknown 0 0 [] [] := by
  simp only [placement] at hs
  simp [Chip.placed, hs, hv, placedSeq, stAdapterUnknown, stOk, stPartFull]

theorem placed_lacksSlot {c : Chip} {src : Nat} {p : PlacedPhase} (hs : placement c p = stPartFull) :
    c.placed src p = c.countSlot.sendReport (placedSeq c src p) 5 stPartFull 0 0 [] [] := by
  simp only [placement] at hs
  simp [Chip.placed, hs, placedSeq, stOk, stPartFull]

/-! FAB_PKT_PHASE_CTRL at the node (R264). -/

section Ctrl
variable {c : Chip} {b : PhaseCtrlBody}
variable (hm : ∀ m ∈ c.work.src, m.requestId = b.common.requestId → m.state ≠ 4)
include hm

section Release
variable {q : Seq} (ha : b.action = 0) (hq : c.seq b.common.requestId = some q)
include ha hq

theorem phaseCtrl_newerPlacement (hp : precedes 16 b.common.placement q.placement = true) : phaseCtrl c b = c := by
  simp only [phaseCtrl, find?_none_of_state hm, ha, if_true, hq, hp]

theorem phaseCtrl_cancelWaits (hp : precedes 16 b.common.placement q.placement = false) (hs : statusOf b.status = stAborted)
    (hw : c.cancelWaits q = true) : phaseCtrl c b = c.setSeq { q with cancelPend := true } := by
  simp only [phaseCtrl, find?_none_of_state hm, ha, if_true, hq, hp, Bool.false_eq_true, if_false, hs, hw, and_self]

theorem phaseCtrl_releases (hp : precedes 16 b.common.placement q.placement = false)
    (hn : ¬ (statusOf b.status = stAborted ∧ c.cancelWaits q = true)) : phaseCtrl c b = c.releaseOrphan b.common.requestId q.part := by
  simp only [phaseCtrl, find?_none_of_state hm, ha, if_true, hq, hp, Bool.false_eq_true, if_false, hn]

end Release

theorem phaseCtrl_pauses {q : Seq} (ha : b.action = 1) (hq : c.seq b.common.requestId = some q) (hr : q.running = true) :
    phaseCtrl c b = c.setSeq { q with pausePend := true } := by
  simp [phaseCtrl, find?_none_of_state hm, ha, hq, hr]

theorem phaseCtrl_acknowledges {m : MoveSrc} (ha : 2 ≤ b.action) (hs : c.moveSrc b.common.requestId = some m) :
    phaseCtrl c b = c.setMoveSrc { m with acked := true } := by
  simp only [phaseCtrl, find?_none_of_state hm, show ¬ b.action = 0 by omega, show ¬ b.action = 1 by omega, if_false, hs]

end Ctrl

/-- Settles O18: a packet of a placement by what its reassembly makes of it, a whole placement by its status, a control by its action. -/
theorem phaseControl : Obligations.PhaseControl := by
  refine ⟨fun s h b hw ha => ?_, fun s h b hw ha hm => ?_⟩
  · refine ⟨fun hi => ?_, fun hi hr => ?_, fun hi hr => ?_, fun x hi hr => ?_, fun x hi hr hp => ?_, fun x p hi hr hp => ⟨?_, ?_, ?_⟩⟩
    · exact command_to hw (onFabFreeing_arrives ha (phasePlace_pastLimit hi))
    · exact command_to hw (onFabFreeing_arrives ha (phasePlace_duplicate hi hr))
    · exact command_to hw (onFabFreeing_arrives ha (phasePlace_noRoom hi hr))
    · exact command_to hw (onFabFreeing_arrives ha (phasePlace_more hi hr))
    · exact command_to hw (onFabFreeing_arrives ha (phasePlace_wholeIllFormed hi hr hp))
    · exact fun hs hv => command_to hw (onFabFreeing_arrives ha ((phasePlace_whole hi hr hp).trans (placed_accepted hs hv)))
    · exact fun hs hv => command_to hw (onFabFreeing_arrives ha ((phasePlace_whole hi hr hp).trans (placed_lacksVersion hs hv)))
    · exact fun hs => command_to hw (onFabFreeing_arrives ha ((phasePlace_whole hi hr hp).trans (placed_lacksSlot hs)))
  · refine ⟨fun q h0 hq hp hn => ?_, fun q h0 hq hp hs hc => ?_, fun q h0 hq hp => ?_, fun q h1 hq hr => ?_, fun m h2 hs => ?_⟩
    · exact command_to hw (onFabFreeing_arrives ha (phaseCtrl_releases hm h0 hq hp hn))
    · exact command_to hw (onFabFreeing_arrives ha (phaseCtrl_cancelWaits hm h0 hq hp hs hc))
    · exact command_to hw (onFabFreeing_arrives ha (phaseCtrl_newerPlacement hm h0 hq hp))
    · exact command_to hw (onFabFreeing_arrives ha (phaseCtrl_pauses hm h1 hq hr))
    · exact command_to hw (onFabFreeing_arrives ha (phaseCtrl_acknowledges hm h2 hs))

/-! FAB_PKT_PHASE_REPORT at the anchor (R263, R264). -/

/-- R263: a heartbeat with ST_BUSY does not restart the silence timer. -/
theorem heard_busyBeat {c : Chip} {req : Nat} {b : ReportBody} (hk : b.kind = 0) (hs : b.status = stBusy) : c.heard req b = c := by
  cases hc : c.collar req <;> simp [Chip.heard, hc, hk, hs]

section Report
variable {c : Chip} {h : FabHdr} {b : ReportBody}

theorem phaseReport_unknown (hk : c.collar b.common.requestId = none) (hr : b.kind = 0 ∨ b.kind = 1 ∨ b.kind = 6) :
    phaseReport c h b = c.sendCtrl h.src b.common.requestId b.common.placement 0 stOk := by
  simp only [phaseReport, hk]
  rcases hr with hr | hr | hr <;> simp [hr]

variable {k : Collar} (hk : c.collar b.common.requestId = some k)
include hk

theorem phaseReport_otherPlacement (hp : k.img.placement ≠ b.common.placement) (h1 : 1 < b.kind) (h6 : b.kind < 6) :
    phaseReport c h b = c.bump (Reg.reqCnt 7) := by
  simp [phaseReport, hk, hp, repeatedNext, show b.kind ≠ 0 by omega, show b.kind ≠ 1 by omega, show b.kind ≠ 6 by omega]

variable (hp : k.img.placement = b.common.placement)
include hp

theorem phaseReport_pausedOrEnded (hl : k.img.lcState = lcPaused ∨ k.img.lcState = lcEnded)
    (hr : b.kind = 0 ∨ b.kind = 1 ∨ b.kind = 6) :
    phaseReport c h b = c.sendCtrl h.src b.common.requestId b.common.placement 0 stOk := by
  have hkind : (b.kind == 0 || b.kind == 1 || b.kind == 6) = true := by simpa [or_assoc] using hr
  simp [phaseReport, hk, hp, hkind, hl]

/-- A report of the current placement of a request that is neither paused nor ended is taken, and heard. -/
theorem phaseReport_current (hl : k.img.lcState < lcPaused) :
    phaseReport c h b = (c.takeReport k h.src { b with status := statusOf b.status }).heard b.common.requestId
      { b with status := statusOf b.status } := by
  have h4 : k.img.lcState ≠ lcPaused := by omega
  have h6 : k.img.lcState ≠ lcEnded := by simp only [lcPaused, lcEnded] at *; omega
  simp [phaseReport, hk, hp, h4, h6]

end Report

theorem takeReport_beatWhileWaiting {c : Chip} {k : Collar} {src : Nat} {b : ReportBody} (hw : k.place.waiting = true)
    (hz : k.pausing = false) (hb : b.kind = 0) : c.takeReport k src b = c.setCollar (placedCollar k src) := by
  cases hh : k.place.holder <;> simp [Chip.takeReport, hw, hz, hb, placedCollar, hh, Collar.onImg]

theorem takeReport_refusedWhileWaiting {c : Chip} {k : Collar} {src : Nat} {b : ReportBody} (hw : k.place.waiting = true)
    (hn : k.place.node = some src) (hb : b.kind = 5) : c.takeReport k src b = c.placeRefused k := by
  simp only [Chip.takeReport, hw, hn, hb, and_self, if_true]

/-- Settles O19: a report by what the anchor knows of its request and placement. -/
theorem phaseReports : Obligations.PhaseReports := by
  intro s h b hw ha
  refine ⟨fun hk hr => ?_, fun k hk hp h1 h6 => ?_, fun k hk hp hl hr => ?_, fun k hk hp hl hwait hn _ hz hb hs => ?_,
    fun k hk hp hl hwait hn hb hs => ?_⟩
  · exact command_to hw (onFabFreeing_arrives ha (phaseReport_unknown hk hr))
  · exact command_to hw (onFabFreeing_arrives ha (phaseReport_otherPlacement hk hp h1 h6))
  · exact command_to hw (onFabFreeing_arrives ha (phaseReport_pausedOrEnded hk hp hl hr))
  · have hst : statusOf b.status = stBusy := by rw [hs]; decide
    exact command_to hw (onFabFreeing_arrives ha (((phaseReport_current hk hp hl).trans (heard_busyBeat hb hst)).trans
      (takeReport_beatWhileWaiting hwait hz hb)))
  · refine command_to hw (onFabFreeing_arrives ha ((phaseReport_current hk hp hl).trans ?_))
    rw [← hs]
    exact congrArg (fun c => Chip.heard c b.common.requestId { b with status := statusOf b.status })
      (takeReport_refusedWhileWaiting hwait hn hb)

end Sys2Proof.Machine
end

section
/-!
PROOF. Moves at their source and destination, pulls, and the timers of moves and requests (R248 to R252, R260 to R268), and from these
their obligations.
-/
namespace Sys2Proof.Machine

/-! The source of a move (R249). -/

section Reply
variable {c : Chip} {h : FabHdr} {b : MoveReplyBody} {m : MoveSrc}
variable (hm : c.work.src.find? (fun m => m.moveId == b.common.moveId && m.dest == h.src) = some m) (h1 : m.state = 1)
include hm h1

theorem moveReply_ok (hs : statusOf b.status = stOk) :
    moveReply c h b = (c.setMoveSrc (sendingMove m b)).moveData (sendingMove m b) := by
  simp only [moveReply, hm, h1, hs, ne_eq, not_true_eq_false, if_false, if_true, sendingMove]

theorem moveReply_refused (hs : statusOf b.status ≠ stOk) :
    moveReply c h b = ((c.dropMoveSrc m.moveId).bump (Reg.movCnt 2)).moveNext m := by
  simp only [moveReply, hm, h1, hs, ne_eq, not_true_eq_false, if_false]

end Reply

theorem moveDataSent_last {c : Chip} {req : Nat} {m : MoveSrc} (hm : c.moveSrc req = some m) (h2 : m.state = 2) (hr : m.ready = true)
    (ha : m.acked = true) (hok : (c.moveWrite m [(0, c.moveHead m)]).1 = true) :
    moveDataSent c req = (c.moveWrite m [(0, c.moveHead m)]).2.2.setMoveSrc { m with state := 3 } := by
  simp only [moveDataSent, hm, h2, hr, ha, hok, and_self, if_true]

section Ack
variable {c : Chip} {h : FabHdr} {b : MoveAckBody} {m : MoveSrc}
variable (hm : c.work.src.find? (fun m => m.moveId == b.common.moveId && m.dest == h.src) = some m)
include hm

theorem moveAck_flipped (h4 : m.state = 4) : moveAck c h b = c.sendCommit m := by
  simp only [moveAck, hm, h4, if_true]

theorem moveAck_flips (h3 : m.state = 3) (hk : m.kind ≠ 0) :
    moveAck c h b = ((((c.setMoveSrc { m with state := 4 }).bump (Reg.movCnt 1)).sendCommit m).releaseSleeve m.requestId).dropStored
      m.requestId := by
  simp [moveAck, hm, h3, hk]

end Ack

section Query
variable {c : Chip} {h : FabHdr} {b : MoveBareBody}

theorem moveQuery_unknown (hm : c.work.src.find? (fun m => m.moveId == b.common.moveId && m.dest == h.src) = none) :
    moveQuery c h b = answered c h b 2 := by
  simp only [moveQuery, hm, answered]

variable {m : MoveSrc} (hm : c.work.src.find? (fun m => m.moveId == b.common.moveId && m.dest == h.src) = some m)
include hm

theorem moveQuery_flipped (h4 : m.state = 4) : moveQuery c h b = (answered c h b 1).sendCommit m := by
  simp only [moveQuery, hm, h4, if_true, answered]

theorem moveQuery_notFlipped (h4 : m.state ≠ 4) : moveQuery c h b = answered c h b 0 := by
  simp only [moveQuery, hm, h4, if_false, answered]

end Query

/-- What no migration takes is the move's. -/
theorem getD_of_none {o : Option Chip} {c d : Chip} (ho : o = none) (hc : c = d) : o.getD c = d := by
  rw [ho, Option.getD_none, hc]

/-- Settles O20: each packet and timer of the source by the state of its move's record. -/
theorem moveAtTheSource : Obligations.MoveAtTheSource := by
  refine ⟨fun s h b m hw ha hm h1 => ⟨fun hs => ?_, fun hs => ?_⟩, fun s req m hw hm h2 hr hk hok => ?_,
    fun s h b m hw ha hm => ⟨fun h4 => ?_, fun h3 hk => ?_⟩,
    fun s h b hw ha hg => ⟨fun hm => ?_, fun m hm => ⟨fun h4 => ?_, fun h4 => ?_⟩⟩⟩
  · exact command_to hw (onFabFreeing_arrives ha (moveReply_ok hm h1 hs))
  · exact command_to hw (onFabFreeing_arrives ha (moveReply_refused hm h1 hs))
  · exact command_to hw (freeing_put_eq (moveDataSent_last hm h2 hr hk hok))
  · exact command_to hw (onFabFreeing_arrives ha (moveAck_flipped hm h4))
  · exact command_to hw (onFabFreeing_arrives ha (moveAck_flips hm h3 hk))
  · exact command_to hw (onFabFreeing_arrives ha (getD_of_none hg (moveQuery_unknown hm)))
  · exact command_to hw (onFabFreeing_arrives ha (getD_of_none hg (moveQuery_flipped hm h4)))
  · exact command_to hw (onFabFreeing_arrives ha (getD_of_none hg (moveQuery_notFlipped hm h4)))

/-! The destination of a move (R250), and pulls (R268). -/

theorem moveOffer_taken {c : Chip} {h : FabHdr} {b : OfferBody} {p n r o : Nat} {dr : Bool} (hp : c.offerPart h b = (stOk, p))
    (hs : c.offerShape p b = some (n, dr)) (hr : c.moveWindow p = some r)
    (ho : c.carveRange r (slotsStart n b.pages + b.pages * c.slotSize p) = some o) :
    moveOffer c h b = (c.acceptOffer h b p r o (slotsStart n b.pages + b.pages * c.slotSize p) n dr).sendReply h b.common stOk r o := by
  simp only [moveOffer, hp, hs, hr, ho, ne_eq, not_true_eq_false, if_false, Option.getD_some]

theorem moveOffer_refused {c : Chip} {h : FabHdr} {b : OfferBody} {st p : Nat} (hp : c.offerPart h b = (st, p)) (hst : st ≠ stOk)
    (hf : st ≠ stPartFull) : moveOffer c h b = c.sendReply h b.common st 0 0 := by
  simp only [moveOffer, hp, hst, hf, ne_eq, not_false_eq_true, if_true, false_and, if_false]

theorem moveCommit_acknowledged {c : Chip} {h : FabHdr} {b : MoveBareBody} {d : MoveDst}
    (hd : c.moveDst h.src b.common.moveId = some d) (h2 : d.state = 2) : moveCommit c h b = c.moveHome d := by
  simp only [moveCommit, hd, h2, if_true]

theorem moveAbort_destination {c : Chip} {h : FabHdr} {b : MoveAbortBody} {d : MoveDst}
    (hd : c.moveDst h.src b.common.moveId = some d) : moveAbort c h b = c.discardMove d := by
  simp only [moveAbort, hd]

theorem moveAnswer_known {c : Chip} {h : FabHdr} {b : MoveAnswerBody} {d : MoveDst}
    (hd : c.moveDst h.src b.common.moveId = some d) (h2 : b.answer = 2 ∨ d.state = 2) :
    moveAnswer c h b =
      if b.answer = 2 then c.discardMove d
      else if b.answer = 0 then (c.setMoveDst { d with queries := 0 }).sendMoveAck { d with queries := 0 }
      else (c.setMoveDst { d with queries := 0 }).moveHome { d with queries := 0 } := by
  by_cases hb : b.answer = 2
  · simp only [moveAnswer, hd, hb, if_true]
  · simp only [moveAnswer, hd, hb, if_false, h2.resolve_left hb, if_true]

section Pull
variable {c : Chip} {h : FabHdr} {b : MovePullBody}

theorem movePull_stored {t : Stored} {c' : Chip} (ht : c.stored? b.common.requestId = some t) (hok : c.storedOk t = true)
    (hm : c.moveSrc b.common.requestId = none)
    (hs : c.startMove t.seq 2 b.common.placement t.seq.c t.pages.length (c.ttlLeft t.seq) [h.src] = some c') :
    movePull c h b = c' := by
  simp [movePull, Chip.heldSleeve, ht, hok, hm, hs, Option.filter]

theorem movePull_notHeld (hh : c.heldSleeve b.common.requestId = none) :
    movePull c h b = (c.sendNew .device h.src 0
      (.moveAbort { common := { b.common with rsvd := 0 }, status := stStateLost, rsvd := 0 })).2 := by
  simp only [movePull, hh]

end Pull

/-- Settles O21: each packet at the destination by what the device makes of its offer, its record or the sleeve it holds. -/
theorem moveAtTheDestination : Obligations.MoveAtTheDestination := by
  refine ⟨fun s h b hw ha => ⟨fun p n dr r o hp hs hr ho => ?_, fun st p hp hst hf => ?_⟩, fun s h b d hw ha hd h2 => ?_,
    fun s h b d hw ha hd => ?_, fun s h b d hw ha hd h2 => ?_, fun s h b hw ha => ⟨fun t c' ht hok hm hs => ?_, fun hh => ?_⟩⟩
  · exact command_to hw (onFabFreeing_arrives ha (moveOffer_taken hp hs hr ho))
  · exact command_to hw (onFabFreeing_arrives ha (moveOffer_refused hp hst hf))
  · exact command_to hw (onFabFreeing_arrives ha (moveCommit_acknowledged hd h2))
  · exact command_to hw (onFabFreeing_arrives ha (moveAbort_destination hd))
  · exact command_to hw (onFabFreeing_arrives ha (congrArg (migAnswer · h b.common.moveId b.answer) (moveAnswer_known hd h2)))
  · exact command_to hw (onFabFreeing_arrives ha (movePull_stored ht hok hm hs))
  · exact command_to hw (onFabFreeing_arrives ha (movePull_notHeld hh))

/-! The timers of moves (R249 to R252). -/

theorem moveOfferWait_offer {c : Chip} {req : Nat} {m : MoveSrc} (hk : c.collar req = none) (hm : c.moveSrc req = some m)
    (h1 : m.state = 1) : moveOfferWait c req = ((c.dropMoveSrc m.moveId).bump (Reg.movCnt 2)).moveNext m := by
  simp only [moveOfferWait, hk, hm, h1, if_true]

theorem moveOfferWait_placement {c : Chip} {req : Nat} {k : Collar} (hk : c.collar req = some k) (hw : k.place.waiting = true)
    (hm : (c.placeRefused k.nextPlacement).moveSrc req = none) : moveOfferWait c req = c.placeRefused k.nextPlacement := by
  simp only [moveOfferWait, hk, hw, if_true, hm]

theorem moveAckWait_awaiting {c : Chip} {id : Nat} {m : MoveSrc} (hm : c.work.src.find? (fun m => m.moveId == id) = some m)
    (h3 : m.state = 3) : moveAckWait c id = (c.abortMove m stTimeout).moveNext m := by
  simp only [moveAckWait, hm, h3, if_true, Chip.moveFail]

section CommitWait
variable {c : Chip} {src id : Nat} {d : MoveDst} (hd : c.moveDst src id = some d)
include hd

theorem moveCommitWait_asks (hq : d.queries < 4) :
    moveCommitWait c src id = (((c.setMoveDst { d with queries := d.queries + 1 }).bump (Reg.movCnt 5)).sendNew (.part d.part) src 0
      (.moveQuery { common := d.common, rsvd := 0 })).2 := by
  simp only [moveCommitWait, hd, hq, if_true]

theorem moveCommitWait_discards (hq : 4 ≤ d.queries) : moveCommitWait c src id = c.discardMove d := by
  simp only [moveCommitWait, hd, Nat.not_lt.mpr hq, if_false]

end CommitWait

section RecordExpires
variable {c : Chip} {id : Nat} {m : MoveSrc} (hm : c.work.src.find? (fun m => m.moveId == id) = some m)
include hm

theorem moveRecordExpires_flipped (h4 : m.state = 4) : moveRecordExpires c id = c.dropMoveSrc id := by
  simp only [moveRecordExpires, hm, h4, if_true]

theorem moveRecordExpires_notFlipped (h4 : m.state ≠ 4) : moveRecordExpires c id = c := by
  simp only [moveRecordExpires, hm, h4, if_false]

end RecordExpires

/-! Local moves, reports, the silence limit, restores and the time to live (R251, R263, R267, R268). -/

section LocalMove
variable {c : Chip} {req : Nat} {q : Seq} (hq : c.seq req = some q)
include hq

theorem localMoveCompletes_stores {c' : Chip} (hm : c.moveSrc req = none) (hp : q.phase = .hold) (hc : c.storeLocal q = some c') :
    localMoveCompletes c req = c'.reportHome q false := by
  simp only [localMoveCompletes, hq, hp, hm, Option.isNone_none, if_true, Chip.localStored, hc]

theorem localMoveCompletes_drops (hm : c.moveSrc req = none) (hp : q.phase = .hold) (hc : c.storeLocal q = none) :
    localMoveCompletes c req = c.dropPaused q true := by
  simp only [localMoveCompletes, hq, hp, hm, Option.isNone_none, if_true, Chip.localStored, hc]

theorem localMoveCompletes_restores {st : Stored} (hp : q.phase = .restoring) (hs : c.stored? req = some st)
    (hn : c.work.pulls.any (fun p => p.requestId == req) = false) : localMoveCompletes c req = c.localRestored q st := by
  simp only [localMoveCompletes, hq, hp, hs, hn, Bool.false_eq_true, if_false]

end LocalMove

theorem phaseReportInterval_reports {c : Chip} {req : Nat} {q : Seq} (hq : c.seq req = some q) (ha : q.anchor ≠ c.deviceId) :
    phaseReportInterval c req = (c.setSeq { q with progress := false }).sendReport q 0 (beatStatus q) 0 0 [] [] := by
  simp only [phaseReportInterval, hq, ha, if_false]

/-- R263: a phase that made progress reports ST_OK. -/
theorem beatStatus_progress {q : Seq} (hp : q.progress = true) : beatStatus q = stOk := by
  simp [beatStatus, hp]

section Silence
variable {c : Chip} {req : Nat} {k : Collar} {d : Nat}
variable (hk : c.collar req = some k) (hs : k.silence = true) (hn : k.place.node = some d)
include hk hs hn

theorem silenceLimit_decode (h : k.img.lcState = lcDecode) :
    silenceLimit c req = (((c.sendCtrl d req k.img.placement 0 stTimeout).bump (Reg.reqCnt 6)).log
      { code := 0x040C, refKind := 1, ref := req, part := k.img.part }).replace k (some d) := by
  simp [silenceLimit, hk, hs, hn, h]

theorem silenceLimit_beforeDecode (hl : k.img.lcState ≤ lcDecode) (h : k.img.lcState ≠ lcDecode) :
    silenceLimit c req = ((c.sendCtrl d req k.img.placement 0 stTimeout).log
      { code := 0x040C, refKind := 1, ref := req, part := k.img.part }).replace k (some d) := by
  simp only [silenceLimit, hk, hs, hl, hn, h, decide_true, Bool.and_self, if_true, if_false]

end Silence

theorem restoreMs_restoring {c : Chip} {req : Nat} {q : Seq} (hq : c.seq req = some q) (hp : q.phase = .restoring)
    (hn : c.work.pulls.find? (fun p => p.requestId == req) = none) :
    restoreMs c req = ((c.bump (Reg.movCnt 11)).dropHeld req).restoreLost q := by
  simp [restoreMs, hq, hp, Chip.bump_work, hn]

theorem restoreMs_swapping {c : Chip} {req : Nat} {q : Seq} (hq : c.seq req = some q) (hp : q.phase ≠ .restoring)
    (hr : q.swapped.any (fun x => x.reading) = true) : restoreMs c req = (c.bump (Reg.movCnt 11)).swapLost q := by
  simp [restoreMs, hq, hp, hr]

theorem ttlFull_stored {c : Chip} {req : Nat} {t : Stored} (ht : c.stored? req = some t) (hm : c.moveSrc req = none) :
    ttlFull c req = (((c.dropStored req).bump
      (Reg.movCnt 16)).log { code := 0x0807, refKind := 1, ref := req, part := t.seq.part }).reportHome
      t.seq true := by
  simp only [ttlFull, ht, hm]

/-- A command that cannot reach the flash completes in every state, and leaves flash and fuses. -/
theorem completes_of_chip {i : Instr} (hi : mayReachFlash i = false) : Completes i := by
  intro s
  obtain ⟨t, ho, ⟨hp, -⟩, hn, -⟩ := exec_completed i s
  exact ⟨t, ho, hn hi, hp⟩

/-- Settles O22: each timer by the record it finds. -/
theorem moveAndRequestTimers : Obligations.MoveAndRequestTimers := by
  refine ⟨fun s req m hw hk hm h1 => ?_, fun s req k hw hk hwt hm => ?_, fun s id m hw hm h3 => ?_,
    fun s src id d hw hd => ⟨fun hq => ?_, fun hq => ?_⟩, fun s id m hw hm => ⟨fun h4 => ?_, fun h4 => ?_⟩,
    fun s req q hw hq hm hp => ⟨fun c hc => ?_, fun hc => ?_⟩, fun s req q st hw hq hp hs hn => ?_,
    fun s req q hw hq ha => ⟨fun hp => ?_, fun hb => ?_⟩, fun s req k d hw hk hs hl hn => ⟨fun h => ?_, fun h => ?_⟩,
    fun s req q hw hq hp hn => ?_, fun s req q hw hq hp hr => ?_, fun s req t hw ht hm => ?_, fun req id src => ?_⟩
  · exact command_to hw (freeing_put_eq (moveOfferWait_offer hk hm h1))
  · exact command_to hw (freeing_put_eq (moveOfferWait_placement hk hwt hm))
  · exact command_to hw (freeing_put_eq (congrArg (migWait · id) (moveAckWait_awaiting hm h3)))
  · exact command_to hw (freeing_put_eq (congrArg (migCommitWait · src id) (moveCommitWait_asks hd hq)))
  · exact command_to hw (freeing_put_eq (congrArg (migCommitWait · src id) (moveCommitWait_discards hd hq)))
  · exact command_to hw (onChip_put_eq (moveRecordExpires_flipped hm h4))
  · exact command_onChip_same hw (moveRecordExpires_notFlipped hm h4)
  · exact command_to hw (freeing_put_eq (localMoveCompletes_stores hq hm hp hc))
  · exact command_to hw (freeing_put_eq (localMoveCompletes_drops hq hm hp hc))
  · exact command_to hw (freeing_put_eq (localMoveCompletes_restores hq hp hs hn))
  · exact command_to hw (onChip_put_eq ((phaseReportInterval_reports hq ha).trans (by rw [beatStatus_progress hp])))
  · exact command_to hw (onChip_put_eq ((phaseReportInterval_reports hq ha).trans (by rw [hb])))
  · exact command_to hw (freeing_put_eq (silenceLimit_decode hk hs hn h))
  · exact command_to hw (freeing_put_eq (silenceLimit_beforeDecode hk hs hn hl h))
  · exact command_to hw (freeing_put_eq (restoreMs_restoring hq hp hn))
  · exact command_to hw (freeing_put_eq (restoreMs_swapping hq hp hr))
  · exact command_to hw (freeing_put_eq (ttlFull_stored ht hm))
  · exact ⟨completes_of_chip rfl, completes_of_chip rfl, completes_of_chip rfl, completes_of_chip rfl, completes_of_chip rfl,
      completes_of_chip rfl, completes_of_chip rfl, completes_of_chip rfl, completes_of_chip rfl⟩

end Sys2Proof.Machine
end

section
/-!
SUPPORT. Register writes of the commands that name one register (R460, R462): a write that reaches the device is the write of its block,
then what always follows a write.
-/
namespace Sys2Proof.Machine

/-- The owner port is an owner. -/
theorem Chip.accOwner_port {c : Chip} {p : Nat} (h : c.isOwner p = true) : c.accOwner (.port p) = true := h

section Writing
variable {s : State} {a : Accessor} {off : Nat} {v : W64} {c : Chip}

theorem writing_of {t : State} (hw : registerWrite s a off v false = t) : writing a off v s = t.settled := congrArg State.settled hw

variable (ho : s.chip.writeOpen = true) (ha : regAccess off = some .rw ∨ regAccess off = some .wo)
include ho ha

theorem registerWrite_boot {t : State} (h : off < 0x200000) (hw : (bootWrite s a off v).2 = t) : registerWrite s a off v false = t := by
  rw [registerWrite_open s a off v ho, regWrite_boot s a off v ha h, hw]

theorem registerWrite_power (l : 0x200000 ≤ off) (h : off < 0x300000) (hc : (pwrWrite s.chip a off v).2 = c) :
    registerWrite s a off v false = s.put c := by
  rw [registerWrite_open s a off v ho, regWrite_power s a off v ha l h, hc]; rfl

theorem registerWrite_events (l : 0x300000 ≤ off) (h : off < 0x400000) (hc : (evtWrite s.chip s.nv a off v).2 = c) :
    registerWrite s a off v false = s.put c := by
  rw [registerWrite_open s a off v ho, regWrite_events s a off v ha l h, hc]; rfl

theorem registerWrite_requests (l : 0x400000 ≤ off) (h : off < 0x800000) (hc : (reqWrite s.chip a off v).2 = c) :
    registerWrite s a off v false = s.put c := by
  rw [registerWrite_open s a off v ho, regWrite_requests s a off v ha l h, hc]; rfl

theorem registerWrite_kv (l : 0xA00000 ≤ off) (h : off < 0xC00000) (hc : (kvWrite s.chip a off v).2 = c) :
    registerWrite s a off v false = s.put c := by
  rw [registerWrite_open s a off v ho, regWrite_kv s a off v ha l h, hc]; rfl

theorem registerWrite_seam (l : 0xC00000 ≤ off) (h : off < 0xE00000) (hc : (fabWrite s.chip a off v).2 = c) :
    registerWrite s a off v false = s.put c := by
  rw [registerWrite_open s a off v ho, regWrite_seam s a off v ha l h, hc]; rfl

theorem registerWrite_rma (l : 0xE00000 ≤ off) (h : off < 0x1000000) (hc : (rmaBlockWrite s.chip a off v).2 = c) :
    registerWrite s a off v false = s.put c := by
  rw [registerWrite_open s a off v ho, regWrite_rma s a off v ha l h, hc]; rfl

theorem registerWrite_lateter (l : 0x1000000 ≤ off) (h : off < 0x1200000) (hc : (hlWrite s.chip a off v).2 = c) :
    registerWrite s a off v false = s.put c := by
  rw [registerWrite_open s a off v ho, regWrite_lateter s a off v ha l h, hc]; rfl

theorem registerWrite_embedding (l : 0x1200000 ≤ off) (h : off < 0x2000000) (hc : (embWrite s.chip a off v).2 = c) :
    registerWrite s a off v false = s.put c := by
  rw [registerWrite_open s a off v ho, regWrite_embedding s a off v ha l h, hc]; rfl

theorem registerWrite_quadrant (l : 0x2000000 ≤ off) (hc : (quadWrite s.chip a off v).2 = c) :
    registerWrite s a off v false = s.put c := by
  rw [registerWrite_open s a off v ho, regWrite_quadrant s a off v ha l, hc]; rfl

end Writing

end Sys2Proof.Machine
end

section
/-!
PROOF. Steps, tiles, streams, commits and stations (R58, R63, R65, R67, R71, R74, R75, R78, R81, R83, R84, R127, R179 to R181, R237, R257 to
R259, R431), and from these their obligations.
-/
namespace Sys2Proof.Machine

/-! Step launches and self-pauses (R179 to R181, R237). -/

theorem stepLaunch_launches {c : Chip} {p eng : Nat} (hp : c.partRefusal p = stOk) (hr : c.role ≠ 3) (hd : c.refitDue p = false) :
    stepLaunch c p eng = ((c.wakeWaiting p).fillStep p eng).c.launchStep ((c.wakeWaiting p).fillStep p eng) := by
  simp [stepLaunch, hp, hr, hd]

theorem stepLaunch_refused {c : Chip} {p eng : Nat} (hp : c.partRefusal p ≠ stOk) : stepLaunch c p eng = c := by
  simp [stepLaunch, hp]

section SelfPause
variable {c : Chip} {req : Nat} {q : Seq} (hq : c.seq req = some q)
include hq

theorem selfPauseLimit_paused (hp : q.paused = true) : selfPauseLimit c req = (c.bump (Reg.kvPressCnt 7)).giveUp q := by
  simp only [selfPauseLimit, hq, hp, if_true]

theorem selfPauseLimit_notPaused (hp : q.paused = false) : selfPauseLimit c req = c := by
  simp only [selfPauseLimit, hq, hp, Bool.false_eq_true, if_false]

variable (hp : q.paused = true)
include hp

theorem selfPauseRetry_swapped (hs : q.swapped ≠ []) : selfPauseRetry c req = c.swapBack q := by
  simp [selfPauseRetry, hq, hp, hs]

/-- A paused sequence with its pages here takes what its growth gives. -/
theorem selfPauseRetry_grows {r q' : Seq} {c₁ c' : Chip} {res : GrowRes} (hs : q.swapped = [])
    (hc : (if q.recompute && !q.started then c.startRecompute q else c) = c₁)
    (hr : (c₁.seq req).filter (fun q => q.phase == SeqPhase.prompt || q.phase == SeqPhase.decode) = some r)
    (hg : c₁.grow r (c₁.workPages r) [] = (res, q', c')) :
    selfPauseRetry c req = match res with
      | .got => c'.setSeq { q' with paused := false }
      | .alone => (c'.setSeq q').giveUp q'
      | _ => c'.setSeq q' := by
  simp only [selfPauseRetry, hq, hp, hs, Bool.not_true, Bool.false_eq_true, if_false, List.isEmpty_nil, hc, hr, hg]
  cases res <;> rfl

end SelfPause

/-- Settles O23: a launch by the partition's refusal, a retry by what the growth gives, a limit by whether the sequence is paused. -/
theorem stepsStart : Obligations.StepsStart := by
  refine ⟨fun s p eng hw => ⟨fun hp hr hd => ?_, fun hp => ?_⟩, fun s req q hw hq hp => ⟨fun hs => ?_, fun r hs => ?_⟩,
    fun s req q hw hq => ⟨fun hp => ?_, fun hp => ?_⟩⟩
  · exact command_to hw (freeing_put_eq (stepLaunch_launches hp hr hd))
  · exact command_to hw (freeing_put_eq (stepLaunch_refused hp))
  · exact command_to hw (freeing_put_eq (selfPauseRetry_swapped hq hp hs))
  · intro c hr
    refine ⟨fun q' c' hg => ?_, fun q' c' hg => ?_, fun res q' c' hg hres => ?_⟩
    · exact command_to hw (freeing_put_eq (selfPauseRetry_grows hq hp hs rfl hr hg))
    · exact command_to hw (freeing_put_eq (selfPauseRetry_grows hq hp hs rfl hr hg))
    · rcases hres with rfl | rfl
      · exact command_to hw (freeing_put_eq (selfPauseRetry_grows hq hp hs rfl hr hg))
      · exact command_to hw (freeing_put_eq (selfPauseRetry_grows hq hp hs rfl hr hg))
  · exact command_to hw (freeing_put_eq (selfPauseLimit_paused hq hp))
  · exact command_to hw (freeing_put_eq (selfPauseLimit_notPaused hq hp))

/-! Tiles at a sink (R58, R65, R67, R71, R83, R258, R431). -/

/-- The stream that a tag names is one of the chip that looks it up. -/
theorem tileStream_chip {c : Chip} {p : Nat} {tag : TileTag} {x : SrcCtx} (h : c.tileStream p tag = some x) : x.c = c := by
  simp only [Chip.tileStream, Option.bind_eq_some_iff] at h
  obtain ⟨t, -, h⟩ := h
  split at h
  · cases h
  · obtain ⟨pl, -, h⟩ := Option.bind_eq_some_iff.1 h
    obtain ⟨st, -, h⟩ := Option.bind_eq_some_iff.1 h
    split at h
    · cases h; rfl
    · cases h

/-- A read's bytes leave the tile's tag. -/
@[simp] theorem SrcCtx.arrived_tag (x : SrcCtx) (made tile : Tile) : (x.arrived made tile).tag = made.tag := by
  unfold SrcCtx.arrived; split <;> rfl

section Refused
variable {x : SrcCtx} {k : SinkInst} {tag : TileTag}

theorem SrcCtx.refused_epoch (he : tag.resetEpoch ≠ x.c.domEpoch (x.t.srcDomain x.s)) : x.refused k tag = some stReset := by
  simp only [SrcCtx.refused, he, ne_eq, not_false_eq_true, if_true]

variable (he : tag.resetEpoch = x.c.domEpoch (x.t.srcDomain x.s))
include he

theorem SrcCtx.refused_empty (hk : tag.kind = .data) (hz : tag.rows = 0 ∨ tag.cols = 0) : x.refused k tag = some stMalformed := by
  have hz' : (tag.rows == 0 || tag.cols == 0) = true := by simpa using hz
  simp [SrcCtx.refused, he, hk, hz']

theorem SrcCtx.refused_overCount (ho : overCount x.s x.kv (k.band tag.band) tag.kind = true) : x.refused k tag = some stMalformed := by
  simp [SrcCtx.refused, he, ho]

end Refused

section Tile
variable {c : Chip} {p sink : Nat} {tile : Tile} {hdrs : List W64} {tierError : Bool} {x : SrcCtx}
variable (hx : c.tileStream p tile.tag = some x) (hopen : x.freed.closed = false) (hsink : (x.pl.sinksOf x.s).contains sink = true)
  (hw : (x.freed.sink sink).withheld = none)
include hx hopen hsink hw

theorem tileArrives_refused {st : Nat} (hr : x.refused (x.freed.sink sink) tile.tag = some st) :
    tileArrives c p sink tile hdrs tierError = (if st = stReset then c.bump (Reg.pwrCnt 0) else c).breakStream x.t x.freed st := by
  simp only [SrcCtx.freed, SrcCtx.inst] at hopen hw hr ⊢
  simp only [tileArrives, hx, hopen, hsink, hw, hr, Bool.not_true, Bool.or_false, Option.isSome_none, Bool.false_eq_true, if_false]

variable (hr : x.refused (x.freed.sink sink) tile.tag = none)
include hr

theorem tileArrives_waitsForSource (hs : x.fired.sent sink (x.freed.sink sink) tile = none) :
    tileArrives c p sink tile hdrs tierError = x.fired.c := by
  have hc := tileStream_chip hx
  subst hc
  simp only [SrcCtx.freed, SrcCtx.inst, SrcCtx.fired] at hopen hw hr hs ⊢
  simp only [tileArrives, hx, hopen, hsink, hw, hr, hs, Bool.not_true, Bool.or_false, Option.isSome_none, Bool.false_eq_true, if_false]

variable {made : Tile} (hs : x.fired.sent sink (x.freed.sink sink) tile = some made)
include hs

theorem tileArrives_waitsForCredit (hm : x.freed.maySend (x.freed.sink sink) made.tag.kind = false) :
    tileArrives c p sink tile hdrs tierError = x.fired.c := by
  have hc := tileStream_chip hx
  subst hc
  simp only [SrcCtx.freed, SrcCtx.inst, SrcCtx.fired] at hopen hw hr hs hm ⊢
  simp only [tileArrives, hx, hopen, hsink, hw, hr, hs, hm, Bool.not_false, Bool.not_true, Bool.or_false, Option.isSome_none,
    Bool.false_eq_true, if_false, if_true]

variable (hm : x.freed.maySend (x.freed.sink sink) made.tag.kind = true)
include hm

/-- A tile with its source and a credit: the outcome of a tier error where its read has one, else it is sent and opened. -/
theorem tileArrives_sent :
    tileArrives c p sink tile hdrs tierError =
      if tierError && x.isLd && ((x.fired.arrived made tile).tag.kind == .data || (x.fired.arrived made tile).tag.kind == .anchors) then
        x.fired.tierFault x.freed sink (x.fired.arrived made tile) hdrs
      else if tierError && roleKind x.s.src == 7 then
        (((x.fired.c.bump (Reg.movCnt 13)).log { code := 0x0802, refKind := 3, ref := x.s.id, part := p }).endStream x.fired.t x.freed
          stUncorrectable).endSegs x.fired.t stUncorrectable
      else (x.fired.send x.freed sink (x.fired.arrived made tile) hdrs).1.open_
        (x.fired.send x.freed sink (x.fired.arrived made tile) hdrs).2 sink (x.fired.arrived made tile) hdrs := by
  have hc := tileStream_chip hx
  subst hc
  simp only [SrcCtx.freed, SrcCtx.inst, SrcCtx.fired] at hopen hw hr hs hm ⊢
  simp only [tileArrives, hx, hopen, hsink, hw, hr, hs, hm, Bool.not_true, Bool.or_false, Option.isSome_none, Bool.false_eq_true, if_false]
  rfl

theorem tileArrives_opened :
    tileArrives c p sink tile hdrs false = (x.fired.send x.freed sink (x.fired.arrived made tile) hdrs).1.open_
      (x.fired.send x.freed sink (x.fired.arrived made tile) hdrs).2 sink (x.fired.arrived made tile) hdrs := by
  simp [tileArrives_sent hx hopen hsink hw hr hs hm]

theorem tileArrives_tierFault (hl : x.isLd = true) (hk : made.tag.kind = .data ∨ made.tag.kind = .anchors) :
    tileArrives c p sink tile hdrs true = x.fired.tierFault x.freed sink (x.fired.arrived made tile) hdrs := by
  simp [tileArrives_sent hx hopen hsink hw hr hs hm, hl, hk]

/-- A read of an EM source is no LD read. -/
theorem tileArrives_emFault (h7 : roleKind x.s.src = 7) :
    tileArrives c p sink tile hdrs true =
      (((x.fired.c.bump (Reg.movCnt 13)).log { code := 0x0802, refKind := 3, ref := x.s.id, part := p }).endStream x.fired.t x.freed
        stUncorrectable).endSegs x.fired.t stUncorrectable := by
  have hl : x.isLd = false := by simp [SrcCtx.isLd, h7]
  simp [tileArrives_sent hx hopen hsink hw hr hs hm, hl, h7]

end Tile

/-- R127: the block read again takes the place of the damaged one. -/
theorem pleatRefetch_again {c : Chip} {p sink : Nat} {tile : Tile} {hdrs : List W64} {x : SrcCtx} {w : Withheld}
    (hx : c.tileStream p tile.tag = some x) (ho : x.inst.closed = false) (hw : (x.inst.sink sink).withheld = some w)
    (h1 : w.attempts = 1) (hi : w.tile.tag.tileIndex = tile.tag.tileIndex) :
    pleatRefetch c p sink none tile hdrs false =
      x.expand x.inst sink (x.withBlock w tile.bytes hdrs).tile (x.withBlock w tile.bytes hdrs).hdrs (some w.block) := by
  simp only [SrcCtx.inst] at ho hw ⊢
  simp [pleatRefetch, hx, ho, hw, h1, hi, Option.filter]

/-- Settles O24: a tile by whether its sink refuses it, what its source gives and the credits; a refetch by the block it replaces. -/
theorem tilesArrive : Obligations.TilesArrive := by
  refine ⟨fun s p sink tile hdrs tierError x hw hx ho hk hn => ?_, fun s p sink tile hdrs x w hw hx ho hk h1 hi => ?_⟩
  · have hc := tileStream_chip hx
    refine ⟨fun he => ?_, fun he hd hz => ?_, fun he hb => ?_, fun hr hs => ?_, fun made hr hs => ⟨fun hm => ?_, fun hm hf => ?_,
      fun hm hf hl hd => ?_, fun hm hf h7 => ?_⟩⟩
    · exact command_to hw (freeing_put_eq (tileArrives_refused hx ho hk hn (SrcCtx.refused_epoch (hc ▸ he))))
    · exact command_to hw (freeing_put_eq (tileArrives_refused hx ho hk hn (SrcCtx.refused_empty (hc ▸ he) hd hz)))
    · exact command_to hw (freeing_put_eq (tileArrives_refused hx ho hk hn (SrcCtx.refused_overCount (hc ▸ he) hb)))
    · exact command_to hw (freeing_put_eq (tileArrives_waitsForSource hx ho hk hn hr hs))
    · exact command_to hw (freeing_put_eq (tileArrives_waitsForCredit hx ho hk hn hr hs hm))
    · subst hf
      exact command_to hw (freeing_put_eq (tileArrives_opened hx ho hk hn hr hs hm))
    · subst hf
      exact command_to hw (freeing_put_eq (tileArrives_tierFault hx ho hk hn hr hs hm hl hd))
    · subst hf
      exact command_to hw (freeing_put_eq (tileArrives_emFault hx ho hk hn hr hs hm h7))
  · exact command_to hw (freeing_put_eq (pleatRefetch_again hx ho hk h1 hi))

/-! Streams that end (R75, R257, R259). -/

/-- What a step's stream is made of. -/
theorem stepStream_parts {c : Chip} {p sq id layer : Nat} {x : SrcCtx} (h : c.stepStream p sq id layer = some x) :
    c.step? p sq = some x.t ∧ c.passPlan x.t = some x.pl ∧ x.pl.stream id = some x.s ∧ x.t.abandoned = false ∧ x.c = c ∧
      x.draft = x.t.passPlan.2 ∧ x.layer = x.t.entryOf x.pl id layer := by
  obtain ⟨t, ht, h⟩ := Option.bind_eq_some_iff.1 h
  obtain ⟨pl, hpl, h⟩ := Option.bind_eq_some_iff.1 h
  obtain ⟨st, hst, h⟩ := Option.bind_eq_some_iff.1 h
  split at h
  · cases h
  · rename_i ha
    cases h
    exact ⟨ht, hpl, hst, by simpa using ha, rfl, rfl, rfl⟩

theorem streamCompletes_done {c : Chip} {p sq id layer credit anchor expander tier : Nat} {x : SrcCtx}
    (hx : c.stepStream p sq id layer = some x) (ho : x.inst.closed = false) (hd : x.done x.inst = true) :
    streamCompletes c p sq id layer credit anchor expander tier = x.complete x.inst credit anchor expander tier := by
  simp only [SrcCtx.inst] at ho hd ⊢
  simp [streamCompletes, hx, ho, hd]

/-- A stream without pleats, stalls or tails of its own leaves its record and the lists bound to it. -/
theorem SrcCtx.complete_plain {x : SrcCtx} {credit anchor tier : Nat} (hp : x.s.pleated = false) (hl : x.s.lateClass ≠ 3)
    (hk : x.pl.allJ.any (fun j => j.kind == 3 && attendOut j == x.s.id) = false) :
    x.complete x.inst credit anchor 0 tier =
      ((x.c.complete x.t.part { (x.inst.record stOk) with credit := credit, anchor := anchor, expander := 0, tier := tier }).setStep
        (x.t.setStream { x.inst with closed := true })).advanceBound x.t.bound x.s.id := by
  simp only [SrcCtx.complete, hp, hl, hk, Bool.false_eq_true, if_false, if_true, Bool.false_and]
  rfl

section Deadline
variable {c : Chip} {p sq id layer : Nat} {x : SrcCtx} (hx : c.stepStream p sq id layer = some x) (hd : x.s.deadline ≠ 0)
  (hl : x.isLd = true) (ho : x.inst.closed = false) (hn : x.inst.delivered = 0) (hs : x.inst.suppressed = 0)
include hx hd hl ho hn hs

theorem streamDeadline_class0 (h0 : x.s.lateClass = 0) :
    streamDeadline c p sq id layer = (c.bump (Reg.movCnt 9)).log { code := 0x0801, refKind := 3, ref := id, part := p } := by
  simp only [SrcCtx.inst] at ho hn hs
  simp [streamDeadline, hx, hd, hl, ho, hn, hs, h0]

theorem streamDeadline_class1 (h1 : x.s.lateClass = 1) (hm : x.draft = false) :
    streamDeadline c p sq id layer = c.bump (Reg.movCnt 10) := by
  simp only [SrcCtx.inst] at ho hn hs
  simp [streamDeadline, hx, hd, hl, ho, hn, hs, h1, hm]

theorem streamDeadline_class2 (h2 : x.s.lateClass = 2) : streamDeadline c p sq id layer = x.dropLate (c.bump (Reg.movCnt 11)) := by
  simp only [SrcCtx.inst] at ho hn hs
  simp [streamDeadline, hx, hd, hl, ho, hn, hs, h2]

end Deadline

section SecondSource
variable {c : Chip} {p sq id layer status : Nat} {x : SrcCtx} (hx : c.stepStream p sq id layer = some x)
  (hw : x.inst.sinks.any (fun k => k.withheld.any (fun w => w.attempts == 2)) = true)
include hx hw

/-- The outcome of a second source's read, for a stream that waits for one. -/
theorem secondSourceRead_awaited : secondSourceRead c p x.draft sq id layer status =
    if x.copyBad p then
      (((if c.domUp 5 then ((c.bump (Reg.movCnt 13)).eccBad 2).log { code := 0x0802, refKind := 3, ref := x.s.id, part := p } else c).endStream
        x.t x.inst stWeightLost).loseWeights p)
    else if status = stOk then c.setStep (x.t.setStream { x.inst with sinks := x.inst.sinks.map cleared })
    else (c.endStream x.t x.inst stWeightLost).loseWeights p := by
  obtain ⟨ht, hpl, hst, ha, hc, hd, hy⟩ := stepStream_parts hx
  obtain ⟨c₀, t, pl, draft, st, y⟩ := x
  simp only at ht hpl hst ha hc hd hy
  subst hc hd hy
  simp only [SrcCtx.inst] at hw
  simp only [secondSourceRead, ht, hpl, hst, ha, hw, bne_self_eq_false, Bool.not_true, Bool.or_false, Bool.false_eq_true, if_false]
  rfl

theorem secondSourceRead_serves (hb : x.copyBad p = false) (hs : status = stOk) : secondSourceRead c p x.draft sq id layer status =
    c.setStep (x.t.setStream { x.inst with sinks := x.inst.sinks.map cleared }) := by
  simp only [secondSourceRead_awaited hx hw, hb, hs, Bool.false_eq_true, if_false, if_true]

theorem secondSourceRead_refused (hb : x.copyBad p = false) (hs : status ≠ stOk) : secondSourceRead c p x.draft sq id layer status =
    (c.endStream x.t x.inst stWeightLost).loseWeights p := by
  simp only [secondSourceRead_awaited hx hw, hb, hs, Bool.false_eq_true, if_false]

theorem secondSourceRead_copyOff (hb : x.copyBad p = true) (hu : c.domUp 5 = false) :
    secondSourceRead c p x.draft sq id layer status = (c.endStream x.t x.inst stWeightLost).loseWeights p := by
  simp only [secondSourceRead_awaited hx hw, hb, hu, Bool.false_eq_true, if_false, if_true]

theorem secondSourceRead_copyDamaged (hb : x.copyBad p = true) (hu : c.domUp 5 = true) :
    secondSourceRead c p x.draft sq id layer status = ((((c.bump (Reg.movCnt 13)).bump Reg.bmEccUncorrectable).log
      { code := 0x0802, refKind := 3, ref := x.s.id, part := p }).endStream x.t x.inst stWeightLost).loseWeights p := by
  simp only [secondSourceRead_awaited hx hw, hb, hu, if_true, Chip.eccBad]

end SecondSource

/-- Settles O25: a completion, a deadline by its late class, and a second source by its copy and its status. -/
theorem streamsEnd : Obligations.StreamsEnd := by
  refine ⟨fun s p sq id layer credit anchor tier x hw hx ho hd hp hl hk => ?_, fun s p sq id layer x hw hx hd hl ho hn hs => ⟨fun h0 => ?_,
    fun h1 hm => ?_, fun h2 => ?_⟩, fun s p dr sq id layer status x hw hx hdr ha => ?_⟩
  · obtain ⟨-, -, -, -, hc, -, -⟩ := stepStream_parts hx
    exact command_to hw (freeing_put_eq ((streamCompletes_done hx ho hd).trans ((SrcCtx.complete_plain hp hl hk).trans (by rw [hc]))))
  · exact command_to hw (freeing_put_eq (streamDeadline_class0 hx hd hl ho hn hs h0))
  · exact command_to hw (freeing_put_eq (streamDeadline_class1 hx hd hl ho hn hs h1 hm))
  · exact command_to hw (freeing_put_eq (streamDeadline_class2 hx hd hl ho hn hs h2))
  · subst hdr
    refine ⟨fun hb hs => ?_, fun hb hs => ?_, fun hb hu => ?_, fun hb hu => ?_⟩
    · exact command_to hw (freeing_put_eq (secondSourceRead_serves hx ha hb hs))
    · exact command_to hw (freeing_put_eq (secondSourceRead_refused hx ha hb hs))
    · exact command_to hw (freeing_put_eq (secondSourceRead_copyOff hx ha hb hu))
    · exact command_to hw (freeing_put_eq (secondSourceRead_copyDamaged hx ha hb hu))

end Sys2Proof.Machine
end

section
/-!
PROOF. Commits, watchdogs, storage errors, fences of stations and refits (R63, R74, R78, R81, R84), and from these their obligations.
-/
namespace Sys2Proof.Machine

/-! COMMIT joins (R74). -/

section Commit
variable {c : Chip} {p sq : Nat} {t : Step} {pl : PlanD} (ht : c.step? p sq = some t) (hpl : c.passPlan t = some pl)
  (ha : t.abandoned = false)
include ht hpl ha

theorem commitJoin_waits (hr : (firedAll c t pl).2.commitReady (firedAll c t pl).1 pl (firedAll c t pl).1.passPlan.2 = false) :
    commitJoin c p sq = (firedAll c t pl).2.driveGathers p := by
  simp only [firedAll] at hr ⊢
  simp only [commitJoin, ht, hpl, ha, hr, Bool.false_eq_true, if_false, Bool.not_false, if_true]

variable (hr : (firedAll c t pl).2.commitReady (firedAll c t pl).1 pl (firedAll c t pl).1.passPlan.2 = true)
include hr

theorem commitJoin_draftPass (h4 : (firedAll c t pl).1.passPlan.1 = 4) :
    commitJoin c p sq = (firedAll c t pl).2.nextPass (firedAll c t pl).1 := by
  simp only [firedAll] at hr h4 ⊢
  simp only [commitJoin, ht, hpl, ha, hr, h4, Bool.false_eq_true, if_false, Bool.not_true, if_true]

/-- The last pass of a step: its segments commit, and a recompute step is counted. -/
theorem commitJoin_commits (h4 : (firedAll c t pl).1.passPlan.1 ≠ 4) :
    commitJoin c p sq = (commitAll (if (firedAll c t pl).1.kind = 3 then
        (((firedAll c t pl).2.closeStreams (firedAll c t pl).1 stOk).dropStep (firedAll c t pl).1).bump (Reg.kvPressCnt 12)
      else ((firedAll c t pl).2.closeStreams (firedAll c t pl).1 stOk).dropStep (firedAll c t pl).1)
      (firedAll c t pl).1 pl).wakeWaiting p := by
  simp only [firedAll] at hr h4 ⊢
  simp only [commitJoin, ht, hpl, ha, hr, h4, Bool.false_eq_true, if_false, Bool.not_true]
  rfl

end Commit

/-- R84: the first watchdog of a step launches it again. -/
theorem stepWatchdog_first {c : Chip} {p sq : Nat} {t : Step} (ht : c.step? p sq = some t) (ha : t.abandoned = false)
    (hr : t.retried = false) :
    stepWatchdog c p sq = (c.log { code := 0x0408, refKind := 3, ref := sq, part := p }).relaunch { t with retried := true } stReset [] := by
  simp only [stepWatchdog, ht, ha, hr, Bool.false_eq_true, if_false, Bool.not_false, if_true]

/-- A station without a cause takes the first. -/
theorem Chip.fence_first {c : Chip} {k cause : Nat} (h : c.fld (stnReg k) 34 31 = 0) : c.fence k cause = fencedStation c k cause := by
  simp only [Chip.fence, h, ne_eq, not_true_eq_false, if_false, fencedStation, fenceEvent]

/-- Settles O26: a commit by what its joins make ready, a first watchdog, and a storage error of a station without a cause. -/
theorem stepsEnd : Obligations.StepsEnd := by
  refine ⟨fun s p sq t pl hw ht hpl ha => ⟨fun hr => ?_, fun hr h4 => ?_, fun hr h4 => ⟨fun h3 => ?_, fun h3 => ?_⟩⟩,
    fun s p sq t hw ht ha hr => ?_, fun s r hw h => ?_⟩
  · exact command_to hw (freeing_put_eq (commitJoin_waits ht hpl ha hr))
  · exact command_to hw (freeing_put_eq (commitJoin_draftPass ht hpl ha hr h4))
  · exact command_to hw (freeing_put_eq ((commitJoin_commits ht hpl ha hr h4).trans (by rw [if_neg h3])))
  · exact command_to hw (freeing_put_eq ((commitJoin_commits ht hpl ha hr h4).trans (by rw [if_pos h3])))
  · exact command_to hw (freeing_put_eq (stepWatchdog_first ht ha hr))
  · exact command_to hw (freeing_put_eq (Chip.fence_first h))

/-! Fences and unfences by the owner (R63). -/

section StnFence
variable {c : Chip} {p quad i : Nat} {v : W64} (hp : c.isOwner p = true) (hi : fieldOf v 6 0 = i) (hl : i < 124)

/-- The write of a quadrant's fence register is the fence or unfence of the station that it names. -/
theorem quadWrite_stnFence : (quadWrite c (.port p) (Reg.stnFence quad) v).2 = stationFence c (.port p) quad (fieldOf v 6 0)
    (bitOf v 63) := by
  have hq : (Reg.stnFence quad - 0x2000000) / 0x400000 = quad := by simp only [Reg.stnFence, Reg.quadBase]; omega
  simp only [quadWrite, hq, if_true]

include hp hi hl

theorem quadWrite_fences (hb : bitOf v 63 = true) (hc : c.fld (stnReg (128 * quad + i)) 34 31 = 0) :
    (quadWrite c (.port p) (Reg.stnFence quad) v).2 = fencedStation c (128 * quad + i) 4 := by
  subst hi
  rw [quadWrite_stnFence]
  simp [stationFence, Chip.accOwner_port hp, show ¬ 123 < fieldOf v 6 0 by omega, hb, Chip.fence_first hc]

variable (hb : bitOf v 63 = false)
include hb

theorem quadWrite_unfences (hc : c.fld (stnReg (128 * quad + i)) 34 31 = 4) :
    (quadWrite c (.port p) (Reg.stnFence quad) v).2 = ((c.noteState (128 * quad + i)).setFlds (stnReg (128 * quad + i))
      [(34, 31, 0), (30, 29, if c.domUp (keyDomain (128 * quad + i)) then 0 else 2)]).stationsChanged [128 * quad + i] false := by
  subst hi
  rw [quadWrite_stnFence]
  simp [stationFence, Chip.accOwner_port hp, show ¬ 123 < fieldOf v 6 0 by omega, hb, hc]

theorem quadWrite_unfenceRefused (hc : c.fld (stnReg (128 * quad + i)) 34 31 ≠ 4) :
    (quadWrite c (.port p) (Reg.stnFence quad) v).2 =
      c.log { code := 0x2002, domain := some (16 + quad), refKind := 3, ref := 128 * quad + i } := by
  subst hi
  rw [quadWrite_stnFence]
  simp [stationFence, Chip.accOwner_port hp, show ¬ 123 < fieldOf v 6 0 by omega, hb, hc]

end StnFence

/-- A station that a command names lies in its quadrant. -/
theorem station_in_range {port quad i : Nat} (h : (fits port 2 && (StationRef.quad quad i).wf) = true) : quad < 4 ∧ i < 124 := by
  simp only [StationRef.wf, fits, Bool.and_eq_true, decide_eq_true_eq] at h
  exact ⟨h.2.1, h.2.2⟩

theorem fieldOf_stnFenceWord {i : Nat} (hi : i < 124) : fieldOf (wordOf [(63, 63, 1), (6, 0, i)]) 6 0 = i := by
  simp [wordOf, fieldOf_putField_same, Nat.mod_eq_of_lt (show i < 128 by omega)]

theorem fieldOf_stnUnfenceWord {i : Nat} (hi : i < 124) : fieldOf (wordOf [(6, 0, i)]) 6 0 = i := by
  simp [wordOf, fieldOf_putField_same, Nat.mod_eq_of_lt (show i < 128 by omega)]

theorem bitOf_stnFenceWord (i : Nat) : bitOf (wordOf [(63, 63, 1), (6, 0, i)]) 63 = true := by
  simp [wordOf, bitOf_putField_same, bitOf_putField_other]

theorem bitOf_stnUnfenceWord (i : Nat) : bitOf (wordOf [(6, 0, i)]) 63 = false := by
  simp [wordOf, bitOf_putField_other]

theorem writing_stnFence {s : State} {a : Accessor} {quad : Nat} {v : W64} {c : Chip} (ho : s.chip.writeOpen = true) (hq : quad < 4)
    (hc : (quadWrite s.chip a (Reg.stnFence quad) v).2 = c) : writing a (Reg.stnFence quad) v s = (s.put c).settled :=
  writing_of (registerWrite_quadrant ho (Or.inr (regAccess_stnFence quad hq)) (by simp only [Reg.stnFence, Reg.quadBase]; omega) hc)

/-! Refits (R78, R81). -/

/-- A refit that is due, with no station changed since it began and no other waiting: the partition is fitted and its work goes on. -/
theorem refitCompletes_due {c : Chip} {p : Nat} (hr : c.work.refitting = some p) (ha : c.work.refitAgain = [])
    (ho : c.work.refitOld = [])
    (hs : (c.onWork (fun w => { w with refitting := none, refitAgain := [], refitOld := [] })).partState p = 2)
    (hd : ((c.onWork (fun w => { w with refitting := none, refitAgain := [], refitOld := [] })).refit p).refitDue p = false) :
    refitCompletes c p = ((c.onWork (fun w => { w with refitting := none, refitAgain := [], refitOld := [] })).refit p).relaunchAll p := by
  have hwork : c.onWork (fun w => { w with refitting := none, refitAgain := w.refitAgain.filter (fun q => some q != none), refitOld := [] }) =
      c.onWork (fun w => { w with refitting := none, refitAgain := [], refitOld := [] }) := by
    simp only [Chip.onWork, ha, List.filter_nil]
  simp only [refitCompletes, hr, ha, ho, ne_eq, not_true_eq_false, if_false, List.foldl_nil, List.map_nil, hwork, hs, true_or, if_true, hd,
    Bool.false_eq_true]

/-- Settles O27: a fence register's write by the station's cause, and a refit that is due. -/
theorem stationsFencedByTheOwner : Obligations.StationsFencedByTheOwner := by
  refine ⟨fun s port quad i hw ⟨ho, hp⟩ hc => ?_, fun s port quad i hw ⟨ho, hp⟩ => ?_, fun s p hw hr ha hold hs hd => ?_⟩
  · obtain ⟨hq, hi⟩ := station_in_range hw
    exact command_to hw (writing_stnFence ho hq (quadWrite_fences hp (fieldOf_stnFenceWord hi) hi (bitOf_stnFenceWord i) hc))
  · obtain ⟨hq, hi⟩ := station_in_range hw
    exact ⟨fun hc => command_to hw (writing_stnFence ho hq (quadWrite_unfences hp (fieldOf_stnUnfenceWord hi) hi
      (bitOf_stnUnfenceWord i) hc)),
      fun hc => command_to hw (writing_stnFence ho hq (quadWrite_unfenceRefused hp (fieldOf_stnUnfenceWord hi) hi
        (bitOf_stnUnfenceWord i) hc))⟩
  · exact command_to hw (freeing_put_eq (refitCompletes_due hr ha hold hs hd))

end Sys2Proof.Machine
end

section
/-!
PROOF. Loads of partitions and adapters, customers, shares and the frame reader (R150, R218, R222, R235, R236, R240, R402, R473), and from
these their obligations.
-/
namespace Sys2Proof.Machine

/-! Reloads and loads (R218, R402). -/

/-- The word of PART_RELOAD names its partition. -/
theorem fieldOf_reloadWord {p : Nat} (hp : p < 16) : fieldOf (wordOf [(63, 63, 1), (3, 0, p)]) 3 0 = p := by
  simp [wordOf, fieldOf_putField_same, Nat.mod_eq_of_lt (show p < 16 by omega)]

theorem bitOf_reloadWord (p : Nat) : bitOf (wordOf [(63, 63, 1), (3, 0, p)]) 63 = true := by
  simp [wordOf, bitOf_putField_same, bitOf_putField_other]

theorem reqWrite_reload {c : Chip} {port p : Nat} {v : W64} (ho : c.isOwner port = true) (hb : bitOf v 63 = true)
    (hv : fieldOf v 3 0 = p) (h2 : 2 ≤ c.partState p) (h6 : c.partState p ≠ 6) :
    (reqWrite c (.port port) Reg.partReload v).2 = ((c.setPartState p 6).setFld (Reg.partModeStatus p) 15 15 0).stopPart p := by
  have h : (reqWrite c (.port port) Reg.partReload v).2 = partReload c (.port port) (fieldOf v 3 0) := by
    simp [reqWrite, Reg.partReload, Reg.partStepWatchdog, hb]
  rw [h, hv]
  simp [partReload, Chip.accOwner_port ho, show c.partState p ≠ 0 by omega, show c.partState p ≠ 1 by omega, h6]

section PartitionLoad
variable {c : Chip} {p : Nat} {base draft : PullResult} {d : PartDecl} (hd : c.decl p = some d) (ht : c.loadTurn p = true)
include hd ht

theorem partitionLoaded_lost (hb : c.pulled p d.baseSrc base d.baseMeas = none) : partitionLoaded c p base draft = c.weightsLost p := by
  simp only [partitionLoaded, hd, ht, Bool.not_true, Bool.false_eq_true, if_false, hb]

variable {b : ModelImage} (hb : c.pulled p d.baseSrc base d.baseMeas = some b)
include hb

theorem partitionLoaded_base (hm : d.draftMeas = 0) :
    partitionLoaded c p base draft = c.loadImages p d b none (c.partState p == 6) := by
  simp only [partitionLoaded, hd, ht, Bool.not_true, Bool.false_eq_true, if_false, hb, hm, if_true]

theorem partitionLoaded_draft {m : ModelImage} (hm : d.draftMeas ≠ 0) (hp : c.pulled p d.draftSrc draft d.draftMeas = some m) :
    partitionLoaded c p base draft = c.loadImages p d b (some m) (c.partState p == 6) := by
  simp only [partitionLoaded, hd, ht, Bool.not_true, Bool.false_eq_true, if_false, hb, hm, hp]

end PartitionLoad

/-! Adapter loads (R222). -/

/-- The chip with the installs of a slot gone. -/
theorem adapterLoaded_refused {c : Chip} {slot digest status : Nat} {fits : Bool} {i : Install}
    (hi : c.work.installs.find? (fun i => i.slot == slot) = some i) (hw : i.waiting = false) (h1 : c.slotState slot = 1)
    (hs : status = stOk) (hb : fits = false ∨ digest ≠ i.measure) :
    adapterLoaded c slot fits digest status =
      (((c.onWork (fun w => { w with installs := dropWhere (fun j => j.slot == slot) w.installs })).freeAdapter slot).log
        { code := 0x040A, part := i.part, refKind := 3, ref := Reg.adapterSlot slot 0 }).ack i.port i.tag 0 stImageInvalid 0 := by
  have hb' : (!fits || digest != i.measure) = true := by simpa using hb
  simp [adapterLoaded, hi, hw, h1, hs, hb', stImageInvalid, stOk]

theorem adapterLoaded_current {c : Chip} {slot digest status : Nat} {fits : Bool} {i : Install}
    (hi : c.work.installs.find? (fun i => i.slot == slot) = some i) (hw : i.waiting = false) (h1 : c.slotState slot = 1)
    (hs : status = stOk) (hf : fits = true) (hm : digest = i.measure) (ho : c.adapterSlots i.part i.adapter [2] = []) :
    let n := (c.onWork (fun w => { w with installs := dropWhere (fun j => j.slot == slot) w.installs })).nextVersion i.part i.adapter
    adapterLoaded c slot fits digest status =
      ((((((n.2.setReg (Reg.adapterSlot slot 0) (wordOf [(63, 32, n.1), (31, 16, i.adapter), (15, 4, i.customer), (3, 0, i.part)])).setReg
        (Reg.adapterSlot slot 1) (wordOf [(63, 61, 2), (60, 55, i.rank / 8)])).onWork (fun w =>
          { w with lostSlots := dropWhere (fun x => x == slot) w.lostSlots, slotMeas := assocPut w.slotMeas slot i.measure })).extend 6 8
            slot (leBytes i.measure 32)).bump (Reg.reqCnt 10)).log
              { code := 0x0409, part := i.part, refKind := 3, ref := Reg.adapterSlot slot 0 }).ack i.port i.tag 0 stOk n.1 := by
  intro n
  simp [adapterLoaded, hi, hw, h1, hs, hf, hm, ho, n]

/-- Settles O28: a reload of a loaded partition, a load by the images pulled, an adapter's load by its fit and measure. -/
theorem loads : Obligations.Loads := by
  refine ⟨fun s port p hw ⟨ho, hp⟩ h2 h6 => ?_, fun s p base draft d hw hd ht => ⟨fun b m hb hm hdr => ?_, fun b hb hm => ?_, fun hb => ?_⟩,
    fun s slot fits digest status i hw hi hwait h1 hs => ⟨fun hb => ?_, fun hf hm hold => ?_⟩⟩
  · have hlt : p < 16 := by simp only [Instr.wf, fits, Bool.and_eq_true, decide_eq_true_eq] at hw; omega
    exact command_to hw (writing_of (registerWrite_requests ho (Or.inr regAccess_partReload) (by decide) (by decide)
      (reqWrite_reload hp (bitOf_reloadWord p) (fieldOf_reloadWord hlt) h2 h6)))
  · unfold exec
    exact command_to hw (congrArg State.bootCheck (freeing_put_eq (f := fun c => partitionLoaded c p base draft)
      (partitionLoaded_draft hd ht hb hm hdr)))
  · unfold exec
    exact command_to hw (congrArg State.bootCheck (freeing_put_eq (f := fun c => partitionLoaded c p base draft)
      (partitionLoaded_base hd ht hb hm)))
  · unfold exec
    exact command_to hw (congrArg State.bootCheck (freeing_put_eq (f := fun c => partitionLoaded c p base draft)
      (partitionLoaded_lost hd ht hb)))
  · exact command_to hw (freeing_put_eq (adapterLoaded_refused hi hwait h1 hs hb))
  · exact command_to hw (freeing_put_eq (adapterLoaded_current hi hwait h1 hs hf hm hold))

/-! Customers and shares (R150, R235, R236, R240, R473). -/

theorem tenRefill_applied {c : Chip} (h : c.boot.img.isSome = true) :
    tenRefill c =
      (let d := ((c.work.tenApplied.filter (fun e => decide (0x408000 ≤ e.1) && e.1 % 0x40 == 8)).map
          (fun e => (e.1 - 0x408000) / 0x40)).foldl (fun c k => c.refillOne k c.work.refill) c
       d.onWork (fun w => { w with tenApplied := d.regs.filter (fun e => tickReg e.1), refill := d.fld Reg.tenRefillCtrl 15 0 })) := by
  have hn : c.boot.img.isNone = false := by simpa using h
  simp only [tenRefill, hn, Bool.false_eq_true, if_false]

/-- The word of TEN_HIST_SNAP carries its customer and whether to zero. -/
theorem snapWrite_word {c : Chip} {cust : Nat} (zero : Bool) (hc : cust < 4096) :
    c.snapWrite (wordOf [(63, 63, 1), (62, 62, bitN zero), (11, 0, cust)]) = tenHistSnap c cust zero := by
  have hz : (bitN zero).testBit 0 = zero := by cases zero <;> rfl
  simp [Chip.snapWrite, wordOf, bitOf_putField_same, bitOf_putField_other, fieldOf_putField_same, Nat.mod_eq_of_lt hc, hz]

theorem reqWrite_histSnap {c : Chip} {port : Nat} {v : W64} (ho : c.isOwner port = true) :
    (reqWrite c (.port port) Reg.tenHistSnap v).2 = c.snapWrite v := by
  simp [reqWrite, Reg.tenHistSnap, Reg.partReload, Reg.partStepWatchdog, Reg.tenRefillCtrl, guardW, Chip.accOwner_port ho]

theorem kvWrite_share {c : Chip} {port p : Nat} {v : W64} (ho : c.isOwner port = true) (hp : p < 16) :
    (kvWrite c (.port port) (Reg.kvPartShare p) v).2 =
      (let w := rwWrite shareFields none (c.reg (Reg.kvPartShare p)) v
       let d := c.setReg (Reg.kvPartShare p) w
       if fieldOf (c.reg (Reg.kvPartShare p)) 1 0 = fieldOf w 1 0 then d else (d.flushIndex p).log { code := 0x0A01, part := p }) := by
  have h : (kvWrite c (.port port) (Reg.kvPartShare p) v).2 = kvShareSet c p v := by
    have hn : Reg.kvPartShare p ≠ Reg.kvDescSel := by simp only [Reg.kvPartShare, Reg.kvDescSel]; omega
    have hl : Reg.kvPartShare p < Reg.kvPartPressure 0 := by simp only [Reg.kvPartShare, Reg.kvPartPressure]; omega
    have hi : (Reg.kvPartShare p - Reg.kvPartShare 0) / 8 = p := by simp only [Reg.kvPartShare]; omega
    simp [kvWrite, hn, hl, hi, guardW, Chip.accOwner_port ho]
  rw [h]; rfl

theorem kvWrite_descSel {c : Chip} {port : Nat} {v : W64} (ho : c.isOwner port = true) :
    (kvWrite c (.port port) Reg.kvDescSel v).2 = kvDescSelect c v := by
  simp [kvWrite, guardW, Chip.accOwner_port ho]

section DescSel
variable {c : Chip} {v : W64}

theorem kvDescSelect_outside (h : c.frameAt (fieldOf v 21 20) (fieldOf v 19 0) = none) :
    kvDescSelect c v = (upTo 8).foldl (fun c i => c.setReg (Reg.kvDescData i) 0#64)
      (c.setReg Reg.kvDescSel (wordOf [(21, 20, fieldOf v 21 20), (19, 0, fieldOf v 19 0)])) := by
  unfold kvDescSelect
  dsimp only
  rw [h]

variable {p i : Nat} (h : c.frameAt (fieldOf v 21 20) (fieldOf v 19 0) = some (p, i))
include h

theorem kvDescSelect_frame {f : Frame} (hf : c.frame p (fieldOf v 21 20) i = some f) :
    kvDescSelect c v = (upTo 8).foldl (fun c k => c.setReg (Reg.kvDescData k) ((descWords f).getD k 0#64))
      (c.setReg Reg.kvDescSel (wordOf [(63, 63, 1), (21, 20, fieldOf v 21 20), (19, 0, fieldOf v 19 0)])) := by
  unfold kvDescSelect
  dsimp only
  rw [h]
  simp only [hf]

theorem kvDescSelect_free (hf : c.frame p (fieldOf v 21 20) i = none) :
    kvDescSelect c v = (upTo 8).foldl (fun c k => c.setReg (Reg.kvDescData k) (if k = 0 then wordOf [(60, 57, p)] else 0#64))
      (c.setReg Reg.kvDescSel (wordOf [(63, 63, 1), (21, 20, fieldOf v 21 20), (19, 0, fieldOf v 19 0)])) := by
  have hget : ∀ k, (wordOf [(60, 57, p)] :: (List.replicate 8 0#64).drop 1).getD k 0#64 = if k = 0 then wordOf [(60, 57, p)] else 0#64 := by
    rintro (_ | k)
    · rfl
    · by_cases hk : k < 7 <;> simp only [List.drop_replicate, List.getD_eq_getElem?_getD, List.getElem?_cons_succ,
        List.getElem?_replicate, hk,
        if_true, if_false, Option.getD_some, Option.getD_none, Nat.succ_ne_zero, Nat.reduceSub]
  unfold kvDescSelect
  dsimp only
  rw [h]
  simp only [hf, hget]

end DescSel

/-- Settles O29: the refill of an image's period, and the owner's writes of the three registers. -/
theorem customersAndShares : Obligations.CustomersAndShares := by
  refine ⟨fun s h => ?_, fun s port cust zero hw ⟨ho, hp⟩ => ?_, fun s port p v hw ⟨ho, hp⟩ => ?_, fun s port v hw ⟨ho, hp⟩ => ?_⟩
  · exact command_to (i := .tenRefill) rfl (onChip_put_eq (tenRefill_applied h))
  · unfold exec
    have hc : cust < 4096 := by simp only [Instr.wf, fits, Bool.and_eq_true, decide_eq_true_eq] at hw; omega
    exact command_to hw (registerWrite_requests ho (Or.inr regAccess_tenHistSnap) (by decide) (by decide)
      ((reqWrite_histSnap hp).trans (snapWrite_word zero hc)))
  · have hlt : p < 16 := by simp only [Instr.wf, fits, Bool.and_eq_true, decide_eq_true_eq] at hw; omega
    unfold exec
    exact command_to hw (registerWrite_kv ho (Or.inl (regAccess_kvPartShare p hlt)) (by simp only [Reg.kvPartShare]; omega)
      (by simp only [Reg.kvPartShare]; omega) (kvWrite_share hp hlt))
  · have hk : ∀ {c : Chip}, kvDescSelect s.chip v = c → exec (.kvDescSel port v) s = .next (s.put c) := fun hc => by
      unfold exec
      exact command_to hw (registerWrite_kv ho (Or.inl regAccess_kvDescSel) (by decide) (by decide) ((kvWrite_descSel hp).trans hc))
    exact ⟨fun h => hk (kvDescSelect_outside h), fun p i f h hf => hk (kvDescSelect_frame h hf),
      fun p i h hf => hk (kvDescSelect_free h hf)⟩

end Sys2Proof.Machine
end

section
/-!
PROOF. Flits, replay and buffer errors, the ports' control fields and the host links' timers (R309, R312 to R316, R368, R385 to R387,
R389), and from these their obligations.
-/
namespace Sys2Proof.Machine

/-! Flits (R312 to R314, R316). -/

section Flits
variable {c : Chip} {lp : LinkPort} {f : Flit}

theorem flitReceived_closed (ho : c.linkOpen lp = false) : flitReceived c lp f = c := by
  simp [flitReceived, ho]

theorem refuseFlit_again (hn : c.linkGet lp (fun _ l => l.nacked) = true) : c.refuseFlit lp = c := by
  simp only [Chip.refuseFlit, hn, if_true]

theorem refuseFlit_first (hn : c.linkGet lp (fun _ l => l.nacked) = false) :
    c.refuseFlit lp = (c.onLink lp (fun _ l => { l with nacked := true })).bump (lpCrcCnt lp) := by
  simp only [Chip.refuseFlit, hn, Bool.false_eq_true, if_false]

variable (hp : c.linkPower lp = true) (ho : c.linkOpen lp = true)
include hp ho

theorem flitReceived_bad (hb : (flitFields f).crcOk = false ∨ 4 ≤ (flitFields f).type) : flitReceived c lp f = c.refuseFlit lp := by
  have hb' : (!(flitFields f).crcOk || decide (4 ≤ (flitFields f).type)) = true := by simpa using hb
  simp only [flitReceived, hp, ho, Bool.not_true, Bool.or_self, Bool.false_eq_true, if_false, hb', if_true]

variable (hc : (flitFields f).crcOk = true)
include hc

theorem flitReceived_nack (ht : (flitFields f).type = 2) (hs : precedes 12 (c.rxNext lp) (flitFields f).seq = false) :
    flitReceived c lp f = c.flitReturns lp (flitFields f) := by
  simp only [Chip.rxNext] at hs
  simp [flitReceived, hp, ho, hc, ht, hs]

section Numbered
variable (ht : (flitFields f).type = 1 ∨ (flitFields f).type = 3)
include ht

/-- A payload or ABORT flit with the expected number is taken. -/
theorem flitReceived_expected (hs : (flitFields f).seq = c.rxNext lp) :
    flitReceived c lp f = if (flitFields f).type = 3 && !(lpIsHl lp) then (flitTaken c lp f).aborted else flitTaken c lp f := by
  simp only [Chip.rxNext] at hs
  rcases ht with ht | ht <;> simp [flitReceived, hp, ho, hc, ht, hs, flitTaken, Chip.rxNext]

variable (hn : (flitFields f).seq ≠ c.rxNext lp)
include hn

theorem flitReceived_before (hs : precedes 12 (c.rxNext lp) (flitFields f).seq = false) : flitReceived c lp f = c := by
  simp only [Chip.rxNext] at hn hs
  rcases ht with ht | ht <;> simp [flitReceived, hp, ho, hc, ht, hn, hs]

theorem flitReceived_past (hs : precedes 12 (c.rxNext lp) (flitFields f).seq = true) : flitReceived c lp f = c.refuseFlit lp := by
  simp only [Chip.rxNext] at hn hs
  rcases ht with ht | ht <;> simp [flitReceived, hp, ho, hc, ht, hn, hs]

end Numbered
end Flits

/-! Replay timeouts and buffer errors (R313, R315). -/

section Replay
variable {c : Chip} {lp : LinkPort} (hp : c.linkPower lp = true) (ho : c.linkOpen lp = true)
include hp ho

theorem replayTimeout_replays (hn : c.linkGet lp (fun _ l => l.replay.length) ≠ 0) :
    replayTimeout c lp = (c.onLink lp (fun _ l => { l with replays := l.replays + 1 })).bumpBy (lpReplayCnt lp)
      (c.linkGet lp (fun _ l => l.replay.length)) := by
  simp only [replayTimeout, hp, ho, Bool.and_self, if_true, Chip.replayFlits, hn, if_false]

theorem replayTimeout_nothing (hn : c.linkGet lp (fun _ l => l.replay.length) = 0) : replayTimeout c lp = c := by
  simp only [replayTimeout, hp, ho, Bool.and_self, if_true, Chip.replayFlits, hn]

end Replay

section BufferError
variable {c : Chip} {k : FabPkt} (hf : c.fabricUp = true)
include hf

/-- A packet of a seam that is up leaves every buffer. -/
theorem seamEccError_headerLost : seamEccError c k false = (withoutPkt c k).bump (Reg.fabCnt 14) := by
  cases hk : c.waitingAdd k <;> simp only [seamEccError, hf, Bool.not_true, Bool.false_eq_true, if_false, withoutPkt, hk]

theorem seamEccError_headerIntact : seamEccError c k true =
    (k :: ((((c.waitingAdd k).map Combine.parts).getD []).drop 1).map Constituent.pkt).foldl
      (fun c k => c.nackPkt k stUncorrectable) ((withoutPkt c k).bump (Reg.fabCnt 14)) := by
  cases hk : c.waitingAdd k <;> simp only [seamEccError, hf, Bool.not_true, Bool.false_eq_true, if_false, if_true, withoutPkt, hk]

end BufferError

/-- Settles O30: a flit by its form and number, a replay by what is not acknowledged, a buffer error by its header. -/
theorem flitsReplaysAndBufferErrors : Obligations.FlitsReplaysAndBufferErrors := by
  refine ⟨fun s lp f hw hp => ⟨fun ho => ?_, fun ho hb => ⟨fun hn => ?_, fun hn => ?_⟩, fun ho hc ht => ⟨fun hs => ?_, fun hn hs => ?_,
    fun hn hs => ?_⟩, fun ho hc ht hs => ⟨fun hl => ?_, fun hl => ?_⟩, fun ho hc ht hs => ?_⟩,
    fun s lp hw hp ho => ⟨fun hn => ?_, fun hn => ?_⟩, fun s k intact hw hf => ⟨fun hi => ?_, fun hi => ?_⟩⟩
  · exact command_to hw (freeing_put_eq (flitReceived_closed ho))
  · exact command_to hw (freeing_put_eq ((flitReceived_bad hp ho hb).trans (refuseFlit_again hn)))
  · exact command_to hw (freeing_put_eq ((flitReceived_bad hp ho hb).trans (refuseFlit_first hn)))
  · exact command_to hw (freeing_put_eq ((flitReceived_expected hp ho hc (Or.inl ht) hs).trans (by simp [ht])))
  · exact command_to hw (freeing_put_eq (flitReceived_before hp ho hc (Or.inl ht) hn hs))
  · exact command_to hw (freeing_put_eq (flitReceived_past hp ho hc (Or.inl ht) hn hs))
  · exact command_to hw (freeing_put_eq ((flitReceived_expected hp ho hc (Or.inr ht) hs).trans (by simp [ht, hl])))
  · exact command_to hw (freeing_put_eq ((flitReceived_expected hp ho hc (Or.inr ht) hs).trans (by simp [hl])))
  · exact command_to hw (freeing_put_eq (flitReceived_nack hp ho hc ht hs))
  · exact command_to hw (onChip_put_eq (replayTimeout_replays hp ho hn))
  · exact command_onChip_same hw (replayTimeout_nothing hp ho hn)
  · subst hi
    exact command_to hw (onChip_put_eq (seamEccError_headerLost hf))
  · subst hi
    exact command_to hw (onChip_put_eq (seamEccError_headerIntact hf))

/-! Control registers of the ports (R309, R389). -/

section FabCtrl
variable {s : State} {acc : Accessor} {p : Nat} {v : W64} (hw : s.chip.writeOpen = true) (hp : p < 16)
include hw hp

theorem writing_fabPortCtrl {c : Chip} (hc : (fabWrite s.chip acc (Reg.fabPortCtrl p) v).2 = c) :
    writing acc (Reg.fabPortCtrl p) v s = (s.put c).settled :=
  writing_of (registerWrite_seam hw (Or.inl (regAccess_fabPortCtrl p hp)) (by simp only [Reg.fabPortCtrl]; omega)
    (by simp only [Reg.fabPortCtrl]; omega) hc)

/-- R309: a write by the owner or the manager is a write of the whole word. -/
theorem writing_fabPortCtrl_seam (ha : s.chip.accSeam acc = true) :
    writing acc (Reg.fabPortCtrl p) v s = (s.put (s.chip.portCtrl (.fabric p) v)).settled := by
  have hl : Reg.fabPortCtrl p < Reg.fabPortStatus 0 := by simp only [Reg.fabPortCtrl, Reg.fabPortStatus]; omega
  have hi : (Reg.fabPortCtrl p - Reg.fabPortCtrl 0) / 8 = p := by simp only [Reg.fabPortCtrl]; omega
  exact writing_fabPortCtrl hw hp (by simp only [fabWrite, hl, if_true, guardW, ha, hi])

theorem writing_fabPortCtrl_refused (ha : s.chip.accSeam acc = false) :
    writing acc (Reg.fabPortCtrl p) v s = (s.put (s.chip.log (refused 0x0C09 (Reg.fabPortCtrl p)))).settled := by
  have hl : Reg.fabPortCtrl p < Reg.fabPortStatus 0 := by simp only [Reg.fabPortCtrl, Reg.fabPortStatus]; omega
  exact writing_fabPortCtrl hw hp (by simp [fabWrite, hl, guardW, ha])

end FabCtrl

/-- A port that a well-formed row names is within its width. -/
theorem port_lt_of_wf {a : Bool} {p n : Nat} (h : (a && fits p n) = true) : p < 2 ^ n := by
  simp only [fits, Bool.and_eq_true, decide_eq_true_eq] at h
  exact h.2

theorem hostWindow_in_range {a : Bool} {p w d : Nat} (h : (a && fits p 2 && fits w 4 && fits d 1) = true) : p < 4 ∧ w < 16 ∧ d < 2 := by
  simp only [fits, Bool.and_eq_true, decide_eq_true_eq] at h
  exact ⟨h.1.1.2, h.1.2, h.2⟩

/-- Settles O32: each control row writes the word of its port with its field changed. -/
theorem fabricPortControls : Obligations.FabricPortControls := by
  intro s acc p ho
  refine ⟨fun ha => ⟨fun hw => ?_, fun hw => ?_, fun drain hw => ?_, fun hw => ?_, fun lanes hw => ?_⟩, fun ha hw => ?_⟩
  · exact command_to hw (writing_fabPortCtrl_seam ho (port_lt_of_wf hw) ha)
  · exact command_to hw (writing_fabPortCtrl_seam ho (port_lt_of_wf hw) ha)
  · exact command_to hw (writing_fabPortCtrl_seam ho (port_lt_of_wf hw) ha)
  · exact command_to hw (writing_fabPortCtrl_seam ho (port_lt_of_wf hw) ha)
  · exact command_to hw (writing_fabPortCtrl_seam ho (port_lt_of_wf (Bool.and_eq_true_iff.1 hw).1) ha)
  · exact command_to hw (writing_fabPortCtrl_refused ho (port_lt_of_wf hw) ha)

section HlCtrl
variable {s : State} {acc : Accessor} {p : Nat} {v : W64} (hw : s.chip.writeOpen = true) (hp : p < 4) (ha : s.chip.accOwner acc = true)
include hw hp ha

/-- R389: a whole write by the owner, refused where it fences the owner port. -/
theorem writing_hlPortCtrl {c : Chip}
    (hc : (if bitOf v 63 && s.chip.isOwner p then s.chip.log (refused 0x1009 (Reg.hlPortCtrl p)) else s.chip.portCtrl (.lateter p) v) = c) :
    writing acc (Reg.hlPortCtrl p) v s = (s.put c).settled := by
  have hl : Reg.hlPortCtrl p < Reg.hlPortStatus 0 := by simp only [Reg.hlPortCtrl, Reg.hlPortStatus]; omega
  have hi : (Reg.hlPortCtrl p - Reg.hlPortCtrl 0) / 8 = p := by simp only [Reg.hlPortCtrl]; omega
  have hx : (hlWrite s.chip acc (Reg.hlPortCtrl p) v).2 = c := by
    rw [← hc]
    simp only [hlWrite, hl, if_true, hi, hlCtrlWrite, guardW, ha, Bool.true_and]
    cases bitOf v 63 && s.chip.isOwner p <;> rfl
  exact writing_of (registerWrite_lateter hw (Or.inl (regAccess_hlPortCtrl p hp)) (by simp only [Reg.hlPortCtrl]; omega)
    (by simp only [Reg.hlPortCtrl]; omega) hx)

theorem writing_hlPortCtrl_accepted (hf : bitOf v 63 = false ∨ s.chip.isOwner p = false) :
    writing acc (Reg.hlPortCtrl p) v s = (s.put (s.chip.portCtrl (.lateter p) v)).settled :=
  writing_hlPortCtrl hw hp ha (by rcases hf with hf | hf <;> simp [hf])

theorem writing_hlPortCtrl_ownerFence (hv : bitOf v 63 = true) (ho : s.chip.isOwner p = true) :
    writing acc (Reg.hlPortCtrl p) v s = (s.put (s.chip.log (refused 0x1009 (Reg.hlPortCtrl p)))).settled :=
  writing_hlPortCtrl hw hp ha (by simp [hv, ho])

end HlCtrl

/-! Host windows (R386). -/

theorem hostWindow_base {c : Chip} {acc : Accessor} {p w : Nat} {v : W64} (ha : c.accOwner acc = true) :
    (hostWindow c acc p w 1 v).2 = c.setReg (Reg.hlHostWin p w 1) v := by
  simp [hostWindow, guardW, ha]

/-- A window that swaps neither before nor after takes its fields. -/
theorem hostWindow_control {c : Chip} {acc : Accessor} {p w : Nat} {v : W64} (ha : c.accOwner acc = true) (hv : winSwaps v = false)
    (ho : winSwaps (c.reg (Reg.hlHostWin p w 0)) = false) :
    (hostWindow c acc p w 0 v).2 = c.putFields (Reg.hlHostWin p w 0) hostWinFields0 none v := by
  simp [hostWindow, guardW, ha, hv, ho]

theorem writing_hostWindow {s : State} {acc : Accessor} {p w d : Nat} {v : W64} {c : Chip} (hw : s.chip.writeOpen = true) (hp : p < 4)
    (hwin : w < 16) (hd : d < 2) (hc : (hostWindow s.chip acc p w d v).2 = c) :
    writing acc (Reg.hlHostWin p w d) v s = (s.put c).settled := by
  have hx : (hlWrite s.chip acc (Reg.hlHostWin p w d) v).2 = c := by
    have h1 : ¬ Reg.hlHostWin p w d < Reg.hlPortStatus 0 := by simp only [Reg.hlHostWin, Reg.hlPortStatus]; omega
    have h2 : Reg.hlHostWin p w d ≠ Reg.hlLinkTimers := by simp only [Reg.hlHostWin, Reg.hlLinkTimers]; omega
    have h3 : Reg.hlHostWin p w d ≠ Reg.hlHostTimers := by simp only [Reg.hlHostWin, Reg.hlHostTimers]; omega
    have hi : (Reg.hlHostWin p w d - 0x1001000) / 16 = 16 * p + w := by simp only [Reg.hlHostWin]; omega
    have hj : (Reg.hlHostWin p w d / 8) % 2 = d := by simp only [Reg.hlHostWin]; omega
    simp only [hlWrite, h1, h2, h3, if_false, hi, hj, show (16 * p + w) / 16 = p by omega, show (16 * p + w) % 16 = w by omega, hc]
  exact writing_of (registerWrite_lateter hw (Or.inl (regAccess_hlHostWin p hp w hwin d hd)) (by simp only [Reg.hlHostWin]; omega)
    (by simp only [Reg.hlHostWin]; omega) hx)

/-- Settles O33: each control row writes the word of its port with its field changed; a window's word by its number. -/
theorem lateterPortControls : Obligations.LateterPortControls := by
  refine ⟨fun s acc p ho ha => ⟨fun hw hf => ?_, fun hw hf => ?_, fun hw => ?_, fun hw hf => ?_, fun lanes hw hf => ?_⟩,
    fun s acc p w v ho ha => ⟨fun hw => ?_, fun hw hv hs => ?_⟩⟩
  · exact command_to hw (writing_hlPortCtrl_accepted ho (port_lt_of_wf hw) ha (Or.inr hf))
  · exact command_to hw (writing_hlPortCtrl_ownerFence ho (port_lt_of_wf hw) ha (bitOf_putField_same _ _ _ (by decide)) hf)
  · exact command_to hw (writing_hlPortCtrl_accepted ho (port_lt_of_wf hw) ha (Or.inl (bitOf_putField_same _ _ _ (by decide))))
  · exact command_to hw (writing_hlPortCtrl_accepted ho (port_lt_of_wf hw) ha (Or.inr hf))
  · exact command_to hw (writing_hlPortCtrl_accepted ho (port_lt_of_wf (Bool.and_eq_true_iff.1 hw).1) ha (Or.inr hf))
  · obtain ⟨hp, hwin, hd⟩ := hostWindow_in_range hw
    exact command_to hw (writing_hostWindow ho hp hwin hd (hostWindow_base ha))
  · obtain ⟨hp, hwin, hd⟩ := hostWindow_in_range hw
    exact command_to hw (writing_hostWindow ho hp hwin hd (hostWindow_control ha hv hs))

/-! The timers of the host links (R368, R385, R387). -/

theorem hlSyncWait_sync {c : Chip} {p : Nat} (h : c.hlState p = 5) :
    hlSyncWait c p = (c.setFld (Reg.hlPortStatus p) 48 45 8).toRetrain (.lateter p) := by
  simp only [hlSyncWait, h, if_true]

theorem hlSyncWait_other {c : Chip} {p : Nat} (h : c.hlState p ≠ 5) : hlSyncWait c p = c := by
  simp only [hlSyncWait, h, if_false]

theorem hlCreditStall_stalls {c : Chip} {p : Nat} (h3 : c.hlState p = 3) (hs : c.stalledClasses p ≠ [])
    (hb : c.bit (Reg.hlPortStatus p) 42 = false) :
    hlCreditStall c p = (((c.setHlPort p { c.hlPort p with stalled := c.stalledClasses p }).setFld (Reg.hlPortStatus p) 42 42 1).startHold
      p).log { code := 0x1007, refKind := 3, ref := p } := by
  simp [hlCreditStall, h3, hs, hb]

theorem hlDownHold_held {c : Chip} {p : Nat} (h : c.bit (Reg.hlPortStatus p) 43 = true) :
    hlDownHold c p = ((c.endPort p).setFld (Reg.hlPortStatus p) 43 43 0).log { code := 0x1008, refKind := 3, ref := p } := by
  simp only [hlDownHold, h, if_true]

theorem hlDownHold_notHeld {c : Chip} {p : Nat} (h : c.bit (Reg.hlPortStatus p) 43 = false) : hlDownHold c p = c := by
  simp only [hlDownHold, h, Bool.false_eq_true, if_false]

theorem hlBulkTimeout_lastTry {c d : Chip} {tag : Nat} {b : Bulk} (hu : c.domUp 1 = true) (ht : c.bulkTake tag = (some b, d))
    (hn : (d.bump (Reg.hlCnt 10)).fld Reg.hlHostTimers 62 60 ≤ b.sends) :
    hlBulkTimeout c tag = (d.bump (Reg.hlCnt 10)).bulkEnded b stTimeout [] := by
  simp only [hlBulkTimeout, hu, if_true, bulkTimeout, ht, hn]

/-- Settles O34: each timer by the state of its port or transfer. -/
theorem lateterTimers : Obligations.LateterTimers := by
  refine ⟨fun s p hw => ⟨fun h => ?_, fun h => ?_⟩, fun s p hw h3 hs hb => ?_, fun s p hw => ⟨fun h => ?_, fun h => ?_⟩,
    fun s tag b c hw hu ht hn => ?_, fun p tag => ?_⟩
  · exact command_to hw (onChip_put_eq (hlSyncWait_sync h))
  · exact command_onChip_same hw (hlSyncWait_other h)
  · exact command_to hw (onChip_put_eq (hlCreditStall_stalls h3 hs hb))
  · exact command_to hw (freeing_put_eq (hlDownHold_held h))
  · exact command_to hw (freeing_put_eq (hlDownHold_notHeld h))
  · exact command_to hw (freeing_put_eq (hlBulkTimeout_lastTry hu ht hn))
  · exact ⟨completes_of_chip rfl, completes_of_chip rfl, completes_of_chip rfl, completes_of_chip rfl⟩

end Sys2Proof.Machine
end

section
/-!
PROOF. Routes, the manager's packets, transit, egress and congestion (R317, R320, R323 to R339), and from these their obligations.
-/
namespace Sys2Proof.Machine

/-! Routes (R323, R324, R326). -/

theorem routeWrite_kept {c : Chip} {acc : Accessor} {off : Nat} {v : W64} (ha : c.accSeam acc = true) (hb : routeBad v = false) :
    (routeWrite c acc off v false).2 = c.setReg off (routeWord v) := by
  simp [routeWrite, guardW, ha, hb]

theorem routeWrite_refused {c : Chip} {acc : Accessor} {off : Nat} {v : W64} {half : Bool}
    (h : c.accSeam acc = false ∨ half = true ∨ routeBad v = true) :
    (routeWrite c acc off v half).2 = c.log (refused 0x0C09 off) := by
  rcases h with h | h | h <;> simp [routeWrite, guardW, h]

theorem routeEntryRow_open {c d : Chip} {acc : Accessor} {sh : Bool} {dst : Nat} {v : W64} {half : Bool} (ho : c.writeOpen = true)
    (h : (routeWrite c acc (if sh then Reg.routeShadow dst else Reg.routeLive dst) v half).2 = d) :
    routeEntryRow c acc sh dst v half = d := by
  simp only [routeEntryRow, ho, if_true, h]

theorem epochCommit_successor {c : Chip} {acc : Accessor} {e : Nat} (ha : c.accSeam acc = true)
    (hs : c.devState = 2 ∨ c.devState = 4 ∨ c.devState = 5) (he : e = wrapSucc 16 (c.fld Reg.swCtrl 60 45)) :
    (epochCommit c acc e).2 = ((({ c with fab := { c.fab with prev := c.liveTable } } : Chip).shadowToLive).setFlds Reg.swCtrl
      [(62, 62, 0), (61, 61, 1), (60, 45, e)]).log { code := 0x0C0A, param1 := e } := by
  rcases hs with hs | hs | hs <;> simp [epochCommit, ha, hs, ← he]

theorem epochCommit_notSuccessor {c : Chip} {acc : Accessor} {e : Nat} (ha : c.accSeam acc = true)
    (he : e ≠ wrapSucc 16 (c.fld Reg.swCtrl 60 45)) :
    (epochCommit c acc e).2 = (c.setFld Reg.swCtrl 62 62 1).log (refused 0x0C09 Reg.swEpochCommit) := by
  simp [epochCommit, ha, he]

/-- The word of SW_EPOCH_COMMIT commits the epoch that it carries. -/
theorem fabWrite_epochCommit {c : Chip} {acc : Accessor} {e : Nat} (he : e < 65536) :
    fabWrite c acc Reg.swEpochCommit (wordOf [(63, 63, 1), (15, 0, e)]) = epochCommit c acc e := by
  have hb : bitOf (wordOf [(63, 63, 1), (15, 0, e)]) 63 = true := by simp [wordOf, bitOf_putField_same, bitOf_putField_other]
  have hf : fieldOf (wordOf [(63, 63, 1), (15, 0, e)]) 15 0 = e := by simp [wordOf, fieldOf_putField_same, Nat.mod_eq_of_lt he]
  simp only [fabWrite, show ¬ Reg.swEpochCommit < Reg.fabPortStatus 0 by decide, show Reg.swEpochCommit ≠ Reg.fabLinkTimers by decide,
    show Reg.swEpochCommit ≠ Reg.swCtrl by decide, if_false, if_true, hb, hf]

theorem writing_epochCommit {s : State} {acc : Accessor} {e : Nat} {c : Chip} (ho : s.chip.writeOpen = true) (he : e < 65536)
    (hc : (epochCommit s.chip acc e).2 = c) :
    writing acc Reg.swEpochCommit (wordOf [(63, 63, 1), (15, 0, e)]) s = (s.put c).settled :=
  writing_of (registerWrite_seam ho (Or.inr regAccess_swEpochCommit) (by decide) (by decide) (by rw [fabWrite_epochCommit he, hc]))

theorem swDrain_drains {c : Chip} (h : c.bit Reg.swCtrl 61 = true) :
    swDrain c = ({ c with fab := { c.fab with prev := [] } } : Chip).setFld Reg.swCtrl 61 61 0 := by
  simp only [swDrain, h, if_true]

theorem swDrain_nothing {c : Chip} (h : c.bit Reg.swCtrl 61 = false) : swDrain c = c := by
  simp only [swDrain, h, Bool.false_eq_true, if_false]

/-- Settles O35: an entry's write by its writer and ports, a commit by its epoch, a drain by its bit. -/
theorem routes : Obligations.Routes := by
  refine ⟨fun s acc sh dst v half hw ho => ⟨fun ha hh hb => ?_, fun h => ?_⟩, fun s acc e hw ho ha => ⟨fun hs he => ?_, fun he => ?_⟩,
    fun s => ⟨fun h => ?_, fun h => ?_⟩⟩
  · subst hh
    exact command_to hw (onChip_put_eq (routeEntryRow_open ho (routeWrite_kept ha hb)))
  · exact command_to hw (onChip_put_eq (routeEntryRow_open ho (routeWrite_refused h)))
  · exact command_to hw (writing_epochCommit ho (port_lt_of_wf hw) (epochCommit_successor ha hs he))
  · exact command_to hw (writing_epochCommit ho (port_lt_of_wf hw) (epochCommit_notSuccessor ha he))
  · exact command_to (i := .swDrain) rfl (onChip_put_eq (swDrain_drains h))
  · exact command_onChip_same (i := .swDrain) rfl (swDrain_nothing h)

/-! The manager's packets, and NACKs (R320, R327). -/

/-- A packet that arrives is taken from the local queue, and is for its unit. -/
theorem takePkt_arrives {s : State} {h : FabHdr} {b : FabBody} {r : Nat} (a : Arrives s h b r) :
    takePkt s.chip ⟨h, b⟩ r hdrOk = (true, got s h b) := by
  obtain ⟨hup, hcancel, hok, hr, hty, hauth⟩ := a
  by_cases he : h.enc = true
  · obtain ⟨hkey, htag⟩ := hauth he
    simp_all [takePkt, got]
  · simp_all [takePkt, got]

theorem onFabState_arrives {s t : State} {h : FabHdr} {b : FabBody} {r : Nat} {f : State → State} (a : Arrives s h b r)
    (hf : f (s.put (got s h b)) = t) : onFabState h b r f s = t.settled := by
  rw [onFabState, takePkt_arrives a, ← hf]
  rfl

section Manager
variable {s : State} {h : FabHdr} {b : SwWriteBody}

theorem managerWrite_otherDevice (grants : Bool) (hs : h.src ≠ s.chip.mgrDevice) :
    managerWrite s h b grants = s.put (s.chip.reply .device h (.swWriteAck { status := stPrivilege, applied := 0, rsvd := 0 })) := by
  simp only [managerWrite, hs, ne_eq, not_false_eq_true, true_or, if_true]
  rfl

variable (hs : h.src = s.chip.mgrDevice) (hm : h.src ≠ 0xFFFF)
include hs hm

theorem managerWrite_registers :
    managerWrite s h b false =
      (let r := swEntries 0xC00000 0xD7FFFF false b.entries 0 s
       r.2.2.put (r.2.2.chip.reply .device h (.swWriteAck { status := r.1, applied := r.2.1, rsvd := 0 }))) := by
  have hn : ¬ (h.src ≠ s.chip.mgrDevice ∨ s.chip.mgrDevice = 0xFFFF) := by rw [← hs]; simp [hm]
  simp only [managerWrite, hn, if_false, Bool.false_eq_true]
  rfl

theorem managerWrite_grants :
    managerWrite s h b true =
      (let r := swEntries 0xE10000 0xE1FFFF true b.entries 0 s
       r.2.2.put (r.2.2.chip.reply .device h (.swWriteAck { status := r.1, applied := r.2.1, rsvd := 0 }))) := by
  have hn : ¬ (h.src ≠ s.chip.mgrDevice ∨ s.chip.mgrDevice = 0xFFFF) := by rw [← hs]; simp [hm]
  simp only [managerWrite, hn, if_false, if_true]
  rfl

end Manager

section Nack
variable {c : Chip} {h : FabHdr} {b : NackBody}

theorem fabNack_op {o : PendOp} (ho : c.op? b.msgId = some o) (ht : opType o.kind = b.droppedType) :
    fabNack c h b = Chip.finishOps (c.opNack o (statusOf b.status)) := by
  simp only [fabNack, ho, ht, if_true]

theorem fabNack_otherType {o : PendOp} (ho : c.op? b.msgId = some o) (ht : opType o.kind ≠ b.droppedType) : fabNack c h b = c := by
  simp only [fabNack, ho, ht, if_false]

theorem fabNack_phase (ho : c.op? b.msgId = none) (ht : b.droppedType ≠ 0x38) : fabNack c h b = phaseNack c h.src b := by
  simp only [fabNack, ho, ht, if_false]

end Nack

/-- Settles O36: the entries by who sends them, and each answer by what its delivery ends. -/
theorem managerPackets : Obligations.ManagerPackets := by
  refine ⟨fun s h b => ⟨fun hw a => ⟨fun hs hm => ?_, fun hs => ?_⟩, fun hw a hs hm => ?_⟩, fun s h b hw a => ?_, fun s h hw a => ?_,
    fun s h b hw a => ⟨fun o ho ht => ?_, fun o ho ht => ?_, fun ho ht => ?_⟩⟩
  · exact command_to hw (onFabState_arrives a (managerWrite_registers hs hm))
  · exact command_to hw (onFabState_arrives a (managerWrite_otherDevice false hs))
  · exact command_to hw (onFabState_arrives a (managerWrite_grants hs hm))
  · exact command_to hw (onFab_arrives (f := fun c => c) a rfl)
  · exact command_to hw (onFab_arrives (f := fun c => c) a rfl)
  · exact command_to hw (onFabFreeing_arrives a (fabNack_op ho ht))
  · exact command_to hw (onFabFreeing_arrives a (fabNack_otherType ho ht))
  · exact command_to hw (onFabFreeing_arrives a (fabNack_phase ho ht))

/-! Transit, egress and congestion (R317, R329 to R339). -/

theorem seamArrives_active {c : Chip} {p : Nat} {k : FabPkt} (hf : c.fabricUp = true) (h3 : c.fabState p = 3) :
    seamArrives c p k = c.forward .transit k := by
  simp [seamArrives, hf, h3]

theorem seamArrives_inactive {c : Chip} {p : Nat} {k : FabPkt} (h3 : c.fabState p ≠ 3) : seamArrives c p k = c := by
  simp [seamArrives, h3]

section Egress
variable {c : Chip} {p : Nat}

theorem egressDequeue_inactive (h3 : c.fabState p ≠ 3) : egressDequeue c p = c := by
  simp only [egressDequeue, h3, ne_eq, not_false_eq_true, if_true]

variable (h3 : c.fabState p = 3)
include h3

theorem egressDequeue_nothing (hc : c.fillShaper.pickClass (c.fillShaper.fillTc0 p (c.fillShaper.fabPort p)) = none) :
    egressDequeue c p = c.fillShaper.setFabPort p (c.fillShaper.fillTc0 p (c.fillShaper.fabPort p)) := by
  simp only [egressDequeue, h3, ne_eq, not_true_eq_false, if_false, hc]

theorem egressDequeue_picks {tc k i : Nat} {r : FabPort} {m : Member} {defs : List Deficit} {it : EgItem}
    (hc : c.fillShaper.pickClass (c.fillShaper.fillTc0 p (c.fillShaper.fabPort p)) = some (tc, r))
    (hm : c.fillShaper.pickMember r tc = some (m, defs, k))
    (hi : findIdx1 (fun i => i.pkt.hdr.tc == tc && i.member == m) r.queue = some (i, it)) :
    egressDequeue c p = egressTakes c.fillShaper p tc r m defs k i it := by
  cases m <;> simp only [egressDequeue, h3, ne_eq, not_true_eq_false, if_false, hc, hm, hi, egressTakes]

end Egress

section Combining
variable {c : Chip} {id : Nat} {e : Combine} (he : c.fab.combines.find? (fun e => e.id == id) = some e)
include he

theorem combineWindow_closes : combineWindow c id = c.setCombine { e with joinOpen := false } := by
  simp only [combineWindow, he]

theorem combineHold_frees (hs : e.sent.isSome = true) :
    combineHold c id = e.parts.foldl (fun c q => answerFuel 2 c q.src q.stamp (nackBody q.pkt 0x0045))
      ((c.freeCombine id).bump (Reg.fabCnt 13)) := by
  simp only [combineHold, he, hs, if_true]

end Combining

theorem hotspotDetected_above {c : Chip} {p tc : Nat} (hp : p < 16) (hq : c.fld Reg.swParams 63 48 * 1024 < c.queuedBytes p tc)
    (hh : (c.fabPort p).hot.getD tc false = false) :
    hotspotDetected c p tc = (c.setFabPort p { c.fabPort p with hot := (c.fabPort p).hot.set tc true }).log
      { code := 0x0C08, refKind := 3, ref := p, param1 := tc } := by
  have hot : c.hot p tc = false := by rw [Chip.hot, if_pos hp, hh]
  simp only [hotspotDetected, hq, hot, and_self, if_true, Chip.setHot, hp]

section Rates
variable {c : Chip} {d : Nat} {e : RateEnt} (he : c.rateEnt d = some e)
include he

theorem pacedRelease_releases {i : EgItem} {rest : List EgItem} (hq : (fillBucket c.time e).queue = i :: rest)
    (hb : 0 ≤ (fillBucket c.time e).bucket) :
    pacedRelease c d = (Chip.forward (c.setRate { fillBucket c.time e with
      queue := rest, bucket := (fillBucket c.time e).bucket - (c.cost i.pkt * 72 : Nat),
      unechoed := (fillBucket c.time e).unechoed + c.cost i.pkt }) i.member i.pkt).drainWait := by
  simp only [pacedRelease, he, hq, Int.not_lt.mpr hb, if_false]

theorem ccNoSample_halves (hu : e.unechoed ≠ 0) :
    ccNoSample c d = (c.setRate { e with r := max (e.r / 2) 1, lastHalf := c.time }).bump (Reg.fabCnt 15) := by
  simp only [ccNoSample, he, hu, if_false]

end Rates

/-- Settles O37: each event of the seam by its port, entry, queue or bucket. -/
theorem congestion : Obligations.Congestion := by
  refine ⟨fun s p k hw hf => ⟨fun h3 => ?_, fun h3 => ?_⟩, fun s p hw => ⟨fun h3 => ?_, fun h3 hc => ?_,
    fun tc r m defs k i it h3 hc hm hi => ?_⟩,
    fun s id e he => ⟨fun hw => ?_, fun hw hs => ?_⟩, fun s p tc hw hp hq hh => ?_,
    fun s d e he => ⟨fun i rest hw hq hb => ?_, fun hw hu => ?_⟩⟩
  · exact command_to hw (onChip_put_eq (seamArrives_active hf h3))
  · exact command_onChip_same hw (seamArrives_inactive h3)
  · exact command_onChip_same hw (egressDequeue_inactive h3)
  · exact command_to hw (onChip_put_eq (egressDequeue_nothing h3 hc))
  · exact command_to hw (onChip_put_eq (egressDequeue_picks h3 hc hm hi))
  · exact command_to hw (onChip_put_eq (combineWindow_closes he))
  · exact command_to hw (onChip_put_eq (combineHold_frees he hs))
  · exact command_to hw (onChip_put_eq (hotspotDetected_above hp hq hh))
  · exact command_to hw (onChip_put_eq (pacedRelease_releases he hq hb))
  · exact command_to hw (onChip_put_eq (ccNoSample_halves he hu))

end Sys2Proof.Machine
end

section
/-!
PROOF. Loads, reads, writes, combined adds and cancels at their target (R332, R343, R347, R350, R352, R356 to R358), and from these their
obligations.
-/
namespace Sys2Proof.Machine

/-! Loads and reads (R347). -/

section Load
variable {c : Chip} {h : FabHdr} {b : LoadBody} (he : h.enc = false) (hb : c.regionBad b.region b.offset 64 = false)
include hb

theorem rmaLoad_refused (hn : c.regionStatus h b.region b.offset 64 ≠ stOk) :
    rmaLoad c h b false = c.reply (c.regionMember b.region) h
      (.loadReply { status := c.regionStatus h b.region b.offset 64, data := [], rsvd := 0 }) := by
  simp only [rmaLoad, Chip.serveStatus, hb, hn, Bool.or_self, Bool.false_eq_true, and_self, if_false]

include he

theorem rmaLoad_ok (hok : c.regionStatus h b.region b.offset 64 = stOk) :
    rmaLoad c h b false = c.served.reply (c.regionMember b.region) h
      (.loadReply { status := stOk, data := memReadBytes (c.tier (c.region b.region).tier) ((c.region b.region).base + b.offset) 64,
                    rsvd := 0 }) := by
  simp only [rmaLoad, Chip.serveStatus, hb, hok, Bool.or_self, Bool.false_eq_true, and_false, if_false, if_true, Chip.dataReply, he,
    Chip.regionRead]

end Load

section Read
variable {c : Chip} {h : FabHdr} {b : ReadBody} (he : h.enc = false) (h0 : 0 < b.length) (hl : b.length ≤ 16711680)
  (hb : c.regionBad b.region b.offset b.length = false)
include he h0 hl hb

theorem rmaRead_ok (hok : c.regionStatus h b.region b.offset b.length = stOk) :
    rmaRead c h b false = c.served.sendReadData (c.regionMember b.region) h b.readTag
      (memReadBytes (c.tier (c.region b.region).tier) ((c.region b.region).base + b.offset) b.length) := by
  simp [rmaRead, Chip.serveStatus, he, hb, hok, Nat.ne_of_gt h0, Nat.not_lt.mpr hl, Chip.regionRead]

/-- A refused read is an answer. -/
theorem rmaRead_refused (hn : c.regionStatus h b.region b.offset b.length ≠ stOk) :
    rmaRead c h b false = c.reply (c.regionMember b.region) h (.readData
      { status := c.regionStatus h b.region b.offset b.length, pktIndex := 0, readTag := b.readTag, dataOffset := 0, data := [], rsvd := 0 }) := by
  simp [rmaRead, Chip.serveStatus, he, hb, hn, Nat.ne_of_gt h0, Nat.not_lt.mpr hl]

end Read

/-- Settles O39: a load and a read by the status of their region. -/
theorem loadsAndReadsAnswerTheBytes : Obligations.LoadsAndReadsAnswerTheBytes := by
  refine ⟨fun s h b hw ha he hb => ⟨fun hok => ?_, fun hn => ?_⟩, fun s h b hw ha he h0 hl hb => ⟨fun hok => ?_, fun hn => ?_⟩⟩
  · exact command_to hw (onFab_arrives ha (rmaLoad_ok he hb hok))
  · exact command_to hw (onFab_arrives ha (rmaLoad_refused hb hn))
  · exact command_to hw (onFab_arrives ha (rmaRead_ok he h0 hl hb hok))
  · exact ⟨_, command_to hw (onFab_arrives ha (rmaRead_refused he h0 hl hb hn)),
      (Chip.reply_seam _ _ _ _).work.trans (got_seam s h (.read b)).work⟩

/-! Writes (R357, R358). -/

/-- R357: a packet that is its whole message needs no context. -/
theorem reassemble_single {c : Chip} {h : FabHdr} {idx low data st : Nat} (hx : c.ctx? h.src h.msgId = none) (hl : h.payLen = h.totalLen) :
    c.reassemble h idx low data st [] = .whole
      { src := h.src, msgId := h.msgId, kind := h.pktType, region := 0, buf := [], bits := 2 ^ idx, count := h.payLen, first := st,
        low := low, bytes := data } := by
  simp [Chip.reassemble, hx, hl]

/-- R358: a packet that its message has is a duplicate. -/
theorem reassemble_seen {c : Chip} {h : FabHdr} {idx low data st : Nat} {keep : List Byte} {x : RmaCtx} (hx : c.ctx? h.src h.msgId = some x)
    (hb : x.bits.testBit idx = true) : c.reassemble h idx low data st keep = .duplicate := by
  simp only [Chip.reassemble, hx, hb, if_true]

section Write
variable {c : Chip} {h : FabHdr} {b : WriteBody} (hi : b.pktIndex < 4096)
include hi

theorem rmaWrite_seen {x : RmaCtx} (hx : c.ctx? h.src h.msgId = some x) (hb : x.bits.testBit b.pktIndex = true) :
    rmaWrite c h b false = c.bump (Reg.rmaCnt 9) := by
  simp only [rmaWrite, Nat.not_le.mpr hi, if_false, reassemble_seen hx hb]

variable (hx : c.ctx? h.src h.msgId = none) (hl : h.payLen = h.totalLen)
include hx hl

theorem rmaWrite_single (hok : c.regionStatus h b.region b.dstOffset b.data.length = stOk) :
    rmaWrite c h b false = (c.regionWrite (c.region b.region) b.dstOffset b.data).writeDone h b (oneCtx h b stOk) := by
  simp [rmaWrite, Nat.not_le.mpr hi, reassemble_single hx hl, hok, oneCtx]

theorem rmaWrite_singleRefused (hn : c.regionStatus h b.region b.dstOffset b.data.length ≠ stOk)
    (hu : c.regionStatus h b.region b.dstOffset b.data.length ≠ stUncorrectable) :
    rmaWrite c h b false = c.writeDone h b (oneCtx h b (c.regionStatus h b.region b.dstOffset b.data.length)) := by
  simp [rmaWrite, Nat.not_le.mpr hi, reassemble_single hx hl, hn, hu, oneCtx]

end Write

/-! Combined adds, cancels and the answers of revocations (R332, R352, R356). -/

section Combined
variable {c : Chip} {h : FabHdr} {b : CombinedBody}

theorem rmaCombined_refused (hn : c.regionStatus h b.region b.offset 8 ≠ stOk) :
    rmaCombined c h b false = c.reply (c.regionMember b.region) h
      (.atomicCombinedReply { status := c.regionStatus h b.region b.offset 8, results := [], rsvd := 0 }) := by
  simp only [rmaCombined, hn, ne_eq, not_false_eq_true, if_true]

theorem rmaCombined_applied (hok : c.regionStatus h b.region b.offset 8 = stOk) (hf : c.freshTable = false)
    (hfl : (b.entries.filter (fun e => (c.replay? e.1 e.2.1).isNone)).any (fun e => c.belowFloor e.1 e.2.1) = false)
    (hroom : c.rma.replay.length + (b.entries.filter (fun e => (c.replay? e.1 e.2.1).isNone)).length ≤ 4096)
    (hb : c.regionBad b.region b.offset 8 = false) :
    rmaCombined c h b false =
      (let r := combinedApply c b.entries (BitVec.ofNat 64 (natOfLe (c.regionRead (c.region b.region) b.offset 8)))
       (((r.2.2.1.foldl (fun c e => c.record e) (c.regionWrite (c.region b.region) b.offset (leBytes r.1.toNat 8))).served).bumpBy
         (Reg.rmaCnt 4) r.2.2.2).reply (c.regionMember b.region) h
           (.atomicCombinedReply { status := stOk, results := r.2.1, rsvd := 0 })) := by
  simp only [rmaCombined, hok, ne_eq, not_true_eq_false, if_false, hf, hfl, Bool.or_self, Bool.false_eq_true, Nat.not_lt.mpr hroom, hb]

end Combined

section Cancel
variable {c : Chip} {h : FabHdr} {b : CancelBody}

theorem rmaCancel_room (hl : c.rma.cancels.length < 1024) :
    rmaCancel c h b = (c.recordCancel h.src b.cancelId).2.reply .device h
      (.cancelAck { status := stOk, cancelId := b.cancelId, rsvd := 0 }) := by
  simp only [rmaCancel, hl, or_true, if_true]

theorem rmaCancel_full (hl : 1024 ≤ c.rma.cancels.length) (hn : c.rma.cancels.contains (h.src, b.cancelId) = false) :
    rmaCancel c h b = c.reply .device h (.cancelAck { status := stBusy, cancelId := b.cancelId, rsvd := 0 }) := by
  simp only [rmaCancel, hn, Nat.not_lt.mpr hl, Bool.false_eq_true, or_self, if_false]

end Cancel

/-- Settles O41: a write by its context and status, a combined add by its checks, a cancel by the room in its table. -/
theorem writesCombinedAddsAndCancels : Obligations.WritesCombinedAddsAndCancels := by
  refine ⟨fun s h b hw ha => ?_, fun s h b hw ha => ?_, fun s h b hw ha => ?_, fun s h b hw ha => ?_⟩
  · intro c st hi
    refine ⟨fun hx hl hok => ?_, fun hx hl hn hu => ?_, fun x hx hb => ?_⟩
    · exact command_to hw (onFabFreeing_arrives ha (rmaWrite_single hi hx hl hok))
    · exact command_to hw (onFabFreeing_arrives ha (rmaWrite_singleRefused hi hx hl hn hu))
    · exact command_to hw (onFabFreeing_arrives ha (rmaWrite_seen hi hx hb))
  · exact ⟨fun hok hf hfl hroom hb => command_to hw (onFab_arrives ha (rmaCombined_applied hok hf hfl hroom hb)),
      fun hn => command_to hw (onFab_arrives ha (rmaCombined_refused hn))⟩
  · exact ⟨fun hl => command_to hw (onFab_arrives ha (rmaCancel_room hl)),
      fun hl hn => command_to hw (onFab_arrives ha (rmaCancel_full hl hn))⟩
  · exact command_to hw (onFab_arrives (f := fun c => rmaRevokeDone c) ha rfl)

end Sys2Proof.Machine
end

section
/-!
PROOF. Answers at the requester of remote operations, and the timers of remote operations (R330, R332, R347, R350 to R355, R358), and from
these their obligations.
-/
namespace Sys2Proof.Machine

/-! Answers at the requester (R347, R350, R352, R353, R355). -/

section PlainReply
variable {c : Chip} {id status : Nat} {k : OpKind} {data : List Byte}

theorem plainReply_pending {o : PendOp} (ho : c.op? id = some o) (hk : o.kind = k) : c.plainReply id k status data =
    c.endOp o status data := by
  simp only [Chip.plainReply, ho, hk, if_true]

variable (hn : c.op? id = none)
include hn

theorem plainReply_late (hc : k = .load ∨ c.cancelOf id = none) : c.plainReply id k status data = ([], c.bump (Reg.rmaCnt 8)) := by
  rcases hc with hc | hc
  · cases hx : c.cancelOf id <;> simp [Chip.plainReply, hn, hc, hx, Chip.lateReply, Option.filter]
  · simp [Chip.plainReply, hn, hc, Chip.lateReply]

theorem plainReply_cancelled {o : PendOp} (hk : k ≠ .load) (hc : c.cancelOf id = some o) :
    c.plainReply id k status data = ([], ((c.bump (Reg.rmaCnt 8)).dropOp o.msgId).settle o.grant false) := by
  simp [Chip.plainReply, hn, hc, hk, Chip.lateReply, Option.filter]

end PlainReply

theorem rmaLoadReply_plain {c : Chip} {h : FabHdr} {b : LoadReplyBody} (hc : c.combineFor h.msgId false = none) :
    rmaLoadReply c h b = c.plainReply h.msgId .load b.status b.data := by
  simp only [rmaLoadReply, hc]

/-- R347, R350: read data that is whole in one packet is placed and ends its operation. -/
theorem rmaReadData_single {c : Chip} {h : FabHdr} {b : ReadDataBody} {o : PendOp} (hi : b.pktIndex < 4096) (ho : readOp c h b = some o)
    (hs : b.status = stOk) (hx : c.ctx? h.src h.msgId = none) (hl : h.payLen = h.totalLen) (hfit : b.dataOffset + b.data.length ≤ o.length)
    (hown : o.owner ≠ .second) :
    rmaReadData c h b =
      ((c.regionWrite (c.region o.locReg) (o.locOff + b.dataOffset) b.data).dropCtx h.src h.msgId).endOp o stOk [] := by
  simp only [readOp] at ho
  have hsb : stOk ≠ stBusy := by decide
  simp [rmaReadData, Nat.not_le.mpr hi, ho, hs, hsb, reassemble_single hx hl, hfit, hown]

section AtomicReply
variable {c : Chip} {b : AtomicReplyBody} {o : PendOp} (ho : c.rma.ops.find? (fun o => o.kind == .atomic && o.seq == b.seq) = some o)
include ho

theorem rmaAtomicReply_ok (hs : b.status = stOk) (he : b.tgtEpoch = 0) :
    rmaAtomicReply c b = c.endOp o stOk (leBytes b.r0.toNat 8 ++ leBytes b.r1.toNat 8) := by
  have hsb : stOk ≠ stBusy := by decide
  have hsr : stOk ≠ stReset := by decide
  simp only [rmaAtomicReply, Chip.seqReply, ho, hs, he, hsb, hsr, ne_eq, not_true_eq_false, and_false, if_false]

theorem rmaAtomicReply_busy (hs : b.status = stBusy) (hb : o.busy < 16) : rmaAtomicReply c b = ([], c.setOp { o with hold := true }) := by
  simp only [rmaAtomicReply, Chip.seqReply, ho, hs, if_true, Chip.opBusy, hb]

end AtomicReply

theorem rmaCombinedReply_entry {c : Chip} {h : FabHdr} {b : CombinedReplyBody} {e : Combine} (he : c.combineFor h.msgId true = some e) :
    rmaCombinedReply c h b = (e.parts.zipIdx).foldl (fun c q => c.replyPart q.1 (.atomicReply
      { status := b.status, tgtEpoch := 0, seq := q.1.seq, r0 := b.results.getD q.2 0#64, r1 := 0#64, rsvd := 0 }))
        (c.freeCombine e.id) := by
  simp only [rmaCombinedReply, he]

theorem rmaCombinedReply_late {c : Chip} {h : FabHdr} {b : CombinedReplyBody} (he : c.combineFor h.msgId true = none) :
    rmaCombinedReply c h b = c.bump (Reg.rmaCnt 8) := by
  simp only [rmaCombinedReply, he, Chip.lateReply]

theorem cancelReply_settles {c : Chip} {id status : Nat} {o : PendOp}
    (ho : c.rma.ops.find? (fun o => o.kind == .cancel && o.body == .cancel { cancelId := id, rsvd := 0 }) = some o) (hs : status ≠ stBusy) :
    c.cancelReply id status = (c.dropOp o.msgId).settle o.grant false := by
  simp only [Chip.cancelReply, Chip.cancelOf, ho, hs, if_false]

/-- Operations that end with nothing to tell change nothing more. -/
theorem finishOps_of_none {r : List OpEnd × Chip} {c : Chip} (h : r = ([], c)) : Chip.finishOps r = c := by
  rw [h]; rfl

/-- Settles O42: each answer by the operation that it finds. -/
theorem requesterTakesAnswers : Obligations.RequesterTakesAnswers := by
  refine ⟨fun s h b hw ha hc => ⟨fun o ho hk => ?_, fun hn => ?_⟩,
    fun s h b => ⟨fun hw ha => ⟨fun o ho hk => ?_, fun hn hc => ?_, fun o hn hc => ?_⟩, fun hw ha o ho hk => ?_⟩,
    fun s h b o hw ha hi ho hs hx hl hfit hown => ?_, fun s h b o hw ha ho => ⟨fun hs he => ?_, fun hs hb => ?_⟩,
    fun s h b hw ha => ⟨fun e he => ?_, fun he => ?_⟩, fun s h b o hw ha ho hs => ?_⟩
  · exact command_to hw (onFab_arrives ha (congrArg Chip.finishOps ((rmaLoadReply_plain hc).trans (plainReply_pending ho hk))))
  · exact command_to hw (onFab_arrives ha (finishOps_of_none ((rmaLoadReply_plain hc).trans (plainReply_late hn (Or.inl rfl)))))
  · exact command_to hw (onFab_arrives ha (congrArg Chip.finishOps (plainReply_pending ho hk)))
  · exact command_to hw (onFab_arrives ha (finishOps_of_none (plainReply_late hn (Or.inr hc))))
  · exact command_to hw (onFab_arrives ha (finishOps_of_none (plainReply_cancelled hn (by decide) hc)))
  · exact command_to hw (onFabFreeing_arrives ha (congrArg Chip.finishOps (plainReply_pending ho hk)))
  · exact command_to hw (onFabFreeing_arrives ha (congrArg Chip.finishOps (rmaReadData_single hi ho hs hx hl hfit hown)))
  · exact command_to hw (onFab_arrives ha (congrArg Chip.finishOps (rmaAtomicReply_ok ho hs he)))
  · exact command_to hw (onFab_arrives ha (finishOps_of_none (rmaAtomicReply_busy ho hs hb)))
  · exact command_to hw (onFab_arrives ha (rmaCombinedReply_entry he))
  · exact command_to hw (onFab_arrives ha (rmaCombinedReply_late he))
  · exact command_to hw (onFab_arrives ha (cancelReply_settles ho hs))

/-! The timers (R351 to R354, R358). -/

section OpTimer
variable {c : Chip} {id : Nat} {o : PendOp} (ho : c.op? id = some o)
include ho

theorem opTimer_expires {kinds : List OpKind} (hh : o.hold = false) (hk : kinds.contains o.kind = true) :
    opTimer c kinds id = Chip.finishOps (c.opTimeout o) := by
  simp only [opTimer, ho, hk, hh, Bool.not_false, Bool.and_self, if_true]

theorem busyBackoff_held (hh : o.hold = true) :
    busyBackoff c id =
      (let d := if o.kind = .atomic ∨ o.kind = .scatter then c.bump (Reg.rmaCnt 3) else c
       (d.setOp { o with hold := false, busy := o.busy + 1 }).sendOp { o with hold := false, busy := o.busy + 1 }) := by
  simp only [busyBackoff, ho, Chip.opBackoff, hh, if_true]

theorem busyBackoff_notHeld (hh : o.hold = false) : busyBackoff c id = c := by
  simp only [busyBackoff, ho, Chip.opBackoff, hh, Bool.false_eq_true, if_false]

end OpTimer

section Timeout
variable {c : Chip} {o : PendOp}

theorem opTimeout_loadAgain (hk : o.kind = .load) (hs : o.sends < c.tries) :
    c.opTimeout o = ([], (c.setOp { o with sends := o.sends + 1 }).sendOp { o with sends := o.sends + 1 }) := by
  simp only [Chip.opTimeout, hk, hs, if_true]

theorem opTimeout_loadEnds (hk : o.kind = .load) (hs : c.tries ≤ o.sends) : c.opTimeout o = c.endOp o stTimeout [] := by
  simp only [Chip.opTimeout, hk, Nat.not_lt.mpr hs, if_false]

theorem opTimeout_atomicEnds (hk : o.kind = .atomic) (hs : c.tries ≤ o.sends) : c.opTimeout o = c.outcomeUnknown o := by
  simp only [Chip.opTimeout, hk, Nat.not_lt.mpr hs, if_false]

theorem opTimeout_cancels (hk : o.kind = .store ∨ o.kind = .write) : c.opTimeout o = c.cancelOp o stTimeout := by
  rcases hk with hk | hk <;> simp only [Chip.opTimeout, hk]

end Timeout

theorem replayHold_first {c : Chip} {req seq : Nat} {e : ReplayEnt} (he : c.replay? req seq = some e)
    (hf : c.rma.floors.find? (fun f => f.1 == req) = none) :
    replayHold c req seq =
      (let left := dropWhere (fun e => e.req == req && e.seq == seq) c.rma.replay
       let floors := dropWhere (fun f => f.1 == req) c.rma.floors ++ [(req, seq, c.time)]
       { c with rma := { c.rma with replay := left, floors := floors } }) := by
  simp only [replayHold, he, hf, Option.map_none, Bool.false_eq_true, if_false]

theorem reassemblyLimit_incomplete {c : Chip} {src id : Nat} {x : RmaCtx} (hx : c.ctx? src id = some x) :
    reassemblyLimit c src id =
      (let d := ((c.recordCancel src id).2.bump (Reg.rmaCnt 10)).log { code := 0x0E04, refKind := 2, ref := src * 2 ^ 48, param1 := id }
       if x.kind = 0x20 then
         answerFuel 2 d src 0 (.nack { status := stBusy, droppedType := 0x20, msgId := id, msgOffset := 0, rsvd := 0 })
       else d) := by
  simp only [reassemblyLimit, hx]

/-- Settles O43: each timer by the operation, entry, context or record that it finds. -/
theorem rmaTimers : Obligations.RmaTimers := by
  refine ⟨fun s id o ho hh => ⟨fun hw hk hs => ?_, fun hw hk hs => ?_, fun hw hk hs => ?_, fun hw hk => ?_, fun hw hk => ?_⟩,
    fun s id o hw ho => ⟨fun hh => ?_, fun hh => ?_⟩, fun s req seq e hw he hf => ?_, fun s req hw => ?_, fun s src id x hw hx => ?_,
    fun s src id hw => ?_, fun id req seq src => ?_⟩
  · exact command_to hw (freeing_put_eq ((opTimer_expires ho hh (by rw [hk]; decide)).trans (finishOps_of_none
      (opTimeout_loadAgain hk hs))))
  · exact command_to hw (freeing_put_eq ((opTimer_expires ho hh (by rw [hk]; decide)).trans
      (congrArg Chip.finishOps (opTimeout_loadEnds hk hs))))
  · exact command_to hw (freeing_put_eq ((opTimer_expires ho hh (by rw [hk]; decide)).trans
      (congrArg Chip.finishOps (opTimeout_atomicEnds hk hs))))
  · exact command_to hw (freeing_put_eq ((opTimer_expires ho hh (by rw [hk]; decide)).trans
      (congrArg Chip.finishOps (opTimeout_cancels (Or.inl hk)))))
  · exact command_to hw (freeing_put_eq ((opTimer_expires ho hh (by rw [hk]; decide)).trans
      (congrArg Chip.finishOps (opTimeout_cancels (Or.inr hk)))))
  · exact command_to hw (freeing_put_eq (busyBackoff_held ho hh))
  · exact command_to hw (freeing_put_eq (busyBackoff_notHeld ho hh))
  · exact command_to hw (onChip_put_eq (replayHold_first he hf))
  · exact command_to hw (onChip_put_eq (f := fun c => floorDiscard c req) rfl)
  · exact command_to hw (onChip_put_eq (reassemblyLimit_incomplete hx))
  · exact command_to hw (onChip_put_eq (f := fun c => cancelHold c src id) rfl)
  · exact ⟨completes_of_chip rfl, completes_of_chip rfl, completes_of_chip rfl, completes_of_chip rfl, completes_of_chip rfl,
      completes_of_chip rfl, completes_of_chip rfl, completes_of_chip rfl⟩

end Sys2Proof.Machine
end

section
/-!
PROOF. Grants, work request lists and payload keys (R344, R356, R359 to R362), and from these their obligation.
-/
namespace Sys2Proof.Machine

/-! The tables of the remote memory block. -/

section Tables
variable {s : State} {acc : Accessor} {v : W64} {c : Chip} (ho : s.chip.writeOpen = true)
include ho

theorem writing_grant {g : Nat} (hg : g < 4096) (hc : (grantWordWrite s.chip acc g 0 v).2 = c) :
    writing acc (Reg.rmaGrant g 0) v s = (s.put c).settled := by
  have hoff : Reg.rmaGrant g 0 = 0xE10000 + 16 * g := by simp only [Reg.rmaGrant]; omega
  have hx : (rmaBlockWrite s.chip acc (Reg.rmaGrant g 0) v).2 = c := by
    simp only [rmaBlockWrite, show ¬ Reg.rmaGrant g 0 < 0xE10000 by omega, show Reg.rmaGrant g 0 < 0xE20000 by omega, if_false, if_true,
      show (Reg.rmaGrant g 0 - 0xE10000) / 16 = g by omega, show (Reg.rmaGrant g 0 / 8) % 2 = 0 by omega, hc]
  exact writing_of (registerWrite_rma ho (Or.inl (regAccess_rmaTables _ (by omega) (by omega) (by omega))) (by omega) (by omega) hx)

theorem writing_listHdr {l : Nat} (hl : l < 4096) (hc : (listHdrWrite s.chip acc l 0 v).2 = c) :
    writing acc (Reg.rmaWlHdr l 0) v s = (s.put c).settled := by
  have hoff : Reg.rmaWlHdr l 0 = 0xE20000 + 16 * l := by simp only [Reg.rmaWlHdr]; omega
  have hx : (rmaBlockWrite s.chip acc (Reg.rmaWlHdr l 0) v).2 = c := by
    simp only [rmaBlockWrite, show ¬ Reg.rmaWlHdr l 0 < 0xE10000 by omega, show ¬ Reg.rmaWlHdr l 0 < 0xE20000 by omega,
      show Reg.rmaWlHdr l 0 < 0xE30000 by omega, if_false, if_true,
      show (Reg.rmaWlHdr l 0 - 0xE20000) / 16 = l by omega, show (Reg.rmaWlHdr l 0 / 8) % 2 = 0 by omega, hc]
  exact writing_of (registerWrite_rma ho (Or.inl (regAccess_rmaTables _ (by omega) (by omega) (by omega))) (by omega) (by omega) hx)

end Tables

/-! Grants (R344, R356). -/

/-- The device that a revocation by an accessor names. -/
def revoker (c : Chip) (acc : Accessor) : Nat := match acc with | .manager => c.mgrDevice | _ => c.deviceId

section GrantWrite
variable {c : Chip} {acc : Accessor} {g : Nat} {v : W64} (ha : acc = .manager ∨ c.accOwner acc = true)
include ha

/-- The owner and the manager write a grant's word. -/
theorem grantWordWrite_written : grantWordWrite c acc g 0 v = grantWrite c g v (revoker c acc) := by
  cases acc with
  | manager => rfl
  | port p => simp [grantWordWrite, guardW, ha.resolve_left (by simp), revoker]
  | regInit => simp [grantWordWrite, guardW, ha.resolve_left (by simp), revoker]

theorem grantWordWrite_refused (hn : c.grantAccepts g v = false) :
    (grantWordWrite c acc g 0 v).2 = c.log (refused 0x0E01 (Reg.rmaGrant g 0)) := by
  simp only [grantWordWrite_written ha, grantWrite, hn, Bool.false_eq_true, if_false]

variable (hy : c.grantAccepts g v = true)
include hy

theorem grantWordWrite_stored (h2 : fieldOf v 63 62 ≠ 2) : (grantWordWrite c acc g 0 v).2 = c.setReg (Reg.rmaGrant g 0) (grantMask v) := by
  simp only [grantWordWrite_written ha, grantWrite, hy, if_true, h2, if_false]

theorem grantWordWrite_revokes (h2 : fieldOf v 63 62 = 2) :
    (grantWordWrite c acc g 0 v).2 =
      ((c.setReg (Reg.rmaGrant g 0) (grantMask v)).setFld (Reg.rmaGrant g 1) 15 0 (revoker c acc)).revokeDone g := by
  simp only [grantWordWrite_written ha, grantWrite, hy, if_true, h2]

end GrantWrite

/-- The state field of a word with its state put. -/
theorem fieldOf_state (v : W64) (n : Nat) : fieldOf (putField v 63 62 n) 63 62 = n % 4 := fieldOf_putField_same v 63 62 n (by decide)
    (by decide)

/-! Work request lists (R359, R361). -/

section Lists
variable {c : Chip} {port l : Nat} {v : W64} (hp : c.isOwner port = true) (hr : c.wlReserved l = false)
include hp hr

theorem listHdrWrite_arms (hs : c.fld (Reg.rmaWlHdr l 0) 63 62 ≠ 1) :
    (listHdrWrite c (.port port) l 0 (putField v 63 62 1)).2 =
      ((c.setFlds (Reg.rmaWlHdr l 0) [(61, 58, fieldOf v 61 58), (57, 51, clampN 1 64 (fieldOf v 57 51))]).setFlds (Reg.rmaWlHdr l 0)
        [(63, 62, 1), (50, 44, 0)]).wlTasks [.run l] := by
  have hst := fieldOf_state v 1
  have hpart : fieldOf (putField v 63 62 1) 61 58 = fieldOf v 61 58 := fieldOf_putField_other _ _ _ _ _ _ (by decide) (by decide)
    (by decide)
  have hlen : fieldOf (putField v 63 62 1) 57 51 = fieldOf v 57 51 := fieldOf_putField_other _ _ _ _ _ _ (by decide) (by decide) (by decide)
  have harmed : (c.fld (Reg.rmaWlHdr l 0) 63 62 == 1) = false := by simpa using hs
  simp only [listHdrWrite, wlHdrWrite, Chip.accOwner_port hp, hr, harmed, hst, hpart, hlen, Bool.not_false, Bool.and_self, Bool.true_or,
    Bool.not_true, Bool.false_eq_true, Bool.false_and, Bool.or_self, if_false, if_true, Nat.reduceMod, Nat.zero_ne_one]

theorem listHdrWrite_stops (hs : c.fld (Reg.rmaWlHdr l 0) 63 62 = 1) :
    (listHdrWrite c (.port port) l 0 (putField v 63 62 0)).2 = c.setFld (Reg.rmaWlHdr l 0) 63 62 0 := by
  have hst := fieldOf_state v 0
  simp [listHdrWrite, wlHdrWrite, Chip.accOwner_port hp, hr, hs, hst]

end Lists

theorem rmaBlockWrite_advance {c : Chip} {port : Nat} {v : W64} (hp : c.isOwner port = true) (hb : bitOf v 63 = true) :
    (rmaBlockWrite c (.port port) Reg.rmaWlAdvance v).2 = c.wlAdvance (fieldOf v 11 0) (fieldOf v 47 16) := by
  simp only [rmaBlockWrite, show ¬ Reg.rmaWlAdvance < 0xE10000 by decide, show ¬ Reg.rmaWlAdvance < 0xE20000 by decide,
    show ¬ Reg.rmaWlAdvance < 0xE30000 by decide, show ¬ Reg.rmaWlAdvance < 0xE31000 by decide,
      show Reg.rmaWlAdvance ≠ Reg.rmaTimers by decide,
    show Reg.rmaWlAdvance ≠ Reg.rmaWlSelect by decide, if_false, if_true, guardW, Chip.accOwner_port hp, wlAdvanceWrite, hb]

/-! Keys (R362). -/

theorem rmaBlockWrite_keySel {c : Chip} {port : Nat} {v : W64} (hp : c.isOwner port = true) :
    (rmaBlockWrite c (.port port) Reg.rmaKeySel v).2 = c.keySelect v := by
  simp only [rmaBlockWrite, show ¬ Reg.rmaKeySel < 0xE10000 by decide, show ¬ Reg.rmaKeySel < 0xE20000 by decide,
    show ¬ Reg.rmaKeySel < 0xE30000 by decide, show ¬ Reg.rmaKeySel < 0xE31000 by decide, show Reg.rmaKeySel ≠ Reg.rmaTimers by decide,
    show Reg.rmaKeySel ≠ Reg.rmaWlSelect by decide, show Reg.rmaKeySel ≠ Reg.rmaWlAdvance by decide, if_false, if_true, guardW,
    Chip.accOwner_port hp]

/-- The owner's write of the key selector. -/
theorem registerWrite_keySel {s : State} {port : Nat} {v : W64} {c : Chip} (ho : s.chip.writeOpen = true) (hp : s.chip.isOwner port = true)
    (hc : s.chip.keySelect v = c) : registerWrite s (.port port) Reg.rmaKeySel v false = s.put c :=
  registerWrite_rma ho (Or.inr regAccess_rmaKeySel) (by decide) (by decide) ((rmaBlockWrite_keySel hp).trans hc)

theorem keySelect_installs (c : Chip) (v : W64) : c.keySelect (putField v 63 63 1) = c.keyInstall (fieldOf v 3 0) (fieldOf v 11 4) := by
  simp [Chip.keySelect, bitOf_putField_same, fieldOf_putField_other]

theorem keySelect_erases (c : Chip) (v : W64) : c.keySelect (putField v 63 62 1) =
    { c with rma := { c.rma with keys := dropWhere (fun k => k.part == fieldOf v 3 0 && k.epoch == fieldOf v 11 4) c.rma.keys } } := by
  have h63 : bitOf (putField v 63 62 1) 63 = false := by rw [bitOf, putField_testBit _ _ _ _ _ (by decide) (by decide)]; rfl
  have h62 : bitOf (putField v 63 62 1) 62 = true := by rw [bitOf, putField_testBit _ _ _ _ _ (by decide) (by decide)]; rfl
  simp [Chip.keySelect, h63, h62, fieldOf_putField_other]

/-- Settles O44: a grant's write by its state and what the grant accepts, a list's by whether it is armed, a key's by its bit. -/
theorem grantsListsAndKeys : Obligations.GrantsListsAndKeys := by
  refine ⟨fun s acc g ho ha => ⟨fun v hw => ⟨fun hy => ?_, fun hn => ?_⟩, fun hw hy => ?_, fun hw hy => ?_⟩,
    fun s port l v hop hr => ⟨fun hw hs => ?_, fun hw hs => ?_⟩, fun s port v hop => ⟨fun hw hb => ?_, fun hw => ?_, fun hw => ?_⟩⟩
  · exact command_to hw (writing_grant ho (port_lt_of_wf hw) (grantWordWrite_stored ha hy (by rw [fieldOf_state]; decide)))
  · exact command_to hw (writing_grant ho (port_lt_of_wf hw) (grantWordWrite_refused ha hn))
  · have hst : fieldOf (grantWord s g 2) 63 62 = 2 := fieldOf_state _ 2
    unfold exec
    exact command_to hw ((writing_grant ho (port_lt_of_wf hw) (grantWordWrite_revokes ha hy hst)).trans (by cases acc <;> rfl))
  · unfold exec
    exact command_to hw (writing_grant ho (port_lt_of_wf hw) (grantWordWrite_stored ha hy (by rw [grantWord, fieldOf_state]; decide)))
  · exact command_to hw (writing_listHdr hop.1 (port_lt_of_wf hw) (listHdrWrite_arms hop.2 hr hs))
  · exact command_to hw (writing_listHdr hop.1 (port_lt_of_wf hw) (listHdrWrite_stops hop.2 hr hs))
  · exact command_to hw (writing_of (registerWrite_rma hop.1 (Or.inr regAccess_rmaWlAdvance) (by decide) (by decide)
      (rmaBlockWrite_advance hop.2 hb)))
  · unfold exec
    exact command_to hw (registerWrite_keySel hop.1 hop.2 (keySelect_installs _ v))
  · unfold exec
    exact command_to hw (registerWrite_keySel hop.1 hop.2 (keySelect_erases _ v))

end Sys2Proof.Machine
end

section
/-!
PROOF. Embedding packets between devices, and row migrations at both ends (R282, R285, R289, R290, R293 to R296, R319), and from these their
obligations.
-/
namespace Sys2Proof.Machine

/-! Reads at the home (R289). -/

section EmbRead
variable {c : Chip} {h : FabHdr} {b : EmbReadBody} {te : Bool} (he : h.enc = false)
include he

theorem embRead_offline (hu : c.domUp 6 = false) : embRead c h b te = rowsAnswer c h b stOffline [] := by
  simp only [embRead, hu, Bool.not_false, if_true, Chip.dataReply, he, Bool.false_eq_true, if_false, rowsAnswer]

variable (hu : c.domUp 6 = true)
include hu

theorem embRead_retired (hv : c.ver b.table b.version = none) : embRead c h b te = rowsAnswer c h b stTableRetired [] := by
  simp only [embRead, hu, Bool.not_true, Bool.false_eq_true, if_false, hv, Chip.dataReply, he, rowsAnswer]

/-- A read none of whose rows migrates is answered with them. -/
theorem embRead_rows {v : TableVer} (hv : c.ver b.table b.version = some v) (hn : b.rows ≠ [])
    (hl : b.rows.length ≤ rowsPerRead v.fmt v.width) (hm : ∀ row ∈ b.rows, c.migFor b.table b.version row = none) :
    embRead c h b te = rowsAnswer (readRows c b v te).2.2 h b (readRows c b v te).1 (readRows c b v te).2.1 := by
  have hform : (b.rows.isEmpty || decide (rowsPerRead v.fmt v.width < b.rows.length)) = false := by
    simp [hn, Nat.not_lt.mpr hl]
  have hrecs : ((b.rows.map (fun row => c.migFor b.table b.version row)).map (fun r => r.bind (fun r =>
      if r.state = 3 ∨ r.state = 4 then some r else none))).filterMap id = [] := by
    rw [List.filterMap_eq_nil_iff]
    simp only [List.map_map, List.mem_map]
    rintro _ ⟨row, hrow, rfl⟩
    simp [hm row hrow]
  simp only [embRead, hu, Bool.not_true, Bool.false_eq_true, if_false, hv, hform, hrecs, Chip.dataReply, he, rowsAnswer]
  rfl

end EmbRead

/-! Scatter adds (R285, R319). -/

section Scatter
variable {c : Chip} {h : FabHdr} {b : EmbScatterBody} {te : Bool}

theorem embScatter_single (hl : h.payLen = h.totalLen) : embScatter c h b te = c.scatterArrives h b te := by
  simp only [embScatter, hl, if_true]

theorem embScatter_more {x : RmaCtx} (hl : h.payLen ≠ h.totalLen) (hr : scatterJoins c h b = .more x) : embScatter c h b te =
    c.setCtx x := by
  simp only [scatterJoins] at hr
  simp only [embScatter, hl, if_false, hr]

theorem embScatter_whole {x : RmaCtx} (hl : h.payLen ≠ h.totalLen) (hr : scatterJoins c h b = .whole x) :
    embScatter c h b te = (c.dropCtx h.src h.msgId).scatterArrives h (scatterOf (ctxBody x)) te := by
  simp only [scatterJoins] at hr
  simp only [embScatter, hl, if_false, hr]

variable {v : TableVer} (hu : c.domUp 6 = true) (hv : c.ver b.table b.version = some v) (hw : b.delta.length = v.width)
include hu hv hw

theorem scatterArrives_home (hm : c.migFor b.table b.version b.row = none) : c.scatterArrives h b te = c.homeScatter h b te := by
  simp only [Chip.scatterArrives, hu, Bool.not_true, Bool.false_eq_true, if_false, hv, hw, ne_eq, not_true_eq_false, hm]

theorem scatterArrives_locked {r : MigOut} (hm : c.migFor b.table b.version b.row = some r) (h2 : r.state = 2) :
    c.scatterArrives h b te = c.onEmb (fun e =>
      { e with out := updWhere (fun x => x.id == r.id) (fun x => { x with queue := x.queue ++ [.pkt ⟨h, .embScatter b⟩] }) e.out }) := by
  simp only [Chip.scatterArrives, hu, Bool.not_true, Bool.false_eq_true, if_false, hv, hw, ne_eq, not_true_eq_false, hm, h2, if_true]

end Scatter

/-! Answers at the requester (R282, R285, R290, R296). -/

theorem embRows_whole {c : Chip} {h : FabHdr} {b : EmbRowsBody} {o : PendOp} {q : EmbReadBody} {v : TableVer} (ho : c.op? h.msgId = some o)
    (hb : o.body = .embRead q) (hs : statusOf b.status = stOk) (hv : c.ver q.table q.version = some v) (hn : b.rows.length = q.rows.length)
    (hl : ∀ r ∈ b.rows, r.length = rowReplyBytes v.fmt v.width) : embRows c h b = c.endOp o stOk b.rows.flatten := by
  have hall : b.rows.all (fun r => r.length == rowReplyBytes v.fmt v.width) = true := by simpa using hl
  simp only [embRows, ho, hb, hs, hv, hn, hall, Option.map_some, Option.getD_some, ne_eq, not_true_eq_false, if_false, and_self, if_true]

theorem embScatterAck_ends {c : Chip} {b : EmbScatterAckBody} {o : PendOp}
    (ho : c.rma.ops.find? (fun o => o.kind == .scatter && o.seq == b.seq) = some o) (hb : statusOf b.status ≠ stBusy)
    (hr : statusOf b.status ≠ stReset) : embScatterAck c b = c.endOp o (statusOf b.status) [] := by
  simp only [embScatterAck, ho, hb, hr, if_false]

section Redirects
variable {c : Chip} {h : FabHdr} {b : EmbRedirectBody}

theorem embRedirect_learns (hs : statusOf b.status ≠ stStaleMap) : embRedirect c h b = ([], learned c b) := by
  simp only [embRedirect, hs, ne_eq, not_false_eq_true, if_true, learned]

theorem embRedirect_retargets {o : PendOp} {d : EmbScatterBody} (hs : statusOf b.status = stStaleMap)
    (ho : (learned c b).op? h.msgId = some o) (hk : o.kind = .scatter) (hb : o.body = .embScatter d) :
    embRedirect c h b = (learned c b).retarget o b.newDevice b.newRegion := by
  simp only [learned] at ho
  simp only [embRedirect, hs, ne_eq, not_true_eq_false, if_false, ho, hb, hk, learned]

end Redirects

/-- Settles O45: a read by its version, a scatter add by its message and its range, an answer by its operation. -/
theorem embeddingPackets : Obligations.EmbeddingPackets := by
  refine ⟨fun s h b te hw ha he => ⟨fun hu => ?_, fun hu hv => ?_, fun v hu hv hn hl hm => ?_⟩,
    fun s h b te v hw ha => ⟨fun hu hv hd hl => ⟨fun hm => ?_, fun r hm h2 => ?_⟩, fun x hl hr => ?_, fun x hl hr => ?_⟩,
    fun s h b o q v hw ha ho hb hs hv hn hl => ?_, fun s h b o hw ha ho hb hr => ?_,
    fun s h b hw ha => ⟨fun hs => ?_, fun o d hs ho hk hb => ?_⟩⟩
  · exact command_to hw (onFab_arrives ha (embRead_offline he hu))
  · exact command_to hw (onFab_arrives ha (embRead_retired he hu hv))
  · exact command_to hw (onFab_arrives ha (embRead_rows he hu hv hn hl hm))
  · exact command_to hw (onFab_arrives ha ((embScatter_single hl).trans (scatterArrives_home hu hv hd hm)))
  · exact command_to hw (onFab_arrives ha ((embScatter_single hl).trans (scatterArrives_locked hu hv hd hm h2)))
  · exact command_to hw (onFab_arrives ha (embScatter_more hl hr))
  · exact command_to hw (onFab_arrives ha (embScatter_whole hl hr))
  · exact command_to hw (onFab_arrives ha (congrArg Chip.finishOps (embRows_whole ho hb hs hv hn hl)))
  · exact command_to hw (onFab_arrives ha (congrArg Chip.finishOps (embScatterAck_ends ho hb hr)))
  · exact command_to hw (onFab_arrives ha (finishOps_of_none (embRedirect_learns hs)))
  · exact command_to hw (onFab_arrives ha (congrArg Chip.finishOps (embRedirect_retargets hs ho hk hb)))

/-! Migrations (R293 to R296). -/

/-- The answer to an offer of a range (R293). -/
def offerAnswer (c : Chip) (h : FabHdr) (b : MigOfferBody) (st : Nat) : Chip :=
  (c.sendNew .device h.src 0 (.migReply { common := migCommon b.migId, status := st, rxRegion := 0, rxOffset := 0, rsvd := 0 })).2

/-- Whether a range that is offered is under way already (R293). -/
def rangeUnderWay (c : Chip) (b : MigOfferBody) : Bool :=
  c.emb.ins.any (fun r => r.table == b.table && r.version == b.version &&
    (covers r.first r.m b.firstRow || covers b.firstRow b.log2Rows r.first))

section Offer
variable {c : Chip} {h : FabHdr} {b : MigOfferBody}

theorem migOffer_retired (hv : c.ver b.table b.version = none) : migOffer c h b = offerAnswer c h b stTableRetired := by
  simp [migOffer, hv, offerAnswer, stTableRetired, stOk]

variable (hv : c.ver b.table b.version ≠ none)
include hv

theorem migOffer_busy (hb : c.domUp 6 = false ∨ rangeUnderWay c b = true) : migOffer c h b = offerAnswer c h b stBusy := by
  simp only [rangeUnderWay] at hb
  have hst : (!c.domUp 6 || c.emb.ins.any (fun r => r.table == b.table && r.version == b.version &&
      (covers r.first r.m b.firstRow || covers b.firstRow b.log2Rows r.first))) = true := by
    rcases hb with hb | hb <;> rw [hb]
    · rfl
    · exact Bool.or_true _
  have hsome : (c.ver b.table b.version).isNone = false := by simpa using Option.isSome_iff_ne_none.mpr hv
  have hne : stBusy ≠ stOk := by decide
  simp only [migOffer, hsome, Bool.false_eq_true, if_false, hst, if_true, hne, offerAnswer]

theorem migOffer_accepted (hu : c.domUp 6 = true) (hn : rangeUnderWay c b = false) :
    migOffer c h b = offerAnswer (c.onEmb (fun e => { e with ins := e.ins ++ [acceptedRange h b] })) h b stOk := by
  simp only [rangeUnderWay] at hn
  have hsome : (c.ver b.table b.version).isNone = false := by simpa using Option.isSome_iff_ne_none.mpr hv
  simp only [migOffer, hsome, Bool.false_eq_true, if_false, hu, Bool.not_true, Bool.false_or, hn, if_true, offerAnswer, acceptedRange]

end Offer

section MigReply
variable {c : Chip} {h : FabHdr} {b : MoveReplyBody} {r : MigOut} (hr : c.migOut? b.common.moveId = some r)
include hr

theorem migReply_written (hw : r.written = true) : migReply c h b = c := by
  simp only [migReply, hr, hw, true_or, or_true, if_true]

variable (hd : r.newDevice = h.src) (h1 : r.state = 1) (hw : r.written = false)
include hd h1 hw

theorem migReply_refused (hs : statusOf b.status ≠ stOk) : migReply c h b = c.migAborted r (statusOf b.status) false := by
  simp only [migReply, hr, hd, h1, hw, hs, ne_eq, not_true_eq_false, not_false_eq_true, Bool.false_eq_true, or_self, if_false, if_true]

theorem migReply_copies {v : TableVer} (hs : statusOf b.status = stOk) (hv : c.ver r.table r.version = some v)
    (hn : ((c.setMigOut { r with written := true }).migWrite { r with written := true } v (rangeRuns v r)).1 = none) :
    migReply c h b = ((c.setMigOut { r with written := true }).migWrite { r with written := true } v (rangeRuns v r)).2 := by
  rcases hx : (c.setMigOut { r with written := true }).migWrite { r with written := true } v (rangeRuns v r) with ⟨x, d⟩
  rw [hx] at hn
  cases hn
  have hopen : ¬(r.state ≠ 1 ∨ r.written = true ∨ r.newDevice ≠ h.src) := by simp [h1, hw, hd]
  have hok : ¬statusOf b.status ≠ stOk := fun hne => hne hs
  simp only [rangeRuns] at hx
  simp only [migReply, hr, hopen, hok, hv, if_false, hx]

end MigReply

section MigAck
variable {c : Chip} {h : FabHdr} {b : MoveAckBody} {r : MigOut} (hr : c.migOut? b.common.moveId = some r) (hd : r.newDevice = h.src)
include hr hd

theorem migAck_copied (h0 : b.phase = 0) (h1 : r.state = 1) (hw : r.written = true) : migAck c h b =
    c.setMigOut { r with copied := true } := by
  simp only [migAck, hr, hd, h0, h1, hw, ne_eq, not_true_eq_false, if_false, and_self, if_true]

variable (h0 : b.phase ≠ 0)
include h0

theorem migAck_flips (h2 : r.state = 2) (hb : c.migBytes r ≤ b.bytes) : migAck c h b = c.migFlip r := by
  simp only [migAck, hr, hd, h0, h2, hb, ne_eq, not_true_eq_false, if_false, if_true]

theorem migAck_short (h2 : r.state = 2) (hb : b.bytes < c.migBytes r) : migAck c h b = c := by
  simp only [migAck, hr, hd, h0, h2, Nat.not_le.mpr hb, ne_eq, not_true_eq_false, if_false, if_true]

theorem migAck_flipped (h3 : r.state = 3) :
    migAck c h b = (c.sendNew .device r.newDevice 0 (.migCommit { common := migCommon r.id, rsvd := 0 })).2 := by
  simp [migAck, hr, hd, h0, h3]

end MigAck

section NewHome
variable {c : Chip} {h : FabHdr}

theorem migCommit_ready {b : MoveBareBody} {r : MigIn} (hr : c.migIn? h.src b.common.moveId = some r) (h3 : r.state = 3) :
    migCommit c h b = c.migHome r := by
  simp only [migCommit, hr, h3, if_true]

theorem migCommit_notReady {b : MoveBareBody} {r : MigIn} (hr : c.migIn? h.src b.common.moveId = some r) (h3 : r.state ≠ 3) :
    migCommit c h b = c := by
  simp only [migCommit, hr, h3, if_false]

theorem migAbort_newHome {b : MoveAbortBody} {r : MigIn} (hr : c.migIn? h.src b.common.moveId = some r) :
    migAbort c h b = c.dropMigIn r := by
  simp only [migAbort, hr]

theorem migAbort_oldHome {b : MoveAbortBody} {r : MigOut} (hn : c.migIn? h.src b.common.moveId = none)
    (hr : c.migOut? b.common.moveId = some r) (h2 : r.state ≤ 2) (hd : r.newDevice = h.src) :
    migAbort c h b = c.migAborted r (statusOf b.status) false := by
  simp only [migAbort, hn, hr, h2, hd, and_self, if_true]

end NewHome

section Forwarding
variable {c : Chip} {id : Nat} {r : MigOut} (hr : c.migOut? id = some r)
include hr

theorem migForwarding_ends (h3 : r.state = 3) :
    migForwarding c id = (c.setMigOut { r with state := 4 }).migStatus r 4 0 (c.fld Reg.embMigrateStatus 31 0) := by
  simp only [migForwarding, hr, h3, if_true]

theorem migForwarding_other (h3 : r.state ≠ 3) : migForwarding c id = c := by
  simp only [migForwarding, hr, h3, if_false]

end Forwarding

/-- Settles O46: each packet and timer of a migration by the record that it finds. -/
theorem migration : Obligations.Migration := by
  refine ⟨fun s h b hw ha => ⟨fun hv => ?_, fun hv hb => ?_, fun hv hu hn => ?_⟩,
    fun s h b r hw ha hr hd => ⟨fun h1 hwr hs => ?_, fun v h1 hwr hs hv => ?_, fun hwr => ?_⟩,
    fun s h b r hw ha hr hd => ⟨fun h0 h1 hwr => ?_, fun h0 h2 hb => ?_, fun h0 h2 hb => ?_, fun h0 h3 => ?_⟩,
    fun s h b r hw ha hr => ⟨fun h3 => ?_, fun h3 => ?_⟩, fun s h b hw ha => ⟨fun r hr => ?_, fun r hn hr h2 hd => ?_⟩,
    fun s id r hw hr => ⟨fun h3 => ?_, fun h3 => ?_⟩⟩
  · exact command_to hw (onFab_arrives ha (migOffer_retired hv))
  · exact command_to hw (onFab_arrives ha (migOffer_busy hv hb))
  · exact command_to hw (onFab_arrives ha (migOffer_accepted hv hu hn))
  · exact command_to hw (onFab_arrives ha (migReply_refused hr hd h1 hwr hs))
  · exact fun hn => command_to hw (onFab_arrives ha (migReply_copies hr hd h1 hwr hs hv hn))
  · exact command_to hw (onFab_arrives ha (migReply_written hr hwr))
  · exact command_to hw (onFab_arrives ha (migAck_copied hr hd h0 h1 hwr))
  · exact command_to hw (onFab_arrives ha (migAck_flips hr hd h0 h2 hb))
  · exact command_to hw (onFab_arrives ha (migAck_short hr hd h0 h2 hb))
  · exact command_to hw (onFab_arrives ha (migAck_flipped hr hd h0 h3))
  · exact command_to hw (onFab_arrives ha (migCommit_ready hr h3))
  · exact command_to hw (onFab_arrives ha (migCommit_notReady hr h3))
  · exact command_to hw (onFab_arrives ha (migAbort_newHome hr))
  · exact command_to hw (onFab_arrives ha (migAbort_oldHome hn hr h2 hd))
  · exact command_to hw (onChip_put_eq (migForwarding_ends hr h3))
  · exact command_onChip_same hw (migForwarding_other hr h3)

end Sys2Proof.Machine
end

section
/-!
PROOF. Pooling, gather deadlines, replicas and the embedding period (R279, R282 to R284, R288, R291, R297, R298), and from these their
obligation.
-/
namespace Sys2Proof.Machine

/-! Bags (R279, R282 to R284). -/

section Pooling
variable {c : Chip} {id : Nat} {g : Gather} {b : BagIn} {rest : List BagIn} {v : TableVer} (hg : c.gather? id = some g)
  (hb : g.bags = b :: rest) (hv : c.ver g.table g.version = some v) (hs : g.started = true) (ha : g.asked = true) (hf : g.fail = none)
  (hm : g.missing b = [])
include hg hb hv hs ha hf hm

theorem bagPooled_empty (hi : b.idx = []) :
    bagPooled c id = (((((c.bump (Reg.embCnt 0)).bump (Reg.embCnt 11)).bumpBy (Reg.embCnt 12) 0).endBag g stOk (1 + 2 * bitN g.stale)
      (bagVector g b (List.replicate v.width f32Zero))).driveGathers g.part) := by
  simp only [bagPooled, hg, hb, hv, hs, ha, hf, hm, hi, bagVector]
  rfl

theorem bagPooled_rows (hi : b.idx ≠ []) :
    let r := poolBag v.fmt v.width (b.pool == 1) (if b.weighted then some b.weights else none) (bagOrder g b)
    bagPooled c id = ((((c.bump (Reg.embCnt 0)).bumpBy (Reg.embCnt 12) r.2).endBag g stOk (2 * bitN g.stale + 4 * bitN (r.2 != 0))
      (bagVector g b r.1)).driveGathers g.part) := by
  have hne : b.idx.isEmpty = false := by simp [hi]
  have hflag : bitN false = 0 := rfl
  simp only [bagPooled, hg, hb, hv, hs, ha, hf, hm, hne, bagVector, bagOrder, Option.isSome_none, List.isEmpty_nil, Bool.not_true,
    Bool.or_self, Bool.false_eq_true, if_false, hflag, Nat.zero_add]

end Pooling

/-! The deadline of a gather (R288). -/

/-- A partition that allows no stale reads gives none: the gather is late with the rows that it has. -/
theorem gatherDeadline_late {c : Chip} {id stall : Nat} {g : Gather} {b : BagIn} {rest : List BagIn} (hg : c.gather? id = some g)
    (hb : g.bags = b :: rest) (hs : g.started = true) (ha : g.asked = true) (hf : g.fail = none) (hl : g.late = false)
    (hd : g.deadline ≠ 0) (hm : g.missing b ≠ []) (hn : c.staleOk g.part = false) :
    gatherDeadline c id stall = (((c.setGather { g with late := true }).bumpBy (Reg.embCnt 6) (if g.join.isNone then stall else 0)).log
      { code := 0x0801, refKind := 3, ref := g.table, part := g.part }) := by
  have hrun : (!g.started || !g.asked || g.fail.isSome || g.late || g.deadline == 0 || (g.missing b).isEmpty) = false := by
    simp [hs, ha, hf, hl, hd, hm]
  have hopen : (g.missing b).isEmpty = false := by simp [hm]
  simp only [gatherDeadline, hg, hb, hrun, Bool.false_eq_true, if_false]
  rw [List.foldl_fixed' (a := ([], c))]
  · simp only [Gather.missing] at hopen
    simp only [Gather.missing, List.append_nil, List.isEmpty_nil, Bool.not_true, Bool.or_false, hopen, Bool.false_eq_true, if_false]
  · intro row
    simp only [hn, Bool.false_eq_true, if_false]

/-! Replicas (R291, R298) and the period (R290, R294, R297). -/

section Replicas
variable {c : Chip} {t v row : Nat} {r : Replica} (hr : c.replica? t v row = some r)
include hr

theorem replicaExpiry_drops :
    replicaExpiry c t v row = (c.onEmb (fun e => { e with replicas := dropWhere (fun x => x == r) e.replicas })).bump (Reg.embCnt 4) := by
  simp only [replicaExpiry, hr]

variable {tv : TableVer} (hv : c.ver t v = some tv) (hb : r.bytes ≠ none) (ha : r.asking = none)
include hv hb ha

theorem replicaRefresh_unused (hu : r.used = false) : replicaRefresh c t v row = c.dropReplicas (fun x => x == r) := by
  simp [replicaRefresh, hr, hv, hb, ha, hu]

theorem replicaRefresh_used (hu : r.used = true) {d : Chip}
    (hd : (c.setReplica { r with asking := some c.time }).askRows r.part (.refresh t v row) tv 0 [row] = ([], none, d)) :
    replicaRefresh c t v row = d := by
  have hidle : (r.bytes.isNone || r.asking.isSome) = false := by simp [Option.isNone_eq_false_iff.mpr
    (Option.isSome_iff_ne_none.mpr hb), ha]
  have hread : (!r.used) = false := by rw [hu]; rfl
  simp only [replicaRefresh, hr, hv, hidle, Bool.false_eq_true, if_false, hread, hd]

end Replicas

/-- The owner's write of a partition's replica space is the plain write of the word, then the room that it leaves (R298). -/
theorem embWrite_partCtrl {c : Chip} {port p : Nat} {v : W64} (ho : c.isOwner port = true) :
    (embWrite c (.port port) (Reg.embPartCtrl p) v).2 =
      (let d := c.setReg (Reg.embPartCtrl p) (rwWrite embPartFields (some 63) (c.reg (Reg.embPartCtrl p)) v)
       roomFor p 0 (c.emb.replicas.length + 1) d) := by
  have hne : Reg.embPartCtrl p ≠ Reg.embCtrl := by simp [Reg.embPartCtrl, Reg.embCtrl]; omega
  have hp : (Reg.embPartCtrl p - Reg.embPartCtrl 0) / 8 = p := by simp [Reg.embPartCtrl]
  simp only [embWrite, guardW, Chip.accOwner_port ho, if_true, hne, if_false, hp, replicaStore]
  rfl

/-- Settles O47: each timer by the gather or the replica that it finds. -/
theorem embeddingTimers : Obligations.EmbeddingTimers := by
  refine ⟨fun s id g b rest v hw hg hb hv hs ha hf hm => ⟨fun hi => ?_, fun hi => ?_⟩,
    fun s id stall g b rest hw hg hb hs ha hf hl hd hm hn => ?_,
    fun s t v row r tv hr hv => ⟨fun hw hb ha hu => ?_, fun hw hb ha hu c hc => ?_, fun hw => ?_⟩, fun s hw => ?_,
    fun s port p v hw ho => ?_, fun id stall t v row => ?_⟩
  · exact command_to hw (onChip_put_eq (bagPooled_empty hg hb hv hs ha hf hm hi))
  · exact command_to hw (onChip_put_eq (bagPooled_rows hg hb hv hs ha hf hm hi))
  · exact command_to hw (onChip_put_eq (gatherDeadline_late hg hb hs ha hf hl hd hm hn))
  · exact command_to hw (onChip_put_eq (replicaRefresh_unused hr hv hb ha hu))
  · exact command_to hw (onChip_put_eq (replicaRefresh_used hr hv hb ha hu hc))
  · exact command_to hw (onChip_put_eq (replicaExpiry_drops hr))
  · exact command_to (i := .embEpoch) hw (onChip_put_eq (f := fun c => embEpochTick c) rfl)
  · obtain ⟨hopen, hown⟩ := ho
    have hp : p < 16 := port_lt_of_wf hw
    unfold exec
    exact command_to hw (registerWrite_embedding hopen (Or.inl (regAccess_embPartCtrl p hp)) (by simp [Reg.embPartCtrl]; omega)
      (by simp [Reg.embPartCtrl]; omega) (embWrite_partCtrl hown))
  · exact ⟨completes_of_chip rfl, completes_of_chip rfl, completes_of_chip rfl, completes_of_chip rfl, completes_of_chip rfl,
      completes_of_chip rfl⟩

end Sys2Proof.Machine
end

section
/-!
PROOF. The commands of the boot unit: device states, images, calibration, fuses and flash units (R392, R404, R410 to R415, R417), and from
these their obligations.
-/
namespace Sys2Proof.Machine

/-! BOOT_CMD (R417). -/

theorem bootWrite_bootCmd {s t : State} {p : Nat} {w : W64} (ho : s.chip.isOwner p = true) (hgo : bitOf w 63 = true)
    (ht : s.bootCommand w = t) : (bootWrite s (.port p) Reg.bootCmd w).2 = t := by
  simp only [bootWrite, Chip.accOwner_port ho, Bool.not_true, Bool.false_eq_true, if_false, if_true, hgo, ht]

theorem registerWrite_bootCmd {s t : State} {p : Nat} {w : W64} (ho : OwnerPort s p) (hgo : bitOf w 63 = true)
    (ht : s.bootCommand w = t) : registerWrite s (.port p) Reg.bootCmd w false = t :=
  registerWrite_boot ho.1 (Or.inr regAccess_bootCmd) (by decide) (bootWrite_bootCmd ho.2 hgo ht)

theorem writing_bootCmd {s t : State} {p : Nat} {w : W64} (ho : OwnerPort s p) (hgo : bitOf w 63 = true) (ht : s.bootCommand w = t) :
    writing (.port p) Reg.bootCmd w s = t.settled :=
  writing_of (registerWrite_bootCmd ho hgo ht)

theorem bootWord_enter_go : ∀ k ∈ [1, 2, 3], bitOf (bootWord k []) 63 = true ∧ fieldOf (bootWord k []) 7 0 = k := by decide

theorem applyWord_fields {slot q w : Nat} (hs : slot < 2) :
    bitOf (applyWord false slot q w) 63 = true ∧ fieldOf (applyWord false slot q w) 7 0 = 4 ∧
      bitOf (applyWord false slot q w) 12 = false ∧ fieldOf (applyWord false slot q w) 13 13 = slot := by
  simp [applyWord, bootWord, wordOf, bitN, bitOf_putField_same, bitOf_putField_other, fieldOf_putField_same, fieldOf_putField_other,
    Nat.mod_eq_of_lt hs]

theorem slotWord_fields {slot q w : Nat} (hs : slot < 2) :
    bitOf (slotWord slot q w) 63 = true ∧ fieldOf (slotWord slot q w) 7 0 = 5 ∧ fieldOf (slotWord slot q w) 13 13 = slot := by
  simp [slotWord, bootWord, wordOf, bitOf_putField_same, bitOf_putField_other, fieldOf_putField_same, fieldOf_putField_other,
    Nat.mod_eq_of_lt hs]

theorem calWord_fields {kinds : Nat} (hk : kinds < 64) :
    bitOf (bootWord 6 [(25, 20, kinds)]) 63 = true ∧ fieldOf (bootWord 6 [(25, 20, kinds)]) 7 0 = 6 ∧
      fieldOf (bootWord 6 [(25, 20, kinds)]) 25 20 = kinds := by
  simp [bootWord, wordOf, bitOf_putField_same, bitOf_putField_other, fieldOf_putField_same, fieldOf_putField_other, Nat.mod_eq_of_lt hk]

/-! What a command is, by its number. -/

section Commands
variable {s : State} {w : W64} (hr : s.chip.boot.run = none)
include hr

theorem bootCommand_enter {k : Nat} (hk : fieldOf w 7 0 = k) (h1 : 1 ≤ k) (h3 : k ≤ 3) : s.bootCommand w = s.enterCmd k := by
  simp only [State.bootCommand, hr, Option.isSome_none, Bool.false_eq_true, if_false, hk, h1, h3, and_self, if_true]

theorem bootCommand_reads {k : Nat} (hk : fieldOf w 7 0 = k) (h : k = 4 ∨ k = 5) (hc : s.chip.readCheck w k = stOk) :
    s.bootCommand w = s.reading k w := by
  have h3 : ¬(1 ≤ k ∧ k ≤ 3) := by omega
  simp only [State.bootCommand, hr, Option.isSome_none, Bool.false_eq_true, if_false, hk, h3, h, if_true, hc]
  rfl

theorem bootCommand_refusesRead {k : Nat} (hk : fieldOf w 7 0 = k) (h : k = 4 ∨ k = 5) (hc : s.chip.readCheck w k ≠ stOk) :
    s.bootCommand w = s.put (s.chip.bootDone k (s.chip.readCheck w k)) := by
  have h3 : ¬(1 ≤ k ∧ k ≤ 3) := by omega
  simp only [State.bootCommand, hr, Option.isSome_none, Bool.false_eq_true, if_false, hk, h3, h, if_true, hc]
  rfl

theorem bootCommand_calSave (hk : fieldOf w 7 0 = 6) : s.bootCommand w = s.calSave w (fieldOf w 25 20) := by
  simp [State.bootCommand, hr, hk]

theorem bootCommand_calRestore (hk : fieldOf w 7 0 = 7) : s.bootCommand w = s.calRestore w := by
  simp [State.bootCommand, hr, hk]

theorem bootCommand_svnCommit (hk : fieldOf w 7 0 = 8) : s.bootCommand w = s.svnCommit w := by
  simp [State.bootCommand, hr, hk]

end Commands

/-! Device states (R392). -/

theorem Chip.devState_bootDone (c : Chip) (k st : Nat) : (c.bootDone k st).devState = c.devState := by
  simp only [Chip.devState, Chip.fld, Chip.bootDone, Chip.bootStatus]
  rw [Chip.reg_setReg_other _ _ _ _ (by decide)]

/-- A write of a state command is the state command, then what always follows. -/
theorem writing_enter {s t : State} {p k : Nat} (hb : BootIdle s p) (hk : k ∈ [1, 2, 3]) (ht : s.enterCmd k = t) :
    writing (.port p) Reg.bootCmd (bootWord k []) s = t.settled := by
  obtain ⟨ho, _, hr⟩ := hb
  obtain ⟨hgo, hcmd⟩ := bootWord_enter_go k hk
  have hrange : 1 ≤ k ∧ k ≤ 3 := by simp only [List.mem_cons, List.not_mem_nil, or_false] at hk; omega
  exact writing_bootCmd ho hgo ((bootCommand_enter hr hcmd hrange.1 hrange.2).trans ht)

theorem enterCmd_refused {s : State} {k : Nat} (h : s.chip.enterCheck k = stBusy) : s.enterCmd k = s.put (s.chip.bootDone k stBusy) := by
  have hne : stBusy ≠ stOk := by decide
  simp only [State.enterCmd, h, if_pos hne, State.put]

theorem enterCmd_accepted {s : State} {k : Nat} (h : s.chip.enterCheck k = stOk) (hk : k ≠ 1) :
    s.enterCmd k = s.put ((s.chip.bootDone k stOk).enterState (if k = 2 then 4 else 5)) := by
  simp only [State.enterCmd, h, ne_eq, not_true_eq_false, hk, if_false, State.put]

theorem enterCmd_service {s : State} (h : s.chip.enterCheck 1 = stOk) : s.enterCmd 1 = (s.put (s.chip.bootDone 1 stOk)).toService := by
  simp only [State.enterCmd, h, ne_eq, not_true_eq_false, if_true, if_false, State.put]

/-- In the state that it leads to, a state command changes no state. -/
theorem enterState_same {c : Chip} {n : Nat} (h : c.devState = n) : c.enterState n = c := by
  simp only [Chip.enterState, h, if_true]

section Checks
variable {c : Chip}

theorem enterCheck_service (h : c.devState = 2 ∧ c.board.collarOk = true ∨ 3 ≤ c.devState) : c.enterCheck 1 = stOk := by
  rcases h with ⟨_, hc⟩ | h
  · simp [Chip.enterCheck, hc]
  · have h2 : c.devState ≠ 2 := by omega
    simp [Chip.enterCheck, h2]

theorem enterCheck_test (h : c.devState = 2 ∧ c.board.collarOk = true ∨ c.devState = 4) : c.enterCheck 2 = stOk := by
  rcases h with ⟨h, hc⟩ | h
  · simp [Chip.enterCheck, h, hc]
  · simp [Chip.enterCheck, h]

theorem enterCheck_test_busy (h : c.devState = 3 ∨ c.devState = 5) : c.enterCheck 2 = stBusy := by
  rcases h with h | h <;> simp [Chip.enterCheck, h]

theorem enterCheck_recovery (h : c.devState = 3 ∨ c.devState = 4) : c.enterCheck 3 = stOk := by
  rcases h with h | h <;> simp [Chip.enterCheck, h]

theorem enterCheck_recovery_busy (h : c.devState = 2) : c.enterCheck 3 = stBusy := by
  simp [Chip.enterCheck, h]

end Checks

/-- Settles O48: the check of a state command in each state, and what an accepted one does. -/
theorem deviceStateCommands : Obligations.DeviceStateCommands := by
  refine fun s p hb => ⟨fun h => ?_, fun h2 hc => ?_, fun h4 => ?_, fun h => ?_, fun h2 => ?_, fun h => ?_⟩ <;>
    have hw : fits p 2 = true := decide_eq_true hb.2.1
  · exact command_to hw (writing_enter hb (by decide) (enterCmd_service (enterCheck_service h)))
  · exact command_to hw (writing_enter hb (by decide) (enterCmd_accepted (enterCheck_test (Or.inl ⟨h2, hc⟩)) (by decide)))
  · have hsame : (s.chip.bootDone 2 stOk).enterState 4 = s.chip.bootDone 2 stOk := enterState_same
      ((s.chip.devState_bootDone 2 stOk).trans h4)
    exact command_to hw (writing_enter hb (by decide)
      ((enterCmd_accepted (enterCheck_test (Or.inr h4)) (by decide)).trans (congrArg s.put hsame)))
  · exact command_to hw (writing_enter hb (by decide) (enterCmd_refused (enterCheck_test_busy h)))
  · exact command_to hw (writing_enter hb (by decide) (enterCmd_refused (enterCheck_recovery_busy h2)))
  · exact command_to hw (writing_enter hb (by decide) (enterCmd_accepted (enterCheck_recovery h) (by decide)))

/-! Commands that read an image (R410, R413). -/

theorem Chip.devState_bootStatus (c : Chip) (busy : Bool) (k st n : Nat) : (c.bootStatus busy k st n).devState = c.devState := by
  simp only [Chip.devState, Chip.fld, Chip.bootStatus]
  rw [Chip.reg_setReg_other _ _ _ _ (by decide)]

theorem reading_devState (s : State) (k : Nat) (w : W64) : (s.reading k w).chip.devState = s.chip.devState :=
  Chip.devState_bootStatus _ _ _ _ _

section ImageCommand
variable {s : State} {p k : Nat} {w : W64} {img : ReadImage} (hb : BootIdle s p) (hgo : bitOf w 63 = true) (hcmd : fieldOf w 7 0 = k)
  (hk : k = 4 ∨ k = 5)
include hb hgo hcmd hk

/-- A command that may read its image waits for it and then has it. -/
theorem imageCommand_reads (hc : s.chip.readCheck w k = stOk) :
    imageCommand s p k w img =
      ((if k = 4 then (s.reading k w).applyRead w img else (s.reading k w).slotRead w img).svnAuto).bootCheck := by
  obtain ⟨ho, _, hr⟩ := hb
  have hrun : (s.reading k w).chip.boot.run = some { BootRun.mk0 k w with slot := fieldOf w 13 13, waits := true } := rfl
  simp only [imageCommand, hr, Option.isSome_none, Bool.false_eq_true, if_false,
    registerWrite_bootCmd ho hgo (bootCommand_reads hr hcmd hk hc), hrun, BootRun.mk0, decide_true, Bool.and_self, if_true]

theorem imageCommand_refused (hc : s.chip.readCheck w k ≠ stOk) :
    imageCommand s p k w img = s.put (s.chip.bootDone k (s.chip.readCheck w k)) := by
  obtain ⟨ho, _, hr⟩ := hb
  have hrun : (s.put (s.chip.bootDone k (s.chip.readCheck w k))).chip.boot.run = none := hr
  simp only [imageCommand, hr, Option.isSome_none, Bool.false_eq_true, if_false,
    registerWrite_bootCmd ho hgo (bootCommand_refusesRead hr hcmd hk hc), hrun]

end ImageCommand

section ApplyRead
variable {s : State} {w : W64} {rd i old : CfgImage} (hs : s.chip.devState ≠ 3) (hh : bitOf w 12 = false)
  (hi : s.nv.slots.getD (fieldOf w 13 13) none = some i) (ho : s.chip.boot.img = some old)
include hs hh hi ho

theorem applyRead_applies (hr : s.imageResult i = 1) (hf : imageFixed old i = true) :
    s.applyRead w (.image rd) = (s.applyImage old i (fieldOf w 13 13)).put ((s.applyImage old i (fieldOf w 13 13)).chip.bootEnd stOk) := by
  simp only [State.applyRead, hs, hh, hi, ho, hr, hf, ne_eq, not_true_eq_false, Bool.not_true, Bool.false_eq_true, if_false, State.put]

theorem applyRead_fixed (hr : s.imageResult i = 1) (hf : imageFixed old i = false) :
    s.applyRead w (.image rd) = s.put (s.chip.bootEnd stUnsupported) := by
  simp only [State.applyRead, hs, hh, hi, ho, hr, hf, ne_eq, not_true_eq_false, Bool.not_false, Bool.false_eq_true, if_false, if_true,
    State.put]

theorem applyRead_invalid (hr : s.imageResult i ≠ 1) :
    s.applyRead w (.image rd) = s.put ((s.chip.rejectImage (s.imageResult i)).bootEnd stImageInvalid) := by
  simp only [State.applyRead, hs, hh, hi, ho, hr, ne_eq, not_false_eq_true, Bool.false_eq_true, if_false, if_true, State.put]

end ApplyRead

section SlotRead
variable {s : State} {w : W64} {i : CfgImage} (hw : s.chip.imageInWindow w i = true)
include hw

theorem slotRead_starts (hr : s.imageResult i = 1) :
    s.slotRead w (.image i) =
      s.startUnits { BootRun.mk0 5 w with slot := fieldOf w 13 13, img := some i, units := cdiv (i.totalLen + 7856) 4096 } := by
  simp only [State.slotRead, hw, hr, ne_eq, not_true_eq_false, Bool.not_true, Bool.false_eq_true, if_false]

theorem slotRead_invalid (hr : s.imageResult i ≠ 1) :
    s.slotRead w (.image i) = s.put ((s.chip.rejectImage (s.imageResult i)).bootEnd stImageInvalid) := by
  simp only [State.slotRead, hw, hr, ne_eq, not_false_eq_true, Bool.not_true, Bool.false_eq_true, if_false, if_true, State.put]

end SlotRead

theorem readCheck_apply_service {c : Chip} {w : W64} (h3 : c.devState = 3) : c.readCheck w 4 = stBusy := by
  simp [Chip.readCheck, h3]

section ReadCheck
variable {c : Chip} {slot q w : Nat} (hs : slot < 2)
include hs

theorem readCheck_apply (h3 : c.devState ≠ 3) : c.readCheck (applyWord false slot q w) 4 = stOk := by
  obtain ⟨-, -, hh, -⟩ := applyWord_fields (q := q) (w := w) hs
  simp [Chip.readCheck, h3, hh]

theorem readCheck_slot_booted (h : c.bootedFrom = some slot) : c.readCheck (slotWord slot q w) 5 = stBusy := by
  obtain ⟨-, -, hslot⟩ := slotWord_fields (q := q) (w := w) hs
  simp [Chip.readCheck, h, hslot]

end ReadCheck

theorem exec_applyImage {s t : State} {p slot q w : Nat} {img : ReadImage} (hw : (Instr.applyImage p false slot q w img).wf = true)
    (ht : (imageCommand s p 4 (applyWord false slot q w) img).settled = t) : exec (.applyImage p false slot q w img) s = .next t :=
  command_to (f := fun s => (imageCommand s p 4 (applyWord false slot q w) img).settled) hw ht

theorem exec_writeSlot {s t : State} {p slot q w : Nat} {img : ReadImage} (hw : (Instr.writeSlot p slot q w img).wf = true)
    (ht : (imageCommand s p 5 (slotWord slot q w) img).settled = t) : exec (.writeSlot p slot q w img) s = .next t :=
  command_to (f := fun s => (imageCommand s p 5 (slotWord slot q w) img).settled) hw ht

/-- What `APPLY_IMAGE` does with a slot's image once it waits for it. -/
theorem applyImage_reads {s t : State} {p slot q w : Nat} {rd : CfgImage} (hb : BootIdle s p) (hs : slot < 2) (h3 : s.chip.devState ≠ 3)
    (ht : (s.reading 4 (applyWord false slot q w)).applyRead (applyWord false slot q w) (.image rd) = t) :
    (imageCommand s p 4 (applyWord false slot q w) (.image rd)).settled = t.afterImage := by
  obtain ⟨hgo, hcmd, -, -⟩ := applyWord_fields (q := q) (w := w) hs
  rw [imageCommand_reads hb hgo hcmd (Or.inl rfl) (readCheck_apply hs h3), if_pos rfl, ht, State.afterImage]

/-- What `WRITE_SLOT` does with an image once it waits for it. -/
theorem writeSlot_reads {s t : State} {p slot q w : Nat} {i : CfgImage} (hb : BootIdle s p) (hs : slot < 2)
    (hc : s.chip.readCheck (slotWord slot q w) 5 = stOk)
    (ht : (s.reading 5 (slotWord slot q w)).slotRead (slotWord slot q w) (.image i) = t) :
    (imageCommand s p 5 (slotWord slot q w) (.image i)).settled = t.afterImage := by
  obtain ⟨hgo, hcmd, -⟩ := slotWord_fields (q := q) (w := w) hs
  rw [imageCommand_reads hb hgo hcmd (Or.inr rfl) hc, if_neg (by decide), ht, State.afterImage]

theorem slot_lt_of_applyImage {p slot q w : Nat} {img : ReadImage} (hw : (Instr.applyImage p false slot q w img).wf = true) : slot < 2 := by
  simp [Instr.wf, fits] at hw
  omega

theorem slot_lt_of_writeSlot {p slot q w : Nat} {img : ReadImage} (hw : (Instr.writeSlot p slot q w img).wf = true) : slot < 2 := by
  simp [Instr.wf, fits] at hw
  omega

/-- Settles O49: the check before the image is read, and what is done with one that is read. -/
theorem imageCommands : Obligations.ImageCommands := by
  refine ⟨fun s p slot q w img hb hw => ⟨fun h3 => ?_, fun i old rd h3 himg hi ho => ?_⟩,
    fun s p slot q w i hb hw => ⟨fun hbt => ?_, fun hc hwin => ⟨fun hr => ?_, fun hr => ?_⟩⟩⟩
  · have hs := slot_lt_of_applyImage hw
    obtain ⟨hgo, hcmd, -, -⟩ := applyWord_fields (q := q) (w := w) hs
    have hbusy := readCheck_apply_service (w := applyWord false slot q w) h3
    exact exec_applyImage hw (congrArg State.settled ((imageCommand_refused hb hgo hcmd (Or.inl rfl) (by rw [hbusy]; decide)).trans
      (by rw [hbusy])))
  · have hs := slot_lt_of_applyImage hw
    obtain ⟨-, -, hh, hslot⟩ := applyWord_fields (q := q) (w := w) hs
    subst himg
    have h3' : (s.reading 4 (applyWord false slot q w)).chip.devState ≠ 3 := fun h => h3 ((reading_devState _ _ _).symm.trans h)
    have hi' : (s.reading 4 (applyWord false slot q w)).nv.slots.getD (fieldOf (applyWord false slot q w) 13 13) none = some i := by
      rw [hslot]; exact hi
    refine ⟨fun hr hf => ?_, fun hr hf => ?_, fun hr => ?_⟩
    · exact exec_applyImage hw (applyImage_reads hb hs h3 ((applyRead_applies h3' hh hi' ho hr hf).trans (by rw [hslot])))
    · exact exec_applyImage hw (applyImage_reads hb hs h3 (applyRead_fixed h3' hh hi' ho hr hf))
    · exact exec_applyImage hw (applyImage_reads hb hs h3 (applyRead_invalid h3' hh hi' ho hr))
  · have hs := slot_lt_of_writeSlot hw
    obtain ⟨hgo, hcmd, -⟩ := slotWord_fields (q := q) (w := w) hs
    have hbusy := readCheck_slot_booted (c := s.chip) (q := q) (w := w) hs hbt
    exact exec_writeSlot hw (congrArg State.settled ((imageCommand_refused hb hgo hcmd (Or.inr rfl) (by rw [hbusy]; decide)).trans
      (by rw [hbusy])))
  · have hs := slot_lt_of_writeSlot hw
    obtain ⟨-, -, hslot⟩ := slotWord_fields (q := q) (w := w) hs
    exact exec_writeSlot hw (writeSlot_reads hb hs hc ((slotRead_starts hwin hr).trans (by rw [hslot])))
  · exact exec_writeSlot hw (writeSlot_reads hb (slot_lt_of_writeSlot hw) hc (slotRead_invalid hwin hr))

/-! Calibration, fuses and flash units (R404, R411, R412, R415). -/

theorem calSave_first {s : State} {w : W64} {kinds : Nat} (h : s.nv.overlay = none) :
    let chosen := s.chip.boot.trained.filter (fun e => decide (1 ≤ e.1) && kinds.testBit (e.1 - 1))
    s.calSave w kinds = s.startUnits { BootRun.mk0 6 w with
      slot := 0, seq := 1, cal := chosen, units := cdiv (CalCopy.of 1 chosen).bytes.length 4096 } := by
  simp only [State.calSave, h, List.filter_nil, List.append_nil]

theorem calSave_next {s : State} {w : W64} {kinds u : Nat} {k : CalCopy} (h : s.nv.overlay = some (u, k)) :
    let chosen := s.chip.boot.trained.filter (fun e => decide (1 ≤ e.1) && kinds.testBit (e.1 - 1))
    let kept := k.entries.filter (fun e => !(decide (1 ≤ e.1) && kinds.testBit (e.1 - 1)))
    s.calSave w kinds = s.startUnits { BootRun.mk0 6 w with
      slot := 1 - u, seq := wrapSucc 32 k.seq, cal := chosen ++ kept
      units := cdiv (CalCopy.of (wrapSucc 32 k.seq) (chosen ++ kept)).bytes.length 4096 } := by
  simp only [State.calSave, h]

section SvnCommit
variable {s : State} {w : W64} {i : CfgImage} (hi : s.chip.boot.img = some i)
include hi

theorem svnCommit_nothing (h : svnUnits s.nv i = 0) : s.svnCommit w = s.put ((s.chip.bootDone 8 stOk).extendFuses s.nv) := by
  simp only [State.svnCommit, hi, h, if_true, State.put]

theorem svnCommit_starts (h : 0 < svnUnits s.nv i) :
    s.svnCommit w = s.startUnits { BootRun.mk0 8 w with img := some i, units := svnUnits s.nv i } := by
  simp only [State.svnCommit, hi, Nat.pos_iff_ne_zero.mp h, if_false]

end SvnCommit

section FlashUnit
variable {s : State} {ok : Bool} {r : BootRun} (hr : s.chip.boot.run = some r) (hwt : r.waits = false) (hc : r.cut = false)
include hr hwt hc

theorem flashUnit_next (h : 1 < r.units) :
    let c := if r.cmd = 8 then s.chip else s.chip.bump Reg.bootFlashUnits
    let t : State := { s with nv := s.nv.unitDone r ok, chip := c.setFld Reg.bootCmdStatus 31 0 (c.fld Reg.bootCmdStatus 31 0 + 1) }
    flashUnit s ok = (t.nextUnit { r with units := r.units - 1 }).svnAuto := by
  simp only [flashUnit, hr, hwt, hc, Bool.false_eq_true, if_false, Nat.not_le.mpr h]

theorem flashUnit_last (h : r.units ≤ 1) :
    let c := if r.cmd = 8 then s.chip else s.chip.bump Reg.bootFlashUnits
    let t : State := { s with nv := s.nv.unitDone r ok, chip := c.setFld Reg.bootCmdStatus 31 0 (c.fld Reg.bootCmdStatus 31 0 + 1) }
    flashUnit s ok = (t.written r ok).svnAuto := by
  simp only [flashUnit, hr, hwt, hc, Bool.false_eq_true, if_false, h, if_true]

end FlashUnit

/-- Settles O50: what each command writes, and what each completed unit lets follow. -/
theorem flashCommands : Obligations.FlashCommands := by
  refine ⟨fun s p kinds hb hk => ?_, fun s p hb => ?_, fun s p i hb hi => ?_, fun s ok r hr hwt hc => ⟨fun h => ?_, fun h => ?_⟩⟩
  · obtain ⟨ho, hp, hr⟩ := hb
    obtain ⟨hgo, hcmd, hkinds⟩ := calWord_fields hk
    have hsave := bootCommand_calSave hr hcmd
    rw [hkinds] at hsave
    have hw : (Instr.calSave p kinds).wf = true := by simpa [Instr.wf, fits] using ⟨hp, hk⟩
    exact ⟨fun h => command_to hw (writing_bootCmd ho hgo (hsave.trans (calSave_first h))),
      fun u k h => command_to hw (writing_bootCmd ho hgo (hsave.trans (calSave_next h)))⟩
  · obtain ⟨ho, hp, hr⟩ := hb
    have hw : (Instr.calRestoreFactory p).wf = true := decide_eq_true hp
    exact command_to hw (writing_bootCmd ho (by decide) (bootCommand_calRestore hr (by decide)))
  · obtain ⟨ho, hp, hr⟩ := hb
    have hw : (Instr.svnCommit p).wf = true := decide_eq_true hp
    have hcommit := bootCommand_svnCommit (w := bootWord 8 []) hr (by decide)
    exact ⟨fun h => command_to hw (writing_bootCmd ho (by decide) (hcommit.trans (svnCommit_nothing hi h))),
      fun h => command_to hw (writing_bootCmd ho (by decide) (hcommit.trans (svnCommit_starts hi h)))⟩
  · exact command_to (i := .flashUnitCompletes ok) rfl (congrArg State.settled (flashUnit_next hr hwt hc h))
  · exact command_to (i := .flashUnitCompletes ok) rfl (congrArg State.settled (flashUnit_last hr hwt hc h))

end Sys2Proof.Machine
end

section
/-!
PROOF. Documents and protection writes (R408, R409), module cold resets and the SMBus port (R394, R421, R436, R484), and from these their
obligations.
-/
namespace Sys2Proof.Machine

/-! Documents (R408). -/

theorem bootWrite_quoteCmd {s : State} {p : Nat} {w : W64} (ho : s.chip.isOwner p = true) (hgo : bitOf w 63 = true) :
    (bootWrite s (.port p) Reg.secQuoteCmd w).2 = s.put (docRequest s.chip s.nv w) := by
  have h1 : Reg.secQuoteCmd ≠ Reg.bootCmd := by decide
  have h2 : Reg.secQuoteCmd ≠ Reg.bootCmdArg := by decide
  have h3 : Reg.secQuoteCmd ≠ Reg.bootHoldup := by decide
  have h4 : Reg.secQuoteCmd ≠ Reg.secQuoteArg := by decide
  simp only [bootWrite, Chip.accOwner_port ho, Bool.not_true, Bool.false_eq_true, if_false, if_true, hgo, h1, h2, h3, h4, State.put]

/-- The owner's write of SEC_QUOTE_CMD with GO is a request for a document. -/
theorem writing_quoteCmd {s : State} {p : Nat} {v : W64} {c : Chip} (ho : OwnerPort s p)
    (hc : docRequest s.chip s.nv (putField v 63 63 1) = c) :
    writing (.port p) Reg.secQuoteCmd (putField v 63 63 1) s = (s.put c).settled :=
  writing_of (registerWrite_boot ho.1 (Or.inr regAccess_secQuoteCmd) (by decide)
    ((bootWrite_quoteCmd ho.2 (by rw [bitOf_putField_same _ _ _ (by decide)]; rfl)).trans (congrArg s.put hc)))

/-- The kind of a document is bits 17:16 of its command's word. -/
theorem docKind {v : W64} {k : Nat} (h : (v.toNat / 2 ^ 16) % 4 = k) : fieldOf (putField v 63 63 1) 17 16 = k := by
  rw [fieldOf_putField_other _ _ _ _ _ _ (by decide) (by decide) (Or.inl (by decide)), fieldOf, Nat.shiftRight_eq_div_pow]
  exact h

theorem Chip.docArg_docStatus (c : Chip) (busy : Bool) (st n : Nat) :
    (c.docStatus busy st n).fld Reg.secQuoteArg 47 0 = c.fld Reg.secQuoteArg 47 0 := by
  simp only [Chip.fld, Chip.docStatus]
  rw [Chip.reg_setReg_other _ _ _ _ (by decide)]

/-- The bytes that a document of a kind would write (R408). -/
def docLen (c : Chip) (kind : Nat) : Nat :=
  if kind = 3 then 7920 else (if kind = 2 then 928 else 384) + 17088 + 8 + 40 * c.boot.log.length

theorem docLen_quote (c : Chip) : docLen c 1 = 384 + 17088 + (8 + 40 * c.boot.log.length) := Nat.add_assoc _ 8 _

theorem docLen_report (c : Chip) : docLen c 2 = 928 + 17088 + (8 + 40 * c.boot.log.length) := Nat.add_assoc _ 8 _

/-- The chip at which a document's body is taken: a service report's comes after its snapshot. -/
def docTaken (c : Chip) (kind : Nat) (w : W64) : Chip :=
  if kind = 2 then tenHistSnap (c.docStatus true 0 0) (fieldOf w 35 24) (bitOf w 62) else c.docStatus true 0 0

section DocRequest
variable {s : State} {w : W64} {k : Nat} (hd : s.chip.boot.doc = none) (hk : fieldOf w 17 16 = k)
include hd hk

theorem docRequest_refused (hc : s.chip.docCheck w (docLen s.chip k) ≠ stOk) :
    docRequest s.chip s.nv w = s.chip.docStatus false (s.chip.docCheck w (docLen s.chip k)) 0 := by
  simp only [docLen] at hc ⊢
  simp only [docRequest, hd, Option.isSome_none, Bool.false_eq_true, if_false, hk, hc, ne_eq, not_false_eq_true, if_true]

variable (hc : s.chip.docCheck w (docLen s.chip k) = stOk)
include hc

/-- A quote or a service report takes its body and waits to be signed. -/
theorem docRequest_takesBody (h3 : k ≠ 3) :
    docRequest s.chip s.nv w =
      (let c := docTaken s.chip k w
       { c with boot := { c.boot with doc := some { docOf s w with
          body := docPrefix c s.nv k ++ (if k = 2 then docReport c (fieldOf w 35 24) else []), log := docLog c } } }) := by
  simp only [docLen, h3, if_false] at hc
  simp only [docRequest, hd, Option.isSome_none, Bool.false_eq_true, if_false, hk, h3, hc, ne_eq, not_true_eq_false, docTaken, docOf,
    Chip.docArg_docStatus]

theorem docRequest_endorsement (h3 : k = 3) :
    docRequest s.chip s.nv w =
      (s.chip.docStatus true 0 0).docSend (docOf s w) (endorsementRecord (s.chip.docStatus true 0 0) s.nv) := by
  subst h3
  simp only [docLen, if_true] at hc
  simp only [docRequest, hd, Option.isSome_none, Bool.false_eq_true, if_false, hk, hc, ne_eq, not_true_eq_false, docOf, if_true,
    Chip.docArg_docStatus]

end DocRequest

theorem documentSigned_sends {c : Chip} {nv : Nv} {d : DocRun} (hd : c.boot.doc = some d) (hs : d.signed = false) :
    documentSigned nv c = (signedChip c).docSend d
      (d.body ++
        aikSign nv d.body (leBytes (Config.freeWord c.free).toNat 8 ++ leBytes (Config.freeWord (c.free + 1)).toNat 8) ++ d.log) := by
  simp only [documentSigned, hd, hs, Bool.false_eq_true, if_false, Chip.takeFree, signedChip]

theorem exec_documentSigned {s : State} {c : Chip} (hc : documentSigned s.nv s.chip = c) : exec .documentSigned s = .next (s.put c) :=
  command_to (i := .documentSigned) (f := fun s => onChip (fun c => documentSigned s.nv c) s) rfl (congrArg s.put hc)

/-! Protection writes (R409). -/

theorem bootWrite_hostAccess {s : State} {p k : Nat} {v : W64} (ho : s.chip.isOwner p = true) (hk : k < 16) :
    (bootWrite s (.port p) (Reg.secHostAccess k) v).2 =
      s.put ((s.chip.hostAccessSet k (fieldOf v 7 0)).protected (Reg.secHostAccess k) v) := by
  have hi : (Reg.secHostAccess k - Reg.secHostAccess 0) / 8 = k := by simp [Reg.secHostAccess]
  have hne : ∀ o ∈ [Reg.bootCmd, Reg.bootCmdArg, Reg.bootHoldup, Reg.secQuoteArg, Reg.secQuoteCmd, Reg.secProtect],
      Reg.secHostAccess k ≠ o := by
    simp [Reg.secHostAccess, Reg.bootCmd, Reg.bootCmdArg, Reg.bootHoldup, Reg.secQuoteArg, Reg.secQuoteCmd, Reg.secProtect]
    omega
  have hnonce : ¬(Reg.secQuoteNonce 0 ≤ Reg.secHostAccess k ∧ Reg.secHostAccess k ≤ Reg.secQuoteNonce 3) := by
    simp only [Reg.secQuoteNonce, Reg.secHostAccess]; omega
  simp only [List.forall_mem_cons] at hne
  obtain ⟨h1, h2, h3, h4, h5, h6, -⟩ := hne
  simp only [bootWrite, Chip.accOwner_port ho, Bool.not_true, Bool.false_eq_true, if_false, h1, h2, h3, h4, h5, h6, hnonce, hi, State.put]

theorem hostAccess_wf {p k : Nat} {v : W64} (hp : p < 4) (hk : k < 16) : (Instr.protectionWrite p (Reg.secHostAccess k) v).wf = true := by
  refine Bool.and_eq_true_iff.mpr ⟨decide_eq_true hp, Bool.or_eq_true_iff.mpr (Or.inr (Bool.and_eq_true_iff.mpr
    ⟨Bool.and_eq_true_iff.mpr ⟨decide_eq_true ?_, decide_eq_true ?_⟩, beq_iff_eq.mpr ?_⟩))⟩ <;> simp only [Reg.secHostAccess] <;> omega

theorem bootWrite_protect {s : State} {p : Nat} {v : W64} (ho : s.chip.isOwner p = true) :
    (bootWrite s (.port p) Reg.secProtect v).2 =
      s.put ((s.chip.protectSet (fieldOf v 3 2) (bitOf v 1)).protected Reg.secProtect v) := by
  simp [bootWrite, Chip.accOwner_port ho, Reg.bootCmd, Reg.bootCmdArg, Reg.bootHoldup, Reg.secQuoteArg, Reg.secQuoteCmd, Reg.secProtect,
    Reg.secQuoteNonce, State.put]

/-- Settles O51: a request by its kind and its check, a signature, and the two protection registers. -/
theorem documents : Obligations.Documents := by
  refine ⟨fun s p v ho hd => ⟨fun hw => ?_, fun hw hc => ?_, fun hw hc => ?_⟩, fun s d hd hs => ?_,
    fun s p v ho hp => ⟨fun k hk => ?_, ?_⟩⟩
  · have hk : fieldOf (putField v 63 63 1) 17 16 = 1 := docKind (by simpa using (Bool.and_eq_true_iff.mp hw).2)
    rw [← docLen_quote]
    refine ⟨fun hc => command_to hw (writing_quoteCmd ho ((docRequest_takesBody hd hk hc (by decide)).trans ?_)),
      fun hc => command_to hw (writing_quoteCmd ho (docRequest_refused hd hk hc))⟩
    simp [docTaken]
  · have hk : fieldOf (putField v 63 63 1) 17 16 = 2 := docKind (by simpa using (Bool.and_eq_true_iff.mp hw).2)
    rw [← docLen_report] at hc
    exact command_to hw (writing_quoteCmd ho ((docRequest_takesBody hd hk hc (by decide)).trans (by simp only [docTaken, if_true])))
  · have hk : fieldOf (putField v 63 63 1) 17 16 = 3 := docKind (by simpa using (Bool.and_eq_true_iff.mp hw).2)
    exact command_to hw (writing_quoteCmd ho (docRequest_endorsement hd hk hc rfl))
  · exact exec_documentSigned (documentSigned_sends hd hs)
  · exact command_to (hostAccess_wf hp hk) (writing_of (registerWrite_boot ho.1 (Or.inl (regAccess_secHostAccess k hk))
      (by simp [Reg.secHostAccess]; omega)
      (bootWrite_hostAccess ho.2 hk)))
  · have hw : (Instr.protectionWrite p Reg.secProtect v).wf = true := by
      simp [Instr.wf, fits, Reg.secProtect]
      omega
    exact command_to hw (writing_of (registerWrite_boot ho.1 (Or.inl regAccess_secProtect) (by decide) (bootWrite_protect ho.2)))

/-! Module cold resets (R421, R436, R484). -/

section ResetN
variable {s : State} {ns : Nat} (hp : s.chip.powered = true) (hc : s.chip.pwr.inCold = none)
include hp hc

theorem resetN_long (h : 10000 ≤ ns) : resetN s ns = s.put (s.chip.coldReset s.nv 1) := by
  simp [resetN, hp, hc, h, State.put]

theorem resetN_short (h : ns < 1000) : resetN s ns = s := by
  have h1 : ¬10000 ≤ ns := by omega
  have h2 : ¬1000 ≤ ns := by omega
  simp [resetN, hp, hc, h1, h2]

end ResetN

theorem inputRecovered_resets {s : State} {k : Nat} (hc : s.chip.pwr.inCold = some k) (hk : k = 3 ∨ k = 10) :
    inputRecovered s = s.put (s.chip.coldReset s.nv k) := by
  simp only [inputRecovered, hc, hk, if_true, State.put]

section ModuleReset
variable {c : Chip} {p : Nat} {v : W64}

theorem moduleReset_confirmed (ho : c.isOwner p = true) (hgo : bitOf v 63 = true) (hv : fieldOf v 15 0 = 0x0C0D) :
    (pwrWrite c (.port p) Reg.pwrModuleReset v).2 = { c with pwr := { c.pwr with modReset := true } } := by
  have hne : Reg.pwrModuleReset ≠ Reg.pwrDomainCmd := by decide
  simp only [pwrWrite, hne, if_false, if_true, moduleReset, Chip.accOwner_port ho, hv, hgo, Bool.not_true, bne_self_eq_false,
    Bool.or_self, Bool.false_eq_true]

theorem moduleReset_unconfirmed (hv : fieldOf v 15 0 ≠ 0x0C0D) :
    (pwrWrite c (.port p) Reg.pwrModuleReset v).2 = c.log (refused 0x0204 Reg.pwrModuleReset) := by
  have hne : Reg.pwrModuleReset ≠ Reg.pwrDomainCmd := by decide
  simp [pwrWrite, hne, moduleReset, hv]

end ModuleReset

/-- A reset that was asked for starts once no request waits for a slot. -/
theorem settled_modReset {s : State} (hw : s.chip.work.slotWait = []) :
    (s.put { s.chip with pwr := { s.chip.pwr with modReset := true } }).settled = s.put (s.chip.coldReset s.nv 2) := by
  have hdrain : Chip.drainSlots { s.chip with pwr := { s.chip.pwr with modReset := true } } =
      { s.chip with pwr := { s.chip.pwr with modReset := true } } := by
    simp only [Chip.drainSlots, hw, List.length_nil, drainSlotsFuel]
  have hchip : (s.put { s.chip with pwr := { s.chip.pwr with modReset := true } }).chip =
      { s.chip with pwr := { s.chip.pwr with modReset := true } } := rfl
  rw [State.settled, onChip, hchip, hdrain]
  rfl

theorem writing_moduleReset {s : State} {p : Nat} {v : W64} {c : Chip} (ho : OwnerPort s p)
    (hc : (pwrWrite s.chip (.port p) Reg.pwrModuleReset v).2 = c) :
    writing (.port p) Reg.pwrModuleReset v s = (s.put c).settled :=
  writing_of (registerWrite_power ho.1 (Or.inr regAccess_pwrModuleReset) (by decide) (by decide) hc)

/-! The SMBus port (R394). -/

section Smbus
variable {s : State} (hp : s.chip.powered = true) (hh : s.chip.held = false)
include hp hh

theorem smbusSet_offset {bs : List Byte} (hl : bs.length = 4) (ha : natOfLe bs % 8 = 0) :
    smbusSet s 1 bs true = s.put { s.chip with boot := { s.chip.boot with smbOffset := natOfLe bs } } := by
  simp [smbusSet, hp, hh, hl, ha, State.put]

theorem smbusRead_answers :
    let st := s.chip.smbCheck s.chip.boot.smbOffset
    smbusRead s 2 true = s.put { s.chip with boot := { s.chip.boot with
      smbOut := leBytes st 1 ++ leBytes (if st = 0 then (s.regRead s.chip.boot.smbOffset).toNat else 0) 8 } } := by
  simp [smbusRead, hp, hh, State.put]

end Smbus

/-- Settles O53: each source of a module cold reset, and the two transfers of the SMBus port. -/
theorem coldResetsAndSmbus : Obligations.ColdResetsAndSmbus := by
  refine ⟨fun s ns hp hc hn => ⟨fun h => ?_, fun h => ?_⟩, fun s k hc hk => ?_, fun s p v ho hp hgo hv => ⟨?_, fun hn => ?_⟩,
    fun s p v ho hp hgo hv => ?_, fun s bs hp hh hl ha => ?_, fun s hp hh => ?_⟩
  · exact command_to (i := .resetNAsserted ns) (f := fun s => resetN s ns) (decide_eq_true hn) (resetN_long hp hc h)
  · exact command_to (i := .resetNAsserted ns) (f := fun s => resetN s ns) (decide_eq_true hn) (resetN_short hp hc h)
  · exact command_to (i := .inputRecovered) rfl (inputRecovered_resets hc hk)
  · exact command_to (i := .pwrModuleReset p v) (decide_eq_true hp) (writing_moduleReset ho (moduleReset_confirmed ho.2 hgo hv))
  · exact command_to (i := .pwrModuleReset p v) (decide_eq_true hp)
      ((writing_moduleReset ho (moduleReset_confirmed ho.2 hgo hv)).trans (settled_modReset hn))
  · exact command_to (i := .pwrModuleReset p v) (decide_eq_true hp) (writing_moduleReset ho (moduleReset_unconfirmed hv))
  · have hw : (Instr.smbusSetOffset 1 bs true).wf = true := by simp [Instr.wf, fits, atMost, hl]
    exact command_to (f := fun s => smbusSet s 1 bs true) hw (smbusSet_offset hp hh hl ha)
  · exact command_to (i := .smbusRead 2 true) rfl (smbusRead_answers hp hh)

end Sys2Proof.Machine
end

section
/-!
PROOF. The power domain commands (R428), the input supply, the clocks and the domains (R420, R423, R427, R434), and from these their
obligations.
-/
namespace Sys2Proof.Machine

/-! Domain commands (R428). -/

theorem domainWord_fields {k d : Nat} (cas : Bool) (hk : k < 8) (hd : d < 32) :
    bitOf (domainWord k d cas) 63 = true ∧ fieldOf (domainWord k d cas) 10 8 = k ∧ fieldOf (domainWord k d cas) 4 0 = d ∧
      bitOf (domainWord k d cas) 62 = cas := by
  have hc : (bitN cas).testBit 0 = cas := by cases cas <;> rfl
  simp [domainWord, wordOf, bitOf_putField_same, bitOf_putField_other, fieldOf_putField_same, fieldOf_putField_other,
    Nat.mod_eq_of_lt hk, Nat.mod_eq_of_lt hd, hc]

theorem pwrCommand_owner {c : Chip} {p k d : Nat} {cas : Bool} (ho : c.isOwner p = true) :
    pwrCommand c (.port p) k d cas = domainCommanded c k d cas := by
  cases hx : c.cmdCheck k d cas <;>
    simp only [pwrCommand, domainCommanded, Chip.accOwner_port ho, Bool.not_true, Bool.false_eq_true, if_false, hx]

theorem pwrWrite_domainCmd {c : Chip} {p k d : Nat} {cas : Bool} (ho : c.isOwner p = true) (hk : k < 8) (hd : d < 32) :
    (pwrWrite c (.port p) Reg.pwrDomainCmd (domainWord k d cas)).2 = domainCommanded c k d cas := by
  obtain ⟨hgo, hcmd, hdom, hcas⟩ := domainWord_fields cas hk hd
  simp only [pwrWrite, if_true, hgo, hcmd, hdom, hcas, Bool.not_true, Bool.and_false, Bool.false_eq_true, if_false, pwrCommand_owner ho]

/-- The owner's write of a domain command. -/
theorem writing_domainCmd {s : State} {p k d : Nat} {cas : Bool} (ho : OwnerPort s p) (hk : k < 8) (hd : d < 32) :
    writing (.port p) Reg.pwrDomainCmd (domainWord k d cas) s = (s.put (domainCommanded s.chip k d cas)).settled :=
  writing_of (registerWrite_power ho.1 (Or.inr regAccess_pwrDomainCmd) (by decide) (by decide) (pwrWrite_domainCmd ho.2 hk hd))

/-- A POWER_UP of a domain that is OFF and whose dependency is not UP ends at once. -/
theorem cmdCheck_powerUp_notReady {c : Chip} {d a : Nat} {cas : Bool} (ha : depOf d = some a) (hu : c.domUp a = false)
    (h0 : c.domState d = 0) (hd : d < 20) (hne : d ≠ 0) (hr : c.roleDown d = false) (hn : (dependents d).any c.domUp = false) :
    c.cmdCheck 2 d cas = some stNotReady := by
  have hform : ¬(2 = 0 ∨ 4 < 2 ∨ 19 < d) := by omega
  have h1 : (2 : Nat) ≠ 1 := by decide
  have h3 : (0 : Nat) ≠ 3 := by decide
  have h4 : (0 : Nat) ≠ 4 := by decide
  simp only [Chip.cmdCheck, ha, hu, h0, hform, hne, hr, hn, h1, h3, h4, Bool.and_false, Bool.false_eq_true, and_false, false_and,
    or_self, if_false, Bool.not_false, and_self, if_true]

theorem domainCommanded_ends {c : Chip} {k d st : Nat} {cas : Bool} (hc : c.pwr.cmd = none) (hk : k ≠ 1)
    (hs : c.cmdCheck k d cas = some st) : domainCommanded c k d cas = c.cmdStatus false k d st := by
  simp only [domainCommanded, hc, Option.isSome_none, Bool.false_eq_true, if_false, hs, hk, false_and]

/-- Settles O54: each command is the write of PWR_DOMAIN_CMD with its number. -/
theorem powerCommands : Obligations.PowerCommands := by
  intro s p d cas ho hp hd
  have hw : (fits p 2 && fits d 5) = true := Bool.and_eq_true_iff.mpr ⟨decide_eq_true hp, decide_eq_true hd⟩
  refine ⟨command_to hw (writing_domainCmd ho (by decide) hd), command_to hw (writing_domainCmd ho (by decide) hd),
    command_to hw (writing_domainCmd ho (by decide) hd), command_to hw (writing_domainCmd ho (by decide) hd),
    fun hc a ha hu h0 h20 hne hr hn => ?_⟩
  have hends := domainCommanded_ends hc (by decide) (cmdCheck_powerUp_notReady (cas := cas) ha hu h0 h20 hne hr hn)
  exact command_to hw ((writing_domainCmd ho (by decide) hd).trans (by rw [hends]))

/-! The input and the clocks (R420, R423). -/

theorem vInSample_underrun {c : Chip} {mv us : Nat} (hh : c.held = false) (hs : c.fld Reg.idBootStatus 60 56 ≠ 0) (hv : mv < 36000)
    (ho : c.pwr.vMv < 36000) (h5 : 5 ≤ c.pwr.underRun + us) :
    vInSample c mv us = ({ c with pwr := { c.pwr with
      vMv := mv, underRun := c.pwr.underRun + us, lowRun := 0, normRun := 0, highRun := 0, overRun := 0 } }).inputFault 3 := by
  have hk : vClass mv = 0 := if_pos hv
  have hk' : vClass c.pwr.vMv = 0 := if_pos ho
  have hrun : (c.held || c.fld Reg.idBootStatus 60 56 == 0) = false := by simp [hh, hs]
  simp only [Chip.held, Chip.fld, Chip.reg] at hrun
  simp [vInSample, hk, hk', Chip.held, Chip.fld, Chip.reg, hrun, h5]

theorem referenceLoss_lockLost {c : Chip} (hh : c.held = false) (hr : c.pwr.rootLocked = true) :
    referenceLoss c 0 true = (((({ c.shed with pwr := { c.shed.pwr with clockHold := true, rootLocked := false } }).setFld
      Reg.clkStatus 63 63 0).wrapInc Reg.clkStatus 47 32).log { code := 0x0209 }) := by
  simp [referenceLoss, hh, hr]

/-! Domains (R427, R434). -/

section Ramp
variable {c : Chip} {d : Nat} {f : List StationRef} {ch : List ChannelInfo} (hh : c.held = false) (h1 : c.domState d = 1)
include hh h1

theorem domainRamp_fails : domainRamp c d false f ch = c.rampFails d := by
  simp [domainRamp, hh, h1]

theorem domainRamp_up (hd : d < 16) (h5 : d ≠ 5) : domainRamp c d true f ch = (c.domainUp d f ch).rise.checkCmd d := by
  simp [domainRamp, hh, h1, Nat.not_le.mpr hd, h5]

end Ramp

theorem railFault_takesDown {c : Chip} {d : Nat} (hd : 1 < d) (hh : c.held = false) (hs : c.domState d = 1 ∨ c.domState d = 2) :
    railFault c d = ((((c.overtake d).countRail d).log { code := 0x0203, domain := some d }).takeDown d 4 false .stay).checkPairs := by
  have h0 : d ≠ 0 := by omega
  have h1 : d ≠ 1 := by omega
  have hrun : ¬(c.domState d ≠ 1 ∧ c.domState d ≠ 2) := by omega
  simp only [railFault, hh, Bool.false_eq_true, if_false, h0, h1, hrun]

/-- Ending the running command leaves what brings a domain back up. -/
theorem Chip.endCmd_ret (c : Chip) (st d : Nat) : (c.endCmd st).ret d = c.ret d := by
  unfold Chip.endCmd
  cases c.pwr.cmd <;> rfl

theorem Chip.checkCmd_ret (c : Chip) (d e : Nat) : (c.checkCmd d).ret e = c.ret e := by
  unfold Chip.checkCmd
  split
  · dsimp only
    split_ifs <;> simp only [Chip.endCmd_ret]
  · rfl

section DownEnds
variable {s : State} {d : Nat} (h1 : d ≠ 1) (hd : d < 16) (hh : s.chip.held = false) (h3 : s.chip.domState d = 3)
include h1 hd hh h3

theorem downSequenceEnds_off (hf : s.chip.railFaults d < 3) (hr : s.chip.ret d = .stay) :
    downSequenceEnds s d = s.put ((s.chip.setDom d 0).checkCmd d) := by
  have hret : ((s.chip.setDom d 0).checkCmd d).ret d = .stay := (Chip.checkCmd_ret _ _ _).trans hr
  simp only [downSequenceEnds, hh, Bool.false_eq_true, if_false, h1, Chip.downEnds, h3, ne_eq, not_true_eq_false, Nat.not_le.mpr hf, hret,
    Nat.not_le.mpr hd, State.put]

theorem downSequenceEnds_lockedOff (hf : 3 ≤ s.chip.railFaults d) :
    downSequenceEnds s d = s.put (((s.chip.setDom d 4).setRet d .stay).checkCmd d) := by
  simp only [downSequenceEnds, hh, Bool.false_eq_true, if_false, h1, Chip.downEnds, h3, ne_eq, not_true_eq_false, hf, if_true,
    Nat.not_le.mpr hd, State.put]

end DownEnds

theorem hubWatchdog_restarts {c : Chip} (h : c.domUp 1 = true) : hubWatchdog c = c.hubRestart 8 := if_pos h

/-- Settles O55: each event of the supply, the clock and the domains in the state that its clause names. -/
theorem supplyAndDomains : Obligations.SupplyAndDomains := by
  refine ⟨fun s mv us hw hh hs hv ho h5 => ?_, fun s ns hw hh hr hn => ?_, fun s d ok f ch hw hh h1 => ⟨fun hok => ?_, fun hok hd h5 => ?_⟩,
    fun s d hw hd hh hs => ?_, fun s d hw h1 hd hh h3 => ⟨fun hf hr => ?_, fun hf => ?_⟩, fun s h => ?_⟩
  · exact command_to hw (freeing_put_eq (vInSample_underrun hh hs hv ho h5))
  · subst hn
    exact command_to hw (freeing_put_eq (referenceLoss_lockLost hh hr))
  · subst hok
    exact command_to hw (freeing_put_eq (domainRamp_fails hh h1))
  · subst hok
    exact command_to hw (freeing_put_eq (domainRamp_up hh h1 hd h5))
  · exact command_to hw (freeing_put_eq (railFault_takesDown hd hh hs))
  · exact command_to (f := fun s => (downSequenceEnds s d).settled) hw (congrArg State.settled (downSequenceEnds_off h1 hd hh h3 hf hr))
  · exact command_to (f := fun s => (downSequenceEnds s d).settled) hw (congrArg State.settled (downSequenceEnds_lockedOff h1 hd hh h3 hf))
  · exact command_to (i := .hubWatchdog) rfl (freeing_put_eq (f := fun c => hubWatchdog c) (hubWatchdog_restarts h))

end Sys2Proof.Machine
end

section
/-!
PROOF. Power and thermal samples, the patrol scrub, the board memory's temperatures and training (R437 to R440, R495 to R497), and from
these their obligation.
-/
namespace Sys2Proof.Machine

/-! Power samples (R437 to R439). -/

/-- Counting the gated cycles touches two counters of the power block and the recorder (R442). -/
theorem Chip.countGated_touches (c : Chip) : Touches (fun o => (o = Reg.pwrCnt 2 ∨ o = Reg.pwrCnt 3) ∨ recorderReg o) c c.countGated := by
  unfold Chip.countGated
  exact ((Chip.bumpBy_touches _ _ _).mono fun o ho => ho.imp_left Or.inl).trans
    ((Chip.bumpBy_touches _ _ _).mono fun o ho => ho.imp_left Or.inr)

theorem Chip.countGated_pwr (c : Chip) : c.countGated.pwr = c.pwr := by
  obtain ⟨-, -, -, -, hpwr, -⟩ := c.countGated_touches.rest
  exact hpwr

theorem Chip.countGated_limitCtrl (c : Chip) : c.countGated.reg Reg.pwrLimitCtrl = c.reg Reg.pwrLimitCtrl := by
  obtain ⟨e, r, -, hreg, -⟩ := c.countGated_touches
  exact hreg _ (by simp [recorderReg, Reg.pwrCnt, Reg.pwrLimitCtrl])

theorem Chip.showLevels_pwr (c : Chip) : c.showLevels.pwr = c.pwr := rfl

section Sample
variable {c : Chip} {mv ma : Nat} (hh : c.held = false) (hu : c.domUp 1 = true)
include hh hu

theorem powerSample_samples : (powerSample c mv ma).pwr.samples = (mv * ma / 1000000 :: c.pwr.samples).take 100 := by
  simp only [powerSample, hh, hu, Bool.not_true, Bool.or_self, Bool.false_eq_true, if_false, apply_ite Chip.pwr, Chip.log_pwr,
    Chip.bump_pwr, ite_self, Chip.showLevels_pwr, Chip.setReg_pwr, Chip.countGated_pwr]

/-- A sample above the limit does not advance the count of those below it. -/
theorem powerSample_below (hc : c.fld Reg.pwrLimitCtrl 59 48 < mv * ma / 1000000) : (powerSample c mv ma).pwr.below = c.pwr.below := by
  simp only [Chip.fld] at hc
  simp only [powerSample, hh, hu, Bool.not_true, Bool.or_self, Bool.false_eq_true, if_false, apply_ite Chip.pwr, Chip.log_pwr,
    Chip.bump_pwr, ite_self, Chip.showLevels_pwr, Chip.setReg_pwr, Chip.countGated_pwr, Chip.countGated_limitCtrl, excessNext, hc, if_true]

/-- A sample above the peak limit raises the levels four times. -/
theorem powerSample_levels (hp : min (c.fld Reg.pwrLimitCtrl 47 36) (75 * mv / 1000) < mv * ma / 1000000)
    (hd : c.bit Reg.pwrLimitCtrl 23 = false) :
    let up := fun (l : Nat × Nat) => raiseOne (c.fld Reg.pwrLimitCtrl 27 24) l.1 l.2
    ((powerSample c mv ma).pwr.pLevel, (powerSample c mv ma).pwr.dLevel) = up (up (up (up (c.pwr.pLevel, c.pwr.dLevel)))) := by
  simp only [Chip.fld, Chip.bit] at hp hd
  simp only [powerSample, hh, hu, Bool.not_true, Bool.or_self, Bool.false_eq_true, if_false, apply_ite Chip.pwr, Chip.log_pwr,
    Chip.bump_pwr, ite_self, Chip.showLevels_pwr, Chip.setReg_pwr, Chip.countGated_pwr, Chip.countGated_limitCtrl, hp, hd, if_true,
      Chip.fld]

end Sample

/-! Thermal samples and levels (R440). -/

section Thermal
variable {c : Chip} (hh : c.held = false) (hu : c.domUp 1 = true)
include hh hu

theorem thermalSample_senses (nv : Nv) (temps : List Int) :
    thermalSample c nv temps =
      (temps.zipIdx.foldl (fun c x => if c.held || !c.domUp 1 then c else c.sense x.2 x.1) (c.refreshRates temps)).checkPairs := by
  have hcold : c.pwr.inCold ≠ some 5 := by
    intro h
    simp [Chip.held, h] at hh
  simp only [thermalSample, hcold, if_false, hh, hu, Bool.not_true, Bool.or_self, Bool.false_eq_true]

section Rise
variable {k : Nat} (ht : (8 * c.throttleAt k : Int) < c.temp k)
include ht

theorem thermalRise_seen (hs : c.pwr.thermSeen.getD k false = true) :
    thermalRise c k = ({ c with pwr := { c.pwr with thermSeen := c.pwr.thermSeen.set k true } }).setTherm k
      (min 15 (c.pwr.therm.getD k 0 + 1)) := by
  simp only [thermalRise, hh, hu, ht, hs, decide_true, Bool.not_true, Bool.or_self, Bool.false_eq_true, if_false, if_true]

theorem thermalRise_starts (hs : c.pwr.thermSeen.getD k false = false) :
    thermalRise c k = (({ c with pwr := { c.pwr with thermSeen := c.pwr.thermSeen.set k true } }).setTherm k
      (min 15 (c.pwr.therm.getD k 0 + 1))).log { code := 0x020C, refKind := 3, ref := k } := by
  simp only [thermalRise, hh, hu, ht, hs, decide_true, Bool.not_true, Bool.or_self, Bool.false_eq_true, if_false]

end Rise

/-- A level above 1 falls by one. -/
theorem thermalFall_falls {k n : Nat} (hl : c.pwr.therm.getD k 0 = n + 2)
    (ht : c.temp k ≤ (8 * (c.throttleAt k - c.fld Reg.pwrThermalCtrl 39 32) : Nat)) : thermalFall c k = c.setTherm k (n + 1) := by
  have hz : (n + 2 == 0) = false := rfl
  have h1 : n + 2 ≠ 1 := by omega
  have hn : n + 2 - 1 = n + 1 := rfl
  simp only [thermalFall, hl, hh, hu, ht, hz, h1, hn, decide_true, Bool.not_true, Bool.or_self, Bool.false_eq_true, if_false]

end Thermal

/-! Board memory (R495 to R497). -/

section Scrub
variable {c : Chip} {a : Nat} (hu : c.domUp 5 = true) (ha : a < c.board.t2Mib * 2 ^ 20)
include hu ha

theorem patrolScrub_marks {cor : Bool} (hm : c.board.marked.contains (a / 64 * 64) = false) :
    patrolScrub c a cor true =
      (let d := c.bump Reg.bmEccUncorrectable
       { d with board := { d.board with marked := c.board.marked ++ [a / 64 * 64] } }) := by
  simp only [patrolScrub, hu, Nat.not_le.mpr ha, decide_false, Bool.not_true, Bool.or_self, Bool.false_eq_true, if_false, if_true,
    Chip.bump_board, hm]

theorem patrolScrub_corrected : patrolScrub c a true false = c.bump Reg.bmEccCorrected := by
  simp only [patrolScrub, hu, Nat.not_le.mpr ha, decide_false, Bool.not_true, Bool.or_self, Bool.false_eq_true, if_false, if_true]

theorem patrolScrub_clean : patrolScrub c a false false = c := by
  simp only [patrolScrub, hu, Nat.not_le.mpr ha, decide_false, Bool.not_true, Bool.or_self, Bool.false_eq_true, if_false]

end Scrub

/-- A measure with a reading above its threshold is on. -/
theorem hystNext_above {on : Bool} {thr : Int} {ts : List Int} (h : ts.any (fun t => decide (thr < t)) = true) : hystNext on thr ts =
    true :=
  if_pos h

theorem dimmThermal_slows {c : Chip} {ts : List Int} (hu : c.domUp 5 = true) (hs : c.channelState 0 = 2)
    (hh : c.board.dimmHot.contains 0 = false) (hl : c.board.dimmSlow.contains 0 = false) (ht : ts.any (fun t => decide (95 < t)) = true) :
    dimmThermal c [ts] =
      (({ c with board := { c.board with dimmHot := c.board.dimmHot ++ [0], dimmSlow := c.board.dimmSlow ++ [0] } }).log
        { code := 0x020C, domain := some 5, refKind := 3, ref := 0 }) := by
  have ht' : ts.any (fun t => decide (85 < t)) = true := by
    simp only [List.any_eq_true, decide_eq_true_eq] at ht ⊢
    obtain ⟨t, hm, h⟩ := ht
    exact ⟨t, hm, by omega⟩
  simp only [dimmThermal, hu, Bool.not_true, Bool.false_eq_true, if_false, List.zipIdx_cons, List.zipIdx_nil, List.foldl_cons,
    List.foldl_nil,
    hs, ne_eq, not_true_eq_false, hystNext_above ht, hystNext_above ht', hh, hl, if_true, Bool.not_false, Bool.and_self]

theorem channelTimeout_excludes {c : Chip} {n : Nat} (h : c.channelState n = 1) :
    channelTimeout c n = (c.setFld (Reg.bmChannelStatus n) 63 61 3).log { code := 0x1201, refKind := 3, ref := n, param1 := 1 } :=
  if_pos h

/-- Settles O56: each sample, level and scrub in the state that its clause names. -/
theorem powerThermalAndBoardMemory : Obligations.PowerThermalAndBoardMemory := by
  refine ⟨fun s mv ma hw hh hu => ⟨powerSample s.chip mv ma, command_to hw (freeing_put_eq rfl), powerSample_samples hh hu,
      powerSample_below hh hu, powerSample_levels hh hu⟩, fun s temps hw hh hu => ?_,
    fun s k hw hh hu ht => ⟨fun hs => ?_, fun hs => ?_⟩, fun s k n hw hh hu hl ht => ?_,
    fun s a cor ha hu hlt => ⟨fun hm => ?_, ?_, ?_⟩, fun s ts hu hs hh hl ht hw => ?_, fun s n hn h => ?_⟩
  · exact command_to (f := fun s => freeing (fun c => thermalSample c s.nv temps) s) hw (freeing_put_eq
      (thermalSample_senses hh hu s.nv temps))
  · exact command_to hw (onChip_put_eq (thermalRise_seen hh hu ht hs))
  · exact command_to hw (onChip_put_eq (thermalRise_starts hh hu ht hs))
  · exact command_to hw (onChip_put_eq (thermalFall_falls hh hu hl ht))
  · exact command_to (i := .patrolScrub a cor true) (decide_eq_true ha) (onChip_put_eq (patrolScrub_marks hu hlt hm))
  · exact command_to (i := .patrolScrub a true false) (decide_eq_true ha) (onChip_put_eq (patrolScrub_corrected hu hlt))
  · exact command_onChip_same (i := .patrolScrub a false false) (decide_eq_true ha) (patrolScrub_clean hu hlt)
  · exact command_to hw (onChip_put_eq (dimmThermal_slows hu hs hh hl ht))
  · exact command_to (i := .channelTrainingTimeout n) (decide_eq_true hn) (onChip_put_eq (channelTimeout_excludes h))

end Sys2Proof.Machine
end

section
/-!
PROOF. The reader, the rates, the mirror, the counters and the register writes (R449 to R455, R460), the saturation of a counter (R453), and
from these their obligations.
-/
namespace Sys2Proof.Machine

/-! The events block (R449, R450, R452, R455). -/

section Reader
variable {c : Chip} {v : W64}

theorem evtSelect_found {r : EvRec} (h : firstAtOrAfter c.evt.stored (fieldOf v 47 0) = some r) :
    evtSelect c v =
      (c.setReg Reg.evtReadSel (wordOf [(63, 63, 1), (47, 0, r.seq)])).setWords (Reg.evtReadData 0) (evWords r) := by
  simp only [evtSelect, h]

theorem evtSelect_past (h : firstAtOrAfter c.evt.stored (fieldOf v 47 0) = none) :
    evtSelect c v = (c.setReg Reg.evtReadSel (wordOf [(47, 0, fieldOf v 47 0)])).setWords (Reg.evtReadData 0)
      [0#64, 0#64, 0#64, 0#64] := by
  simp only [evtSelect, h]

theorem evtSetRate_defined (h : codeDefined (c.fld Reg.evtRateSel 15 0) = true) :
    evtSetRate c v =
      ({ c with evt := { c.evt with rates := assocPut c.evt.rates (c.fld Reg.evtRateSel 15 0) (max 1 (fieldOf v 15 0)) } }).setReg
        Reg.evtRate (wordOf [(63, 63, bitN (fieldOf v 15 0 == 0))]) := by
  simp only [evtSetRate, h, if_true]

theorem cntClearAll_go (h : bitOf v 63 = true) :
    cntClearAll c v =
      { c with regs := c.regs.filter (fun e => !(isCounter e.1 && (fieldOf v 7 0 == 0xFF || blockOf e.1 == fieldOf v 7 0))) } := by
  simp only [cntClearAll, h, if_true]

end Reader

section EvtWrites
variable {c : Chip} {nv : Nv} {p : Nat} {v : W64} (ho : c.isOwner p = true)
include ho

theorem evtWrite_readSel : (evtWrite c nv (.port p) Reg.evtReadSel v).2 = evtSelect c v := by
  simp [evtWrite, guardW, Chip.accOwner_port ho, Reg.evtReadSel, Reg.evtRateSel, Reg.evtRate]

theorem evtWrite_rate : (evtWrite c nv (.port p) Reg.evtRate v).2 = evtSetRate c v := by
  simp [evtWrite, guardW, Chip.accOwner_port ho, Reg.evtRateSel, Reg.evtRate]

theorem evtWrite_mirrorSel : (evtWrite c nv (.port p) Reg.evtMirrorSel v).2 = evtMirrorSelect nv c v := by
  simp [evtWrite, guardW, Chip.accOwner_port ho, Reg.evtReadSel, Reg.evtRateSel, Reg.evtRate, Reg.evtMirrorSel]

theorem evtWrite_cntClear : (evtWrite c nv (.port p) Reg.cntClear v).2 = cntClearAll c v := by
  simp [evtWrite, guardW, Chip.accOwner_port ho, Reg.evtReadSel, Reg.evtRateSel, Reg.evtRate, Reg.evtMirrorSel, Reg.cntClear]

end EvtWrites

/-! The mirror (R451). -/

/-- A hold-up check that passes touches one status register. -/
theorem holdup_passes_evt {c : Chip} {us k : Nat} (h : (holdup c us k).1 = true) : (holdup c us k).2.evt = c.evt := by
  simp only [holdup] at h ⊢
  split at h
  · next hr => simp only [if_pos hr, Chip.setReg_evt]
  · cases h

/-- In a sector that is not full the mirror goes on where it is. -/
theorem mirAdvance_within {e : Evt} (h : e.sectorFull = false) : mirAdvance e = e := by
  simp only [mirAdvance, h, Bool.false_and, Bool.false_eq_true, if_false]

theorem mirWrite_record {s : State} {r : EvRec} {q : List EvRec} (hl : s.chip.evt.mirLive = true) (hq : s.chip.evt.queue = r :: q)
    (hd : s.chip.evt.mirHdr = false) (hf : s.chip.evt.sectorFull = false) (hh : (holdup s.chip s.nv.flash.pageUs 0).1 = true) :
    mirWrite s =
      (let c := (holdup s.chip s.nv.flash.pageUs 0).2
       { s with
         chip := (({ c with evt := { c.evt with queue := q, fullSeen := false, mirPos := s.chip.evt.mirPos + 1 } }).bump
           Reg.evtMirrorWritten).bump Reg.bootFlashUnits,
         nv := { s.nv with mirror := assocPut s.nv.mirror s.chip.evt.mirPos (evWords r) } }) := by
  have hqueue : (holdup s.chip s.nv.flash.pageUs 0).2.evt.queue = r :: q := by rw [holdup_passes_evt hh, hq]
  simp only [mirWrite, mirAdvance_within hf, hl, hq, hf, hd, hh, hqueue, List.isEmpty_cons, Bool.not_true, Bool.or_self, Bool.false_eq_true,
    if_false, if_true]

theorem mirEraseNext_erases {s : State} (hl : s.chip.evt.mirLive = true) (hn : s.chip.evt.mirNext = false)
    (hf : s.chip.evt.sectorFull = false) (hh : (holdup s.chip s.nv.flash.eraseUs 0).1 = true) :
    mirEraseNext s =
      (let c := (holdup s.chip s.nv.flash.eraseUs 0).2
       { s with
         chip := ({ c with evt := { c.evt with mirNext := true } }).bump Reg.bootFlashUnits,
         nv := mirErase s.nv ((s.chip.evt.mirPos / 128 + 1) % 16) }) := by
  simp only [mirEraseNext, hl, hn, hf, hh, Bool.not_true, Bool.or_self, Bool.false_eq_true, if_false, if_true]

/-! Half reads and whole writes (R454, R460). -/

theorem rlLowRead_latches {s : State} {p off : Nat} (hw : s.chip.inWindow p off = true) (ha : off % 8 = 0) (hr : readLatched off = true) :
    rlLowRead s p off = s.put (s.chip.setLatch p { off := off, write := false, value := (s.regRead off).toNat / 2 ^ 32 }) := by
  have h4 : off % 8 ≠ 4 := by omega
  have hbase : off - off % 8 = off := by omega
  simp only [rlLowRead, hw, if_true, State.regReadHalf, h4, if_false, hbase, hr, State.put]

/-- A register that is neither RW, W1C nor WO takes no write. -/
theorem regWrite_readOnly {s : State} {a : Accessor} {off : Nat} {v : W64} (h1 : regAccess off ≠ some .rw) (h2 : regAccess off ≠ some .w1c)
    (h3 : regAccess off ≠ some .wo) : (s.regWrite a off v).2 = s := by
  unfold State.regWrite
  dsimp only
  split
  · next h => exact absurd h h1
  · next h => exact absurd h h2
  · next h => exact absurd h h3
  · rfl

theorem exec_registerWrite {s t : State} {a : Accessor} {off : Nat} {v : W64} (hw : (Instr.registerWrite a off v false).wf = true)
    (ht : registerWrite s a off v false = t) : exec (.registerWrite a off v false) s = .next t.settled :=
  command_to (f := fun s => (registerWrite s a off v false).settled) hw (congrArg State.settled ht)

/-- Settles O57: each register of the reader by what it selects, the mirror's two units, and the writes by a register's access. -/
theorem eventsCountersAndRegisters : Obligations.EventsCountersAndRegisters := by
  refine ⟨fun s p v ho hp => ?_, fun s r q hl hq hd hf hh => ?_, fun s hl hn hf hh => ?_, fun s p off hw hi ha hr => ?_,
    fun s a off v hw => ⟨fun ho => ?_, fun ho h1 h2 h3 => ?_, fun hc => ?_⟩⟩
  · obtain ⟨hopen, hown⟩ := ho
    have hw : fits p 2 = true := decide_eq_true hp
    have hwrite : ∀ {off : Nat} {c : Chip}, regAccess off = some .rw ∨ regAccess off = some .wo → 0x300000 ≤ off → off < 0x400000 →
        (evtWrite s.chip s.nv (.port p) off v).2 = c → registerWrite s (.port p) off v false = s.put c :=
      fun ha l h hc => registerWrite_events hopen ha l h hc
    refine ⟨fun r h => ?_, fun h => ?_, fun h => ?_, ?_, fun h => ?_⟩ <;> unfold exec
    · exact command_to hw (hwrite (Or.inl regAccess_evtReadSel) (by decide) (by decide) ((evtWrite_readSel hown).trans (evtSelect_found h)))
    · exact command_to hw (hwrite (Or.inl regAccess_evtReadSel) (by decide) (by decide) ((evtWrite_readSel hown).trans (evtSelect_past h)))
    · exact command_to hw (hwrite (Or.inl regAccess_evtRate) (by decide) (by decide) ((evtWrite_rate hown).trans (evtSetRate_defined h)))
    · exact command_to hw (hwrite (Or.inl regAccess_evtMirrorSel) (by decide) (by decide) (evtWrite_mirrorSel hown))
    · exact command_to hw (hwrite (Or.inr regAccess_cntClear) (by decide) (by decide) ((evtWrite_cntClear hown).trans (cntClearAll_go h)))
  · exact command_to (i := .mirrorRecordWrite) (f := fun s => mirWrite s) rfl (mirWrite_record hl hq hd hf hh)
  · exact command_to (i := .mirrorSectorErase) (f := fun s => mirEraseNext s) rfl (mirEraseNext_erases hl hn hf hh)
  · exact command_to (f := fun s => rlLowRead s p off) hw (rlLowRead_latches hi ha hr)
  · exact exec_registerWrite hw (registerWrite_open s a off v ho)
  · exact exec_registerWrite hw ((registerWrite_open s a off v ho).trans (regWrite_readOnly h1 h2 h3))
  · exact exec_registerWrite hw (registerWrite_closed s a off v false hc)

/-! A counter's word (R453): a value of 63 bits and `SAT`. -/

/-- The word of a value and `SAT`. -/
def cntWord (v : Nat) (sat : Bool) : W64 := BitVec.ofNat 64 (v + if sat then 2 ^ 63 else 0)

section CntWord
variable {v : Nat} {sat : Bool} (hv : v < 2 ^ 63)
include hv

theorem cntWord_toNat : (cntWord v sat).toNat = v + if sat then 2 ^ 63 else 0 := by
  rw [cntWord, BitVec.toNat_ofNat]
  cases sat <;> simp <;> omega

theorem fieldOf_cntWord : fieldOf (cntWord v sat) 62 0 = v := by
  rw [fieldOf, cntWord_toNat hv, Nat.shiftRight_zero]
  cases sat <;> simp <;> omega

theorem bitOf_cntWord : bitOf (cntWord v sat) 63 = sat := by
  rw [bitOf, cntWord_toNat hv, Nat.testBit_eq_decide_div_mod_eq]
  cases sat <;> simp <;> omega

end CntWord

/-- Every word is the word of its value and its `SAT`. -/
theorem cntWord_of_fields (w : W64) : cntWord (fieldOf w 62 0) (bitOf w 63) = w := by
  have hlt : w.toNat < 2 ^ 64 := w.isLt
  have hv : fieldOf w 62 0 = w.toNat % 2 ^ 63 := rfl
  have hs : bitOf w 63 = decide (w.toNat / 2 ^ 63 % 2 = 1) := Nat.testBit_eq_decide_div_mod_eq
  apply BitVec.eq_of_toNat_eq
  rw [cntWord_toNat (by rw [hv]; exact Nat.mod_lt _ (by decide)), hv, hs]
  simp only [decide_eq_true_eq]
  split <;> omega

section CntAdd
variable {w : W64} {n : Nat}

theorem cntAdd_within (h : fieldOf w 62 0 + n ≤ cntMax) : cntAdd w n = (cntWord (fieldOf w 62 0 + n) (bitOf w 63), false) := by
  simp only [cntAdd, Nat.not_lt.mpr h, if_false, cntWord]

theorem cntAdd_past (h : cntMax < fieldOf w 62 0 + n) : cntAdd w n = (cntWord cntMax true, !bitOf w 63) := by
  simp only [cntAdd, h, if_true, cntWord, Nat.add_comm cntMax]

end CntAdd

/-- Settles O59: a sum within the range, one past it, and one on a counter that is saturated. -/
theorem counterSaturates : Obligations.CounterSaturates := by
  intro w n
  have hmax : cntMax < 2 ^ 63 := by decide
  refine ⟨fun h => ?_, fun h => ?_, fun m hv hs hm => ?_⟩
  · have hlt : fieldOf w 62 0 + n < 2 ^ 63 := Nat.lt_of_le_of_lt h hmax
    rw [cntAdd_within h]
    exact ⟨fieldOf_cntWord hlt, bitOf_cntWord hlt, rfl⟩
  · rw [cntAdd_past h]
    exact ⟨fieldOf_cntWord hmax, bitOf_cntWord hmax, by simp⟩
  · have hword : cntWord cntMax true = w := by
      rw [← cntWord_of_fields w, hv, hs]; rfl
    rw [cntAdd_past (by rw [hv]; exact Nat.lt_add_of_pos_right hm), hword, hs]; rfl

end Sys2Proof.Machine
end
